-- ==== Sys2Proof/Word.lean ====
section
/-! DEFINITION. The word types, the device's numbered places, and the sparse table type that every memory and register file is kept in. -/

namespace Sys2Proof

abbrev Byte := BitVec 8
abbrev W16 := BitVec 16
abbrev W32 := BitVec 32
abbrev W64 := BitVec 64
/-- A short vector register: 8 lanes of 32 bits, lane 0 lowest (R105). -/
abbrev V256 := BitVec 256
abbrev Bytes := List Byte
abbrev Words := List W32
abbrev Ints := List Int

/-- Global gallery number (R16). -/
abbrev Gal := Fin 64
/-- Logical lantern of a gallery. -/
abbrev Lan := Fin 64
abbrev Hall := Fin 4
abbrev Part := Fin 64
abbrev Stack := Fin 16
abbrev Flight := Fin 36
abbrev RingNo := Fin 1024

/-- A sparse table: pairs of a key and a value, keys strictly rising, no value equal to the table's default. A table of
bytes is a list of `Host.Cell`. -/
abbrev Tab (α : Type) := List (Nat × α)

end Sys2Proof
end

