-- ==== Sys2Proof/Syntax.lean ====
section
/-! DEFINITION. The commands of the block: one constructor of `Instr` per row of spec/opcode_table.json, with this model's operands. -/

namespace Sys2Proof

/-- A thread: gallery, logical lantern, thread number (R66). -/
structure Site where
  g : Gal
  l : Lan
  t : Fin 8
  deriving DecidableEq, Repr

/-- The fields of a Utier instruction as R107 places them; `cls` and `op` are the row's. `imm` is the second word of an L form. -/
structure Fields where
  long : Bool
  d : BitVec 5
  a : BitVec 5
  b : BitVec 5
  e : BitVec 6
  imm : W32
  deriving DecidableEq, Repr

/-- The two ways into the dictionary (R514, R531). -/
inductive Port where
  | field
  | mailbox
  deriving DecidableEq, Repr

/-- Who asks for a dictionary request: the port it came by and the Haldub session it names (0: none). -/
structure Req where
  port : Port
  sess : Nat
  deriving DecidableEq, Repr

/-- A message of the flights' transaction layer, header and data (R473). -/
structure Msg where
  mtype : Byte
  hops : Byte
  dstDev : W16
  srcDev : W16
  srcGal : Byte
  mflags : Byte
  tag : W16
  status : W16
  srcPart : Byte
  dstPart : Byte
  length : W16
  addr : W64
  arg : W64
  pmap : BitVec 128
  data : Bytes
  deriving DecidableEq, Repr

/-- A bank that changes its power state (R392). -/
inductive Bank where
  | scratchpad (g : Gal) (l : Lan) (k : Fin 64)
  | store (g : Gal) (k : Fin 60)
  | handoff (g : Gal) (k : Fin 4)
  | deep (h : Hall) (k : Fin 8)
  deriving DecidableEq, Repr

/-- What a scrub finds in a granule (R448). -/
inductive Scrub where
  | clean
  | corrected
  | uncorrectable
  deriving DecidableEq, Repr

/-- The four engines whose descriptors end by ENGINE_DESCRIPTOR_END (R75). -/
inductive Unit4 where
  | array
  | vector
  | special
  | layout
  deriving DecidableEq, Repr

inductive EventLog where
  | failure
  | fatal
  deriving DecidableEq, Repr

/-- Sources of TIME64 (R533). -/
inductive TimeSource where
  | ptp
  | ptm
  deriving DecidableEq, Repr

/-- A sensor that checks itself (R588). -/
inductive Sensor where
  | junction (g : Gal) (k : Fin 4)
  | dram (s : Stack) (k : Fin 12)
  | iod (k : Fin 64)
  deriving DecidableEq, Repr

/-- What a sensor measures, in 1/16 °C, before its offset (R541, R587). -/
structure SensorReading where
  sensor : Sensor
  raw : Int
  deriving DecidableEq, Repr

/-- SPDM 1.3 requests that R567 names. -/
inductive Spdm where
  | getVersion
  | getCapabilities
  | negotiateAlgorithms
  | getDigests
  | getCertificate (slot : Nat)
  | challenge (slot : Nat)
  | getMeasurements (index : Nat) (sign : Bool)
  | keyExchange (slot : Nat)
  | finish (sess : Nat)
  | heartbeat (sess : Nat)
  | keyUpdate (sess : Nat)
  | endSession (sess : Nat)
  | other (code : Byte)
  deriving DecidableEq, Repr

/-- Frames of the field port that are not Haldub frames (R515). `conflict`: another node claims the port's address, or probes whether it is free. -/
inductive Icmp where
  | neighbourSolicitation
  | conflict
  | echo (data : Bytes)
  | other
  deriving DecidableEq, Repr

/-- Modes of CXL.cachemem's IDE (R487, R510). -/
inductive IdeMode where
  | containment
  | skid
  deriving DecidableEq, Repr

/-- What IDE protects: the selective streams of CXL.io, or CXL.cachemem in a mode (R487). -/
inductive IdeStream where
  | io
  | cachemem (m : IdeMode)
  deriving DecidableEq, Repr

/-- Keys of an IDE stream, programmed (`on`) or stopped (R510). -/
structure IdeKeys where
  stream : IdeStream
  on : Bool
  deriving DecidableEq, Repr

/-- A line that the host writes; `checked`: IDE has verified the flits that carried it (R510). -/
structure HostLine where
  bytes : Bytes
  checked : Bool
  deriving DecidableEq, Repr

/-- What a flight receives for one tread: its bytes after forward error correction, the symbols that this corrected and the codewords that it could not (R457). -/
structure RxTread where
  bytes : Bytes
  corrected : Nat
  bad : Nat
  deriving DecidableEq, Repr

/-- What a DMA read of the P-256 engine brought (R559). -/
inductive Dma where
  | bytes (v : Bytes)
  | failed
  deriving DecidableEq, Repr

/-- One arbiter cycle's readings (R572): mW and mA. -/
structure Readings where
  nonHall : Nat
  draw : List Nat
  demand : List Nat
  current : List Nat
  galDraw : List Nat
  deriving DecidableEq, Repr

/-- What the tests and trainings of a start find (R397, R398, R167, R285, R64, R622): of a hall whose deep SRAM fails, the bank; by hall, the samples of its start-up test. -/
structure BootReport where
  lostChannels : List (Nat × Nat)
  spareLines : List (Nat × Nat)
  badGalleries : List Nat
  deadLanterns : List (Nat × Nat)
  badWicks : List (Nat × Nat)
  badHalls : List (Nat × Nat)
  trng : List (Nat × List Bool)
  process : Words
  fatal : Bool
  deriving DecidableEq, Repr

/-- The commands, one per row of the opcode table, in its order. -/
inductive Instr where
  /-- ITEM_ADMIT, R19. -/
  | itemAdmit (r : RingNo)
  /-- SESSION_CACHE_FILL, R20. -/
  | sessionCacheFill (h : Hall) (sid : Nat)
  /-- GALLERY_TAKE_ITEM, R19. -/
  | galleryTakeItem (g : Gal)
  /-- BATCH_WINDOW_EXPIRY, R28. -/
  | batchWindowExpiry (h : Hall) (p : Part) (fp : Nat)
  /-- NO_GALLERY_TIMEOUT, R26. -/
  | noGalleryTimeout (h : Hall) (r : RingNo) (idx : Nat)
  /-- SESSION_ENTRY_WRITE, R21. -/
  | sessionEntryWrite (q : Req) (v : Bytes)
  /-- SESSION_CHANGE_ACK, R21. -/
  | sessionChangeAck (sid : Nat)
  /-- ITEM_LIMIT_WRITE, R25. -/
  | itemLimitWrite (q : Req) (p : Part) (v : Bytes)
  /-- DISPATCH_PARAM_WRITE, R27. -/
  | dispatchParamWrite (q : Req) (sub : Nat) (v : Bytes)
  /-- MODE_PLAN_WRITE, R37. -/
  | modePlanWrite (q : Req) (v : Bytes)
  /-- GALLERY_MODE_CHANGE, R39. -/
  | galleryModeChange (g : Gal)
  /-- GALLERY_POWER_GRANT, R579. -/
  | galleryPowerGrant (g : Gal)
  /-- MODE_DEADLINE_EXPIRY, R40. -/
  | modeDeadlineExpiry
  /-- GALLERY_RELEASE_TEST, R35. -/
  | galleryReleaseTest (g : Gal) (pass : Bool)
  /-- BROWNOUT_DETECT, R52. -/
  | brownoutDetect (h : Hall)
  /-- BROWNOUT_RECOVER, R53. -/
  | brownoutRecover (h : Hall)
  /-- BROWNOUT_TIMEOUT, R53. -/
  | brownoutTimeout (h : Hall)
  /-- REFTIME_BROADCAST, R57. -/
  | reftimeBroadcast
  /-- REFTIME_LO_READ, R58. -/
  | reftimeLoRead
  /-- PACE_MONITOR_SAMPLE, R63. -/
  | paceMonitorSample (h : Hall) (counts : Words)
  /-- TASK_COMPLETE, R70. -/
  | taskComplete (g : Gal)
  /-- THREAD_RESUME, R68. -/
  | threadResume (w : Site)
  /-- ICACHE_MISS_FILL, R91. -/
  | icacheMissFill (g : Gal) (line : Nat) (poisoned : Bool)
  /-- ICACHE_PARITY_ERROR, R93. -/
  | icacheParityError (g : Gal) (l : Lan) (line : Nat)
  /-- STALL_CENSUS_ABORT, R87. -/
  | stallCensusAbort (g : Gal)
  /-- MODULE_LOAD, R99. -/
  | moduleLoad (payload : Bytes)
  /-- MODULE_TRANSLATION_DONE, R101. -/
  | moduleTranslationDone
  /-- MODULE_UNLOAD, R99. -/
  | moduleUnload (payload : Bytes)
  /-- ADD, R110. -/
  | add (w : Site) (f : Fields)
  /-- SUB, R110. -/
  | sub (w : Site) (f : Fields)
  /-- AND, R109. -/
  | and (w : Site) (f : Fields)
  /-- OR, R109. -/
  | or (w : Site) (f : Fields)
  /-- XOR, R109. -/
  | xor (w : Site) (f : Fields)
  /-- SHL, R110. -/
  | shl (w : Site) (f : Fields)
  /-- SHR, R110. -/
  | shr (w : Site) (f : Fields)
  /-- SAR, R110. -/
  | sar (w : Site) (f : Fields)
  /-- MUL, R110. -/
  | mul (w : Site) (f : Fields)
  /-- MULH, R109. -/
  | mulh (w : Site) (f : Fields)
  /-- MULHU, R109. -/
  | mulhu (w : Site) (f : Fields)
  /-- DIV, R110. -/
  | div (w : Site) (f : Fields)
  /-- DIVU, R110. -/
  | divu (w : Site) (f : Fields)
  /-- REM, R110. -/
  | rem (w : Site) (f : Fields)
  /-- REMU, R110. -/
  | remu (w : Site) (f : Fields)
  /-- MIN, R109. -/
  | min (w : Site) (f : Fields)
  /-- MAX, R109. -/
  | max (w : Site) (f : Fields)
  /-- MINU, R109. -/
  | minu (w : Site) (f : Fields)
  /-- MAXU, R109. -/
  | maxu (w : Site) (f : Fields)
  /-- SLT, R109. -/
  | slt (w : Site) (f : Fields)
  /-- SLTU, R109. -/
  | sltu (w : Site) (f : Fields)
  /-- SEQ, R109. -/
  | seq (w : Site) (f : Fields)
  /-- ADDI, R109. -/
  | addi (w : Site) (f : Fields)
  /-- ANDI, R109. -/
  | andi (w : Site) (f : Fields)
  /-- ORI, R109. -/
  | ori (w : Site) (f : Fields)
  /-- XORI, R109. -/
  | xori (w : Site) (f : Fields)
  /-- SHLI, R109. -/
  | shli (w : Site) (f : Fields)
  /-- SHRI, R109. -/
  | shri (w : Site) (f : Fields)
  /-- SARI, R109. -/
  | sari (w : Site) (f : Fields)
  /-- SLTI, R109. -/
  | slti (w : Site) (f : Fields)
  /-- SLTIU, R109. -/
  | sltiu (w : Site) (f : Fields)
  /-- LI, R109. -/
  | li (w : Site) (f : Fields)
  /-- LUI, R109. -/
  | lui (w : Site) (f : Fields)
  /-- FADD, R111. -/
  | fadd (w : Site) (f : Fields)
  /-- FSUB, R111. -/
  | fsub (w : Site) (f : Fields)
  /-- FMUL, R111. -/
  | fmul (w : Site) (f : Fields)
  /-- FMA, R109. -/
  | fma (w : Site) (f : Fields)
  /-- FMIN, R111. -/
  | fmin (w : Site) (f : Fields)
  /-- FMAX, R111. -/
  | fmax (w : Site) (f : Fields)
  /-- FNEG, R112. -/
  | fneg (w : Site) (f : Fields)
  /-- FABS, R112. -/
  | fabs (w : Site) (f : Fields)
  /-- FLT, R112. -/
  | flt (w : Site) (f : Fields)
  /-- FLE, R112. -/
  | fle (w : Site) (f : Fields)
  /-- FEQ, R112. -/
  | feq (w : Site) (f : Fields)
  /-- FCVT_I, R111. -/
  | fcvtI (w : Site) (f : Fields)
  /-- FCVT_F, R112. -/
  | fcvtF (w : Site) (f : Fields)
  /-- FMV_X, R112. -/
  | fmvX (w : Site) (f : Fields)
  /-- FMV_F, R112. -/
  | fmvF (w : Site) (f : Fields)
  /-- LD_W, R115. -/
  | ldW (w : Site) (f : Fields)
  /-- LD_D, R115. -/
  | ldD (w : Site) (f : Fields)
  /-- LD_F, R115. -/
  | ldF (w : Site) (f : Fields)
  /-- LD_TAKE_W, R115. -/
  | ldTakeW (w : Site) (f : Fields)
  /-- LD_TAKE_D, R115. -/
  | ldTakeD (w : Site) (f : Fields)
  /-- ST_W, R115. -/
  | stW (w : Site) (f : Fields)
  /-- ST_D, R115. -/
  | stD (w : Site) (f : Fields)
  /-- ST_F, R115. -/
  | stF (w : Site) (f : Fields)
  /-- ST_FILL_W, R115. -/
  | stFillW (w : Site) (f : Fields)
  /-- ST_FILL_D, R115. -/
  | stFillD (w : Site) (f : Fields)
  /-- LD_RAW_W, R115. -/
  | ldRawW (w : Site) (f : Fields)
  /-- LD_RAW_D, R115. -/
  | ldRawD (w : Site) (f : Fields)
  /-- ST_RAW_W, R115. -/
  | stRawW (w : Site) (f : Fields)
  /-- ST_RAW_D, R115. -/
  | stRawD (w : Site) (f : Fields)
  /-- AMO_ADD, R116. -/
  | amoAdd (w : Site) (f : Fields)
  /-- AMO_SWAP, R116. -/
  | amoSwap (w : Site) (f : Fields)
  /-- BEQ, R109. -/
  | beq (w : Site) (f : Fields)
  /-- BNE, R109. -/
  | bne (w : Site) (f : Fields)
  /-- BLT, R109. -/
  | blt (w : Site) (f : Fields)
  /-- BGE, R109. -/
  | bge (w : Site) (f : Fields)
  /-- BLTU, R109. -/
  | bltu (w : Site) (f : Fields)
  /-- BGEU, R109. -/
  | bgeu (w : Site) (f : Fields)
  /-- JAL, R109. -/
  | jal (w : Site) (f : Fields)
  /-- JR, R109. -/
  | jr (w : Site) (f : Fields)
  /-- VADD, R109. -/
  | vadd (w : Site) (f : Fields)
  /-- VSUB, R109. -/
  | vsub (w : Site) (f : Fields)
  /-- VMUL, R109. -/
  | vmul (w : Site) (f : Fields)
  /-- VAND, R109. -/
  | vand (w : Site) (f : Fields)
  /-- VOR, R109. -/
  | vor (w : Site) (f : Fields)
  /-- VXOR, R109. -/
  | vxor (w : Site) (f : Fields)
  /-- VSHL, R109. -/
  | vshl (w : Site) (f : Fields)
  /-- VSHR, R109. -/
  | vshr (w : Site) (f : Fields)
  /-- VFADD, R109. -/
  | vfadd (w : Site) (f : Fields)
  /-- VFMUL, R109. -/
  | vfmul (w : Site) (f : Fields)
  /-- VFMA, R109. -/
  | vfma (w : Site) (f : Fields)
  /-- VINS, R112. -/
  | vins (w : Site) (f : Fields)
  /-- VEXT, R112. -/
  | vext (w : Site) (f : Fields)
  /-- VSPLAT, R112. -/
  | vsplat (w : Site) (f : Fields)
  /-- VINSD, R112. -/
  | vinsd (w : Site) (f : Fields)
  /-- VLD, R115. -/
  | vld (w : Site) (f : Fields)
  /-- VST, R115. -/
  | vst (w : Site) (f : Fields)
  /-- VLD_RAW, R115. -/
  | vldRaw (w : Site) (f : Fields)
  /-- VST_RAW, R115. -/
  | vstRaw (w : Site) (f : Fields)
  /-- VST_FILL, R115. -/
  | vstFill (w : Site) (f : Fields)
  /-- MX_LDW, R150. -/
  | mxLdw (w : Site) (f : Fields)
  /-- MX_RUN, R150. -/
  | mxRun (w : Site) (f : Fields)
  /-- MX_DRAIN, R123. -/
  | mxDrain (w : Site) (f : Fields)
  /-- QPUSH, R120. -/
  | qpush (w : Site) (qn : Fin 5) (f : Fields)
  /-- QPUSH_FROM_SCRATCHPAD, R120. -/
  | qpushFromScratchpad (w : Site) (qn : Fin 5) (f : Fields)
  /-- FLAG_SET, R124. -/
  | flagSet (w : Site) (f : Fields)
  /-- FLAG_SETI, R124. -/
  | flagSeti (w : Site) (f : Fields)
  /-- FLAG_ADD, R124. -/
  | flagAdd (w : Site) (f : Fields)
  /-- FLAG_ADDI, R124. -/
  | flagAddi (w : Site) (f : Fields)
  /-- FLAG_WAIT, R124. -/
  | flagWait (w : Site) (f : Fields)
  /-- FLAG_WAITI, R124. -/
  | flagWaiti (w : Site) (f : Fields)
  /-- FLAG_READ, R124. -/
  | flagRead (w : Site) (f : Fields)
  /-- BAR_ARRIVE, R126. -/
  | barArrive (w : Site) (f : Fields)
  /-- FENCE, R117. -/
  | fence (w : Site) (f : Fields)
  /-- MCALL, R129. -/
  | mcall (w : Site) (f : Fields)
  /-- NOP, R109, with its word: or a word that spells no instruction. -/
  | nop (w : Site) (f : W64)
  /-- END, R127. -/
  | endThread (w : Site) (f : Fields)
  /-- RDTIME, R113. -/
  | rdtime (w : Site) (f : Fields)
  /-- RDCTX, R106. -/
  | rdctx (w : Site) (f : Fields)
  /-- RDSKIP, R133. -/
  | rdskip (w : Site) (f : Fields)
  /-- LOAD_WEIGHTS, R147. -/
  | loadWeights (g : Gal) (l : Lan) (at_ : Nat)
  /-- ARRAY_RUN, R143. -/
  | arrayRun (g : Gal) (l : Lan) (at_ : Nat)
  /-- ARRAY_DRAIN, R82. -/
  | arrayDrain (g : Gal) (l : Lan) (at_ : Nat)
  /-- MODULAR_LOAD, R179. -/
  | modularLoad (g : Gal) (l : Lan) (at_ : Nat)
  /-- MODULAR_RUN, R180. -/
  | modularRun (g : Gal) (l : Lan) (at_ : Nat)
  /-- ARRAY_RESIDUE_MISMATCH, R166. -/
  | arrayResidueMismatch (g : Gal) (l : Lan)
  /-- PARAM_SET_REGISTER, R201. -/
  | paramSetRegister (q : Req) (v : Bytes)
  /-- PARAM_SET_UNREGISTER, R205. -/
  | paramSetUnregister (q : Req) (v : Bytes)
  /-- MARGIN_WRITE, R206. -/
  | marginWrite (q : Req) (v : Bytes)
  /-- SECURITY_OVERRIDE_WRITE, R203. -/
  | securityOverrideWrite (q : Req) (p : Part) (v : Bytes)
  /-- KEYSET_REGISTER, R222. -/
  | keysetRegister (q : Req) (v : Bytes)
  /-- KEYSET_UNREGISTER, R223. -/
  | keysetUnregister (q : Req) (v : Bytes)
  /-- BLOCK_HEADER_READ, R240. -/
  | blockHeaderRead (g : Gal) (k : Fin 2)
  /-- TAPER_PAYLOAD_LAND, R238. -/
  | taperPayloadLand (g : Gal) (k : Fin 2)
  /-- KEY_STREAM_TIMEOUT, R243. -/
  | keyStreamTimeout (g : Gal) (k : Fin 2)
  /-- MACRO_ADD, R251. -/
  | macroAdd (g : Gal)
  /-- MACRO_SUB, R251. -/
  | macroSub (g : Gal)
  /-- MACRO_ADDP, R251. -/
  | macroAddp (g : Gal)
  /-- MACRO_MULP, R251. -/
  | macroMulp (g : Gal)
  /-- MACRO_MUL, R251. -/
  | macroMul (g : Gal)
  /-- MACRO_RELIN, R262. -/
  | macroRelin (g : Gal)
  /-- MACRO_MULR, R251. -/
  | macroMulr (g : Gal)
  /-- MACRO_RESCALE, R263. -/
  | macroRescale (g : Gal)
  /-- MACRO_RESCALE2, R251. -/
  | macroRescale2 (g : Gal)
  /-- MACRO_MODSW, R251. -/
  | macroModsw (g : Gal)
  /-- MACRO_KSWITCH, R262. -/
  | macroKswitch (g : Gal)
  /-- MACRO_ROTATE, R263. -/
  | macroRotate (g : Gal)
  /-- MACRO_HROTATE, R253. -/
  | macroHrotate (g : Gal)
  /-- MACRO_CONJ, R251. -/
  | macroConj (g : Gal)
  /-- MACRO_BOOTSTRAP, R266. -/
  | macroBootstrap (g : Gal)
  /-- MACRO_RELEASE, R272. -/
  | macroRelease (g : Gal)
  /-- MACRO_TOCOEFF, R251. -/
  | macroTocoeff (g : Gal)
  /-- MACRO_END, R270. -/
  | macroEnd (g : Gal)
  /-- TRNG_HEALTH_FAIL, R286. -/
  | trngHealthFail (h : Hall) (samples : List Bool)
  /-- TRNG_RETRY, R287. -/
  | trngRetry (h : Hall) (samples : List Bool)
  /-- FLOODING_SIGMA_WRITE, R292. -/
  | floodingSigmaWrite (q : Req) (p : Part) (v : Bytes)
  /-- VE_FADD, R303. -/
  | veFadd (g : Gal) (l : Lan)
  /-- VE_FSUB, R303. -/
  | veFsub (g : Gal) (l : Lan)
  /-- VE_FMUL, R303. -/
  | veFmul (g : Gal) (l : Lan)
  /-- VE_FMA, R303. -/
  | veFma (g : Gal) (l : Lan)
  /-- FMS, R303. -/
  | fms (g : Gal) (l : Lan)
  /-- FSM, R303. -/
  | fsm (g : Gal) (l : Lan)
  /-- VE_FMIN, R303. -/
  | veFmin (g : Gal) (l : Lan)
  /-- VE_FMAX, R303. -/
  | veFmax (g : Gal) (l : Lan)
  /-- VE_FABS, R303. -/
  | veFabs (g : Gal) (l : Lan)
  /-- VE_FNEG, R303. -/
  | veFneg (g : Gal) (l : Lan)
  /-- FADDS, R303. -/
  | fadds (g : Gal) (l : Lan)
  /-- FMULS, R303. -/
  | fmuls (g : Gal) (l : Lan)
  /-- IADD, R303. -/
  | iadd (g : Gal) (l : Lan)
  /-- ISUB, R303. -/
  | isub (g : Gal) (l : Lan)
  /-- IMUL, R303. -/
  | imul (g : Gal) (l : Lan)
  /-- VE_AND, R303. -/
  | veAnd (g : Gal) (l : Lan)
  /-- VE_OR, R303. -/
  | veOr (g : Gal) (l : Lan)
  /-- VE_XOR, R303. -/
  | veXor (g : Gal) (l : Lan)
  /-- VE_SHL, R303. -/
  | veShl (g : Gal) (l : Lan)
  /-- VE_SHR, R304. -/
  | veShr (g : Gal) (l : Lan)
  /-- VE_SAR, R304. -/
  | veSar (g : Gal) (l : Lan)
  /-- IMIN, R304. -/
  | imin (g : Gal) (l : Lan)
  /-- IMAX, R304. -/
  | imax (g : Gal) (l : Lan)
  /-- CVT, R305. -/
  | cvt (g : Gal) (l : Lan)
  /-- QUANTISE, R306. -/
  | quantise (g : Gal) (l : Lan)
  /-- DEQUANTISE, R308. -/
  | dequantise (g : Gal) (l : Lan)
  /-- VE_COPY, R303. -/
  | veCopy (g : Gal) (l : Lan)
  /-- RSUM, R309. -/
  | rsum (g : Gal) (l : Lan)
  /-- RMAX, R309. -/
  | rmax (g : Gal) (l : Lan)
  /-- RMIN, R309. -/
  | rmin (g : Gal) (l : Lan)
  /-- RABSMAX, R309. -/
  | rabsmax (g : Gal) (l : Lan)
  /-- RSTAT, R310. -/
  | rstat (g : Gal) (l : Lan)
  /-- MRED, R188. -/
  | mred (g : Gal) (l : Lan)
  /-- MADD, R188. -/
  | madd (g : Gal) (l : Lan)
  /-- MSUB, R188. -/
  | msub (g : Gal) (l : Lan)
  /-- MNEG, R188. -/
  | mneg (g : Gal) (l : Lan)
  /-- MMUL, R188. -/
  | mmul (g : Gal) (l : Lan)
  /-- MMAC, R188. -/
  | mmac (g : Gal) (l : Lan)
  /-- MMULP, R188. -/
  | mmulp (g : Gal) (l : Lan)
  /-- S_ADD, R279. -/
  | sAdd (g : Gal) (l : Lan)
  /-- S_SUB, R279. -/
  | sSub (g : Gal) (l : Lan)
  /-- S_ADDC, R279. -/
  | sAddc (g : Gal) (l : Lan)
  /-- S_MULC, R279. -/
  | sMulc (g : Gal) (l : Lan)
  /-- S_OPEN, R281. -/
  | sOpen (g : Gal) (l : Lan)
  /-- S_BEAVER, R279. -/
  | sBeaver (g : Gal) (l : Lan)
  /-- S_SAMPLE, R279. -/
  | sSample (g : Gal) (l : Lan)
  /-- SMP_U32, R313. -/
  | smpU32 (g : Gal) (l : Lan)
  /-- SMP_MODQ, R313. -/
  | smpModq (g : Gal) (l : Lan)
  /-- SMP_TERN, R313. -/
  | smpTern (g : Gal) (l : Lan)
  /-- SMP_CBD, R313. -/
  | smpCbd (g : Gal) (l : Lan)
  /-- SMP_GAUSS, R314. -/
  | smpGauss (g : Gal) (l : Lan)
  /-- RING_READ_START, R83. -/
  | ringReadStart (g : Gal) (l : Lan) (at_ : Nat)
  /-- EXP, R322. -/
  | exp (g : Gal) (l : Lan)
  /-- LOG, R322. -/
  | log (g : Gal) (l : Lan)
  /-- RECIP, R322. -/
  | recip (g : Gal) (l : Lan)
  /-- RSQRT, R322. -/
  | rsqrt (g : Gal) (l : Lan)
  /-- SIGMOID, R326. -/
  | sigmoid (g : Gal) (l : Lan)
  /-- TANH, R326. -/
  | tanh (g : Gal) (l : Lan)
  /-- SOFTPLUS, R326. -/
  | softplus (g : Gal) (l : Lan)
  /-- SQRT, R326. -/
  | sqrt (g : Gal) (l : Lan)
  /-- SFU_DIV, R326. -/
  | sfuDiv (g : Gal) (l : Lan)
  /-- SILU, R326. -/
  | silu (g : Gal) (l : Lan)
  /-- GELU_T, R326. -/
  | geluT (g : Gal) (l : Lan)
  /-- SM_BLOCK, R330. -/
  | smBlock (g : Gal) (l : Lan)
  /-- SM_FINAL, R332. -/
  | smFinal (g : Gal) (l : Lan)
  /-- ROPE, R340. -/
  | rope (g : Gal) (l : Lan)
  /-- LM_COPY, R367. -/
  | lmCopy (g : Gal) (l : Lan)
  /-- FILL, R366. -/
  | fill (g : Gal) (l : Lan)
  /-- GATHER, R368. -/
  | gather (g : Gal) (l : Lan)
  /-- SCATTER, R369. -/
  | scatter (g : Gal) (l : Lan)
  /-- SCATTER_ADD, R370. -/
  | scatterAdd (g : Gal) (l : Lan)
  /-- GALOIS_EVAL, R372. -/
  | galoisEval (g : Gal) (l : Lan)
  /-- GALOIS_COEF, R372. -/
  | galoisCoef (g : Gal) (l : Lan)
  /-- TRANSLATION_WALK, R360. -/
  | translationWalk (g : Gal) (asid : Nat) (va : Nat)
  /-- MAP_REQUEST, R358. -/
  | mapRequest (q : Req) (v : Bytes)
  /-- MAP_ACK, R359. -/
  | mapAck
  /-- FETCH, R404. -/
  | fetch (g : Gal) (l : Lan)
  /-- STORE, R405. -/
  | store (g : Gal) (l : Lan)
  /-- BURST_LAND, R404. -/
  | burstLand (g : Gal) (l : Lan) (bno : Nat)
  /-- BURST_WRITE_ACK, R405. -/
  | burstWriteAck (g : Gal) (l : Lan) (bno : Nat)
  /-- BURST_RELEASE, R439. -/
  | burstRelease (g : Gal) (l : Lan) (bno : Nat)
  /-- STORE_ECC_ERROR, R387. -/
  | storeEccError (g : Gal) (l : Option Lan) (word : Nat)
  /-- STORE_CORRECTED_ERROR, R387. -/
  | storeCorrectedError (g : Gal) (l : Option Lan) (word : Nat) (vote : Bool)
  /-- BANK_RETENTION_ENTRY, R392. -/
  | bankRetentionEntry (bk : Bank)
  /-- BANK_WAKE, R392. -/
  | bankWake (bk : Bank)
  /-- DEEP_RETENTION_ERROR, R393. -/
  | deepRetentionError (h : Hall) (bank : Fin 8) (sid : Nat)
  /-- NORM_PASS_DONE, R419. -/
  | normPassDone (g : Gal)
  /-- DRAM_SENSOR_READ, R442. -/
  | dramSensorRead (st : Stack) (readings : Ints)
  /-- DRAM_UNCORRECTABLE, R446. -/
  | dramUncorrectable (addr : Nat)
  /-- BOND_CRC_FAIL, R444. -/
  | bondCrcFail (addr : Nat)
  /-- DRAM_SCRUB, R448. -/
  | dramScrub (addr : Nat) (found : Scrub)
  /-- REGULATOR_WRITE, R440. -/
  | regulatorWrite (q : Req) (depth : Bool) (p : Part) (v : Bytes)
  /-- DRAM_WIPE_DONE, R450. -/
  | dramWipeDone
  /-- HDM_WINDOW_WRITE, R452. -/
  | hdmWindowWrite (q : Req) (sub : Nat) (v : Bytes)
  /-- HOST_WINDOW_WRITE, R453. -/
  | hostWindowWrite (off : Nat) (v : HostLine) (poison : Bool)
  /-- HOST_WINDOW_READ, R453. -/
  | hostWindowRead (off : Nat) (hold : Bool)
  /-- FLIGHT_TRAINING_DONE, R457. -/
  | flightTrainingDone (f : Flight) (lanes : BitVec 8) (neighbour : BitVec 16)
  /-- TREAD_RECEIVE, R459. -/
  | treadReceive (f : Flight) (v : RxTread)
  /-- NACK_RECEIVE, R461. -/
  | nackReceive (f : Flight) (sq : BitVec 12)
  /-- RETRY_TIMEOUT, R461. -/
  | retryTimeout (f : Flight)
  /-- IDLE_TREAD_DUE, R459. -/
  | idleTreadDue (f : Flight)
  /-- RETRAIN_DONE, R462. -/
  | retrainDone (f : Flight) (ok : Bool)
  /-- CREDIT_STALL, R485. -/
  | creditStall (f : Flight) (vc : Fin 4)
  /-- DEVICE_ID_WRITE, R467. -/
  | deviceIdWrite (q : Req) (v : Bytes)
  /-- ROUTE_TABLE_WRITE, R468. -/
  | routeTableWrite (q : Req) (v : Bytes)
  /-- ADMISSION_WRITE, R471. -/
  | admissionWrite (q : Req) (p : Part) (v : Bytes)
  /-- FLIGHT_ENABLE_WRITE, R484. -/
  | flightEnableWrite (q : Req) (f : Flight) (v : Bytes)
  /-- PUT, R476. -/
  | put (m : Msg)
  /-- PUT_ACK, R476. -/
  | putAck (m : Msg)
  /-- GET, R476. -/
  | get (m : Msg)
  /-- GET_RESPONSE, R475. -/
  | getResponse (m : Msg)
  /-- KEY_REQUEST, R479. -/
  | keyRequest (m : Msg)
  /-- KEY_HEADER, R479. -/
  | keyHeader (m : Msg)
  /-- KEY_PAYLOAD, R479. -/
  | keyPayload (m : Msg)
  /-- KEY_REFUSAL, R480. -/
  | keyRefusal (m : Msg)
  /-- SIGNAL, R481. -/
  | signal (m : Msg)
  /-- BARRIER_ARRIVE, R482. -/
  | barrierArrive (m : Msg)
  /-- BARRIER_RELEASE, R482. -/
  | barrierRelease (m : Msg)
  /-- MESSAGE_TIMEOUT, R477. -/
  | messageTimeout (g : Gal) (tag : BitVec 16)
  /-- DOORBELL_WRITE, R496. -/
  | doorbellWrite (r : RingNo) (tail : BitVec 32)
  /-- RING_ITEM_READ, R497. -/
  | ringItemRead (r : RingNo) (v : Bytes) (poison : Bool)
  /-- RING_CONFIG_WRITE, R495. -/
  | ringConfigWrite (q : Req) (r : RingNo) (v : Bytes)
  /-- COMPLETION_SLOT_ALLOT, R503. -/
  | completionSlotAllot (q : Req) (p : Part) (v : Bytes)
  /-- SIGNAL_ITEM, R501. -/
  | signalItem (h : Hall) (r : RingNo) (idx : Nat)
  /-- BARRIER_ARRIVE_ITEM, R501. -/
  | barrierArriveItem (h : Hall) (r : RingNo) (idx : Nat)
  /-- DECODER_COMMIT, R505. -/
  | decoderCommit (dec : Fin 2) (base : Nat) (size : Nat)
  /-- BI_SNOOP_RESPONSE, R506. -/
  | biSnoopResponse (line : Nat)
  /-- BI_TIMEOUT, R507. -/
  | biTimeout (line : Nat)
  /-- STATUS_WINDOW_READ, R492. -/
  | statusWindowRead (off : Nat) (hold : Bool)
  /-- LINK_DOWN, R512. -/
  | linkDown
  /-- HOT_RESET, R512. -/
  | hotReset
  /-- IDE_FAILURE, R510. -/
  | ideFailure
  /-- CXL_RESET, R611. -/
  | cxlReset
  /-- TSP_BIND, R511. -/
  | tspBind (mask : BitVec 64) (sess : Nat)
  /-- GET_EVENT_RECORDS, R509. -/
  | getEventRecords (log : EventLog)
  /-- CLEAR_EVENT_RECORDS, R509. -/
  | clearEventRecords (log : EventLog) (n : Nat)
  /-- GET_SUPPORTED_LOGS, R509. -/
  | getSupportedLogs
  /-- GET_LOG, R509. -/
  | getLog
  /-- IDENTIFY_MEMORY_DEVICE, R509. -/
  | identifyMemoryDevice
  /-- DOE_DISCOVERY, R508. -/
  | doeDiscovery
  /-- CDAT_TABLE_ACCESS, R508. -/
  | cdatTableAccess
  /-- SPDM_REQUEST, R567. -/
  | spdmRequest (m : Spdm)
  /-- IDE_KM, R510. -/
  | ideKm (sess : Nat) (keys : IdeKeys)
  /-- DISCOVER, R523. -/
  | discover (q : Bytes)
  /-- DISCOVER_REPLY, R523. -/
  | discoverReply
  /-- OPEN_1, R521. -/
  | open1 (port : Port) (v : Bytes)
  /-- OPEN_3, R521. -/
  | open3 (port : Port) (v : Bytes)
  /-- READ, R519. -/
  | read (port : Port) (v : Bytes)
  /-- WRITE, R519. -/
  | write (port : Port) (v : Bytes)
  /-- CLOSE, R522. -/
  | close (port : Port) (v : Bytes)
  /-- SESSION_IDLE_TIMEOUT, R522. -/
  | sessionIdleTimeout (sess : Nat)
  /-- ICMPV6_REQUEST, R515. -/
  | icmpv6Request (m : Icmp)
  /-- FAULT_RECORD_READ, R605. -/
  | faultRecordRead (q : Req)
  /-- JOURNAL_READ, R540. -/
  | journalRead (q : Req)
  /-- TIME_SET, R533. -/
  | timeSet (q : Req) (v : Bytes)
  /-- TIME_CORRECTION, R533. -/
  | timeCorrection (src : TimeSource) (v : BitVec 64)
  /-- JOURNAL_PROGRAM, R538. -/
  | journalProgram
  /-- CALIBRATION_WRITE, R542. -/
  | calibrationWrite (q : Req) (item : Fin 5) (v : Bytes)
  /-- CALIBRATION_COMMIT, R542. -/
  | calibrationCommit (q : Req) (v : Bytes)
  /-- CALIBRATION_COMMIT_DONE, R544. -/
  | calibrationCommitDone (ok : Bool)
  /-- ALLOTMENT_WRITE, R530. -/
  | allotmentWrite (q : Req) (p : Part) (v : Bytes)
  /-- PACKAGE_BUDGET_WRITE, R580. -/
  | packageBudgetWrite (q : Req) (v : Bytes)
  /-- CREDENTIAL_BURN, R551. -/
  | credentialBurn (q : Req) (v : Bytes) (ok : Bool)
  /-- ANCHOR_REVOKE, R551. -/
  | anchorRevoke (q : Req) (v : Bytes)
  /-- CREDENTIAL_WRITE, R553. -/
  | credentialWrite (q : Req) (entry : Nat) (v : Bytes)
  /-- FW_KEY_REVOKE, R551. -/
  | fwKeyRevoke (q : Req) (v : Bytes)
  /-- PKE_SUBMIT, R554. -/
  | pkeSubmit (hi : BitVec 32)
  /-- VERIFY, R560. -/
  | verify (desc operands : Dma)
  /-- SIGN, R556. -/
  | sign (desc operands : Dma)
  /-- ECDH, R556. -/
  | ecdh (desc operands : Dma)
  /-- SCALAR_MULTIPLY, R556. -/
  | scalarMultiply (desc operands : Dma)
  /-- POINT_CHECK, R556. -/
  | pointCheck (desc operands : Dma)
  /-- LOAD_CURVE, R557. -/
  | loadCurve (desc operands : Dma)
  /-- PKE_JOB_COMPLETE, R561. -/
  | pkeJobComplete
  /-- PKE_DONE_READ, R554. -/
  | pkeDoneRead
  /-- FIRMWARE_IMAGE_WRITE, R565. -/
  | firmwareImageWrite (q : Req) (v : Bytes)
  /-- FIRMWARE_PROGRAM_DONE, R565. -/
  | firmwareProgramDone (ok : Bool)
  /-- SECURITY_VERSION_ADVANCE, R565. -/
  | securityVersionAdvance (q : Req) (v : Bytes)
  /-- LIFE_CYCLE_TRANSITION, R570. -/
  | lifeCycleTransition (q : Req) (v : Bytes)
  /-- LAMP_SRAM_ERROR, R546. -/
  | lampSramError (fatal : Bool)
  /-- WATCHDOG_EXPIRY, R600. -/
  | watchdogExpiry
  /-- ARBITER_CYCLE, R572. -/
  | arbiterCycle (rd : Readings)
  /-- GATING_LIFT_STEP, R575. -/
  | gatingLiftStep (g : Gal)
  /-- THERMAL_CYCLE, R583. -/
  | thermalCycle (h : Hall) (junction : Ints) (dram : Ints)
  /-- THERMTRIP, R584. -/
  | thermtrip (reading : SensorReading)
  /-- SENSOR_SELF_CHECK, R588. -/
  | sensorSelfCheck (sn : Sensor) (reading : Int) (others : Ints)
  /-- AVS_TIMEOUT, R626. -/
  | avsTimeout (h : Hall)
  /-- RAIL_OVERVOLTAGE, R628. -/
  | railOvervoltage (h : Hall)
  /-- FAULT_RECORD_HANDLE, R592. -/
  | faultRecordHandle
  /-- FAULT_RECORD_COPY, R602. -/
  | faultRecordCopy
  /-- FAULT_ACK, R603. -/
  | faultAck (q : Req) (v : Bytes)
  /-- HEARTBEAT_MISS, R606. -/
  | heartbeatMiss (g : Gal) (phys : Fin 68)
  /-- STALE_LANTERN_REQUEST, R607. -/
  | staleLanternRequest (g : Gal) (phys : Fin 68) (inc : BitVec 16)
  /-- DEAD_LANTERN_REHOLD, R608. -/
  | deadLanternRehold (g : Gal) (phys : Fin 68)
  /-- LANTERN_READMIT, R610. -/
  | lanternReadmit (q : Req) (v : Bytes)
  /-- READMIT_TEST_DONE, R610. -/
  | readmitTestDone (g : Gal) (phys : Fin 68) (pass : Bool)
  /-- GALLERY_RESET_WRITE, R612. -/
  | galleryResetWrite (q : Req) (v : Bytes)
  /-- PWRGOOD_RISE, R615. -/
  | pwrgoodRise (straps : BitVec 8) (boot : BootReport)
  /-- HALL_STARTUP_TIMEOUT, R622. -/
  | hallStartupTimeout (h : Hall)
  /-- STARTUP_READY, R615. -/
  | startupReady (boot : BootReport)
  /-- PWRGOOD_FALL, R630. -/
  | pwrgoodFall
  /-- PERST_ASSERT, R611. -/
  | perstAssert
  /-- PERST_RELEASE, R619. -/
  | perstRelease (boot : BootReport)
  /-- REGISTER_WRITE, R10. -/
  | registerWrite (off : Nat) (v : BitVec 32)
  /-- ENGINE_DESCRIPTOR_END, R75. -/
  | engineDescriptorEnd (g : Gal) (l : Lan) (u : Unit4)
  /-- PARAM_SET_REGISTRATION_DONE, R204. -/
  | paramSetRegistrationDone (ps : Nat)
  /-- CXL_LINK_UP, R512. -/
  | cxlLinkUp (cxl : Bool)
  /-- TIME_SOURCE_LOCK_CHANGE, R533. -/
  | timeSourceLockChange (src : TimeSource) (on : Bool)
  /-- FIELD_PORT_LINK_CHANGE, R516. -/
  | fieldPortLinkChange (up : Bool)
  /-- FAULT_SEQ_LO_READ, R605. -/
  | faultSeqLoRead
  /-- FAULT_HANDLING_TIMEOUT, R600. -/
  | faultHandlingTimeout
  deriving DecidableEq, Repr

end Sys2Proof
end

