-- ==== Sys2Proof/Decode.lean ====
section
/-! DEFINITION. Words. The table gives no command any bits, so no word spells a command by it; the words of Utier code are decoded as the spec lays them out (04 R107, R109). -/

namespace Sys2Proof

/-- The command that a word spells by the bits of spec/opcode_table.json. No row of the table has bits, so none. -/
def decodeTableWord (_nbits _w : Nat) : Option Instr := none

/-! ## Utier code (R107, R109) -/

/-- The fields of an instruction: its first word in bits 31 to 0, its second word, which an L form has, above (R107). -/
def Fields.ofWord (v : W64) : Fields :=
  { long := v.getLsbD 0, d := v.extractLsb' 11 5, a := v.extractLsb' 16 5, b := v.extractLsb' 21 5, e := v.extractLsb' 26 6,
    imm := if v.getLsbD 0 then v.extractLsb' 32 32 else 0 }

/-- `cls`, bits 4 to 1 (R107). -/
def wordClass (v : W64) : Nat := (v.extractLsb' 1 4).toNat

/-- `op`, bits 10 to 5 (R107). -/
def wordOp (v : W64) : Nat := (v.extractLsb' 5 6).toNat

/-- The instruction that a word of a thread's code spells (R109): none for a reserved class or an operation that is not listed. -/
def decodeUtier (w : Site) (v : W64) : Option Instr :=
  let f := Fields.ofWord v
  match wordClass v, wordOp v with
  | 0, 0 => some (.add w f)
  | 0, 1 => some (.sub w f)
  | 0, 2 => some (.and w f)
  | 0, 3 => some (.or w f)
  | 0, 4 => some (.xor w f)
  | 0, 5 => some (.shl w f)
  | 0, 6 => some (.shr w f)
  | 0, 7 => some (.sar w f)
  | 0, 8 => some (.mul w f)
  | 0, 9 => some (.mulh w f)
  | 0, 10 => some (.mulhu w f)
  | 0, 11 => some (.div w f)
  | 0, 12 => some (.divu w f)
  | 0, 13 => some (.rem w f)
  | 0, 14 => some (.remu w f)
  | 0, 15 => some (.min w f)
  | 0, 16 => some (.max w f)
  | 0, 17 => some (.minu w f)
  | 0, 18 => some (.maxu w f)
  | 0, 19 => some (.slt w f)
  | 0, 20 => some (.sltu w f)
  | 0, 21 => some (.seq w f)
  | 1, 0 => some (.addi w f)
  | 1, 2 => some (.andi w f)
  | 1, 3 => some (.ori w f)
  | 1, 4 => some (.xori w f)
  | 1, 5 => some (.shli w f)
  | 1, 6 => some (.shri w f)
  | 1, 7 => some (.sari w f)
  | 1, 19 => some (.slti w f)
  | 1, 20 => some (.sltiu w f)
  | 1, 32 => some (.li w f)
  | 1, 33 => some (.lui w f)
  | 2, 0 => some (.fadd w f)
  | 2, 1 => some (.fsub w f)
  | 2, 2 => some (.fmul w f)
  | 2, 3 => some (.fma w f)
  | 2, 4 => some (.fmin w f)
  | 2, 5 => some (.fmax w f)
  | 2, 6 => some (.fneg w f)
  | 2, 7 => some (.fabs w f)
  | 2, 8 => some (.flt w f)
  | 2, 9 => some (.fle w f)
  | 2, 10 => some (.feq w f)
  | 2, 16 => some (.fcvtI w f)
  | 2, 17 => some (.fcvtF w f)
  | 2, 18 => some (.fmvX w f)
  | 2, 19 => some (.fmvF w f)
  | 3, 0 => some (.ldW w f)
  | 3, 1 => some (.ldD w f)
  | 3, 2 => some (.ldF w f)
  | 3, 3 => some (.ldTakeW w f)
  | 3, 4 => some (.ldTakeD w f)
  | 3, 8 => some (.stW w f)
  | 3, 9 => some (.stD w f)
  | 3, 10 => some (.stF w f)
  | 3, 11 => some (.stFillW w f)
  | 3, 12 => some (.stFillD w f)
  | 3, 16 => some (.ldRawW w f)
  | 3, 17 => some (.ldRawD w f)
  | 3, 24 => some (.stRawW w f)
  | 3, 25 => some (.stRawD w f)
  | 3, 32 => some (.amoAdd w f)
  | 3, 33 => some (.amoSwap w f)
  | 4, 0 => some (.beq w f)
  | 4, 1 => some (.bne w f)
  | 4, 2 => some (.blt w f)
  | 4, 3 => some (.bge w f)
  | 4, 4 => some (.bltu w f)
  | 4, 5 => some (.bgeu w f)
  | 4, 16 => some (.jal w f)
  | 4, 17 => some (.jr w f)
  | 5, 0 => some (.vadd w f)
  | 5, 1 => some (.vsub w f)
  | 5, 2 => some (.vmul w f)
  | 5, 3 => some (.vand w f)
  | 5, 4 => some (.vor w f)
  | 5, 5 => some (.vxor w f)
  | 5, 6 => some (.vshl w f)
  | 5, 7 => some (.vshr w f)
  | 5, 8 => some (.vfadd w f)
  | 5, 9 => some (.vfmul w f)
  | 5, 10 => some (.vfma w f)
  | 5, 16 => some (.vins w f)
  | 5, 17 => some (.vext w f)
  | 5, 18 => some (.vsplat w f)
  | 5, 19 => some (.vinsd w f)
  | 6, 0 => some (.vld w f)
  | 6, 1 => some (.vst w f)
  | 6, 2 => some (.vldRaw w f)
  | 6, 3 => some (.vstRaw w f)
  | 6, 4 => some (.vstFill w f)
  | 7, 0 => some (.mxLdw w f)
  | 7, 1 => some (.mxRun w f)
  | 7, 2 => some (.mxDrain w f)
  | 9, 0 => some (.flagSet w f)
  | 9, 1 => some (.flagSeti w f)
  | 9, 2 => some (.flagAdd w f)
  | 9, 3 => some (.flagAddi w f)
  | 9, 4 => some (.flagWait w f)
  | 9, 5 => some (.flagWaiti w f)
  | 9, 6 => some (.flagRead w f)
  | 9, 8 => some (.barArrive w f)
  | 9, 9 => some (.fence w f)
  | 10, 0 => some (.mcall w f)
  | 11, 0 => some (.nop w v)
  | 11, 1 => some (.endThread w f)
  | 11, 2 => some (.rdtime w f)
  | 11, 3 => some (.rdctx w f)
  | 11, 4 => some (.rdskip w f)
  | 8, 0 => some (.qpush w 0 f)
  | 8, 1 => some (.qpush w 1 f)
  | 8, 2 => some (.qpush w 2 f)
  | 8, 3 => some (.qpush w 3 f)
  | 8, 4 => some (.qpush w 4 f)
  | 8, 8 => some (.qpushFromScratchpad w 0 f)
  | 8, 9 => some (.qpushFromScratchpad w 1 f)
  | 8, 10 => some (.qpushFromScratchpad w 2 f)
  | 8, 11 => some (.qpushFromScratchpad w 3 f)
  | 8, 12 => some (.qpushFromScratchpad w 4 f)
  | _, _ => none

end Sys2Proof
end

