-- ==== Sys2Proof/Config.lean ====
section
/-! DEFINITION. What the spec leaves open: free values, each an uninterpreted constant that no proof can see into. -/

namespace Sys2Proof.Config

/-- DESIGN CHOICE (log 8). The k-th free value of a run, for values the spec calls undefined and for draws of randomness. -/
opaque freeValue : Nat → BitVec 64

/-- DESIGN CHOICE (log 9). A coefficient of the special-function tables, in units of 2^-34, by table, segment and degree (R322, R340): 0 `recip`, 1 and 2 `rsqrt`, 3 `log`,
4 and 5 its second set, 6 `exp`, from 16 on cos and sin by quadrant. -/
opaque sfuCoef : Nat → Nat → Nat → Int

/-- DESIGN CHOICE (log 52). Entry k of the cumulative table of a discrete Gaussian, by its width in FP32 (R291). -/
opaque gaussTable : BitVec 32 → Nat → Nat
/-- DESIGN CHOICE (log 52). The sign that a drawn word gives a Gaussian value (R291). -/
opaque gaussMinus : BitVec 64 → Bool
/-- DESIGN CHOICE (log 52). The convolution that firmware chooses for a width above 16: factors and base widths of its table samples (R291). -/
opaque gaussParts : BitVec 32 → List (Nat × BitVec 32)

/-- DESIGN CHOICE (log 117). SHA-256 of the native code that the translator makes of a container (R98, R102). -/
opaque nativeHash : List (BitVec 8) → List (BitVec 8)
/-- DESIGN CHOICE (log 117). Bytes of native code made of a container (R100, the 64 MiB region). -/
opaque nativeSize : List (BitVec 8) → Nat

/-- DESIGN CHOICE (log 16). The version that a macro store section carries; its layout is not the spec's (R250). -/
opaque storeVersion : List (BitVec 8) → BitVec 32

/-- DESIGN CHOICE (log 118). The generation of the special-function tables (1) and the version of the micro-program store (2) that the same section carries (R325, R562). -/
opaque tableVersion : Nat → List (BitVec 8) → BitVec 32

/-- DESIGN CHOICE (log 16). A constant of a store version (R266): the bootstrap's, by its stage, its step and its place there. -/
opaque bootConst : BitVec 32 → List Nat → Nat

/-- DESIGN CHOICE (log 16). The pair of the gallery store at which a macro places its key ring, by macro number (R237). -/
opaque keyRing : Nat → Nat

/-- DESIGN CHOICE (log 80). Where the hardware-managed DRAM holds an item of a kind (0 a session's roll entry, 1 an address space's table, 2 a parameter set's tables,
3 a key set's record), by its number: a stack and a 32-byte granule of its hardware-managed gigabyte (R433). -/
opaque hwPlace : Nat → Nat → Nat

/-- DESIGN CHOICE (log 83). The pace in Gbeat/s that a ring count of 1 µs stands for, given the monitor's factory reference (R63). -/
opaque paceOf : BitVec 32 → BitVec 32 → BitVec 32

/-- DESIGN CHOICE (log 86). What a component or device register of the CXL port reads, by its offset, what the model holds of the port, and the word written last (R489). -/
opaque cxlRead : Nat → List Nat → Option (BitVec 32) → BitVec 32
/-- DESIGN CHOICE (log 86). What a write of a component or device register leaves, by its offset, the word held before and the word written. -/
opaque cxlWrite : Nat → Option (BitVec 32) → BitVec 32 → BitVec 32

/-- DESIGN CHOICE (log 21). KiB of the parameter region that a set's tables take (R197, R201 check 7): a function of N and the primes. -/
opaque paramTableKiB : Nat → List Nat → Nat
/-- DESIGN CHOICE (log 117). What round `i` of R557's primality checks draws from the SHA-256 of an operand block. -/
opaque curveBase : List (BitVec 8) → Nat → Nat
/-- DESIGN CHOICE (log 118). Bytes of a message whose content the cited standards give (SPDM, CDAT, logs), by kind. -/
opaque standardBytes : Nat → List (BitVec 8)
/-- DESIGN CHOICE (log 23). The voltage in mV whose predicted draw fits a grant, of a hall, demand and grant in mW (R574). -/
opaque fitVoltage : Nat → Nat → Nat → Nat
/-- DESIGN CHOICE (log 23). The voltage in mV that the current limit allows, of a hall, its current in mA and the limit in A (R574, R581). -/
opaque currentVoltage : Nat → Nat → Nat → Nat
/-- DESIGN CHOICE (log 23). The gating, in sixteenths, of a gallery whose draw exceeds its share, of both in mW (R575). -/
opaque gateSixteenths : Nat → Nat → Nat

end Sys2Proof.Config
end

