-- ==== Sys2Proof/Machine/State.lean ====
section
/-! DEFINITION. The state of the Lysirrun as plain data, grouped by the chapter that names it, and its value as a cold start begins. -/

namespace Sys2Proof.Machine
open Sys2Proof

/-- Why a step can stop with a fault. -/
inductive Fault where
  /-- Raised by HOST_WINDOW_READ, HOST_WINDOW_WRITE and STATUS_WINDOW_READ at an offset that no committed decoder maps (R452, R490): the address does
  not exist for the host. Safe: the machine stops where the hardware sees no access. -/
  | noSuchAddress
  deriving DecidableEq, Repr

/-- Why a step can be refused. -/
inductive Refusal where
  /-- Raised by `exec` for a command with no meaning yet. Safe: nothing is claimed about it. -/
  | notModelled (mnemonic : String)
  deriving DecidableEq, Repr

/-! ## Dispatch (01) -/

/-- Gallery modes and their codes 0 to 4 (R31). -/
inductive Mode where
  | dark
  | clear
  | cipher
  | share
  | quarantined
  deriving DecidableEq, Repr

/-- One gallery's entry of a mode plan (R36). -/
structure PlanEntry where
  mode : Mode
  gflags : Byte
  mask : W64
  deriving DecidableEq, Repr

/-- The newest accepted plan (R36 to R40). `deadline` in microseconds, `at_` its acceptance on the reference timer. -/
structure Plan where
  epoch : Nat
  deadline : Nat
  entries : Tab PlanEntry
  at_ : Nat
  deriving DecidableEq, Repr

/-- A session roll entry (R22); `modeCode` 1 Clear, 2 Cipher, 3 Share. -/
structure SessEntry where
  part : Nat
  modeCode : Nat
  flags : W16
  fp : Nat
  paramSet : Nat
  asid : Nat
  keyHome : Nat
  maxOut : Nat
  maxGal : Nat
  priority : Nat
  keyPeer : Nat
  itemsDone : W64
  beatsUsed : W64
  deriving DecidableEq, Repr

/-- A session entry whose change awaits acknowledgement (R21): `entry` none deletes it. -/
structure SessChange where
  sid : Nat
  entry : Option SessEntry
  req : Req
  deriving DecidableEq, Repr

/-- An admitted item (R19): where it came from, its 64 bytes, the session entry it was admitted under, and when. -/
structure Item where
  ring : Nat
  idx : Nat
  bytes : Bytes
  sid : Nat
  sess : SessEntry
  at_ : Nat
  deriving DecidableEq, Repr

/-- A burst of 256 bytes that has crossed from its stack and waits in a landing's buffer: whose it is, its data, its poisoned granules (R59, R61). -/
structure LandBurst where
  gal : Nat
  lan : Nat
  burst : Nat
  data : Bytes
  bad : Byte
  deriving DecidableEq, Repr

/-- A message that a full buffer keeps back in the receive buffer of a flight, with the credits it holds there (R61, R464). -/
structure StuckMsg where
  flight : Nat
  credits : List (Nat × Bool)
  msg : Msg
  deriving DecidableEq, Repr

/-- A hall's buffer that a burst enters: its DRAM channel's, its east-west or its north-south edge's. -/
inductive LandBuf where
  | dram (ch : Nat)
  | ew
  | ns
  deriving DecidableEq, Repr

/-- A line of the host that crosses a hall on its way to DRAM: its address, whether the host keeps it, the bytes and poison that it writes, none where it reads. -/
structure HostAcc where
  addr : Nat
  hold : Bool
  line : Option (Bytes × Bool)
  deriving DecidableEq, Repr

/-- The buffers of a hall's landings towards the hall (R59): 128 DRAM channels of 16 bursts; the east-west and the north-south edge and the edge to its I/O
die, of 64 KiB, which messages (`io`) and the host's lines (`host`) share. `late`: bursts that stall behind a full buffer, with their way, in order (R61); `stuck`: messages that a
full buffer keeps back. -/
structure Landing where
  dram : Tab (List LandBurst)
  ew : List LandBurst
  ns : List LandBurst
  io : List (Option Nat × Msg)
  host : List HostAcc
  late : List (List (Nat × LandBuf) × LandBurst)
  stuck : List StuckMsg
  deriving DecidableEq, Repr

/-- The continuous tests of an entropy source (R285): the last sample and how often it has come in a row (0: no sample yet); of the window of 1,024 its first sample, its
samples so far, and how many of them equal the first. -/
structure Trng where
  last : Bool
  run : Nat
  first : Bool
  pos : Nat
  same : Nat
  deriving DecidableEq, Repr

/-- A hall (R14): its dispatcher, its rail and its randomness. Volts in mV, `grant` in mW, `curWin` the last 1 ms of current readings in mA,
`hotJ` since when row 1 of R584 acts on its junctions, `overJ` since when they have read above 95 °C, `junctionNow` in 1/64 °C; `rise`: the last thermal cycle lets the set point rise (R583); `tokens` tenths of a byte and when (R439); `paceAt` the last sample of its pace
monitors (R63). -/
structure HallState where
  roll : List (Nat × SessEntry)
  miss : List (Nat × Nat)
  pend : List Item
  ctl : List Item
  halted : Option Nat
  heldSince : Option Nat
  holds : Nat
  process : W32
  rng : Nat
  trng : Trng
  rngFails : List Nat
  rngCount : Nat
  setPoint : Nat
  grant : Nat
  curWin : List Nat
  riseAt : Nat
  thermal : Nat
  trips : Nat
  hotJ : Option Nat
  overJ : Option Nat
  rise : Bool
  junctionNow : Int
  tripped : Bool
  deepRet : Tab Bool
  tokens : Tab (Option (Int × Nat))
  railLimit : Bool
  railOn : Bool
  land : Landing
  paceAt : Option Nat
  deriving DecidableEq, Repr

/-! ## Lanterns (03 to 06, 11 to 14) -/

/-- What a thread is blocked on (R68). `queue`: its number, + 8 for a push that enters the queues of all 64 lanterns. -/
inductive Wait where
  | flag (n : Nat) (v : W32)
  | barrier (b : Nat)
  | slotFull (word : Nat)
  | slotEmpty (word : Nat)
  | queue (q : Nat)
  | line (n : Nat)
  | fence
  deriving DecidableEq, Repr

inductive ThrState where
  | idle
  | ready
  | blocked (w : Wait)
  | ended
  deriving DecidableEq, Repr

/-- A thread's context (R105); `pc` is a byte offset in the code section. -/
structure Thread where
  st : ThrState
  pc : Nat
  x : Tab W64
  f : Tab W32
  v : Tab V256
  since : Nat
  deriving DecidableEq, Repr

/-- An entry of an array queue: a descriptor with the drain number assigned at the push (R123), or a macro call (R129) with the number of
entries that had been pushed to each other queue (`marks` at 4 * lantern + queue - 1). -/
inductive AEntry where
  | desc (bytes : Bytes) (seq : W16) (gang : Bool)
  | call (num : Nat) (block : Bytes) (addr : Nat) (flag : Option Nat) (marks : List Nat)
  deriving DecidableEq, Repr

/-- A slot of a scratchpad (64 bytes) or of the gallery store (512 bytes) (R115). -/
structure Slot where
  store : Bool
  n : Nat
  deriving DecidableEq, Repr

/-- A descriptor that has started and written, until ENGINE_DESCRIPTOR_END: slots to set full, slots to set empty (take), sealed
slots to consume (R280), the completion flag (R75), its last beat where beats are counted, and whether it draws randomness (R293). -/
structure Run where
  op : Nat
  draws : Bool
  full : List Slot
  take : List Slot
  consume : List Slot
  flag : Option Nat
  till : Nat
  deriving DecidableEq, Repr

/-- State of a stream burst (R404 to R406, R439). -/
inductive BurstState where
  | credit
  | held
  | waits
  | issued
  | done
  deriving DecidableEq, Repr

/-- A piece of an element that a burst moves: the element's place in iteration order, its bit address on chip, its bit address in space 2, its width; a piece without an
on-chip side carries the fill value. -/
structure Piece where
  n : Nat
  near : Option Nat
  far : Nat
  w : Nat
  v : Nat
  deriving DecidableEq, Repr

/-- A burst of a stream descriptor: 256 aligned bytes of DRAM, the data of one message of a peer (R475), or (len 0) fills alone; its slots. -/
structure Burst where
  va : Nat
  len : Nat
  els : List Piece
  slots : List Nat
  st : BurstState
  deriving DecidableEq, Repr

/-- A started stream descriptor (R403 to R408). `seen`: slots granted, or seen full; `once`: statuses already recorded. -/
structure StrRun where
  write : Bool
  store : Bool
  peer : Nat
  asid : Nat
  bursts : List Burst
  maxOut : Nat
  overwrite : Bool
  seen : List Nat
  take : Bool
  once : List Nat
  flag : Option Nat
  op : Nat
  deriving DecidableEq, Repr

/-- A weight segment (R135): element codes, scale bytes and escapes (256 + value) at k * 8 + n, poison at block * 8 + n. -/
structure Seg where
  valid : Bool
  fmt : Nat
  k : Nat
  w : Tab Nat
  sc : Tab Nat
  esc : Tab Nat
  poi : Tab Bool
  deriving DecidableEq, Repr

/-- What a bank latches (R182): moduli as (q, qinv16), in entry order. -/
structure Latch where
  fmt : Nat
  mtab : Nat
  msel : Nat
  gang : Bool
  moduli : List (Nat × Nat)
  deriving DecidableEq, Repr

/-- A drain (R81, R82): its number, its first beat, the 1,024 words and the poison of its 128 granules. -/
structure Drain where
  seq : W16
  at_ : Nat
  data : List W32
  poi : List Bool
  deriving DecidableEq, Repr

/-- A sliver (R135, R136): segments, accumulators at bank * 1024 + m * 8 + n, latches, the beats of R151 and the drains of the
task, newest first (R80). -/
structure Arr where
  segs : Tab Seg
  acc : Tab W32
  accP : Tab Bool
  latch : Tab (Option Latch)
  lastSeg : Nat
  lastStart : Nat
  runEnd : Nat
  segUse : Tab Nat
  segLoad : Tab Nat
  bankRow : Tab Nat
  bankDrain : Tab Nat
  drainEnd : Nat
  drains : List Drain
  deriving DecidableEq, Repr

/-- Counters of the control core, the array and the vector engine (R133, R163, R320). -/
structure LanCntA where
  skips : Nat
  skipRec : Nat
  skipSeen : List (Nat × Nat)
  accInf : Nat
  accNan : Nat
  escOvf : Nat
  satBlocks : Nat
  escBad : Nat
  ternRsv : Nat
  arrSkips : Nat
  arrRec : Nat
  vecSat : Nat
  vecNf : Nat
  vecEscOvf : Nat
  vecOob : Nat
  vecPoi : Nat
  vecSkips : Nat
  vecRec : Nat
  deriving DecidableEq, Repr

/-- Counters of the special-function, layout and stream units (R345, R380, R411). -/
structure LanCntB where
  sfuOvf : Nat
  sfuNan : Nat
  sfuEmpty : Nat
  sfuPos : Nat
  sfuPoi : Nat
  sfuSkips : Nat
  sfuRec : Nat
  lmOobR : Nat
  lmOobW : Nat
  lmXlate : Nat
  lmSkips : Nat
  lmPoi : Nat
  lmRec : Nat
  strBursts : Nat
  strOob : Nat
  strPoi : Nat
  strXlate : Nat
  strSkips : Nat
  strRec : Nat
  deriving DecidableEq, Repr

/-- A lantern (R66 to R86): threads, flags, queues, engines, scratchpad bytes with slot tags and poison granules. `heads`: since when the
head of queue q (R72) stands there with its engine free (R89); `vecEnd`: the beat in which the vector engine is free after its last ring read (R83), `ringUse`: for a ring
entry, the beat from which a drain no longer changes a read of it that is computed (R86); `pushes`: entries pushed to queue q in the task (R129). -/
structure Lantern where
  th : Tab Thread
  flags : Tab W32
  drainSeq : W16
  qa : List AEntry
  qv : List Bytes
  qs : List Bytes
  ql : List Bytes
  qt : List Bytes
  ra : List Run
  rv : Option Run
  rs : Option Run
  rl : Option Run
  str : Option StrRun
  vecEnd : Nat
  ringUse : Tab Nat
  sp : Tab Byte
  spTag : Tab Bool
  spPoi : Tab Bool
  arr : Arr
  icache : List Nat
  fetching : List Nat
  heads : Tab Nat
  pushes : Tab Nat
  ca : LanCntA
  cb : LanCntB
  deriving DecidableEq, Repr

/-! ## Galleries (01, 03, 08, 09, 14, 15, 22) -/

/-- A task on a gallery (R38, R70, R71). -/
structure Task where
  item : Item
  epoch : Nat
  update : Bool
  codeSize : Nat
  codeBase : Nat
  named : List (Nat × Nat)
  counts : List Nat
  first : Option Nat
  abort : Option Nat
  recs : Nat
  at_ : Nat
  deriving DecidableEq, Repr

/-- A lantern map entry, GAL_LMAP (R94). -/
structure LMap where
  phys : Nat
  valid : Bool
  inc : W16
  deriving DecidableEq, Repr

/-- A physical lantern's fate (R606 to R610). `asSpare`: readmitted, a spare from then on. `since`: the `seq` of the first record
that can concern it where it serves now (R593). -/
structure Phys where
  dead : Bool
  inc : W16
  lastLogical : Nat
  stale : Bool
  spoke : Option Nat
  reheld : Bool
  asSpare : Bool
  gateOff : Bool
  testing : Option Req
  since : Nat
  deriving DecidableEq, Repr

/-- A key stream of a taper (R236): its blocks as (part, limb, digit, component) in order, `blocks` for each position; the next block whose
header, and the next whose payload (of a peer: chunk) comes; of a peer, the positions asked for, the tag of its requests and the flight they leave by; since when
it waits. -/
structure Stream where
  galois : Nat
  level : Nat
  fp : Nat
  part : Nat
  asid : Nat
  image : Nat
  seeded : Bool
  pos : List (Nat × Nat × Nat × Nat)
  blocks : Nat
  hdr : Nat
  pay : Nat
  chunk : Nat
  peer : Nat
  asked : Nat
  tag : W16
  via : Nat
  since : Nat
  deriving DecidableEq, Repr

/-- One member of a macro that takes part (R252, R256): its index, header addresses, the headers copied at the start (R212), a poisoned source (R213),
its result's level, scale, form and number of polynomials. -/
structure Member where
  idx : Nat
  dst : List Nat
  dstHdr : List Bytes
  srcHdr : List Bytes
  poison : Bool
  level : Nat
  scale : Nat
  form : Nat
  ncomp : Nat
  deriving DecidableEq, Repr

/-- The macro that owns the gallery (R129): key words received by (galois, digit, limb, 4 * component + part); `wanted`: streams still to be opened, as
(galois, level); `ring`: pairs of the key ring that it has filled and not released; the status of its first failing member (R256); the noise width (R292) and the slice
of the work area, its address and size (R254), in force when it started. -/
structure MacroRun where
  num : Nat
  addr : Nat
  flag : Option Nat
  members : List Member
  gals : List Nat
  keys : List (Nat × Nat × Nat × Nat × List W32)
  keyPoison : Bool
  wanted : List (Nat × Nat)
  ring : List Nat
  failed : Option Nat
  sigma : Nat
  work : Nat × Nat
  deriving DecidableEq, Repr

/-- A saved sponge of the expander (R234, R236): of a stream, by its tag, after part p of digit j and limb i: its state and how many words of its block are used. -/
structure Sponge where
  tag : W16
  part : Nat
  digit : Nat
  limb : Nat
  words : List W64
  used : Nat
  deriving DecidableEq, Repr

/-- Where pass two of an update job stands (R421, R426): the clip factor, the rounding seed, the next block or row of the list, the last row that was accepted, and
whether a poisoned block has been recorded. -/
structure UpdPos where
  clip : W32
  seed : Option W64
  next : Nat
  last : Int
  poisoned : Bool
  deriving DecidableEq, Repr

/-- An update job (R413): the 256-byte block, its address, pass two once it has begun, and whether its first translation fault is recorded. -/
structure UpdJob where
  block : Bytes
  addr : Nat
  pass : Option UpdPos
  faulted : Bool
  deriving DecidableEq, Repr

/-- Gallery counters (R217, R247, R273, R429). -/
structure GalCnt where
  exhausted : Nat
  aborted : Nat
  poisoned : Nat
  ctRec : Nat
  pairs : Nat
  stops : Nat
  tprRec : Nat
  members : Nat
  args : Nat
  skew : Nat
  macRec : Nat
  updBlocks : Nat
  updSat : Nat
  updNf : Nat
  updOob : Nat
  updOrder : Nat
  updPoi : Nat
  updRec : Nat
  deriving DecidableEq, Repr

/-- Repair state of the gallery's memories (R399 to R401); counts by line (a scratchpad line by its physical lantern), spares by bank. `ecc`:
granules whose multi-bit error has been recorded (R387). -/
structure Repair where
  corrected : Nat
  lines : Tab Nat
  spare : Tab Nat
  noSpare : List Nat
  dying : List Nat
  ecc : List Nat
  wickUsed : Tab Bool
  banks : List Bank
  deriving DecidableEq, Repr

/-- An outstanding get or put of a gallery (R475, R477). -/
structure Tx where
  tag : W16
  lan : Nat
  burst : Nat
  write : Bool
  since : Nat
  dev : Nat
  deriving DecidableEq, Repr

/-- A gallery (R31 to R43). `qEpoch`: the plan in force when it was quarantined by fault (R35). -/
structure Gallery where
  entry : PlanEntry
  epoch : Nat
  qEpoch : Nat
  mode : Mode
  changing : Bool
  powerWait : Bool
  qFault : Bool
  qTestFail : Bool
  forced : Bool
  task : Option Task
  last : Option (Nat × Mode)
  lastKs : Option (Nat × Nat)
  run : Nat
  gating : Nat
  overSince : Option Nat
  overShare : Bool
  progress : Nat
  taskSeq : Nat
  lan : Tab Lantern
  mem : Tab Byte
  tag : Tab Bool
  poi : Tab Bool
  arrivals : Tab (List (Nat × Nat))
  graph : Bytes
  deriving DecidableEq, Repr

/-- An entry of a translation cache (R359, R360): a page of an address space; `rights` bit 0 read, bit 1 write. -/
structure TlbEntry where
  asid : Nat
  va : Nat
  pa : Nat
  size : Nat
  rights : Nat
  deriving DecidableEq, Repr

/-- A gallery's CTR_DRBG (R289): is a reseed due, the key, the value V, the requests since the last seeding. -/
structure Drbg where
  due : Bool
  key : BitVec 256
  v : BitVec 128
  reqs : Nat
  deriving DecidableEq, Repr

/-- The rest of a gallery: lantern map, translation cache, taper, macro, update job, counters. `strNext`: the lantern whose turn it is (R406);
`heldBy`: units, by the model's numbers, whose next burst the regulator holds back, and the bursts left of their operation (R439); `sponges`: the sponge state store, newest first (R234). -/
structure GalleryX where
  lmap : Tab LMap
  phys : Tab Phys
  tlb : List TlbEntry
  streams : List Stream
  mac : Option MacroRun
  upd : Option UpdJob
  cnt : GalCnt
  rep : Repair
  refused : Nat
  drbg : Drbg
  sigma : Option W32
  pace : W32
  paceWin : List (List W32)
  junction : Tab Int
  txs : List Tx
  late : List (W16 × Nat)
  nextTag : W16
  strNext : Nat
  heldBy : List (Nat × Nat)
  sponges : List Sponge
  deriving DecidableEq, Repr

/-! ## Memory, maps, registrations (04, 07, 08, 13, 16) -/

/-- A mapped page (R356). -/
structure Page where
  va : Nat
  pa : Nat
  size : Nat
  rd : Bool
  wr : Bool
  deriving DecidableEq, Repr

/-- An address space: its owner and its pages (R357). -/
structure Space where
  owner : Nat
  pages : List Page
  deriving DecidableEq, Repr

/-- A registered parameter set (R199, R200). -/
structure PSet where
  part : Nat
  margin : Nat
  enc : Bytes
  below : Bool
  ready : Bool
  at_ : Nat
  req : Req
  deriving DecidableEq, Repr

/-- A registered key set (R221, R224). -/
structure KSet where
  fp : Nat
  ps : Nat
  part : Nat
  seeded : Bool
  dirCount : Nat
  seed : Bytes
  dirAddr : Nat
  opened : Nat
  stopped : Nat
  deriving DecidableEq, Repr

/-- A loaded module (R97 to R101). -/
structure Module where
  handle : Nat
  part : Nat
  container : Bytes
  base : Nat
  deriving DecidableEq, Repr

/-- A translation in progress (R101), with what its answer needs. -/
structure Translation where
  mod : Module
  sess : Nat
  seq : Nat
  at_ : Nat
  deriving DecidableEq, Repr

/-- A stack (R442 to R449). By channel: the transfer being retried and how often, and the times of failed transfers; by row and by bank (of a
channel): corrected errors and spare rows. `hotSince`: above 88 °C (R584). -/
structure StackState where
  band : Nat
  hot : Int
  hotSince : Option Nat
  corrected : Nat
  bad : Nat
  lost : W32
  spare : Nat
  retries : Tab (Nat × Nat)
  fails : Tab (List Nat)
  rows : Tab Nat
  bankSpare : Tab Nat
  deriving DecidableEq, Repr

/-- DRAM and what the lamplighter keeps about it. -/
structure Dram where
  mem : Tab Byte
  poi : Tab Bool
  stk : Tab StackState
  spaces : Tab (Option Space)
  mapWait : List (Req × List (Nat × Nat × Nat))
  psets : Tab (Option PSet)
  psFail : Nat
  ksets : List KSet
  modules : List Module
  nextHandle : Nat
  translating : Option Translation
  nextBase : Nat
  deriving DecidableEq, Repr

/-! ## Flights (17) -/

/-- A data tread that waits to be sent (R458, R464): its channel, where it came from (0: this device, else flight + 1), the credit that its
buffer slot gives back, its flags, its payload, the item that its departure completes (R501), and the halls that it crosses on its way from West to East:
1 for halls 0 and 1, 2 for halls 2 and 3 (R470). -/
structure WTread where
  vc : Nat
  src : Nat
  pool : Bool
  som : Bool
  eom : Bool
  abort : Bool
  data : Bytes
  note : Option (Nat × Nat × Nat)
  cross : Nat
  deriving DecidableEq, Repr

/-- A data tread in the retry buffer (R460). -/
structure RTread where
  seq : BitVec 12
  t : WTread
  at_ : Nat
  deriving DecidableEq, Repr

/-- A flight (R457 to R486). `lock`: the source that holds a channel in the middle of a message (its number + 1); `fwd`: where the message in
progress on an incoming channel goes (flight, or 36 to be dropped), its payload bytes to come and its crossing. -/
structure FlightState where
  st : Nat
  narrow : Bool
  lanes : Byte
  retrains : Nat
  neighbour : W16
  txSeq : BitVec 12
  retry : List RTread
  resent : Nat
  resentOf : BitVec 12
  waiting : List WTread
  lock : Tab Nat
  fwd : Tab (Option (Nat × Nat × Nat))
  cred : Tab Nat
  pool : Nat
  rxSeq : BitVec 12
  nacked : Bool
  ackDue : Bool
  gotAny : Bool
  creditDue : List (Nat × Bool)
  asm : Tab Bytes
  asmCred : Tab (List Bool)
  times : List Nat
  training : Bool
  stall : Tab (Option Nat)
  stalled : Tab Bool
  ctr : Tab Nat
  rxPool : Nat
  deriving DecidableEq, Repr

/-- A barrier at its root (R482). -/
structure Barrier where
  gen : W32
  len : Nat
  count : Nat
  devs : List Nat
  deriving DecidableEq, Repr

/-- The flights, their agents and the control messages. `loop`: messages of this device to itself that the I/O dies still have to deliver (R469); `tlb`: what the
translation cache of the agent of each I/O die holds, as a gallery's (R472). -/
structure Net where
  fl : Tab FlightState
  sig : Tab W64
  bar : Tab Barrier
  notices : Tab Nat
  refusals : Nat
  dropped : Nat
  late : Nat
  loop : List Msg
  parked : List StuckMsg
  tlb : Tab (List TlbEntry)
  deriving DecidableEq, Repr

/-! ## CXL (18) -/

/-- An item that a hall's dispatcher has read and not admitted (R18, R497): the hall, its index, its 64 bytes. -/
structure ReadItem where
  hall : Nat
  idx : Nat
  bytes : Bytes
  deriving DecidableEq, Repr

/-- A work ring (R491, R494). `items`: items read and not completed; `read`: items read and not admitted. `gen`: how often the ring has started anew since it last held none (log 107). -/
structure Ring where
  base : Nat
  logLen : Nat
  loc : Nat
  hall : Nat
  enable : Bool
  msix : Nat
  part : Option Nat
  head : W32
  tail : W32
  st : Nat
  err : Nat
  read : List ReadItem
  items : List Nat
  gen : Nat
  deriving DecidableEq, Repr

/-- A completion record (R503). -/
structure Completion where
  tag : W64
  status : W16
  gallery : Byte
  phase : Byte
  ring : W16
  records : W16
  deriving DecidableEq, Repr

/-- An HDM decoder (R490, R505). -/
structure Decoder where
  base : Nat
  size : Nat
  committed : Bool
  deriving DecidableEq, Repr

/-- The port. `ideIo`, `ideMem`: are keys of CXL.io's selective streams, of CXL.cachemem's IDE and its mode, in force, and the host lines (address, bytes, poison) that containment mode holds (R487, R510); `regs`: component and device registers that
software has written, by offset / 4 (R489); `msixTab`: words of the MSI-X table that it has written. `winHeld`, `filter`: lines of the status window and of DRAM that the host holds; `snoops`: those awaiting an answer (line, since when,
recorded); `tsp`: by partition, the session of the guest that has locked it; `spdmSess`: secured sessions, true once finished. -/
structure Cxl where
  up : Bool
  cxl : Bool
  dec0 : Decoder
  dec1 : Decoder
  hdmBase : Nat
  hdmSize : Nat
  winHeld : List Nat
  winOld : Tab (Option Bytes)
  filter : List Nat
  snoops : List (Nat × Nat × Bool)
  rings : Tab Ring
  slots : Tab Completion
  doorbells : Nat
  failLog : List Bytes
  fatalLog : List Bytes
  failLost : Nat
  fatalLost : Nat
  ideIo : Bool
  ideMem : Option IdeMode
  ideHeld : List (Nat × Bytes × Bool)
  regs : Tab (Option W32)
  tsp : Tab (Option Nat)
  msixTab : Tab (Option W32)
  msixPend : Tab Bool
  spdmOk : Bool
  spdmSess : List (Nat × Bool)
  deriving DecidableEq, Repr

/-! ## Haldub, journal, time, calibration (19) -/

/-- A Haldub session (R517 to R522); `role`: 1 Operator, 2 Owner, 3 Host driver (R549). -/
structure HSess where
  port : Port
  cred : Nat
  role : Nat
  mask : W64
  c2d : Bytes
  d2c : Bytes
  seq : Nat
  kept : Bytes
  stage : Option (Nat × Nat × Bytes)
  snap : Option (Nat × Bytes)
  last : Nat
  deriving DecidableEq, Repr

/-- An open between its frames (R521). -/
structure Opening where
  port : Port
  sid : Nat
  cred : Nat
  open1 : Bytes
  open2 : Bytes
  c2d : Bytes
  d2c : Bytes
  deriving DecidableEq, Repr

/-- A journal entry (R535). -/
structure JEntry where
  jseq : Nat
  time : Nat
  tsrc : Nat
  origin : Nat
  kind : Nat
  vflags : Nat
  index : Nat
  sub : Nat
  part : Nat
  cred : Nat
  sess : Nat
  aux : Nat
  old : Bytes
  new : Bytes
  chain : Bytes
  deriving DecidableEq, Repr

/-- The calibration set (R541 to R544): five items in SRAM and in flash; a commit in progress: who asked, what it programs. -/
structure Calibration where
  items : List Bytes
  flash : List Bytes
  flashOk : Bool
  factory : Bool
  changed : Bool
  defaults : Bool
  committing : Option (Req × List Bytes)
  deriving DecidableEq, Repr

/-- Duplicate address detection of the field port's address (R515): free to use, being checked since a time, taken by another node. -/
inductive Dad where
  | unique
  | checking (since : Nat)
  | duplicate
  deriving DecidableEq, Repr

/-- The dictionary, its sessions, the journal (`jgap`: numbers that the next entry passes over, R538), TIME64's offset at `slewAt` and where
it slews to (R533). `serving`: the write frame that is being applied, with the key of its response;
`waitFrames`: those whose responses wait for their changes; `discover`: numbers of the discover frames not yet answered; `anonStage`, `anonSnap`: what requests without a session have staged, and the value
that their read goes on from (R519). -/
structure Haldub where
  dict : Tab (Option Bytes)
  sess : Tab (Option HSess)
  openings : List Opening
  serving : Option (Bytes × Bytes)
  waitFrames : List (Req × Bytes × Bytes)
  anonStage : List (Port × Nat × Nat × Bytes)
  anonSnap : List (Port × Nat × Bytes)
  nextSess : Nat
  discover : List Nat
  fieldUp : Bool
  dad : Dad
  dropped : Nat
  accepted : Nat
  jram : List JEntry
  jflash : List JEntry
  jlast : Option JEntry
  jgap : Nat
  jbusy : Nat
  cal : Calibration
  offset : Int
  slewTo : Int
  slewAt : Nat
  ptp : Bool
  ptm : Bool
  deriving DecidableEq, Repr

/-! ## Lamplighter (20) -/

/-- The fuse bank (R548), with the unique device secret `uds`, which no interface reads, and the boot ROM's digest `rom`. -/
structure Fuses where
  hx : Bool
  serial : Bytes
  eui48 : Bytes
  keyHash : List Bytes
  keyRevoked : Nat
  secVer : Nat
  anchors : List Bytes
  anchorRevoked : Nat
  life : Nat
  calHash : Bytes
  cert : Bytes
  uds : Bytes
  rom : Bytes
  deriving DecidableEq, Repr

/-- The firmware image in flash and the one that runs, as R562 lays them out (none: the image of the factory, log 19), and an update: the bytes staged, the
total expected, its progress (0x9111:01), the last failure, who asked. -/
structure FwState where
  flash : Option Bytes
  stage : Bytes
  total : Nat
  st : Nat
  fail : Nat
  running : Option Bytes
  req : Req
  deriving DecidableEq, Repr

/-- A loaded curve (R557). -/
structure Curve where
  p : Nat
  a : Nat
  b : Nat
  gx : Nat
  gy : Nat
  n : Nat
  deriving DecidableEq, Repr

/-- A job of the P-256 engine (R554): its number, its descriptor's address, the outcome once computed. -/
structure PkeJob where
  seq : Byte
  addr : Nat
  done : Option (Nat × Bytes × Nat)
  curve : Option (Nat × Curve)
  deriving DecidableEq, Repr

structure Lamp where
  st : Nat
  locked : Bool
  calDefault : Bool
  wdTrips : Nat
  fwVersion : Nat
  fuses : Fuses
  creds : Tab Bytes
  fw : FwState
  submitLo : W32
  jobs : List PkeJob
  done : List (W16 × Byte)
  nextSeq : Byte
  overrun : Bool
  curves : Tab (Option Curve)
  pkeReason : Nat
  pkeRefused : Nat
  pkeDone : Nat
  eccCount : Nat
  firstClaim : Bool
  deriving DecidableEq, Repr

/-! ## Power (21) -/

/-- The power arbiter (21): package draw of the last 1 ms in mW, newest first; allowance in mW; temperatures in 1/64 °C with their offsets. `granting`: power-ups granted since the last measured draw
(R579). `ran`: when each periodic step
last came, by its number: 0 the arbiter's cycle (R572), 1 + h a hall's thermal cycle (R583), 8 + k a stack's reading (R442), 32 + g a gallery's lift (R575), 128 on the
sensors' checks in the order of their offsets (R588). -/
structure Power where
  drawWin : List Nat
  restWin : List Nat
  allowance : Nat
  floorSince : Option Nat
  floorSaid : Bool
  dramT : Tab Int
  iodT : Tab Int
  granting : Nat
  excluded : List Sensor
  ran : Tab (Option Nat)
  deriving DecidableEq, Repr

/-! ## Faults (22) -/

/-- An error record (R589); `class` is its byte 0x1A. -/
structure FRec where
  seq : Nat
  reftime : Nat
  time : Nat
  status : Nat
  cls : Nat
  unit : Nat
  hall : Nat
  gallery : Nat
  index : Nat
  part : Nat
  sess : Option Nat
  ring : Nat
  item : Nat
  detail0 : W32
  detail1 : W32
  cause : W32
  tag : W64
  deriving DecidableEq, Repr

/-- An entry of the on-die ring (R602). -/
structure OnDie where
  r : FRec
  copied : Bool
  deriving DecidableEq, Repr

structure Faults where
  next : Nat
  die : Tab (Option OnDie)
  mem : List FRec
  todo : List FRec
  ack : Nat
  open_ : List FRec
  lost : Nat
  lostSince : Nat
  lostRec : Option Nat
  counts : Tab Nat
  seqHi : W32
  idx : BitVec 6
  deriving DecidableEq, Repr

/-! ## Top level (02, 23, 24) -/

/-- How far the device has come (R600, R564, R615). -/
inductive Stage where
  | off
  | boot
  | recovery
  | ready
  | held
  deriving DecidableEq, Repr

/-- What leaves the device at its boundary: the model's own record of outputs (log 18). -/
inductive Output where
  | status (q : Req) (st : Nat)
  | frame (p : Port) (v : Bytes)
  | mailbox (code : Nat) (v : Bytes)
  | mmio (v : W32)
  | line (v : Bytes) (poison : Bool)
  | msix (n : Nat)
  | snoop (line : Nat)
  | tread (f : Nat) (v : Bytes)
  | event (log : EventLog) (v : Bytes)
  | doe (kind : Nat) (v : Bytes)
  | icmp (v : Bytes)
  | value (q : Req) (v : Bytes)
  deriving DecidableEq, Repr

structure Clock where
  now : Nat
  hiLatch : W32
  shadow : Tab Nat
  deriving DecidableEq, Repr

structure Pins where
  pwrgood : Bool
  perst : Bool
  thermtrip : Bool
  straps : Byte
  deriving DecidableEq, Repr

/-- How a start stands: `cold` until the first ready; `done`: steps 2 to 9 carried out; the cause (R621), its time, the last ready's length, the last failure. -/
structure Boot where
  stage : Stage
  cold : Bool
  done : Bool
  wiping : Bool
  cause : Nat
  causeAt : Nat
  readyUs : Nat
  fail : Nat
  logged : Bool
  deriving DecidableEq, Repr

/-- The whole machine. `pending` is the queue of commands, oldest first. -/
structure State where
  pending : List Instr
  free : Nat
  out : List Output
  pins : Pins
  boot : Boot
  clock : Clock
  plan : Plan
  roll : Tab (Option SessEntry)
  changes : List SessChange
  hall : Tab HallState
  gal : Tab Gallery
  galx : Tab GalleryX
  dram : Dram
  net : Net
  cxl : Cxl
  hal : Haldub
  lamp : Lamp
  power : Power
  fault : Faults
  deriving DecidableEq, Repr

/-! ## Reset values -/

/-- Dark, no flags, no partition: every entry of plan 0 (R618). -/
def PlanEntry.zero : PlanEntry := { mode := .dark, gflags := 0, mask := 0 }

/-- Empty buffers. -/
def Landing.zero : Landing := { dram := [], ew := [], ns := [], io := [], host := [], late := [], stuck := [] }

/-- No sample yet. -/
def Trng.zero : Trng := { last := false, run := 0, first := false, pos := 0, same := 0 }

/-- A hall as a start finds it: set point 720 mV (R580), thermal limit at the 800 mV ceiling's default, lists cleared (R393). -/
def HallState.zero : HallState :=
  { roll := [], miss := [], pend := [], ctl := [], halted := none, heldSince := none, holds := 0, process := 0, rng := 0, trng := Trng.zero, rngFails := [],
    rngCount := 0, setPoint := 720, grant := 0, curWin := [], riseAt := 0, thermal := 800, trips := 0, hotJ := none, overJ := none, rise := false, junctionNow := 0, tripped := false,
    deepRet := [], tokens := [], railLimit := false, railOn := false, land := Landing.zero, paceAt := none }

def Thread.zero : Thread := { st := .idle, pc := 0, x := [], f := [], v := [], since := 0 }

def Seg.zero : Seg := { valid := false, fmt := 0, k := 0, w := [], sc := [], esc := [], poi := [] }

/-- Every segment invalid, every accumulator +0.0, no latch, ring tags not valid (R137, R182, R70). -/
def Arr.zero : Arr :=
  { segs := [], acc := [], accP := [], latch := [], lastSeg := 0, lastStart := 0, runEnd := 0, segUse := [], segLoad := [], bankRow := [],
    bankDrain := [], drainEnd := 0, drains := [] }

def LanCntA.zero : LanCntA :=
  { skips := 0, skipRec := 0, skipSeen := [], accInf := 0, accNan := 0, escOvf := 0, satBlocks := 0, escBad := 0, ternRsv := 0,
    arrSkips := 0, arrRec := 0, vecSat := 0, vecNf := 0, vecEscOvf := 0, vecOob := 0, vecPoi := 0, vecSkips := 0, vecRec := 0 }

def LanCntB.zero : LanCntB :=
  { sfuOvf := 0, sfuNan := 0, sfuEmpty := 0, sfuPos := 0, sfuPoi := 0, sfuSkips := 0, sfuRec := 0, lmOobR := 0, lmOobW := 0, lmXlate := 0,
    lmSkips := 0, lmPoi := 0, lmRec := 0, strBursts := 0, strOob := 0, strPoi := 0, strXlate := 0, strSkips := 0, strRec := 0 }

def Lantern.zero : Lantern :=
  { th := [], flags := [], drainSeq := 0, qa := [], qv := [], qs := [], ql := [], qt := [], ra := [], rv := none, rs := none, rl := none,
    str := none, vecEnd := 0, ringUse := [], sp := [], spTag := [], spPoi := [], arr := Arr.zero, icache := [], fetching := [], heads := [], pushes := [], ca := LanCntA.zero,
    cb := LanCntB.zero }

def Phys.zero : Phys :=
  { dead := false, inc := 0, lastLogical := 0, stale := false, spoke := none, reheld := false, asSpare := false, gateOff := false, testing := none, since := 0 }

def GalCnt.zero : GalCnt :=
  { exhausted := 0, aborted := 0, poisoned := 0, ctRec := 0, pairs := 0, stops := 0, tprRec := 0, members := 0, args := 0, skew := 0,
    macRec := 0, updBlocks := 0, updSat := 0, updNf := 0, updOob := 0, updOrder := 0, updPoi := 0, updRec := 0 }

def Repair.zero : Repair :=
  { corrected := 0, lines := [], spare := [], noSpare := [], dying := [], ecc := [], wickUsed := [], banks := [] }

/-- A gallery under plan 0: Dark, epoch 0, memories zero, tags empty, poison clear (R618, R391). -/
def Gallery.zero : Gallery :=
  { entry := PlanEntry.zero, epoch := 0, qEpoch := 0, mode := .dark, changing := false, powerWait := false, qFault := false, qTestFail := false,
    forced := false, task := none, last := none, lastKs := none, run := 0, gating := 16, overSince := none, overShare := false, progress := 0, taskSeq := 0,
    lan := [], mem := [], tag := [], poi := [], arrivals := [], graph := [] }

/-- Not yet seeded. -/
def Drbg.zero : Drbg := { due := true, key := 0, v := 0, reqs := 0 }

def GalleryX.zero : GalleryX :=
  { lmap := [], phys := [], tlb := [], streams := [], mac := none, upd := none, cnt := GalCnt.zero, rep := Repair.zero, refused := 0,
    drbg := Drbg.zero, sigma := none, pace := 0, paceWin := [], junction := [], txs := [], late := [], nextTag := 0, strNext := 0, heldBy := [], sponges := [] }

/-- Band 1, no lost channel (R449). -/
def StackState.zero : StackState :=
  { band := 1, hot := 0, hotSince := none, corrected := 0, bad := 0, lost := 0, spare := 0, retries := [], fails := [], rows := [], bankSpare := [] }

def Dram.zero : Dram :=
  { mem := [], poi := [], stk := [], spaces := [], mapWait := [], psets := [], psFail := 0xFF, ksets := [], modules := [], nextHandle := 1,
    translating := none, nextBase := 0 }

/-- A flight that is down (R483); at link-up it holds the credits of R464. -/
def FlightState.zero : FlightState :=
  { st := 0, narrow := false, lanes := 0, retrains := 0, neighbour := 0, txSeq := 0, retry := [], resent := 0, resentOf := 0, waiting := [], lock := [], fwd := [], cred := [],
    pool := 0, rxSeq := 0, nacked := false, ackDue := false, gotAny := false, creditDue := [], asm := [], asmCred := [], times := [], training := false,
    stall := [], stalled := [], ctr := [], rxPool := 0 }

def Barrier.zero : Barrier := { gen := 0, len := 0, count := 0, devs := [] }

def Net.zero : Net := { fl := [], sig := [], bar := [], notices := [], refusals := 0, dropped := 0, late := 0, loop := [], parked := [], tlb := [] }

def Ring.zero : Ring :=
  { base := 0, logLen := 0, loc := 0, hall := 0, enable := false, msix := 0, part := none, head := 0, tail := 0, st := 0, err := 0, read := [],
    items := [], gen := 0 }

def Completion.zero : Completion := { tag := 0, status := 0, gallery := 0, phase := 0, ring := 0, records := 0 }

def Decoder.zero : Decoder := { base := 0, size := 0, committed := false }

def Cxl.zero : Cxl :=
  { up := false, cxl := true, dec0 := Decoder.zero, dec1 := Decoder.zero, hdmBase := 0, hdmSize := 0, winHeld := [], winOld := [], filter := [], snoops := [],
    rings := [], slots := [], doorbells := 0, failLog := [], fatalLog := [], failLost := 0, fatalLost := 0, ideIo := false, ideMem := none, ideHeld := [], regs := [], tsp := [],
    msixTab := [], msixPend := [], spdmOk := false, spdmSess := [] }

/-- DESIGN CHOICE (log 19). The items of the set that the factory wrote: gains of 1.0, everything else zero. -/
def factorySet : List Bytes := [[], (List.range 192).flatMap (fun _ => [0, 0, 0x80, 0x3F])]

/-- Its SHA-256 over the 9,216 bytes of the five items. -/
def factoryHash : Bytes :=
  [0x96, 0x4B, 0x46, 0x19, 0x0C, 0x23, 0xBA, 0xCF, 0x6A, 0x81, 0xA8, 0xF8, 0xC2, 0x67, 0x48, 0x79, 0x37, 0x6E, 0x39, 0x87, 0x48, 0x93, 0x14, 0x57, 0x3E, 0x00, 0x06, 0x3C, 0x20, 0xAA, 0x35, 0x51]

/-- DESIGN CHOICE (log 19). The calibration set of a part that has just left the factory, valid. -/
def Calibration.initial : Calibration :=
  { items := factorySet, flash := factorySet, flashOk := true, factory := true, changed := false, defaults := false, committing := none }

def Haldub.zero : Haldub :=
  { dict := [], sess := [], openings := [], serving := none, waitFrames := [], anonStage := [], anonSnap := [], nextSess := 1, discover := [], fieldUp := false, dad := .unique, dropped := 0, accepted := 0, jram := [], jflash := [],
    jlast := none, jgap := 0, jbusy := 0, cal := Calibration.initial, offset := 0, slewTo := 0, slewAt := 0, ptp := false, ptm := false }

/-- DESIGN CHOICE (log 4). The fuses of a part as it leaves Tabmal: an AKL-4096-HX, Provisioned (R568), no anchor burned, security version 0;
its serial number is one character, its device secret, address and image hashes are zeros. -/
def Fuses.factory : Fuses :=
  { hx := true, serial := [0x30], eui48 := List.replicate 6 0, keyHash := [], keyRevoked := 0, secVer := 0, anchors := [], anchorRevoked := 0, life := 1,
    calHash := factoryHash, cert := [], uds := List.replicate 32 0, rom := [] }

/-- DESIGN CHOICE (log 19). The flash holds the valid image of the factory, whose bytes are not the spec's. -/
def FwState.zero : FwState :=
  { flash := none, stage := [], total := 0, st := 0, fail := 0, running := none, req := { port := .mailbox, sess := 0 } }

def Lamp.zero : Lamp :=
  { st := 0, locked := false, calDefault := false, wdTrips := 0, fwVersion := 0, fuses := Fuses.factory, creds := [], fw := FwState.zero,
    submitLo := 0, jobs := [], done := [], nextSeq := 0, overrun := false, curves := [], pkeReason := 0, pkeRefused := 0, pkeDone := 0,
    eccCount := 0, firstClaim := false }

def Power.zero : Power :=
  { drawWin := [], restWin := [], allowance := 0, floorSince := none, floorSaid := false, dramT := [], iodT := [], granting := 0, excluded := [], ran := [] }

def Faults.zero : Faults :=
  { next := 0, die := [], mem := [], todo := [], ack := 0, open_ := [], lost := 0, lostSince := 0, lostRec := none, counts := [], seqHi := 0,
    idx := 0 }

/-- The machine as a cold start begins (R615 step 1): `PWRGOOD` has risen, the reference timer is 0, the boot ROM runs, the DRAM wipe is
under way, plan 0 stands, nothing is registered and no command waits. -/
def State.reset : State :=
  { pending := [], free := 0, out := [],
    pins := { pwrgood := true, perst := false, thermtrip := false, straps := 0 },
    boot := { stage := .boot, cold := true, done := false, wiping := true, cause := 1, causeAt := 0, readyUs := 0, fail := 0, logged := false },
    clock := { now := 0, hiLatch := 0, shadow := [] },
    plan := { epoch := 0, deadline := 5000, entries := [], at_ := 0 },
    roll := [], changes := [], hall := [], gal := [], galx := [], dram := Dram.zero, net := Net.zero, cxl := Cxl.zero, hal := Haldub.zero,
    lamp := Lamp.zero, power := Power.zero, fault := Faults.zero }

end Sys2Proof.Machine
end

