-- ==== Sys2Proof/Machine/Tab.lean ====
section
/-! DEFINITION. Sparse tables in one canonical form: reading, writing, filtering, and byte strings in them (little-endian, R8). -/

namespace Sys2Proof

/-- The value at a key; `d` is what an unlisted key reads as. -/
def Tab.get {α : Type} (d : α) (k : Nat) : Tab α → α
  | [] => d
  | (i, v) :: r => if i = k then v else Tab.get d k r

/-- Write a key, keeping the keys rising and listing no default. -/
def Tab.put {α : Type} [DecidableEq α] (d : α) (k : Nat) (v : α) : Tab α → Tab α
  | [] => if v = d then [] else [(k, v)]
  | (i, w) :: r =>
    if k < i then (if v = d then (i, w) :: r else (k, v) :: (i, w) :: r)
    else if k = i then (if v = d then r else (k, v) :: r)
    else (i, w) :: Tab.put d k v r

/-- The canonical form of a table over the default `d`, from a lower bound of its keys. -/
def Tab.wfFrom {α : Type} [DecidableEq α] (d : α) : Nat → Tab α → Bool
  | _, [] => true
  | lo, (i, v) :: r => decide (lo ≤ i) && decide (v ≠ d) && Tab.wfFrom d (i + 1) r

/-- The canonical form: keys strictly rising, no value equal to the default. -/
def Tab.wf {α : Type} [DecidableEq α] (d : α) (t : Tab α) : Bool := Tab.wfFrom d 0 t

/-- Change the value at a key. -/
def Tab.upd {α : Type} [DecidableEq α] (d : α) (k : Nat) (f : α → α) (t : Tab α) : Tab α :=
  Tab.put d k (f (Tab.get d k t)) t

/-- Drop every key that fails the test. -/
def Tab.keep {α : Type} (p : Nat → Bool) (t : Tab α) : Tab α := t.filter (fun c => p c.1)

/-- Write a run of values from a key on. -/
def Tab.puts {α : Type} [DecidableEq α] (d : α) : Nat → List α → Tab α → Tab α
  | _, [], t => t
  | k, v :: vs, t => Tab.puts d (k + 1) vs (Tab.put d k v t)

/-- Read `n` values from a key on. -/
def Tab.gets {α : Type} (d : α) (k n : Nat) (t : Tab α) : List α := (List.range n).map (fun i => Tab.get d (k + i) t)

/-- The little-endian number of a byte string. -/
def leNat : Bytes → Nat
  | [] => 0
  | b :: bs => b.toNat + 256 * leNat bs

/-- The `n` low bytes of a number, lowest first. -/
def natLe : Nat → Nat → Bytes
  | 0, _ => []
  | n + 1, v => BitVec.ofNat 8 v :: natLe n (v / 256)

/-- The big-endian number of a byte string. -/
def beNat (b : Bytes) : Nat := leNat b.reverse

/-- The `n` low bytes of a number, highest first. -/
def natBe (n v : Nat) : Bytes := (natLe n v).reverse

/-- `n` bytes of a byte string from an offset; bytes beyond its end read as 0. -/
def slice (b : Bytes) (off n : Nat) : Bytes := (List.range n).map (fun i => b.getD (off + i) 0)

/-- A little-endian field of a byte string. -/
def fld (b : Bytes) (off n : Nat) : Nat := leNat (slice b off n)

/-- Is every byte of a range 0 (a reserved range that must be 0)? -/
def zeros (b : Bytes) (off n : Nat) : Bool := (slice b off n).all (· == 0)

/-- Replace the bytes of a string from an offset on (the string keeps its length). -/
def splice (b : Bytes) (off : Nat) (v : Bytes) : Bytes :=
  (List.range b.length).map (fun i => if off ≤ i ∧ i < off + v.length then v.getD (i - off) 0 else b.getD i 0)

/-- Bit `k` of a number. -/
def nbit (v k : Nat) : Bool := Nat.testBit v k

/-- Bits [hi:lo] of a number (R8). -/
def nbits (v hi lo : Nat) : Nat := (v >>> lo) % 2 ^ (hi + 1 - lo)

/-- A counter that stops at its maximum. -/
def satAdd (max v n : Nat) : Nat := Nat.min max (v + n)

/-- ceil(a / b), and 0 for b = 0. -/
def ceilDiv (a b : Nat) : Nat := if b = 0 then 0 else (a + b - 1) / b

end Sys2Proof
end

