-- ==== Sys2Proof/Machine/Ops.lean ====
section
/-! DEFINITION. Named operations over the state: the accessors and updates of halls, galleries, lanterns and threads, the
memories, free values, outputs. -/

namespace Sys2Proof.Machine
open Sys2Proof

/-- What `exec` answers. -/
abbrev Result := Host.Outcome State Fault Refusal

namespace State

def hallAt (s : State) (h : Nat) : HallState := Tab.get .zero h s.hall
def galAt (s : State) (g : Nat) : Gallery := Tab.get .zero g s.gal
def galxAt (s : State) (g : Nat) : GalleryX := Tab.get .zero g s.galx
def lanAt (s : State) (g l : Nat) : Lantern := Tab.get .zero l (s.galAt g).lan
def thAt (s : State) (g l t : Nat) : Thread := Tab.get .zero t (s.lanAt g l).th
def flightAt (s : State) (f : Nat) : FlightState := Tab.get .zero f s.net.fl
def stackAt (s : State) (k : Nat) : StackState := Tab.get .zero k s.dram.stk
def ringAt (s : State) (r : Nat) : Ring := Tab.get .zero r s.cxl.rings
def sessAt (s : State) (sid : Nat) : Option SessEntry := Tab.get none sid s.roll

def updHall (s : State) (h : Nat) (f : HallState → HallState) : State := { s with hall := Tab.upd .zero h f s.hall }
def updGal (s : State) (g : Nat) (f : Gallery → Gallery) : State := { s with gal := Tab.upd .zero g f s.gal }
def updGalx (s : State) (g : Nat) (f : GalleryX → GalleryX) : State := { s with galx := Tab.upd .zero g f s.galx }
def updLan (s : State) (g l : Nat) (f : Lantern → Lantern) : State :=
  s.updGal g (fun y => { y with lan := Tab.upd .zero l f y.lan })
def updTh (s : State) (g l t : Nat) (f : Thread → Thread) : State :=
  s.updLan g l (fun y => { y with th := Tab.upd .zero t f y.th })
def updFlight (s : State) (k : Nat) (f : FlightState → FlightState) : State :=
  { s with net := { s.net with fl := Tab.upd .zero k f s.net.fl } }
def updStack (s : State) (k : Nat) (f : StackState → StackState) : State :=
  { s with dram := { s.dram with stk := Tab.upd .zero k f s.dram.stk } }
def updRing (s : State) (r : Nat) (f : Ring → Ring) : State := { s with cxl := { s.cxl with rings := Tab.upd .zero r f s.cxl.rings } }

/-- Append an output (log 18). -/
def emit (s : State) (o : Output) : State := { s with out := s.out ++ [o] }

/-- PRESUMED (log 85). Word k of the MSI-X table (R489): four of a vector, address low and high, data, control; the mask of an untouched vector is set, as PCIe resets it. -/
def msixWord (s : State) (k : Nat) : W32 := (Tab.get none k s.cxl.msixTab).getD (if k % 4 = 3 then 1 else 0)

/-- Is vector n masked? -/
def msixMasked (s : State) (n : Nat) : Bool := (s.msixWord (4 * n + 3)).getLsbD 0

/-- Raise vector n: its message leaves, or, masked, it stands in the pending-bit array (R489). -/
def msix (s : State) (n : Nat) : State :=
  if s.msixMasked n then { s with cxl := { s.cxl with msixPend := Tab.put false n true s.cxl.msixPend } } else s.emit (.msix n)

/-- DESIGN CHOICE (log 8). The next free value, and the state whose counter has moved past it. -/
def fresh (s : State) : W64 × State := (Config.freeValue s.free, { s with free := s.free + 1 })

/-- `n` free bytes (log 8). -/
def freshBytes (s : State) (n : Nat) : Bytes × State :=
  ((List.range n).map (fun i => (Config.freeValue (s.free + i)).setWidth 8), { s with free := s.free + n })

/-- `n` free 32-bit words (log 8). -/
def freshWords (s : State) (n : Nat) : Words × State :=
  ((List.range n).map (fun i => (Config.freeValue (s.free + i)).setWidth 32), { s with free := s.free + n })

/-- Bytes of DRAM. An unlisted byte is 0: the wipe of R450. -/
def dramByte (s : State) (a : Nat) : Byte := Tab.get 0 a s.dram.mem
def dramRead (s : State) (a n : Nat) : Bytes := Tab.gets 0 a n s.dram.mem
def dramWrite (s : State) (a : Nat) (v : Bytes) : State := { s with dram := { s.dram with mem := Tab.puts 0 a v s.dram.mem } }

/-- The poison bits of the 32-byte granules that `n` bytes from `a` touch (R445). -/
def dramPoisoned (s : State) (a n : Nat) : Bool :=
  (List.range ((a + n + 31) / 32 - a / 32)).any (fun i => Tab.get false (a / 32 + i) s.dram.poi)

/-- Write the poison bits of the granules that `n` bytes from `a` touch (R445). -/
def dramSetPoison (s : State) (a n : Nat) (b : Bool) : State :=
  { s with dram := { s.dram with
      poi := (List.range ((a + n + 31) / 32 - a / 32)).foldl (fun t i => Tab.put false (a / 32 + i) b t) s.dram.poi } }

end State

/-- The canonical form of an addressed memory (DRAM, a scratchpad, a gallery store): addresses strictly rising, no byte 0 listed. An unlisted address
reads as 0 (log 17). -/
def Memory.wf (m : Tab Byte) : Bool := Tab.wf 0 m

/-- The hall of a gallery (R14). -/
def hallOf (g : Nat) : Nat := g / 16

/-- The chapters' register width: the low 32 bits of a number. -/
def w32 (n : Nat) : W32 := BitVec.ofNat 32 n
def w64 (n : Nat) : W64 := BitVec.ofNat 64 n

/-- A byte string of exactly `n` bytes: cut, or extended with zeros. -/
def fitBytes (n : Nat) (b : Bytes) : Bytes := (b.take n) ++ List.replicate (n - b.length) 0

end Sys2Proof.Machine
end

