-- ==== Sys2Proof/Machine/Status.lean ====
section
/-! DEFINITION. Status codes, by the names of the rules that define them. -/

namespace Sys2Proof.St

def ok : Nat := 0x0000
def skippedIllegal : Nat := 0x0101
def handoffSkew : Nat := 0x0102
def flagDeadlock : Nat := 0x0103
def flagSaturated : Nat := 0x0104
def icacheParity : Nat := 0x0105
def codePoison : Nat := 0x0106
def utierModule : Nat := 0x0110
def utierTooLarge : Nat := 0x0111
def utierVersion : Nat := 0x0112
def utierNoEntry : Nat := 0x0113
def utierNoRoom : Nat := 0x0114
def utierBusy : Nat := 0x0115
def utierNoModule : Nat := 0x0116
def arrayFormat : Nat := 0x0201
def arrayShape : Nat := 0x0202
def arrayMode : Nat := 0x0203
def arrayEscape : Nat := 0x0204
def arrayResidue : Nat := 0x0205
def arrayScale : Nat := 0x0206
def wickSpared : Nat := 0x0210
def levelExhausted : Nat := 0x0301
def scaleHeadroom : Nat := 0x0302
def ctSrcExhausted : Nat := 0x0303
def ctSrcAborted : Nat := 0x0304
def ctHeader : Nat := 0x0305
def ctRoom : Nat := 0x0306
def ctAlias : Nat := 0x0307
def ctSession : Nat := 0x0308
def ctScaleSkew : Nat := 0x0309
def modModulus : Nat := 0x0310
def modBank : Nat := 0x0311
def paramFormat : Nat := 0x0320
def paramPrime : Nat := 0x0321
def paramRoot : Nat := 0x0322
def paramSecurity : Nat := 0x0323
def paramId : Nat := 0x0324
def paramNoRoom : Nat := 0x0325
def paramBusy : Nat := 0x0326
def paramUnknown : Nat := 0x0327
def keyMismatch : Nat := 0x0401
def keyNotFound : Nat := 0x0402
def keyPoison : Nat := 0x0403
def keyPeer : Nat := 0x0404
def keyImage : Nat := 0x0405
def keysetFormat : Nat := 0x0410
def keysetParam : Nat := 0x0411
def keysetExists : Nat := 0x0412
def keysetFull : Nat := 0x0413
def keysetBusy : Nat := 0x0414
def keysetUnknown : Nat := 0x0415
def macroAborted : Nat := 0x0501
def abortedMode : Nat := 0x0502
def macroArgs : Nat := 0x0503
def rngHealth : Nat := 0x0601
def shareSealed : Nat := 0x0602
def shareSpent : Nat := 0x0603
def shareMode : Nat := 0x0604
def rngRecovered : Nat := 0x0605
def rngHalted : Nat := 0x0606
def vecOp : Nat := 0x0701
def vecType : Nat := 0x0702
def vecShape : Nat := 0x0703
def vecOverlap : Nat := 0x0704
def sfuOp : Nat := 0x0710
def sfuType : Nat := 0x0711
def sfuShape : Nat := 0x0712
def sfuOverlap : Nat := 0x0713
def sfuPosition : Nat := 0x0714
def overlap : Nat := 0x0801
def oobCounted : Nat := 0x0802
def xlate : Nat := 0x0803
def inplaceSize : Nat := 0x0804
def lmOp : Nat := 0x0810
def lmType : Nat := 0x0811
def lmShape : Nat := 0x0812
def mapFormat : Nat := 0x0820
def mapOwner : Nat := 0x0821
def mapConflict : Nat := 0x0822
def mapFull : Nat := 0x0823
def poison : Nat := 0x0901
def storeEcc : Nat := 0x0902
def rowRemapped : Nat := 0x0903
def rowNoSpare : Nat := 0x0904
def storeRepair : Nat := 0x0905
def loadPoison : Nat := 0x0906
def streamOp : Nat := 0x0910
def streamType : Nat := 0x0911
def streamShape : Nat := 0x0912
def updJob : Nat := 0x0A01
def updShape : Nat := 0x0A02
def updNonfinite : Nat := 0x0A03
def updMode : Nat := 0x0A04
def dramUe : Nat := 0x0B01
def dramLink : Nat := 0x0B02
def dramChannelLost : Nat := 0x0B03
def dramHot : Nat := 0x0B04
def dramRowRepaired : Nat := 0x0B05
def hdmRange : Nat := 0x0B10
def fltDown : Nat := 0x0C01
def fltNarrow : Nat := 0x0C02
def fltRetrain : Nat := 0x0C03
def fltTimeout : Nat := 0x0C04
def fltUnreachable : Nat := 0x0C05
def fltRefused : Nat := 0x0C06
def fltHops : Nat := 0x0C07
def fltCreditStall : Nat := 0x0C08
def fltId : Nat := 0x0C09
def fltBarrier : Nat := 0x0C0A
def fltRoute : Nat := 0x0C0B
def cxlLinkDown : Nat := 0x0D01
def cxlBiTimeout : Nat := 0x0D02
def cxlIde : Nat := 0x0D03
def cxlMode : Nat := 0x0D04
def ringConfig : Nat := 0x0D10
def ringDoorbell : Nat := 0x0D11
def ringRead : Nat := 0x0D12
def sessionUnknown : Nat := 0x0D21
def noGallery : Nat := 0x0D22
def itemFormat : Nat := 0x0D23
def itemSlot : Nat := 0x0D25
def cxlTspLocked : Nat := 0x0D30
def objUnknown : Nat := 0x0E01
def objAccess : Nat := 0x0E02
def objLength : Nat := 0x0E03
def objSegment : Nat := 0x0E04
def sessionAuth : Nat := 0x0E10
def sessionFull : Nat := 0x0E11
def sessionGone : Nat := 0x0E12
def planRefused : Nat := 0x0E21
def journalBusy : Nat := 0x0E31
def journalGone : Nat := 0x0E32
def calFlash : Nat := 0x0E40
def pkeRefused : Nat := 0x0F01
def pkeCurve : Nat := 0x0F02
def pkeFormat : Nat := 0x0F03
def pkeDma : Nat := 0x0F04
def pkeInfinity : Nat := 0x0F05
def pkeBadSig : Nat := 0x0F06
def fwSignature : Nat := 0x0F10
def fwRollback : Nat := 0x0F11
def fwFormat : Nat := 0x0F12
def fwKeyRevoked : Nat := 0x0F13
def fwFlash : Nat := 0x0F14
def fwBusy : Nat := 0x0F15
def lcRefused : Nat := 0x0F20
def fuse : Nat := 0x0F21
def credFormat : Nat := 0x0F22
def lampEccCe : Nat := 0x0F30
def lampEccUe : Nat := 0x0F31
def budgetRange : Nat := 0x1001
def powerFloor : Nat := 0x1002
def railLimit : Nat := 0x1003
def hallHold : Nat := 0x1010
def hallBrownout : Nat := 0x1011
def hallHot : Nat := 0x1012
def hallTrip : Nat := 0x1013
def stackTrip : Nat := 0x1014
def thermTrip : Nat := 0x1015
def sensorFail : Nat := 0x1020
def railOv : Nat := 0x1030
def railFail : Nat := 0x1031
def staleLantern : Nat := 0x1101
def errorsLost : Nat := 0x1102
def lanternSpared : Nat := 0x1103
def faultPath : Nat := 0x1104
def dispatchLost : Nat := 0x1105
def readmitFail : Nat := 0x1106
def watchdog : Nat := 0x1107
def startupFatal : Nat := 0x1201
def startupHall : Nat := 0x1202
def calDefault : Nat := 0x1203
def strap : Nat := 0x1204
def galleryReset : Nat := 0x1210

end Sys2Proof.St
end

