-- ==== Sys2Proof/Machine/Fault.lean ====
section
/-! DEFINITION. Error records (22): forming one, escalation, the on-die ring, losses, the held state. -/

namespace Sys2Proof.Machine
open Sys2Proof

/-- What a rule says of a record that it raises: status, class 0 to 3, cause (true: hardware), unit and place (0xFF: none), details. -/
structure Rep where
  st : Nat
  cls : Nat
  hw : Bool
  unit : Nat
  hall : Nat
  gal : Nat
  index : Nat
  part : Nat
  sess : Option Nat
  ring : Nat
  item : Nat
  tag : W64
  d0 : W32
  d1 : W32
  deriving DecidableEq, Repr

/-- A report of the device as a whole: no hall, gallery, unit index, partition or task. -/
def Rep.dev (st cls : Nat) (hw : Bool) (unit : Nat) (d0 d1 : Nat) : Rep :=
  { st := st, cls := cls, hw := hw, unit := unit, hall := 0xFF, gal := 0xFF, index := 0xFF, part := 0xFF, sess := none, ring := 0xFFFF,
    item := 0, tag := 0, d0 := w32 d0, d1 := w32 d1 }

/-- A report of a hall. -/
def Rep.ofHall (st cls : Nat) (hw : Bool) (unit h : Nat) (d0 d1 : Nat) : Rep := { Rep.dev st cls hw unit d0 d1 with hall := h }

/-- A report of a gallery. -/
def Rep.ofGal (st cls : Nat) (hw : Bool) (unit g : Nat) (d0 d1 : Nat) : Rep :=
  { Rep.dev st cls hw unit d0 d1 with hall := hallOf g, gal := g }

/-- A report of a lantern (logical index). -/
def Rep.ofLan (st cls : Nat) (hw : Bool) (unit g l : Nat) (d0 d1 : Nat) : Rep :=
  { Rep.dev st cls hw unit d0 d1 with hall := hallOf g, gal := g, index := l }

/-- Name the item concerned (R589). -/
def Rep.withItem (r : Rep) (i : Item) : Rep :=
  { r with part := i.sess.part, sess := some i.sid, ring := i.ring, item := i.idx, tag := w64 (fld i.bytes 8 8) }

/-- The offset of TIME64 at a time of the reference timer: it slews towards its target at 500 ppm (R533). -/
def State.offsetAt (s : State) (ref : Nat) : Int :=
  let d := s.hal.slewTo - s.hal.offset
  let step : Int := ((ref - s.hal.slewAt) / 2000 : Nat)
  if 0 ≤ d then s.hal.offset + min d step else s.hal.offset + max d (-step)

/-- TIME64: the reference timer plus the offset (R532). -/
def State.time64At (s : State) (ref : Nat) : Nat := ((ref : Int) + s.offsetAt ref).toNat % 2 ^ 64
def State.time64 (s : State) : Nat := s.time64At s.clock.now

/-- The shadow copy of the timer in a hall (0 to 3) or in I/O die East (4) (R57). -/
def State.shadow (s : State) (k : Nat) : Nat := Tab.get 0 k s.clock.shadow

/-- The reference timer as the detecting die has it (R589): a hall's copy, East's for the power arbiter (R572) and flights 18 to 35, else the master. -/
def State.dieTime (s : State) (hall unit index : Nat) : Nat :=
  if hall < 4 then s.shadow hall else if unit = 18 ∨ (unit = 15 ∧ 18 ≤ index) then s.shadow 4 else s.clock.now

/-- The 64 bytes of a record (R589). -/
def FRec.bytes (r : FRec) : Bytes :=
  natLe 8 r.seq ++ natLe 8 r.reftime ++ natLe 8 r.time ++ natLe 2 r.status ++ natLe 1 r.cls ++ natLe 1 r.unit ++ natLe 1 r.hall ++
    natLe 1 r.gallery ++ natLe 1 r.index ++ natLe 1 r.part ++ natLe 4 (match r.sess with | some k => k % 2 ^ 18 + 2 ^ 31 | none => 0) ++
    natLe 2 r.ring ++ [0, 0] ++ natLe 4 r.item ++ natLe 4 r.detail0.toNat ++ natLe 4 r.detail1.toNat ++ natLe 4 r.cause.toNat ++
    natLe 8 r.tag.toNat

/-- Severity class of a record: bits [1:0] of `class`. -/
def FRec.sev (r : FRec) : Nat := r.cls % 4

/-- Hardware cause: bit [3] of `class`. -/
def FRec.hw (r : FRec) : Bool := nbit r.cls 3

/-- Do two records come from the same unit (R597)? -/
def FRec.sameUnit (r : FRec) (p : Rep) : Bool :=
  r.unit == p.unit && r.hall == p.hall && r.gallery == p.gal && r.index == p.index

/-- The earlier record that escalates a new one (R597): `open_` holds the unacknowledged hardware records, newest first. -/
def escalator (s : State) (p : Rep) : Option FRec :=
  if p.hw && p.cls != 3 && p.st != St.staleLantern && p.st != St.rngHealth then s.fault.open_.find? (fun r => r.sameUnit p) else none

/-- A unit out of service raises no further hardware records (R593): a halted hall's units, a gallery quarantined by fault. -/
def outOfService (s : State) (p : Rep) : Bool :=
  p.hw && p.cls != 3 && p.unit != 14 &&
    ((decide (p.hall < 4) && (s.hallAt p.hall).halted.isSome) || (decide (p.gal < 64) && (s.galAt p.gal).qFault))

/-- The oldest entry of the on-die ring among slots that pass a test: its slot. -/
def oldestDie (die : Tab (Option OnDie)) (p : Nat → OnDie → Bool) : Option Nat :=
  (die.foldl (fun (acc : Option (Nat × Nat)) c =>
    match c.2 with
    | none => acc
    | some o =>
      if p c.1 o then (match acc with
        | none => some (c.1, o.r.seq)
        | some (k, q) => if o.r.seq < q then some (c.1, o.r.seq) else some (k, q))
      else acc) none).map (·.1)

/-- Where a new record goes in the on-die ring (R602, R604): a slot never used, then the oldest copied entry, then the oldest held
record of the lowest class; the flag says that an uncopied record is lost by it. Only Device-fatal records use the last 4 slots. -/
def dieSlot (f : Faults) (fatal : Bool) : Option (Nat × Bool) :=
  let n := if fatal then 64 else 60
  match (List.range n).find? (fun k => (Tab.get none k f.die).isNone) with
  | some k => some (k, false)
  | none =>
    match oldestDie f.die (fun k o => decide (k < n) && o.copied) with
    | some k => some (k, false)
    | none =>
      let cand (c : Nat) := oldestDie f.die (fun k o => decide (k < n) && o.r.sev == c && !(o.r.status == St.errorsLost && decide (f.ack ≤ o.r.seq)))
      match cand 0 with
      | some k => some (k, true)
      | none =>
        match cand 1 with
        | some k => some (k, true)
        | none => (cand 2).map (fun k => (k, true))

/-- A record's slot; `ST_FAULT_PATH` takes a reserved entry (R600): a free one, or one that has been copied. -/
def slotFor (f : Faults) (st : Nat) (fatal : Bool) : Option (Nat × Bool) :=
  let own := if st = St.faultPath then
      ((List.range' 60 4).find? (fun k => (Tab.get none k f.die).isNone)).orElse (fun _ => oldestDie f.die (fun k o => decide (60 ≤ k) && o.copied))
    else none
  match own with
  | some k => some (k, false)
  | none => dieSlot f fatal

/-- A count of `n` more losses, without the record that announces the first (R604). -/
def Faults.lose (f : Faults) (n : Nat) : Faults := { f with lost := f.lost + n, lostSince := f.lostSince + n }

/-- Bring the count in the held `ST_ERRORS_LOST` record up to date, wherever it is held (R604). -/
def Faults.syncLost (f : Faults) : Faults :=
  match f.lostRec with
  | none => f
  | some q =>
    let fix (r : FRec) : FRec := if r.seq = q then { r with detail0 := w32 f.lostSince } else r
    { f with die := f.die.map (fun c => (c.1, c.2.map (fun o => { o with r := fix o.r }))), mem := f.mem.map fix }

/-- Put a numbered record into a slot. -/
def Faults.place (f : Faults) (k : Nat) (r : FRec) : Faults :=
  { f with die := Tab.put none k (some { r := r, copied := false }) f.die, next := f.next + 1,
           counts := Tab.upd 0 r.sev (satAdd (2 ^ 32 - 1) 1) f.counts }

/-- The `ST_ERRORS_LOST` record of R604. -/
def lostRecord (s : State) (seq n : Nat) : FRec :=
  { seq := seq, reftime := s.clock.now, time := s.time64, status := St.errorsLost, cls := 0, unit := 20, hall := 0xFF, gallery := 0xFF,
    index := 0xFF, part := 0xFF, sess := none, ring := 0xFFFF, item := 0, detail0 := w32 n, detail1 := 0, cause := 0, tag := 0 }

/-- `n` losses (R604): the first since the last acknowledgement is announced by a Notice of its own, where it finds an entry; later ones count in it. -/
def announceLost (s : State) (f : Faults) (n : Nat) : Faults :=
  let first := f.lostSince == 0
  let f := f.lose n
  if !first then f.syncLost
  else
    match dieSlot f false with
    | none => f
    | some (k, taken) =>
      let f := if taken then f.lose 1 else f
      let r := lostRecord s f.next f.lostSince
      { f.place k r with lostRec := some r.seq, todo := f.todo }

/-- Pin `HELD_N` is asserted in the held state (R631). -/
def State.heldPin (s : State) : Bool := s.boot.stage == .held

/-- The status of the last failure of start-up, 0x9002:03 (R621). -/
def State.bootFailed (s : State) (st : Nat) : State := if s.boot.stage = .boot then { s with boot := { s.boot with fail := st } } else s

/-- Enter the held state (R600, R601): halls halt, flights send idle treads only, one MSI-X message on vector 0. -/
def State.enterHeld (s : State) (st : Nat) : State :=
  if s.boot.stage = .held then s
  else
    let s := s.bootFailed st
    let s := { s with boot := { s.boot with stage := .held } }
    let s := { s with lamp := { s.lamp with st := 3 } }
    let stop (s : State) (h : Nat) : State :=
      s.updHall h (fun y => { y with halted := match y.halted with | some v => some v | none => some st })
    (stop (stop (stop (stop s 0) 1) 2) 3).msix 0

/-- Enter a record (R589, R597, R602, R604): its form, its escalation, its place, its losses; its consequence waits in `todo`. -/
def report (s : State) (p : Rep) : State :=
  if outOfService s p then s
  else
    let e := escalator s p
    let sev := if e.isSome then Nat.min 3 (p.cls + 1) else p.cls
    let ref := s.dieTime p.hall p.unit p.index
    let r (seq : Nat) : FRec :=
      { seq := seq, reftime := ref, time := s.time64At ref, status := p.st, cls := sev + (if e.isSome then 4 else 0) + (if p.hw then 8 else 0),
        unit := p.unit, hall := p.hall, gallery := p.gal, index := p.index, part := p.part, sess := p.sess, ring := p.ring, item := p.item,
        detail0 := p.d0, detail1 := p.d1, cause := match e with | some x => w32 x.seq | none => 0, tag := p.tag }
    let f := s.fault
    let f' : Faults :=
      match slotFor f p.st (sev == 3) with
      | none => announceLost s { f with todo := f.todo ++ [r f.next] } 1
      | some (k, taken) =>
        let x := r f.next
        let f1 := { f.place k x with todo := f.todo ++ [x], open_ := if p.hw then x :: f.open_ else f.open_ }
        if taken then announceLost s f1 1 else f1
    let s := { s with fault := f' }
    if sev = 3 then s.enterHeld p.st else s

/-- The class that `report` gives the record (R597). -/
def sevOf (s : State) (p : Rep) : Nat := if (escalator s p).isSome then Nat.min 3 (p.cls + 1) else p.cls

/-- Note a record against the gallery's task (R71 rule 2, R503 `records`). -/
def Task.noted (st : Nat) (t : Task) : Task :=
  { t with recs := satAdd 0xFFFF t.recs 1, first := match t.first with | some v => some v | none => some st }

/-- Report something that the task of gallery `p.gal` raised: the record names the task, and the task notes the record. -/
def reportTask (s : State) (p : Rep) : State :=
  match (s.galAt p.gal).task with
  | none => report s p
  | some t =>
    if outOfService s p then s
    else report (s.updGal p.gal (fun y => { y with task := y.task.map (Task.noted p.st) })) (p.withItem t.item)

end Sys2Proof.Machine
end

