-- ==== Sys2Proof/Machine/Store.lean ====
section
/-! DEFINITION. Scratchpads and the gallery store (14): bytes, words, slot tags, poison granules. -/

namespace Sys2Proof.Machine
open Sys2Proof

/-- An on-chip memory of a gallery: the gallery store, or the scratchpad of a logical lantern (R381). -/
structure Space1 where
  g : Nat
  l : Nat
  store : Bool
  deriving DecidableEq, Repr

/-- Bytes of a memory (R381). -/
def Space1.size (m : Space1) : Nat := if m.store then 16777216 else 98304

/-- Bytes of a slot (R115). -/
def Space1.slotBytes (m : Space1) : Nat := if m.store then 512 else 64

/-- Does a word address name a scratchpad word (R114)? -/
def isPadWord (w : Nat) : Bool := decide (w < 0x6000)
/-- Does a word address name a gallery store word (R114)? -/
def isStoreWord (w : Nat) : Bool := decide (0x80000000 ≤ w ∧ w < 0x80400000)

/-- The memory and the byte offset that a word address names (R114). -/
def locate (g l w : Nat) : Option (Space1 × Nat) :=
  if isPadWord w then some ({ g := g, l := l, store := false }, 4 * w)
  else if isStoreWord w then some ({ g := g, l := l, store := true }, 4 * (w - 0x80000000))
  else none

/-- The word address of a byte offset, as records give it (R387). -/
def Space1.word (m : Space1) (a : Nat) : Nat := a / 4 + (if m.store then 0x80000000 else 0)

namespace State

def mem1 (s : State) (m : Space1) : Tab Byte := if m.store then (s.galAt m.g).mem else (s.lanAt m.g m.l).sp
def tags1 (s : State) (m : Space1) : Tab Bool := if m.store then (s.galAt m.g).tag else (s.lanAt m.g m.l).spTag
def poi1 (s : State) (m : Space1) : Tab Bool := if m.store then (s.galAt m.g).poi else (s.lanAt m.g m.l).spPoi

def setMem1 (s : State) (m : Space1) (t : Tab Byte) : State :=
  if m.store then s.updGal m.g (fun y => { y with mem := t }) else s.updLan m.g m.l (fun y => { y with sp := t })
def setTags1 (s : State) (m : Space1) (t : Tab Bool) : State :=
  if m.store then s.updGal m.g (fun y => { y with tag := t }) else s.updLan m.g m.l (fun y => { y with spTag := t })
def setPoi1 (s : State) (m : Space1) (t : Tab Bool) : State :=
  if m.store then s.updGal m.g (fun y => { y with poi := t }) else s.updLan m.g m.l (fun y => { y with spPoi := t })

def byte1 (s : State) (m : Space1) (a : Nat) : Byte := Tab.get 0 a (s.mem1 m)
def read1 (s : State) (m : Space1) (a n : Nat) : Bytes := Tab.gets 0 a n (s.mem1 m)

/-- A little-endian number of `n` bytes. -/
def num1 (s : State) (m : Space1) (a n : Nat) : Nat := leNat (s.read1 m a n)

/-- Is the slot that holds byte `a` full (R115)? -/
def full1 (s : State) (m : Space1) (a : Nat) : Bool := Tab.get false (a / m.slotBytes) (s.tags1 m)
def setFull1 (s : State) (m : Space1) (a : Nat) (b : Bool) : State := s.setTags1 m (Tab.put false (a / m.slotBytes) b (s.tags1 m))

/-- Is the 32-byte granule that holds byte `a` poisoned (R388)? -/
def poisoned1 (s : State) (m : Space1) (a : Nat) : Bool := Tab.get false (a / 32) (s.poi1 m)

/-- One write of clean or poisoned bytes as R388 defines it: `ws` are all its bytes, `bad` the offsets of its poisoned bytes. -/
def write1 (s : State) (m : Space1) (ws : List (Nat × Byte)) (bad : List Nat) : State :=
  let grans := (ws.map (fun c => c.1 / 32)).eraseDups
  let poi := grans.foldl (fun t gr =>
    if bad.any (fun a => a / 32 == gr) then Tab.put false gr true t
    else if (List.range 32).all (fun i => ws.any (fun c => c.1 == 32 * gr + i)) then Tab.put false gr false t else t) (s.poi1 m)
  (s.setMem1 m (ws.foldl (fun t c => Tab.put 0 c.1 c.2 t) (s.mem1 m))).setPoi1 m poi

/-- A store of a byte string at an offset by the control core (R388). -/
def store1 (s : State) (m : Space1) (a : Nat) (v : Bytes) : State :=
  s.write1 m ((List.range v.length).map (fun i => (a + i, v.getD i 0))) []

end State

end Sys2Proof.Machine
end

