-- ==== Sys2Proof/Machine/Flags.lean ====
section
/-! DEFINITION. Local flags (03 R76 to R78), completion flags (R75) and the census window (R87). -/

namespace Sys2Proof.Machine
open Sys2Proof

def flagOf (s : State) (g l n : Nat) : W32 := Tab.get 0 n (s.lanAt g l).flags

/-- Set a flag of the issuing lantern (R76). -/
def flagPut (s : State) (g l n : Nat) (v : W32) : State := s.updLan g l (fun y => { y with flags := Tab.put 0 n v y.flags })

/-- Add to a flag of a lantern, stopping at 0xFFFF_FFFF (R76, R77). -/
def flagAdd (s : State) (g l n v : Nat) : State :=
  let old := (flagOf s g l n).toNat
  let s1 := flagPut s g l n (w32 (Nat.min 0xFFFFFFFF (old + v)))
  if old + v ≤ 0xFFFFFFFF then s1 else reportTask s1 (Rep.ofLan St.flagSaturated 0 false 1 g l (n + 256 * l) 0)

/-- Add 1 to a completion flag, where one is named (R75). -/
def flagDone (s : State) (g l : Nat) (fl : Option Nat) : State :=
  match fl with
  | none => s
  | some n => flagAdd s g l n 1

/-- Restart the stall census window of a gallery's task (R87). -/
def touch (s : State) (g : Nat) : State := s.updGal g (fun y => { y with progress := s.clock.now })

/-- The head of queue `q` stands there from now on (R89). -/
def headNow (s : State) (g l q : Nat) : State := s.updLan g l (fun y => { y with heads := Tab.put 0 q s.clock.now y.heads })

end Sys2Proof.Machine
end

