-- ==== Sys2Proof/Machine/Crypto.lean ====
section
/-! DEFINITION. The cryptographic functions that the spec names by their standards (log 20): SHA-256, HMAC, HKDF, SHAKE128, short
Weierstrass curves, ECDSA. -/

namespace Sys2Proof.Crypto
open Sys2Proof

/-- PRESUMED (log 20). The round constants of SHA-256. -/
def shaK : List W32 :=
  [0x428a2f98, 0x71374491, 0xb5c0fbcf, 0xe9b5dba5, 0x3956c25b, 0x59f111f1, 0x923f82a4, 0xab1c5ed5] ++
  [0xd807aa98, 0x12835b01, 0x243185be, 0x550c7dc3, 0x72be5d74, 0x80deb1fe, 0x9bdc06a7, 0xc19bf174] ++
  [0xe49b69c1, 0xefbe4786, 0xfc19dc6, 0x240ca1cc, 0x2de92c6f, 0x4a7484aa, 0x5cb0a9dc, 0x76f988da] ++
  [0x983e5152, 0xa831c66d, 0xb00327c8, 0xbf597fc7, 0xc6e00bf3, 0xd5a79147, 0x6ca6351, 0x14292967] ++
  [0x27b70a85, 0x2e1b2138, 0x4d2c6dfc, 0x53380d13, 0x650a7354, 0x766a0abb, 0x81c2c92e, 0x92722c85] ++
  [0xa2bfe8a1, 0xa81a664b, 0xc24b8b70, 0xc76c51a3, 0xd192e819, 0xd6990624, 0xf40e3585, 0x106aa070] ++
  [0x19a4c116, 0x1e376c08, 0x2748774c, 0x34b0bcb5, 0x391c0cb3, 0x4ed8aa4a, 0x5b9cca4f, 0x682e6ff3] ++
  [0x748f82ee, 0x78a5636f, 0x84c87814, 0x8cc70208, 0x90befffa, 0xa4506ceb, 0xbef9a3f7, 0xc67178f2]

/-- PRESUMED (log 20). The initial hash value of SHA-256. -/
def shaH0 : List W32 :=
  [0x6a09e667, 0xbb67ae85, 0x3c6ef372, 0xa54ff53a, 0x510e527f, 0x9b05688c, 0x1f83d9ab, 0x5be0cd19]

def shaS (x : W32) (a b c : Nat) : W32 := x.rotateRight a ^^^ x.rotateRight b ^^^ x.rotateRight c
def shas (x : W32) (a b c : Nat) : W32 := x.rotateRight a ^^^ x.rotateRight b ^^^ (x >>> c)

/-- Extend the schedule: `w` newest first. -/
def shaExtend : Nat → List W32 → List W32
  | 0, w => w
  | n + 1, w =>
    let v := shas (w.getD 1 0) 17 19 10 + w.getD 6 0 + shas (w.getD 14 0) 7 18 3 + w.getD 15 0
    shaExtend n (v :: w)

/-- One round on the eight working words. -/
def shaRound (st : List W32) (kw : W32 × W32) : List W32 :=
  match st with
  | [a, b, c, d, e, f, g, h] =>
    let t1 := h + shaS e 6 11 25 + ((e &&& f) ^^^ (~~~e &&& g)) + kw.1 + kw.2
    let t2 := shaS a 2 13 22 + ((a &&& b) ^^^ (a &&& c) ^^^ (b &&& c))
    [t1 + t2, a, b, c, d + t1, e, f, g]
  | _ => st

/-- A big-endian word of a block. -/
def shaWord (b : Bytes) (i : Nat) : W32 := BitVec.ofNat 32 (beNat (slice b (4 * i) 4))

/-- One 64-byte block. -/
def shaBlock (h : List W32) (b : Bytes) : List W32 :=
  let w := (shaExtend 48 ((List.range 16).map (shaWord b)).reverse).reverse
  List.zipWith (· + ·) h ((shaK.zip w).foldl shaRound h)

/-- Pad a message to whole blocks. -/
def shaPad (m : Bytes) : Bytes :=
  m ++ [0x80] ++ List.replicate ((119 - m.length % 64) % 64) 0 ++ natBe 8 (8 * m.length)

/-- SHA-256. -/
def sha256 (m : Bytes) : Bytes :=
  let p := shaPad m
  let h := (List.range (p.length / 64)).foldl (fun h i => shaBlock h ((p.drop (64 * i)).take 64)) shaH0
  h.flatMap (fun x => natBe 4 x.toNat)

/-- HMAC with SHA-256. -/
def hmac (key m : Bytes) : Bytes :=
  let k := if key.length > 64 then sha256 key else key
  let k := k ++ List.replicate (64 - k.length) 0
  sha256 (k.map (· ^^^ 0x5C) ++ sha256 (k.map (· ^^^ 0x36) ++ m))

/-- HKDF with SHA-256, 64 output bytes (RFC 5869). -/
def hkdf64 (salt ikm info : Bytes) : Bytes :=
  let prk := hmac salt ikm
  let t1 := hmac prk (info ++ [1])
  t1 ++ hmac prk (t1 ++ info ++ [2])

/-- PRESUMED (log 20). The round constants of Keccak-f[1600]. -/
def keccakRC : List W64 :=
  [0x1, 0x8082, 0x800000000000808a, 0x8000000080008000] ++
  [0x808b, 0x80000001, 0x8000000080008081, 0x8000000000008009] ++
  [0x8a, 0x88, 0x80008009, 0x8000000a] ++
  [0x8000808b, 0x800000000000008b, 0x8000000000008089, 0x8000000000008003] ++
  [0x8000000000008002, 0x8000000000000080, 0x800a, 0x800000008000000a] ++
  [0x8000000080008081, 0x8000000000008080, 0x80000001, 0x8000000080008008]

/-- PRESUMED (log 20). The rotation offsets of Keccak-f[1600], lane x + 5 y. -/
def keccakRot : List Nat := [0, 1, 62, 28, 27, 36, 44, 6, 55, 20, 3, 10, 43, 25, 39, 41, 45, 15, 21, 8, 18, 2, 61, 56, 14]

/-- One round of Keccak-f[1600] on 25 lanes. -/
def keccakRound (a : List W64) (rc : W64) : List W64 :=
  let at_ (l : List W64) (x y : Nat) : W64 := l.getD (x % 5 + 5 * (y % 5)) 0
  let c := (List.range 5).map (fun x => at_ a x 0 ^^^ at_ a x 1 ^^^ at_ a x 2 ^^^ at_ a x 3 ^^^ at_ a x 4)
  let d := (List.range 5).map (fun x => c.getD ((x + 4) % 5) 0 ^^^ (c.getD ((x + 1) % 5) 0).rotateLeft 1)
  let t := (List.range 25).map (fun i => a.getD i 0 ^^^ d.getD (i % 5) 0)
  -- lane (x, y) of the result of rho and pi comes from lane (x + 3 y, x)
  let b := (List.range 25).map (fun i =>
    let x := i % 5
    let y := i / 5
    let j := (x + 3 * y) % 5 + 5 * x
    (t.getD j 0).rotateLeft (keccakRot.getD j 0))
  let e := (List.range 25).map (fun i =>
    let x := i % 5
    let y := i / 5
    at_ b x y ^^^ (~~~(at_ b (x + 1) y) &&& at_ b (x + 2) y))
  (e.take 1).map (· ^^^ rc) ++ e.drop 1

def keccakF (a : List W64) : List W64 := keccakRC.foldl keccakRound a

/-- Absorb one block of 168 bytes. -/
def shakeAbsorb (a : List W64) (b : Bytes) : List W64 :=
  keccakF ((List.range 25).map (fun i => a.getD i 0 ^^^ (if i < 21 then BitVec.ofNat 64 (leNat (slice b (8 * i) 8)) else 0)))

/-- The sponge of SHAKE128 after it has absorbed a message. -/
def shakeState (m : Bytes) : List W64 :=
  let k := m.length / 168 + 1
  let fill := 168 * k - m.length
  let p := m ++ (if fill = 1 then [0x9F] else [0x1F] ++ List.replicate (fill - 2) 0 ++ [0x80])
  (List.range k).foldl (fun a i => shakeAbsorb a ((p.drop (168 * i)).take 168)) (List.replicate 25 0)

/-! ## Modular arithmetic and curves -/

/-- b^e mod m over the lowest `n` bits of `e`. -/
def powBits : Nat → Nat → Nat → Nat → Nat
  | 0, _, _, m => 1 % m
  | n + 1, b, e, m => (if e % 2 = 1 then b else 1) * powBits n (b * b % m) (e / 2) m % m

/-- b^e mod m. -/
def powMod (b e m : Nat) : Nat := powBits (Nat.log2 e + 1) (b % m) e m

/-- The inverse modulo a prime. -/
def invMod (a p : Nat) : Nat := powMod (a % p) (p - 2) p

/-- Miller-Rabin to one base: is the odd n > 2 a probable prime? -/
def mrBase (n a : Nat) : Bool :=
  let rec split : Nat → Nat → Nat → Nat × Nat
    | 0, d, r => (d, r)
    | k + 1, d, r => if d % 2 = 0 ∧ d > 0 then split k (d / 2) (r + 1) else (d, r)
  let (d, r) := split (Nat.log2 n + 1) (n - 1) 0
  let x := powMod a d n
  let rec squares : Nat → Nat → Bool
    | 0, _ => false
    | k + 1, x => x == n - 1 || squares k (x * x % n)
  x == 1 || squares r x

/-- A point: `none` at infinity. -/
abbrev Point := Option (Nat × Nat)

/-- y^2 = x^3 + a x + b mod p, with base point and order. -/
structure CurveP where
  p : Nat
  a : Nat
  b : Nat
  gx : Nat
  gy : Nat
  n : Nat
  deriving DecidableEq, Repr

/-- PRESUMED (log 20). P-256 of FIPS 186. -/
def p256 : CurveP :=
  { p := 0xffffffff00000001000000000000000000000000ffffffffffffffffffffffff,
    a := 0xffffffff00000001000000000000000000000000fffffffffffffffffffffffc,
    b := 0x5ac635d8aa3a93e7b3ebbd55769886bc651d06b0cc53b0f63bce3c3e27d2604b,
    gx := 0x6b17d1f2e12c4247f8bce6e563a440f277037d812deb33a0f4a13945d898c296,
    gy := 0x4fe342e2fe1a7f9b8ee7eb4a7c0f9e162bce33576b315ececbb6406837bf51f5,
    n := 0xffffffff00000000ffffffffffffffffbce6faada7179e84f3b9cac2fc632551 }

def CurveP.on (c : CurveP) (x y : Nat) : Bool := (y * y) % c.p == (x * x * x + c.a * x + c.b) % c.p

def CurveP.add (c : CurveP) : Point → Point → Point
  | none, q => q
  | p, none => p
  | some (x1, y1), some (x2, y2) =>
    if x1 = x2 ∧ (y1 + y2) % c.p = 0 then none
    else
      let l := if x1 = x2 then (3 * x1 * x1 + c.a) * invMod (2 * y1) c.p % c.p
               else (y2 + c.p - y1) * invMod (x2 + c.p - x1) c.p % c.p
      let x3 := (l * l + 2 * c.p - x1 - x2) % c.p
      some (x3, (l * (x1 + c.p - x3) + c.p - y1) % c.p)

/-- k P by doubling, over the lowest `n` bits of `k`. -/
def CurveP.mulBits (c : CurveP) : Nat → Nat → Point → Point
  | 0, _, _ => none
  | n + 1, k, q => c.add (if k % 2 = 1 then q else none) (c.mulBits n (k / 2) (c.add q q))

def CurveP.mul (c : CurveP) (k : Nat) (q : Point) : Point := c.mulBits (Nat.log2 k + 1) k q
def CurveP.base (c : CurveP) : Point := some (c.gx, c.gy)

/-- ECDSA verification of a 256-bit digest. -/
def CurveP.verify (c : CurveP) (e r s qx qy : Nat) : Bool :=
  if r = 0 ∨ r ≥ c.n ∨ s = 0 ∨ s ≥ c.n then false
  else
    let w := invMod s c.n
    match c.add (c.mul (e * w % c.n) c.base) (c.mul (r * w % c.n) (some (qx, qy))) with
    | none => false
    | some (x, _) => x % c.n == r

/-- ECDSA signature of a digest with the nonce k, where neither half is 0. -/
def CurveP.signWith (c : CurveP) (e d k : Nat) : Option (Nat × Nat) :=
  match c.mul k c.base with
  | none => none
  | some (x, _) =>
    let r := x % c.n
    let s := invMod k c.n * (e + r * d) % c.n
    if r = 0 ∨ s = 0 then none else some (r, s)

/-- The generation loop of RFC 6979 with HMAC-SHA-256 for a 256-bit order; fuel for the candidates that are out of range. -/
def nonceLoop (n : Nat) (ok : Nat → Bool) : Nat → Bytes → Bytes → Nat
  | 0, _, _ => 0
  | f + 1, k, v =>
    let v := hmac k v
    let c := beNat v
    if 0 < c ∧ c < n ∧ ok c then c
    else
      let k := hmac k (v ++ [0])
      nonceLoop n ok f k (hmac k v)

/-- The deterministic nonce of RFC 6979 for key d and digest e. -/
def nonce6979 (n d e : Nat) (ok : Nat → Bool) : Nat :=
  let seed := natBe 32 d ++ natBe 32 (e % n)
  let v := List.replicate 32 (1 : Byte)
  let k := List.replicate 32 (0 : Byte)
  let k := hmac k (v ++ [0] ++ seed)
  let v := hmac k v
  let k := hmac k (v ++ [1] ++ seed)
  let v := hmac k v
  nonceLoop n ok 64 k v

/-- A deterministic ECDSA signature (RFC 6979). -/
def CurveP.sign (c : CurveP) (d e : Nat) : Nat × Nat :=
  ((c.signWith e d (nonce6979 c.n d e (fun k => (c.signWith e d k).isSome)))).getD (0, 0)

/-- "lysirrun identity v1" (R566). -/
def identityInfo : Bytes := [0x6C, 0x79, 0x73, 0x69, 0x72, 0x72, 0x75, 0x6E, 0x20, 0x69, 0x64, 0x65, 0x6E, 0x74, 0x69, 0x74, 0x79, 0x20, 0x76, 0x31]

/-- The device identity scalar (R566), from 1 to n - 1. DESIGN CHOICE (log 10): no salt, 64 output bytes, reduced modulo n - 1, plus 1. -/
def identityScalar (uds : Bytes) : Nat := 1 + beNat (hkdf64 [] uds identityInfo) % (p256.n - 1)

end Sys2Proof.Crypto
end

