-- ==== Sys2Proof/Machine/Float.lean ====
section
/-! DEFINITION. Binary floating point, exact: values are dyadic numbers, and one rounding step encodes them in a format. -/

namespace Sys2Proof

/-- A binary format: exponent bits, mantissa bits, the exponent bias, and which codes are special:
0 IEEE (infinities and NaNs), 1 one NaN mantissa and no infinity (E4M3), 2 neither (FP6, FP4). -/
structure FFmt where
  eb : Nat
  mb : Nat
  bias : Nat
  kind : Nat
  deriving DecidableEq, Repr

def f32 : FFmt := { eb := 8, mb := 23, bias := 127, kind := 0 }
def f64 : FFmt := { eb := 11, mb := 52, bias := 1023, kind := 0 }
def f16 : FFmt := { eb := 5, mb := 10, bias := 15, kind := 0 }
def bf16 : FFmt := { eb := 8, mb := 7, bias := 127, kind := 0 }
def e4m3 : FFmt := { eb := 4, mb := 3, bias := 7, kind := 1 }
def e5m2 : FFmt := { eb := 5, mb := 2, bias := 15, kind := 0 }
def e3m2 : FFmt := { eb := 3, mb := 2, bias := 3, kind := 2 }
def e2m3 : FFmt := { eb := 2, mb := 3, bias := 1, kind := 2 }
def e2m1 : FFmt := { eb := 2, mb := 1, bias := 1, kind := 2 }

/-- A floating-point value: NaN, an infinity, or (-1)^neg * m * 2^e (m = 0: a signed zero). -/
inductive FVal where
  | nan
  | inf (neg : Bool)
  | fin (neg : Bool) (m : Nat) (e : Int)
  deriving DecidableEq, Repr

namespace FFmt

/-- Exponent of the last place of the smallest numbers. -/
def emin (t : FFmt) : Int := 1 - (t.bias : Int) - (t.mb : Int)

/-- Total width in bits. -/
def width (t : FFmt) : Nat := 1 + t.eb + t.mb

/-- The greatest finite magnitude's code, without sign. -/
def maxCode (t : FFmt) : Nat :=
  if t.kind = 0 then (2 ^ t.eb - 1) * 2 ^ t.mb - 1 else if t.kind = 1 then 2 ^ (t.eb + t.mb) - 2 else 2 ^ (t.eb + t.mb) - 1

/-- The quiet NaN that every operation returns: 0x7FC0_0000 for FP32 (R111). -/
def nanCode (t : FFmt) : Nat :=
  if t.kind = 0 then (2 ^ t.eb - 1) * 2 ^ t.mb + 2 ^ (t.mb - 1) else 2 ^ (t.eb + t.mb) - 1

/-- Read a code. -/
def dec (t : FFmt) (c : Nat) : FVal :=
  let neg := Nat.testBit c (t.eb + t.mb)
  let ex := (c >>> t.mb) % 2 ^ t.eb
  let mn := c % 2 ^ t.mb
  if t.kind = 0 ∧ ex = 2 ^ t.eb - 1 then (if mn = 0 then .inf neg else .nan)
  else if t.kind = 1 ∧ ex = 2 ^ t.eb - 1 ∧ mn = 2 ^ t.mb - 1 then .nan
  else if ex = 0 then .fin neg mn t.emin
  else .fin neg (mn + 2 ^ t.mb) (t.emin + (ex : Int) - 1)

/-- m * 2^-sh, rounded to the nearest integer, ties to even. -/
def rneShift (m sh : Nat) : Nat :=
  if sh = 0 then m
  else
    let hi := m >>> sh
    let r := m % 2 ^ sh
    let half := 2 ^ (sh - 1)
    if r > half ∨ (r = half ∧ hi % 2 = 1) then hi + 1 else hi

/-- The magnitude code of m * 2^e (m > 0) rounded to nearest even, before the check for overflow. -/
def magCode (t : FFmt) (m : Nat) (e : Int) : Nat :=
  let q : Int := max t.emin (e + (Nat.log2 m + 1 : Nat) - ((t.mb : Int) + 1))
  let hi := if q ≤ e then m <<< (e - q).toNat else rneShift m (q - e).toNat
  (q - t.emin).toNat * 2 ^ t.mb + hi

/-- Encode with round-to-nearest-even. `sat`: beyond the greatest finite number give that number instead of infinity. -/
def enc (t : FFmt) (sat : Bool) (v : FVal) : Nat :=
  let s (neg : Bool) : Nat := if neg then 2 ^ (t.eb + t.mb) else 0
  match v with
  | .nan => t.nanCode
  | .inf neg => if t.kind = 0 ∧ sat = false then s neg + (t.maxCode + 1) else if sat then s neg + t.maxCode else t.nanCode
  | .fin neg 0 _ => s neg
  | .fin neg (m + 1) e =>
    let c := t.magCode (m + 1) e
    if c ≤ t.maxCode then s neg + c
    else if sat then s neg + t.maxCode
    else if t.kind = 0 then s neg + (t.maxCode + 1) else t.nanCode

end FFmt

namespace FVal

def isNan : FVal → Bool
  | .nan => true
  | _ => false

def isInf : FVal → Bool
  | .inf _ => true
  | _ => false

def isZero : FVal → Bool
  | .fin _ 0 _ => true
  | _ => false

def neg : FVal → FVal
  | .nan => .nan
  | .inf s => .inf (!s)
  | .fin s m e => .fin (!s) m e

def abs : FVal → FVal
  | .nan => .nan
  | .inf _ => .inf false
  | .fin _ m e => .fin false m e

/-- The sign bit. -/
def sgn : FVal → Bool
  | .nan => false
  | .inf s => s
  | .fin s _ _ => s

/-- The signed mantissa at an exponent `q` not above `e`. -/
def scaled (s : Bool) (m : Nat) (e q : Int) : Int :=
  let k : Int := (m <<< (e - q).toNat : Nat)
  if s then -k else k

/-- From a signed mantissa; an exact zero takes the sign given. -/
def ofInt (z : Bool) (k : Int) (e : Int) : FVal :=
  if k = 0 then .fin z 0 0 else .fin (decide (k < 0)) k.natAbs e

/-- Exact sum (IEEE 754 under round-to-nearest: a zero sum of unlike signs is +0). -/
def add : FVal → FVal → FVal
  | .nan, _ => .nan
  | _, .nan => .nan
  | .inf a, .inf b => if a = b then .inf a else .nan
  | .inf a, _ => .inf a
  | _, .inf b => .inf b
  | .fin s m e, .fin s2 m2 e2 =>
    let q := min e e2
    ofInt (s && s2) (scaled s m e q + scaled s2 m2 e2 q) q

def sub (a b : FVal) : FVal := add a b.neg

/-- Exact product. -/
def mul : FVal → FVal → FVal
  | .nan, _ => .nan
  | _, .nan => .nan
  | .inf a, .inf b => .inf (a != b)
  | .inf a, .fin s m _ => if m = 0 then .nan else .inf (a != s)
  | .fin s m _, .inf b => if m = 0 then .nan else .inf (s != b)
  | .fin s m e, .fin s2 m2 e2 => .fin (s != s2) (m * m2) (e + e2)

/-- Quotient with 130 further bits and a sticky last bit: it rounds correctly to any format here. -/
def div : FVal → FVal → FVal
  | .nan, _ => .nan
  | _, .nan => .nan
  | .inf _, .inf _ => .nan
  | .inf a, .fin s _ _ => .inf (a != s)
  | .fin s _ _, .inf b => .fin (s != b) 0 0
  | .fin s m e, .fin s2 m2 e2 =>
    if m2 = 0 then (if m = 0 then .nan else .inf (s != s2))
    else if m = 0 then .fin (s != s2) 0 0
    else
      let k := 130 + Nat.log2 m2
      let n := m <<< k
      .fin (s != s2) (2 * (n / m2) + (if n % m2 = 0 then 0 else 1)) (e - e2 - (k : Int) - 1)

/-- Integer square root, bit by bit from bit `i`. -/
def isqrtFrom (n : Nat) : Nat → Nat → Nat
  | 0, r => r
  | i + 1, r =>
    let r2 := r + 2 ^ i
    isqrtFrom n i (if r2 * r2 ≤ n then r2 else r)

def isqrt (n : Nat) : Nat := isqrtFrom n (Nat.log2 n / 2 + 1) 0

/-- Square root with a sticky last bit. -/
def sqrt : FVal → FVal
  | .nan => .nan
  | .inf s => if s then .nan else .inf false
  | .fin s m e =>
    if m = 0 then .fin s 0 0
    else if s then .nan
    else
      let k : Nat := 260 + (if (e % 2 = 0) then 0 else 1)
      let n := m <<< k
      let r := isqrt n
      .fin false (2 * r + (if r * r = n then 0 else 1)) ((e - (k : Int)) / 2 - 1)

/-- Is a < b (false with a NaN; the zeros are equal)? -/
def lt : FVal → FVal → Bool
  | .nan, _ => false
  | _, .nan => false
  | .inf a, .inf b => a && !b
  | .inf a, _ => a
  | _, .inf b => !b
  | .fin s m e, .fin s2 m2 e2 =>
    let q := min e e2
    decide (scaled s m e q < scaled s2 m2 e2 q)

/-- Is a = b (false with a NaN; the zeros are equal)? -/
def eq (a b : FVal) : Bool := !a.isNan && !b.isNan && !lt a b && !lt b a

def le (a b : FVal) : Bool := lt a b || eq a b

/-- Truncate toward zero; `none` for NaN and infinities. -/
def trunc : FVal → Option Int
  | .fin s m e =>
    let k : Nat := if e ≥ 0 then m <<< e.toNat else m >>> (-e).toNat
    some (if s then -(k : Int) else k)
  | _ => none

/-- Round to the nearest integer, ties to even; `none` for NaN and infinities. -/
def nearest : FVal → Option Int
  | .fin s m e =>
    let k : Nat := if e ≥ 0 then m <<< e.toNat else FFmt.rneShift m (-e).toNat
    some (if s then -(k : Int) else k)
  | _ => none

def ofNat (n : Nat) : FVal := .fin false n 0
def one : FVal := .fin false 1 0

/-- The exact value of an integer. -/
def ofZ (k : Int) : FVal := .fin (decide (k < 0)) k.natAbs 0

end FVal

/-! FP32 on 32-bit words, round to nearest even, subnormals kept, every NaN result 0x7FC0_0000 (R111). -/

def F32.val (w : W32) : FVal := f32.dec w.toNat
def F32.ofVal (v : FVal) : W32 := BitVec.ofNat 32 (f32.enc false v)

/-- 0x7FC0_0000. -/
def F32.qnan : W32 := 0x7FC00000

def F32.isNan (w : W32) : Bool := (F32.val w).isNan

def F32.add (a b : W32) : W32 := F32.ofVal ((F32.val a).add (F32.val b))
def F32.sub (a b : W32) : W32 := F32.ofVal ((F32.val a).sub (F32.val b))
def F32.mul (a b : W32) : W32 := F32.ofVal ((F32.val a).mul (F32.val b))

/-- a * b + c with one rounding; an exact zero product keeps its sign into the sum. -/
def F32.fma (a b c : W32) : W32 := F32.ofVal (((F32.val a).mul (F32.val b)).add (F32.val c))
def F32.div (a b : W32) : W32 := F32.ofVal ((F32.val a).div (F32.val b))
def F32.sqrt (a : W32) : W32 := F32.ofVal (F32.val a).sqrt
def F32.lt (a b : W32) : Bool := (F32.val a).lt (F32.val b)
def F32.le (a b : W32) : Bool := (F32.val a).le (F32.val b)
def F32.eq (a b : W32) : Bool := (F32.val a).eq (F32.val b)

/-- Total order of non-NaN values with -0.0 below +0.0 (R111). -/
def F32.below (a b : W32) : Bool := F32.lt a b || (F32.eq a b && a.msb && !b.msb)

/-- The non-NaN operand when one is NaN (R111). -/
def F32.min (a b : W32) : W32 :=
  if F32.isNan a then (if F32.isNan b then F32.qnan else b) else if F32.isNan b then a else if F32.below b a then b else a

def F32.max (a b : W32) : W32 :=
  if F32.isNan a then (if F32.isNan b then F32.qnan else b) else if F32.isNan b then a else if F32.below a b then b else a

/-- Sign changes are arithmetic here: a NaN operand gives the quiet NaN (R111). -/
def F32.neg (a : W32) : W32 := if F32.isNan a then F32.qnan else a ^^^ 0x80000000
def F32.abs (a : W32) : W32 := if F32.isNan a then F32.qnan else a &&& 0x7FFFFFFF

/-- Truncate to a signed 64-bit integer, saturating; NaN gives 0 (R111). -/
def F32.toI64 (a : W32) : W64 :=
  match F32.val a with
  | .nan => 0
  | .inf s => if s then 0x8000000000000000 else 0x7FFFFFFFFFFFFFFF
  | v =>
    match v.trunc with
    | none => 0
    | some k =>
      if k < -(2 ^ 63 : Int) then 0x8000000000000000
      else if k > 2 ^ 63 - 1 then 0x7FFFFFFFFFFFFFFF else BitVec.ofInt 64 k

/-- From a signed 64-bit integer, rounding to nearest even (R112). -/
def F32.ofI64 (x : W64) : W32 := F32.ofVal (FVal.ofZ x.toInt)

/-- From an exact integer and a power of two: k * 2^e rounded to FP32. -/
def F32.ofScaled (k : Int) (e : Int) : W32 := F32.ofVal (FVal.ofInt false k e)

end Sys2Proof
end

