-- ==== Sys2Proof/Machine/Dict.lean ====
section
/-! DEFINITION. The objects of the dictionary (19 R524 to R530 and every chapter's tables): type, right, default, range. -/

namespace Sys2Proof.Machine
open Sys2Proof

/-- Types of R525; `blob n` has exactly n bytes, `blobs` up to 65,536 as the object defines. -/
inductive OType where
  | u (n : Nat)
  | f32
  | bool
  | str
  | blob (n : Nat)
  | blobs
  deriving DecidableEq, Repr

/-- Rights of R526; `rws` with `wo` set is the tables' "WO, RWS". -/
inductive Right where
  | ro
  | rw
  | rws
  deriving DecidableEq, Repr

/-- What a table says of an object. `op`: Operator only. -/
structure ObjInfo where
  ty : OType
  right : Right
  wo : Bool
  op : Bool
  dflt : Bytes
  deriving DecidableEq, Repr

namespace Dict

def ro (t : OType) (d : Bytes) : Option ObjInfo := some { ty := t, right := .ro, wo := false, op := false, dflt := d }
def rw (t : OType) (d : Bytes) : Option ObjInfo := some { ty := t, right := .rw, wo := false, op := false, dflt := d }
def rws (t : OType) (d : Bytes) : Option ObjInfo := some { ty := t, right := .rws, wo := false, op := false, dflt := d }
def rwsOp (t : OType) (d : Bytes) : Option ObjInfo := some { ty := t, right := .rws, wo := false, op := true, dflt := d }
def wos (t : OType) : Option ObjInfo := some { ty := t, right := .rws, wo := true, op := false, dflt := [] }
def wosOp (t : OType) : Option ObjInfo := some { ty := t, right := .rws, wo := true, op := true, dflt := [] }

/-- An object of `n` numbered subs. -/
def subs (n sub : Nat) (o : Option ObjInfo) : Option ObjInfo := if 1 ≤ sub ∧ sub ≤ n then o else none
def only0 (sub : Nat) (o : Option ObjInfo) : Option ObjInfo := if sub = 0 then o else none

/-- The sub-indices of an index: 0 for one object at sub-index 0, n for subs 1 to n; none: no such index. -/
def count (i : Nat) : Option Nat :=
  match i with
  | 0x1000 => some 6 | 0x1030 => some 2 | 0x2100 => some 1 | 0x2101 => some 0 | 0x2102 => some 64 | 0x2103 => some 64
  | 0x2104 => some 0 | 0x2110 => some 5 | 0x2120 => some 1 | 0x2130 => some 2 | 0x2140 => some 3 | 0x2150 => some 1
  | 0x2200 => some 5 | 0x3000 => some 4 | 0x3100 => some 1 | 0x3101 => some 1 | 0x3102 => some 1 | 0x3103 => some 1
  | 0x3104 => some 1 | 0x4000 => some 3 | 0x4001 => some 4 | 0x4002 => some 4 | 0x4003 => some 64 | 0x4010 => some 4
  | 0x4011 => some 4 | 0x4020 => some 2 | 0x4021 => some 4 | 0x4030 => some 4 | 0x5100 => some 64 | 0x5101 => some 64 | 0x5102 => some 64
  | 0x5103 => some 64 | 0x5110 => some 192 | 0x5120 => some 64 | 0x5200 => some 192 | 0x5300 => some 64 | 0x5301 => some 4
  | 0x5302 => some 4 | 0x5310 => some 4 | 0x5311 => some 4 | 0x6001 => some 64 | 0x6010 => some 0 | 0x6011 => some 0
  | 0x6012 => some 0 | 0x6100 => some 2 | 0x6101 => some 0 | 0x6102 => some 0 | 0x6103 => some 7 | 0x6120 => some 64
  | 0x6140 => some 1 | 0x6141 => some 0 | 0x6142 => some 0 | 0x6143 => some 5 | 0x6150 => some 64 | 0x6160 => some 64
  | 0x6161 => some 64 | 0x6170 => some 1 | 0x6180 => some 64 | 0x6181 => some 64 | 0x6182 => some 64 | 0x6190 => some 64
  | 0x7000 => some 6 | 0x7001 => some 4 | 0x7110 => some 64 | 0x7120 => some 64 | 0x7121 => some 64 | 0x7122 => some 64
  | 0x7123 => some 0 | 0x7124 => some 64 | 0x8000 => some 4 | 0x8002 => some 0 | 0x8003 => some 0 | 0x8010 => some 5
  | 0x9000 => some 1 | 0x9001 => some 0 | 0x9002 => some 3 | 0x9010 => some 5 | 0x9011 => some 0 | 0x9012 => some 0
  | 0x9020 => some 64 | 0x9030 => some 2 | 0x9040 => some 5 | 0x9041 => some 0 | 0x9050 => some 2 | 0x9060 => some 3
  | 0x9110 => some 0 | 0x9111 => some 4 | 0xA000 => some 1 | 0xA001 => some 36 | 0xA002 => some 36 | 0xA010 => some 0
  | 0xA020 => some 1 | 0xA030 => some 36 | 0xA031 => some 36 | 0xA032 => some 36 | 0xA033 => some 36 | 0xA034 => some 36
  | 0xA200 => some 64 | 0xB110 => some 1 | 0xB120 => some 64 | 0xC100 => some 2 | 0xC200 => some 64 | 0xC201 => some 64
  | 0xC202 => some 64 | 0xC300 => some 16 | 0xC301 => some 16 | 0xC302 => some 16 | 0xC303 => some 16 | 0xC304 => some 16
  | 0xC305 => some 16
  | i => if 0xB100 ≤ i ∧ i < 0xB108 then some 128 else none

/-- Groups 0x1000 to 0x4000. DESIGN CHOICE (log 120): the spec gives 0x2110 no access right, type or unit; it is RW without
a session, its sub-indices are U32, times in whole µs. -/
def info1 (i sub : Nat) : Option ObjInfo :=
  match i, sub with
  | 0x1000, 4 => ro (.u 2) [] | 0x1000, 5 => ro (.u 4) [] | 0x1000, 6 => ro (.blob 6) [] | 0x1000, _ => ro .str []
  | 0x1030, _ => ro (.u 4) [] | 0x2100, _ => rws (.blob 1040) (List.replicate 1040 0) | 0x2101, _ => ro (.u 1) []
  | 0x2102, _ => ro (.u 4) [] | 0x2103, _ => ro (.u 2) [] | 0x2104, _ => wos (.u 1)
  | 0x2110, 1 => rw (.u 4) (natLe 4 200) | 0x2110, 2 => rw (.u 4) (natLe 4 8) | 0x2110, 3 => rw (.u 4) (natLe 4 64)
  | 0x2110, 4 => rw (.u 4) (natLe 4 10000) | 0x2110, _ => rw (.u 4) (natLe 4 2000)
  | 0x2120, _ => rw (.u 4) (natLe 4 100) | 0x2130, 1 => rw (.u 4) (natLe 4 50) | 0x2130, _ => rw (.u 1) [24]
  | 0x2140, 1 => ro .blobs [] | 0x2140, 2 => rw (.u 2) (natLe 2 16) | 0x2140, _ => ro (.u 4) [] | 0x2150, _ => rw (.u 1) [4]
  | 0x2200, 1 => rws (.u 1) [0] | 0x2200, 2 => rws (.u 1) [8] | 0x2200, 3 => ro (.u 1) [] | 0x2200, _ => ro (.u 8) []
  | 0x3000, 1 => wosOp (.u 1) | 0x3000, 2 => ro (.u 1) [] | 0x3000, _ => ro (.blob 32) []
  | 0x3100, _ => rwsOp (.blob 1024) [] | 0x3101, _ => rwsOp (.blob 768) [] | 0x3102, _ => rwsOp (.blob 1024) []
  | 0x3103, _ => rwsOp (.blob 2304) [] | 0x3104, _ => rwsOp (.blob 4096) []
  | 0x4000, 1 => rwsOp (.u 4) (natLe 4 1600) | 0x4000, _ => ro .f32 [] | 0x4001, _ => ro (.u 2) [] | 0x4002, _ => ro .f32 []
  | 0x4003, _ => ro (.u 1) [] | 0x4010, _ => rwsOp (.u 2) (natLe 2 750) | 0x4011, _ => ro .f32 [] | 0x4020, 1 => rwsOp (.u 1) [90]
  | 0x4020, _ => rwsOp (.u 1) [82] | 0x4021, _ => rwsOp (.u 2) (natLe 2 800) | 0x4030, _ => ro (.u 4) []
  | _, _ => none

/-- Groups 0x5000 and 0x6000. -/
def info2 (i sub : Nat) : Option ObjInfo :=
  match i, sub with
  | 0x5100, _ => ro .f32 [] | 0x5101, _ => ro .f32 [] | 0x5102, _ => ro .f32 [] | 0x5103, _ => ro .f32 [] | 0x5110, _ => ro .f32 []
  | 0x5120, _ => ro .f32 [] | 0x5200, _ => ro .f32 []
  | 0x5300, _ => ro .f32 [] | 0x5301, _ => ro .f32 [] | 0x5302, _ => ro (.u 4) [] | 0x5310, _ => ro (.u 1) [] | 0x5311, _ => ro (.u 4) []
  | 0x6001, _ => rwsOp (.blob 160) (List.replicate 160 0) | 0x6010, _ => wos (.blob 64) | 0x6011, _ => rw (.u 4) [0, 0, 0, 0]
  | 0x6012, _ => ro (.blob 64) [] | 0x6100, 1 => rws .blobs [] | 0x6100, _ => ro (.u 1) [] | 0x6101, _ => rws (.u 2) [0, 0]
  | 0x6102, _ => rw (.u 2) [0, 0] | 0x6103, 1 => ro (.u 1) [] | 0x6103, 2 => ro (.u 1) [] | 0x6103, 3 => ro (.blob 32) []
  | 0x6103, 4 => rws (.u 2) (natLe 2 3072) | 0x6103, 5 => ro (.u 4) [] | 0x6103, 6 => ro .blobs [] | 0x6103, _ => ro (.u 4) []
  | 0x6120, _ => rws .bool [0] | 0x6140, _ => rws .blobs [] | 0x6141, _ => rws .blobs [] | 0x6142, _ => rw (.blob 9) (List.replicate 9 0)
  | 0x6143, 1 => ro (.u 1) [] | 0x6143, 2 => ro (.u 2) [] | 0x6143, 4 => ro (.u 8) [] | 0x6143, _ => ro (.u 4) []
  | 0x6150, _ => rws (.blob 16) (List.replicate 16 0) | 0x6160, _ => rws (.u 1) [0] | 0x6161, _ => rws .f32 (natLe 4 0x51800000)
  | 0x6170, _ => rws .blobs [] | 0x6180, _ => rws (.u 4) [0, 0, 0, 0] | 0x6181, _ => rws (.u 4) (natLe 4 64) | 0x6182, _ => ro (.u 8) (natLe 8 0)
  | 0x6190, _ => rws (.u 4) [0, 0, 0, 0]
  | _, _ => none

/-- Groups 0x7000 to 0x9000. -/
def info3 (i sub : Nat) : Option ObjInfo :=
  match i, sub with
  | 0x7000, 1 => ro (.u 8) [] | 0x7000, 2 => rw (.u 8) (natLe 8 0) | 0x7000, 3 => ro (.u 8) [] | 0x7000, 4 => rw (.u 8) (natLe 8 0)
  | 0x7000, 5 => ro .blobs [] | 0x7000, _ => rw (.u 1) [1] | 0x7001, _ => ro (.u 4) [] | 0x7110, _ => ro (.blob 132) []
  | 0x7120, _ => ro (.u 1) [] | 0x7121, _ => ro (.u 1) [] | 0x7122, _ => ro (.blob 9) [] | 0x7123, _ => wosOp (.blob 2)
  | 0x7124, _ => ro (.u 4) [] | 0x8000, 3 => ro (.blob 32) [] | 0x8000, _ => ro (.u 8) [] | 0x8002, _ => rw (.u 8) (natLe 8 0)
  | 0x8003, _ => ro .blobs [] | 0x8010, 1 => ro (.u 8) [] | 0x8010, 2 => ro (.u 1) [] | 0x8010, 3 => rws (.u 1) [1]
  | 0x8010, 4 => rws (.u 8) (natLe 8 0) | 0x8010, _ => ro (.u 4) [] | 0x9000, _ => ro (.u 1) [] | 0x9001, _ => wosOp (.u 1)
  | 0x9002, 1 => ro (.u 1) [] | 0x9002, 2 => ro (.u 4) [] | 0x9002, _ => ro (.u 2) [] | 0x9010, 5 => ro (.u 1) []
  | 0x9010, _ => ro (.blob 80) [] | 0x9011, _ => wosOp (.blob 81) | 0x9012, _ => wosOp (.u 1)
  | 0x9020, k => if k ≤ 4 then ro (.blob 80) [] else rwsOp (.blob 80) (List.replicate 80 0)
  | 0x9030, 1 => ro (.blob 64) [] | 0x9030, _ => ro .blobs [] | 0x9040, 5 => ro (.u 1) [] | 0x9040, _ => ro (.blob 32) []
  | 0x9041, _ => wosOp (.u 1) | 0x9050, 1 => ro (.u 1) [] | 0x9050, _ => wosOp (.u 1) | 0x9060, 1 => ro (.u 1) []
  | 0x9060, _ => ro (.u 8) [] | 0x9110, _ => wosOp .blobs | 0x9111, 1 => ro (.u 1) [] | 0x9111, 2 => ro (.u 4) []
  | 0x9111, 3 => ro (.u 1) [] | 0x9111, _ => ro (.u 2) []
  | _, _ => none

/-- Groups 0xA000 to 0xC000. -/
def info4 (i sub : Nat) : Option ObjInfo :=
  match i, sub with
  | 0xA000, _ => rws (.u 2) [0xFF, 0xFF] | 0xA001, _ => rw .bool [1] | 0xA002, _ => ro (.u 2) [] | 0xA010, _ => rws .blobs (List.replicate 16384 0)
  | 0xA020, _ => rw (.u 4) (natLe 4 100) | 0xA200, _ => rws .blobs [0, 0, 0, 0] | 0xB110, _ => ro (.u 8) [] | 0xB120, _ => rws (.u 4) [0, 0, 0, 0]
  | 0xC100, 1 => rws (.u 8) (natLe 8 0) | 0xC100, _ => rws (.u 4) [0, 0, 0, 0] | 0xC200, _ => ro (.u 2) [] | 0xC201, _ => ro (.u 4) []
  | 0xC202, _ => ro (.u 2) [] | 0xC300, _ => ro (.u 1) [] | 0xC301, _ => ro .f32 [] | 0xC305, _ => ro (.u 2) []
  | i, _ =>
    if 0xA030 ≤ i ∧ i ≤ 0xA034 then ro (.u 8) []
    else if 0xB100 ≤ i ∧ i < 0xB108 then rws (.blob 32) (List.replicate 32 0)
    else if 0xC302 ≤ i ∧ i ≤ 0xC304 then ro (.u 4) [] else none

/-- Look an object up (R524): sub-index 0 of a numbered index is a U8 that reads how many subs it has. -/
def info (i sub : Nat) : Option ObjInfo :=
  match count i with
  | none => none
  | some n =>
    if sub > n then none
    else if sub = 0 ∧ n > 0 then ro (.u 1) [BitVec.ofNat 8 n]
    else if i < 0x5000 then info1 i sub
    else if i < 0x7000 then info2 i sub
    else if i < 0xA000 then info3 i sub
    else info4 i sub

/-- The key of an object in the table of stored values. -/
def key (i sub : Nat) : Nat := 256 * i + sub

/-- The range of an object's value, where a table gives one as plain numbers. -/
def range (i sub : Nat) : Option (Nat × Nat) :=
  match i, sub with
  | 0x2110, 1 => some (0, 2000) | 0x2110, 2 => some (1, 1024) | 0x2110, 3 => some (1, 1024) | 0x2110, 4 => some (100, 10000000)
  | 0x2110, 5 => some (100, 1000000) | 0x2120, _ => some (10, 100000) | 0x2130, 1 => some (10, 10000) | 0x2130, _ => some (4, 64)
  | 0x2140, _ => some (0, 2048) | 0x2150, _ => some (1, 255) | 0x2200, 1 => some (0, 31) | 0x2200, _ => some (2, 32)
  | 0x4010, _ => some (200, 900) | 0x4020, 1 => some (70, 92) | 0x4020, _ => some (70, 84) | 0x4021, _ => some (600, 800)
  | 0x6160, _ => some (0, 1) | 0x6180, _ => some (0, 98304) | 0x6181, _ => some (4, 4096) | 0x6190, _ => some (0, 65536)
  | 0x7000, 6 => some (0, 3) | 0x9012, _ => some (0, 3) | 0x9041, _ => some (0, 3) | 0xA020, _ => some (10, 100000)
  | _, _ => none

end Dict

/-- The default of an object (R527); the package budget's follows the ordering code (R1), the node ID the straps (R514, R632). -/
def State.objDefault (s : State) (i sub : Nat) : Bytes :=
  if i = 0x4000 ∧ sub = 1 ∧ !s.lamp.fuses.hx then natLe 4 1400
  else if i = 0x2200 ∧ sub = 1 then [s.pins.straps &&& 31]
  else match Dict.info i sub with
    | some o => o.dflt
    | none => []

/-- The value of a stored object. -/
def State.objBytes (s : State) (i sub : Nat) : Bytes := (Tab.get none (Dict.key i sub) s.hal.dict).getD (s.objDefault i sub)

/-- The value of a stored object as a number. -/
def State.obj (s : State) (i sub : Nat) : Nat := leNat (s.objBytes i sub)

/-- Store an object's value. -/
def State.setObj (s : State) (i sub : Nat) (v : Bytes) : State :=
  { s with hal := { s.hal with dict := Tab.put none (Dict.key i sub) (some v) s.hal.dict } }

end Sys2Proof.Machine
end

