-- ==== Sys2Proof/Machine/Journal.lean ====
section
/-! DEFINITION. The change journal (19 R534 to R540). -/

namespace Sys2Proof.Machine
open Sys2Proof

/-- Bytes 0x00 to 0x5F of an entry (R535). -/
def JEntry.head (e : JEntry) : Bytes :=
  natLe 8 e.jseq ++ natLe 8 e.time ++ natLe 1 e.tsrc ++ natLe 1 e.origin ++ natLe 1 e.kind ++ natLe 1 e.vflags ++ natLe 2 e.index ++
    natLe 1 e.sub ++ natLe 1 e.part ++ natLe 2 e.cred ++ natLe 2 e.sess ++ natLe 4 e.aux ++ fitBytes 32 e.old ++ fitBytes 32 e.new

def JEntry.bytes (e : JEntry) : Bytes := e.head ++ e.chain

/-- The time source in use (R533): PTP when allowed and locked, else PTM when allowed and available. -/
def State.timeSource (s : State) : Nat :=
  let allowed := s.obj 0x8010 3
  if s.hal.ptp && nbit allowed 0 then 1 else if s.hal.ptm && s.cxl.up && nbit allowed 1 then 2 else 0

/-- What a change says of itself to the journal; values of more than 32 bytes are stored as their SHA-256 (R536). `hashes`: bit 0 where `old`, bit 1 where `new` is a SHA-256 that
its own rule names. -/
structure JChange where
  origin : Nat
  kind : Nat
  index : Nat
  sub : Nat
  part : Nat
  cred : Nat
  sess : Nat
  aux : Nat
  old : Bytes
  new : Bytes
  hashes : Nat := 0
  deriving DecidableEq, Repr

/-- A change that the device makes by itself: origin 4 firmware or 5 hardware. -/
def JChange.dev (origin kind index sub : Nat) (old new : Bytes) : JChange :=
  { origin := origin, kind := kind, index := index, sub := sub, part := 0xFF, cred := 0xFFFF, sess := 0, aux := 0, old := old, new := new }

/-- A value as an entry stores it (R536). -/
def jValue (v : Bytes) : Bytes := if v.length ≤ 32 then v else Crypto.sha256 v

/-- The number that the next entry takes (R535); with no entry in flash a cold start passes over those that a loss of power may have taken (R538, log 37). -/
def Haldub.nextJseq (y : Haldub) : Nat :=
  match y.jlast with
  | none => y.jgap
  | some e => e.jseq + 1 + y.jgap

/-- Entries more than 65,535 below the newest are no longer held (R537, R538). -/
def heldEntries (last : Option JEntry) (l : List JEntry) : List JEntry :=
  l.filter (fun e => decide (((last.map (·.jseq)).getD 0) ≤ e.jseq + 65535))

/-- An entry of kinds 2, 3 and 4 goes to flash before its change takes effect (R538): program everything that waits. -/
def journalFlush (s : State) : State :=
  { s with hal := { s.hal with jram := [], jflash := heldEntries s.hal.jlast (s.hal.jflash ++ s.hal.jram) } }

/-- Append an entry: formed and chained in SRAM (R538). DEDUCED (log 111): where the 1,088 places of R539 are taken, the oldest entry goes to flash first. -/
def journalAt (s : State) (jseq : Nat) (c : JChange) : State :=
  let e : JEntry :=
    { jseq := jseq, time := s.time64, tsrc := s.timeSource, origin := c.origin, kind := c.kind,
      vflags := (if c.old.length > 32 ∨ nbit c.hashes 0 then 1 else 0) + (if c.new.length > 32 ∨ nbit c.hashes 1 then 2 else 0), index := c.index, sub := c.sub, part := c.part,
      cred := c.cred, sess := c.sess, aux := c.aux, old := jValue c.old, new := jValue c.new, chain := [] }
  let prev := match s.hal.jlast with
    | none => List.replicate 32 0
    | some p => p.chain
  let e := { e with chain := Crypto.sha256 (prev ++ e.head) }
  let y := if s.hal.jram.length < 1088 then s.hal
    else { s.hal with jram := s.hal.jram.drop 1, jflash := heldEntries s.hal.jlast (s.hal.jflash ++ s.hal.jram.take 1) }
  { s with hal := { y with jram := y.jram ++ [e], jlast := some e, jgap := 0 } }

def journal (s : State) (c : JChange) : State := journalAt s s.hal.nextJseq c

/-- Is the buffer full for requested changes (R539)? -/
def State.journalFull (s : State) : Bool := decide (s.hal.jram.length ≥ 1024)

/-- A change refused for want of a place is counted (0x8000:04). -/
def journalRefused (s : State) : State := { s with hal := { s.hal with jbusy := s.hal.jbusy + 1 } }

end Sys2Proof.Machine
end

