-- ==== Sys2Proof/Machine/Dram.lean ====
section
/-! DEFINITION. Device DRAM as units reach it (16): decode, lost channels, poison, snoops of host lines (18 R506), and the translation of
device virtual addresses (13 R356 to R361). -/

namespace Sys2Proof.Machine
open Sys2Proof

/-- Bytes of a stack (R432). -/
def stackBytes : Nat := 0x1400000000
/-- Bytes of DRAM (R432). -/
def dramBytes : Nat := 0x14000000000

/-- The stack that holds a physical address (R432). -/
def stackOf (a : Nat) : Nat := a / stackBytes

/-- u of R432. -/
def dramU (a : Nat) : Nat := (a % stackBytes) / 65536

/-- The channel of a physical address (R432). -/
def channelOf (a : Nat) : Nat := (nbits (a % stackBytes) 15 11) ^^^ (dramU a % 32)

/-- The bank of a physical address (R432). -/
def bankOf (a : Nat) : Nat := dramU a % 80

/-- The row of a physical address (R432). -/
def rowOf (a : Nat) : Nat := dramU a / 80

/-- Is the address in a hardware-managed gigabyte (R433)? -/
def hwManaged (a : Nat) : Bool := decide (0x13C0000000 ≤ a % stackBytes)

/-- Is a hall held (R52)? -/
def hallHeld (s : State) (h : Nat) : Bool := (s.hallAt h).heldSince.isSome

namespace State

/-- Is the channel of an address lost (R447)? -/
def lostAt (s : State) (a : Nat) : Bool := (s.stackAt (stackOf a)).lost.getLsbD (channelOf a)

/-- The model's number of a host line of DRAM; smaller numbers are lines of the status window (R490, R493, R506). -/
def dramLine (a : Nat) : Nat := 4194304 + a / 64

/-- Does a line lie in `n` bytes from `a`? -/
def inLines (a n k : Nat) : Bool := decide (dramLine a ≤ k ∧ k ≤ dramLine (a + n - 1))

/-- Must a device access of `n` bytes from `a` wait: for a line that the host holds or a snoop that is not answered (R506)? -/
def snoopBusy (s : State) (a n : Nat) : Bool := s.cxl.filter.any (inLines a n) || s.cxl.snoops.any (fun c => inLines a n c.1)

/-- Must it wait: for a snoop, or because the hall of its stack is held (R52)? -/
def lineBusy (s : State) (a n : Nat) : Bool := snoopBusy s a n || hallHeld s (stackOf a / 4)

/-- Mark an access that must wait, and the lines of it that the host holds, by entries of `snoops` by which `awaited` knows them. -/
def markWait (s : State) (a n : Nat) : State :=
  let ks : List Nat := dramLine a :: s.cxl.filter.filter (inLines a n)
  { s with cxl := { s.cxl with snoops := s.cxl.snoops ++ ks.map (fun k => (k, s.clock.now, true)) } }

/-- A device unit is about to touch `n` bytes from `a` (R506): an access that must wait for a snoop is marked. -/
def snoopLines (s : State) (a n : Nat) : State := if snoopBusy s a n then markWait s a n else s

/-- The same for a unit whose access waits while the hall of the stack is held too (R52). -/
def snoopRange (s : State) (a n : Nat) : State := if lineBusy s a n then markWait s a n else s

/-- Read bytes within one 2 KiB block: zeros, poisoned, from a lost channel (R447). -/
def dget (s : State) (a n : Nat) : Bytes × Bool :=
  if s.lostAt a then (List.replicate n 0, true) else (s.dramRead a n, s.dramPoisoned a n)

/-- Write bytes, dropped at a lost channel (R447); poison bits are the caller's (R445). -/
def dput (s : State) (a : Nat) (v : Bytes) : State := if s.lostAt a then s else s.dramWrite a v

/-- One write of bytes as R445 has it: poisoned data sets every granule touched, clean data clears the granules covered whole. -/
def dwrite (s : State) (a : Nat) (v : Bytes) (bad : Bool) : State :=
  if s.lostAt a then s
  else
    let s := s.dramWrite a v
    if bad then s.dramSetPoison a v.length true
    else
      let lo := (a + 31) / 32
      let hi := (a + v.length) / 32
      s.dramSetPoison (32 * lo) (32 * (hi - lo)) false

end State

/-- The marks that something which led from `s` to `t` has left. -/
def waitMarks (s t : State) : List (Nat × Nat × Bool) := (t.cxl.snoops.drop s.cxl.snoops.length).filter (fun c => c.2.2)

/-- The lines that the accesses marked since `s` still have to snoop. -/
def toSnoop (s t : State) : List Nat := (((waitMarks s t).map (·.1)).filter (fun k => s.cxl.filter.contains k)).eraseDups

/-- Snoops leave for lines, and the filter no longer holds them (R506). -/
def sendSnoops (s : State) (ks : List Nat) : State :=
  { s with
    cxl := { s.cxl with filter := s.cxl.filter.filter (fun k => !ks.contains k), snoops := s.cxl.snoops ++ ks.map (fun k => (k, s.clock.now, false)) }
    out := s.out ++ ks.map Output.snoop }

/-- Did something that led from `s` to `t` touch DRAM that it must wait for? -/
def dramBusy (s t : State) : Bool := !(waitMarks s t).isEmpty

/-- An operation of a device unit on DRAM: where a line that it touches must be waited for (R52, R506), the snoops leave and nothing else happens; the command that comes
once they are answered carries it out. -/
def awaited (s : State) (f : State → State) : State :=
  let t := f s
  if dramBusy s t then sendSnoops s (toSnoop s t) else t

/-- An operation that an abort or a halt carries out: it waits for nothing; what it touches is snooped. -/
def atOnce (s : State) (f : State → State) : State :=
  let t := f s
  if dramBusy s t then
    sendSnoops { t with cxl := { t.cxl with snoops := s.cxl.snoops ++ (t.cxl.snoops.drop s.cxl.snoops.length).filter (fun c => !c.2.2) } } (toSnoop s t)
  else t

/-- The physical address at which the hardware-managed gigabytes hold an item (R433). -/
def hwAddr (kind id : Nat) : Nat := Config.hwPlace kind id % 16 * stackBytes + 0x13C0000000 + 32 * (Config.hwPlace kind id / 16 % 33554432)

/-- Does an item of `n` bytes there read poisoned: in a poisoned granule or in a lost channel? Then its user takes it as absent (R596). -/
def hwGone (s : State) (kind id n : Nat) : Bool :=
  s.dram.poi.any (fun c => c.2 && hwManaged (32 * c.1) && decide (hwAddr kind id < 32 * c.1 + 32 ∧ 32 * c.1 < hwAddr kind id + n)) ||
    s.dram.stk.any (fun c => c.2.lost != 0 && (List.range (n / 2048 + 1)).any (fun k =>
      stackOf (hwAddr kind id) == c.1 && s.lostAt (hwAddr kind id + 2048 * k)))

/-- The lamplighter writes an item whole, which clears the poison of its granules (R445). -/
def hwWritten (s : State) (kind id n : Nat) : State :=
  { s with dram := { s.dram with
      poi := Tab.keep (fun k => !decide (hwAddr kind id < 32 * k + 32 ∧ 32 * k < hwAddr kind id + n)) s.dram.poi } }

/-! ## Translation -/

/-- Bytes of a page of size code 0, 1 or 2 (R357). -/
def pageBytes (size : Nat) : Nat := if size = 0 then 65536 else if size = 1 then 2097152 else 1073741824

/-- Does a page hold a virtual address? -/
def Page.holds (p : Page) (va : Nat) : Bool := decide (p.va ≤ va ∧ va < p.va + pageBytes p.size)

/-- A page as a translation cache holds it. -/
def Page.entry (p : Page) (asid : Nat) : TlbEntry :=
  { asid := asid, va := p.va, pa := p.pa, size := p.size, rights := (if p.rd then 1 else 0) + (if p.wr then 2 else 0) }

/-- Put an entry into a translation cache of `n` entries; the oldest leaves (log 14). -/
def tlbPut (n : Nat) (e : TlbEntry) (es : List TlbEntry) : List TlbEntry := (e :: es.filter (· != e)).take n

/-- The pages of an address space (R357); none where its table reads poisoned (R596). DESIGN CHOICE (log 80): its first granule stands for the table. -/
def pagesOf (s : State) (asid : Nat) : List Page :=
  match Tab.get none asid s.dram.spaces with
  | none => []
  | some sp => if hwGone s 1 asid 32 then [] else sp.pages

/-- The physical address of a virtual one, where a page grants the access (R356, R361). Addresses outside 0 to 2^57 - 1 have no page. -/
def xlate (s : State) (asid : Nat) (va : Int) (wr : Bool) : Option Nat :=
  if va < 0 then none
  else
    match (pagesOf s asid).find? (fun p => p.holds va.toNat) with
    | none => none
    | some p => if (if wr then p.wr else p.rd) then some (p.pa + (va.toNat - p.va)) else none

/-- The address space of a gallery's task (R22, R356). -/
def asidOf (s : State) (g : Nat) : Nat := ((s.galAt g).task.map (·.item.sess.asid)).getD 0

/-- Read `n` bytes of virtual memory, each byte checked against its page: none on a fault, else the bytes and whether a granule is
poisoned. -/
def vread (s : State) (asid : Nat) (va : Int) (n : Nat) : Option (Bytes × Bool) :=
  (List.range n).foldl (fun acc (i : Nat) =>
    match acc, xlate s asid (va + i) false with
    | some (bs, p), some pa => some (bs ++ (s.dget pa 1).1, p || (s.dget pa 1).2)
    | _, _ => none) (some ([], false))

/-- Is no line of DRAM held by the host or being snooped, and no hall held? Then no access of a device unit waits (R52, R506). -/
def quiet (s : State) : Bool :=
  s.cxl.filter.isEmpty && !s.cxl.snoops.any (fun c => decide (4194304 ≤ c.1)) && !s.hall.any (fun c => c.2.heldSince.isSome)

/-- Snoop the host's lines behind `n` bytes of virtual memory (R506). -/
def vsnoop (s : State) (asid : Nat) (va : Int) (n : Nat) (wr : Bool) : State :=
  if quiet s then s
  else (List.range n).foldl (fun s (i : Nat) => match xlate s asid (va + i) wr with
    | some pa => s.snoopRange pa 1
    | none => s) s

/-- Does an access wait for a snoop of a line that the task's address space maps (R507)? DESIGN CHOICE (log 12): it counts as the task's. -/
def snoopWaits (s : State) (g : Nat) : Bool :=
  s.cxl.snoops.any (fun c => decide (4194304 ≤ c.1) && (pagesOf s (asidOf s g)).any (fun p =>
    decide (p.pa ≤ 64 * (c.1 - 4194304) ∧ 64 * (c.1 - 4194304) < p.pa + pageBytes p.size)))

/-! ## Lines of the host (R453, R506) -/

/-- Is the port up with its CXL protocols (R488)? -/
def cxlUp (s : State) : Bool := decide (s.boot.stage ≠ .off) && s.cxl.up && s.cxl.cxl

/-- A snoop of a line leaves (R493, R506). -/
def sendSnoop (s : State) (k : Nat) : State :=
  ({ s with cxl := { s.cxl with snoops := s.cxl.snoops ++ [(k, s.clock.now, false)] } }).emit (.snoop k)

/-- The host takes hold of a line of DRAM (R506): a full filter first gives up its oldest line. -/
def trackLine (s : State) (k : Nat) : State :=
  if s.cxl.filter.contains k then s
  else
    let s := if s.cxl.filter.length < 4194304 then s else
      (match s.cxl.filter with
       | [] => s
       | o :: rest => sendSnoop { s with cxl := { s.cxl with filter := rest } } o)
    { s with cxl := { s.cxl with filter := s.cxl.filter ++ [k] } }

/-- A line of the host reaches DRAM: read and answered, or written (R453). -/
def hostLineDo (s : State) (x : HostAcc) : State :=
  match x.line with
  | some (v, poison) => s.dwrite x.addr v poison
  | none =>
    let s := if x.hold then trackLine s (State.dramLine x.addr) else s
    s.emit (.line (s.dget x.addr 64).1 (s.dget x.addr 64).2)

/-! ## The regulators (R439 to R441) -/

/-- Tokens of a partition in a hall, in tenths of a byte, at this time; a bucket not yet drawn from is full (DESIGN CHOICE, log 26). -/
def tokensNow (s : State) (h p : Nat) : Int :=
  let depth : Int := 10240 * s.obj 0x6181 (p + 1)
  match Tab.get none p (s.hallAt h).tokens with
  | none => depth
  | some (t, at_) => min depth (t + s.obj 0x6180 (p + 1) * (s.clock.now - at_ : Nat))

/-- Does a bucket hold a burst's 256 bytes (rate 0: unregulated)? -/
def bucketOk (s : State) (h p : Nat) : Bool := s.obj 0x6180 (p + 1) == 0 || decide (2560 ≤ tokensNow s h p)

/-- Draw 256 bytes of tokens for each of `n` bursts. -/
def drawTokens (s : State) (h p n : Nat) : State :=
  if s.obj 0x6180 (p + 1) = 0 then s
  else s.updHall h (fun y => { y with tokens := Tab.put none p (some (tokensNow s h p - 2560 * n, s.clock.now)) y.tokens })

/-- One more burst held back (object 0x6182). -/
def countHeld (s : State) (p : Nat) : State := s.setObj 0x6182 (p + 1) (natLe 8 (s.obj 0x6182 (p + 1) + 1))

/-- The partition of a gallery's task, whose bucket its bursts draw from. -/
def taskPart (s : State) (g : Nat) : Nat := ((s.galAt g).task.map (·.item.sess.part)).getD 0

/-- The model's numbers of the units that the regulator can hold back, but for stream bursts (R439). -/
def unitCache : Nat := 0
def unitMacro : Nat := 1
def unitUpdate : Nat := 2
def unitTaper (k : Nat) : Nat := 3 + k
def unitLayout (l : Nat) : Nat := 8 + l

/-- How many of `n` bursts a bucket lets go now. -/
def burstsNow (s : State) (h p n : Nat) : Nat := if s.obj 0x6180 (p + 1) = 0 then n else Nat.min n (tokensNow s h p / 2560).toNat

/-- A unit of gallery `g` asks for the `n` bursts of its operation: the state, and whether all of them have gone. Those that the bucket holds tokens for go; the next one is
held back, which counts once, and the rest of the operation with it, until the unit asks with the bucket refilled (R439). DESIGN CHOICE (log 76): the effect of the operation
comes with its last burst. -/
def askTokens (s : State) (g unit n : Nat) : State × Bool :=
  let p := taskPart s g
  let h := hallOf g
  let waits := (s.galxAt g).heldBy.find? (fun c => c.1 == unit)
  let rest := (s.galxAt g).heldBy.filter (fun c => c.1 != unit)
  let left := (waits.map (·.2)).getD n
  let k := burstsNow s h p left
  if n = 0 then (s, true)
  else if k = left then (drawTokens (s.updGalx g (fun y => { y with heldBy := rest })) h p k, true)
  else
    let s := drawTokens (s.updGalx g (fun y => { y with heldBy := (unit, left - k) :: rest })) h p k
    (if k = 0 ∧ waits.isSome then s else countHeld s p, false)

/-- Before a rate or a depth of a partition changes, every hall's bucket is brought up to the time of the change. -/
def settleTokens (s : State) (p : Nat) : State :=
  (List.range 4).foldl (fun s h =>
    if (Tab.get none p (s.hallAt h).tokens).isNone then s
    else s.updHall h (fun y => { y with tokens := Tab.put none p (some (tokensNow s h p, s.clock.now)) y.tokens })) s

end Sys2Proof.Machine
end

