-- ==== Sys2Proof/Machine/JobMem.lean ====
section
/-! DEFINITION. An update job's block and its tensors in virtual memory (15 R415, R416), and what an abort leaves of them (R426). -/

namespace Sys2Proof.Machine
open Sys2Proof

/-! ## The job block (R415, R416) -/

def jOpt (b : Bytes) : Nat := fld b 0 1
def jPhase (b : Bytes) : Nat := fld b 1 1
def jTouched (b : Bytes) : Bool := nbit (fld b 2 1) 0
def jMaster (b : Bytes) : Bool := nbit (fld b 2 1) 1
def jMode (b : Bytes) : Nat := nbits (fld b 2 1) 3 2
def jWidth (b : Bytes) : Nat := fld b 0x0C 4
def jN (b : Bytes) : Nat := fld b 0x10 8
def jStage (b : Bytes) : Nat := fld b 0x1C 4
def jF (b : Bytes) (off : Nat) : W32 := w32 (fld b off 4)
def jAddr (b : Bytes) (e : Nat) : Nat := fld b (0x58 + 24 * e) 8
def jScale (b : Bytes) (e : Nat) : Nat := fld b (0x60 + 24 * e) 8
def jType (b : Bytes) (e : Nat) : Nat := fld b (0x68 + 24 * e) 1

/-- Bits of an element of a type (R347). -/
def typeBits (t : Nat) : Nat :=
  match t % 128 with
  | 2 => 16 | 3 => 8 | 4 => 8 | 5 => 6 | 6 => 6 | 7 => 4 | _ => 32

/-- Is a type block-scaled (R347)? -/
def typeScaled (t : Nat) : Bool := decide (128 ≤ t)

/-! ## Virtual memory, byte by byte -/

/-- What a read brought: its value, whether a granule was poisoned, and the address of its first translation fault (R361). -/
structure URead where
  v : Nat
  poi : Bool
  flt : Option Nat
  deriving DecidableEq, Repr

/-- Bits [w*k + w - 1 : w*k] of an array. -/
def uBits (s : State) (asid base k w : Nat) : URead :=
  let off := w * k % 8
  let lo := base + w * k / 8
  let bs : List (Byte × Bool × Option Nat) := (List.range ((off + w + 7) / 8)).map (fun i =>
    match xlate s asid ((lo + i : Nat) : Int) false with
    | some pa => let r := s.dget pa 1; (r.1.getD 0 0, r.2, none)
    | none => (0, true, some (lo + i)))
  { v := (leNat (bs.map (·.1)) >>> off) % 2 ^ w, poi := bs.any (·.2.1), flt := (bs.filterMap (·.2.2)).head? }

/-- Bytes to write at virtual addresses, each clean or poisoned. -/
abbrev UWrites := List (Nat × Byte × Bool)

/-- One write of all the bytes: dropped where the page does not grant it; a granule with a poisoned byte is stored poisoned, one covered whole
by clean bytes is cleared (R408, R445). The address of the first fault. -/
def uWrite (s : State) (asid : Nat) (ws : UWrites) : State × Option Nat :=
  let ps := ws.map (fun w => (xlate s asid (w.1 : Int) true, w))
  let ok : List (Nat × Byte × Bool) := ps.filterMap (fun p => p.1.map (fun pa => (pa, p.2.2.1, p.2.2.2)))
  let s := ok.foldl (fun s w => s.dput w.1 [w.2.1]) s
  let s := ((ok.map (fun w => w.1 / 32)).eraseDups).foldl (fun s gr =>
    let mine := ok.filter (fun w => w.1 / 32 == gr)
    if s.lostAt (32 * gr) then s
    else if mine.any (·.2.2) then s.dramSetPoison (32 * gr) 32 true
    else if (List.range 32).all (fun i => mine.any (fun w => w.1 == 32 * gr + i)) then s.dramSetPoison (32 * gr) 32 false else s) s
  (s, ((ps.filter (fun p => p.1.isNone)).map (fun p => p.2.1)).head?)

/-- Before a unit writes those bytes, the host's lines are snooped (R506). -/
def uSnoop (s : State) (asid : Nat) (ws : UWrites) : State :=
  if quiet s then s else ws.foldl (fun s w => match xlate s asid (w.1 : Int) true with
    | some pa => s.snoopRange pa 1
    | none => s) s

/-- A byte string as writes. -/
def uBytes (va : Nat) (v : Bytes) (bad : Bool) : UWrites := (List.range v.length).map (fun i => (va + i, v.getD i 0, bad))

/-- The elements of the gradient (R418). -/
def gradCount (b : Bytes) : Nat := if jTouched b then jN b * jWidth b else jN b

/-! ## Blocks (R425, R426) -/

/-- Blocks of a row in touched-row mode; 1 in flat mode, where a unit of pass two is a block. -/
def rowBlocks (b : Bytes) : Nat := if jTouched b then Nat.max 1 (jWidth b / 32) else 1

/-- Blocks of pass two. -/
def jobBlocks (b : Bytes) : Nat := gradCount b / 32

/-- The `progress` of a pass that has done so many units (R426). -/
def progressOf (b : Bytes) (units : Nat) : Nat := if jobBlocks b ≤ units * rowBlocks b then jobBlocks b else units * rowBlocks b / 65536 * 65536

/-- The row of the table that row `k` of the compact gradient names (R425). -/
def rowIndex (s : State) (asid : Nat) (b : Bytes) (k : Nat) : Int := (BitVec.ofNat 32 (uBits s asid (jAddr b 5) k 32).v).toInt

/-- Is row `k` of the compact gradient in the table, its index above that of every row accepted before (R425)? -/
def rowTaken (s : State) (asid : Nat) (b : Bytes) (k : Nat) : Bool :=
  let inTable (i : Int) : Bool := decide (0 ≤ i ∧ i < (fld b 0x18 4 : Int))
  let row := rowIndex s asid b k
  inTable row && (List.range k).all (fun i => !inTable (rowIndex s asid b i) || decide (rowIndex s asid b i < row))

/-- The addresses that pass two writes for block `k`: of the table's block, and of its row's count. -/
def blockAddrs (s : State) (asid : Nat) (b : Bytes) (k : Nat) : List Nat :=
  let row := rowIndex s asid b (k / rowBlocks b)
  if jTouched b && !rowTaken s asid b (k / rowBlocks b) then []
  else
    let j := if jTouched b then row.toNat * rowBlocks b + k % rowBlocks b else k
    let of_ (e : Nat) : List Nat :=
      let n := 4 * typeBits (jType b e)
      (List.range n).map (fun i => jAddr b e + n * j + i) ++ (if typeScaled (jType b e) then [jScale b e + j] else [])
    of_ 0 ++ (if jMaster b then of_ 1 else []) ++ of_ 3 ++ (if jOpt b = 1 then of_ 4 else []) ++
      (if jTouched b then (List.range 4).map (fun i => jAddr b 6 + 4 * row.toNat + i) else [])

/-- The engine is about to read and write `n` blocks from block `k` on: lines that the host holds are snooped (R506). -/
def blockSnoop (s : State) (asid : Nat) (b : Bytes) (k n : Nat) : State :=
  if quiet s then s
  else
    let w := 4 * typeBits (jType b 2)
    (List.range n).foldl (fun s i =>
      let s := (blockAddrs s asid b (k + i)).foldl (fun s (a : Nat) => vsnoop s asid (a : Int) 1 true) s
      let s := vsnoop s asid ((jAddr b 2 + w * (k + i) : Nat) : Int) w false
      let s := if typeScaled (jType b 2) then vsnoop s asid ((jScale b 2 + k + i : Nat) : Int) 1 false else s
      if jTouched b then vsnoop s asid ((jAddr b 5 + 4 * ((k + i) / rowBlocks b) : Nat) : Int) 4 false else s) s

/-- The same for pass one, which reads the whole gradient and the partials (R418). -/
def normSnoop (s : State) (asid : Nat) (b : Bytes) : State :=
  let s := if jPhase b = 2 then s else
    vsnoop (vsnoop s asid (jAddr b 2 : Int) (gradCount b * typeBits (jType b 2) / 8) false) asid (jScale b 2 : Int)
      (if typeScaled (jType b 2) then jobBlocks b else 0) false
  if jPhase b = 1 then s else vsnoop s asid (fld b 0x40 8 : Int) (8 * fld b 6 2) false

/-- The window of an aborted job (R426): the 4,096 blocks from `progress` on hold free values in every tensor, counts included (log 8). -/
def freeWindow (s : State) (g : Nat) : State :=
  match (s.galxAt g).upd with
  | none => s
  | some j =>
    match j.pass with
    | none => s
    | some p =>
      let lo := progressOf j.block p.next
      let asid := asidOf s g
      let as := (List.range (Nat.min 4096 (jobBlocks j.block - lo))).flatMap (fun k => blockAddrs s asid j.block (lo + k))
      let (w, s) := s.freshWords as.length
      (uWrite s asid ((as.zip w).map (fun x => (x.1, x.2.setWidth 8, x.2.getLsbD 8)))).1

end Sys2Proof.Machine
end

