-- ==== Sys2Proof/Machine/Gallery.lean ====
section
/-! DEFINITION. What ends and clears work: completions (18), wipes and aborts (01, 03), lantern sparing, quarantine, halls that halt (22). -/

namespace Sys2Proof.Machine
open Sys2Proof

/-! ## Completions -/

/-- Partition p's completion slots: first and count (R503). -/
def slotAllot (s : State) (p : Nat) : Nat × Nat := (s.obj 0xB120 (p + 1) % 65536, s.obj 0xB120 (p + 1) / 65536)

/-- The 8 bytes of a ring's state. -/
def Ring.word (y : Ring) : Bytes := natLe 4 y.head.toNat ++ natLe 1 y.st ++ natLe 2 y.err ++ [0]

/-- The 16 bytes of a completion record (R503). -/
def Completion.bytes (y : Completion) : Bytes :=
  natLe 8 y.tag.toNat ++ natLe 2 y.status.toNat ++ [y.gallery, y.phase] ++ natLe 2 y.ring.toNat ++ natLe 2 y.records.toNat

/-- Line k of the window, every update made. -/
def windowLine (s : State) (k : Nat) : Bytes :=
  if k < 128 then (List.range 8).flatMap (fun i => natLe 8 (Tab.get (0 : W64) (8 * k + i) s.net.sig).toNat)
  else if k < 256 then (List.range 8).flatMap (fun i => (s.ringAt (8 * (k - 128) + i)).word)
  else (List.range 4).flatMap (fun i => (Tab.get Completion.zero (4 * (k - 256) + i) s.cxl.slots).bytes)

/-- Before a line of the status window is updated: one that the host holds is snooped, and the update waits for the response (R493): until then the line reads as it was. -/
def windowUpdate (s : State) (line : Nat) : State :=
  if s.cxl.winHeld.contains line then
    ({ s with cxl := { s.cxl with
        winHeld := s.cxl.winHeld.filter (· != line), snoops := s.cxl.snoops ++ [(line, s.clock.now, false)],
        winOld := if (Tab.get none line s.cxl.winOld).isSome then s.cxl.winOld else Tab.put none line (some (windowLine s line)) s.cxl.winOld } }).emit
      (.snoop line)
  else s

/-- The session of an item has one more completed item (R22); its entry in the roll, where it still stands. -/
def countDone (s : State) (sid : Nat) : State :=
  { s with roll := Tab.upd none sid (fun e => e.map (fun y => { y with itemsDone := y.itemsDone + 1 })) s.roll }

/-- The item is no longer outstanding on its ring. -/
def dropOutstanding (s : State) (ring idx : Nat) : State := s.updRing ring (fun y => { y with items := y.items.erase idx })

/-- An item ends (R503, R504): its record goes to its completion slot, or `ST_ITEM_SLOT` tells its status; MSI-X if asked.
`sess` is the entry under which it was admitted, none when its session was absent. -/
def completeRaw (s : State) (ring idx : Nat) (bytes : Bytes) (part : Nat) (sid : Nat) (st gal recs : Nat) : State :=
  let s := dropOutstanding s ring idx
  let slot := fld bytes 2 2
  let tag := w64 (fld bytes 8 8)
  let (first, cnt) := slotAllot s part
  let s :=
    if first ≤ slot ∧ slot < first + cnt then
      let s := windowUpdate s ((0x4000 + 16 * slot) / 64)
      { s with cxl := { s.cxl with slots := Tab.upd .zero slot (fun y =>
          { tag := tag, status := BitVec.ofNat 16 st, gallery := BitVec.ofNat 8 gal, phase := y.phase + 1, ring := BitVec.ofNat 16 ring,
            records := BitVec.ofNat 16 recs }) s.cxl.slots } }
    else
      report s { Rep.ofHall St.itemSlot 1 false 12 (s.ringAt ring).hall slot st with
        part := part, sess := some sid, ring := ring, item := idx, tag := tag }
  let v := (s.ringAt ring).msix
  if nbit (fld bytes 1 1) 0 && v != 0 then s.msix v else s

/-- An admitted item ends. DESIGN CHOICE (log 70): `items_done` counts every admitted item that ends, whatever its status, and no item that ends at
admission. -/
def completeItem (s : State) (it : Item) (st gal recs : Nat) : State :=
  completeRaw (countDone s it.sid) it.ring it.idx it.bytes it.sess.part it.sid st gal recs

/-! ## Wipes -/

/-- A lantern whose memories are wiped (R391): scratchpad words 0, tags empty, poison clear, the array cleared (R137). -/
def Lantern.wiped (y : Lantern) : Lantern := { y with sp := [], spTag := [], spPoi := [], arr := Arr.zero }

/-- A lantern whose control state is cleared: threads, queues, engines (R90, R613). Counters, flags and memories stay. -/
def Lantern.stopped (y : Lantern) : Lantern :=
  { y with th := [], qa := [], qv := [], qs := [], ql := [], qt := [], ra := [], rv := none, rs := none, rl := none, str := none, vecEnd := 0, ringUse := [],
           fetching := [], heads := [], pushes := [] }

/-- Wipe a gallery's scratchpads and gallery store (R32, R95, R391). -/
def wipeMemories (s : State) (g : Nat) : State :=
  s.updGal g (fun y => { y with lan := y.lan.map (fun c => (c.1, c.2.wiped)), mem := [], tag := [], poi := [] })

/-- The wipe of a change of the mode plan entry, which reseeds the DRBG too (R33). -/
def wipeGallery (s : State) (g : Nat) : State :=
  (wipeMemories s g).updGalx g (fun y => { y with drbg := { y.drbg with due := true }, sigma := none })

/-- Invalidate every instruction cache of a gallery (R92). -/
def dropCode (s : State) (g : Nat) : State :=
  s.updGal g (fun y => { y with lan := y.lan.map (fun c => (c.1, { c.2 with icache := [] })) })

/-- A gallery reset (R613): memories wiped, the DRBG cleared (R290) and reseeded, threads, queues, flags, barriers, drain numbers, latches, instruction caches and taper
streams cleared. Mode, entry and epoch stay. -/
def resetGallery (s : State) (g : Nat) : State :=
  let s := dropCode (wipeGallery s g) g
  let s := s.updGal g (fun y => { y with
    arrivals := [], lan := y.lan.map (fun c => (c.1, { c.2.stopped with flags := [], drainSeq := 0 })) })
  s.updGalx g (fun y => { y with streams := [], mac := none, upd := none, sponges := [], drbg := Drbg.zero })

/-! ## The end of a task -/

/-- Tags of key streams from a peer: responses that still come are late (R477). -/
def lateKeys (now : Nat) (ts : List Stream) : List (W16 × Nat) := (ts.filter (fun t => t.peer != 0xFFFF)).map (fun t => (t.tag, now))

/-- A landing without the bursts of a gallery. -/
def Landing.without (g : Nat) (y : Landing) : Landing :=
  { y with dram := y.dram.map (fun c => (c.1, c.2.filter (fun b => b.gal != g))), ew := y.ew.filter (fun b => b.gal != g),
           ns := y.ns.filter (fun b => b.gal != g), late := y.late.filter (fun c => c.2.gal != g) }

/-- Outstanding reads, gets, puts and key requests of an aborted task are discarded when they return (R90, R477). -/
def discardTxs (s : State) (g : Nat) : State :=
  let s : State := { s with hall := s.hall.map (fun c => (c.1, { c.2 with land := c.2.land.without g })) }
  s.updGalx g (fun y => { y with
    late := y.late ++ y.txs.map (fun t => (t.tag, s.clock.now)) ++ lateKeys s.clock.now y.streams, txs := [], streams := [], heldBy := [] })

/-- Empty slots of a tag table. -/
def emptySlots (ns : List Nat) (t : Tab Bool) : Tab Bool := ns.foldl (fun t n => Tab.put false n false t) t

/-- The slots of a started fetch that it has not completed. -/
def StrRun.open_ (r : StrRun) : List Nat :=
  if r.write then [] else ((r.bursts.filter (fun b => b.st != .done)).flatMap (·.slots)).eraseDups

/-- What an abort leaves of started fetches (R412): the slots that they have not completed are empty. -/
def emptyFetches (s : State) (g : Nat) : State :=
  let store := (s.galAt g).lan.flatMap (fun c => match c.2.str with
    | some r => if r.store then r.open_ else []
    | none => [])
  s.updGal g (fun y => { y with
    tag := emptySlots store y.tag,
    lan := y.lan.map (fun c => (c.1, match c.2.str with
      | some r => if r.store then c.2 else { c.2 with spTag := emptySlots r.open_ c.2.spTag }
      | none => c.2)) })

/-- Destination headers of a macro (R253). -/
def MacroRun.dsts (m : MacroRun) : Nat := (m.members.map (fun x => x.dst.length)).sum
/-- Those of members with a poisoned source. -/
def MacroRun.poisoned (m : MacroRun) : Nat := ((m.members.filter (·.poison)).map (fun x => x.dst.length)).sum

/-- The macro of an aborted task writes 0x0501 to its block (R271); the header was written aborted when it started (R214). -/
def stopMacro (s : State) (g : Nat) : State :=
  match (s.galxAt g).mac with
  | none => s
  | some m =>
    let s := s.store1 { g := g, l := 0, store := false } (4 * m.addr + 2) (natLe 2 St.macroAborted)
    s.updGalx g (fun y => { y with mac := none, cnt := { y.cnt with
      aborted := satAdd 65535 y.cnt.aborted m.dsts, poisoned := satAdd 65535 y.cnt.poisoned m.poisoned } })

/-- The gallery beats of a task count for its session (R22): a number that depends on pace (R54), free here (log 8). -/
def countBeats (s : State) (sid : Nat) : State :=
  let (w, s) := s.fresh
  { s with roll := Tab.upd none sid (fun e => e.map (fun y => { y with beatsUsed := y.beatsUsed + w })) s.roll }

/-- The task leaves the gallery and its item completes with a status (R71). -/
def endTask (s : State) (g st : Nat) : State :=
  match (s.galAt g).task with
  | none => s
  | some t =>
    let s := s.updGal g (fun y =>
      { y with task := none, last := some (t.item.sess.part, y.mode), lan := y.lan.map (fun c => (c.1, c.2.stopped)) })
    let s := discardTxs s g
    let s := s.updGalx g (fun y => { y with mac := none, upd := none, streams := [], sponges := [] })
    completeItem (countBeats s t.item.sid) t.item st g t.recs

/-- Abort the task of a gallery with a status (R90). -/
def abortTask (s : State) (g st : Nat) : State :=
  match (s.galAt g).task with
  | none => s
  | some t => endTask (emptyFetches (freeWindow (stopMacro s g) g) g) g (t.abort.getD st)

/-! ## Quarantine and sparing -/

/-- Mode codes (R31). -/
def Mode.code (m : Mode) : Nat := match m with
  | .dark => 0
  | .clear => 1
  | .cipher => 2
  | .share => 3
  | .quarantined => 4

/-- The entry of a gallery in a plan. -/
def PlanEntry.at_ (p : Plan) (g : Nat) : PlanEntry := Tab.get PlanEntry.zero g p.entries

/-- Is the gallery draining: its entry differs from the target plan's and it still has a task in flight (R39, R42)? -/
def Gallery.draining (y : Gallery) (e : PlanEntry) : Bool := y.changing && y.task.isSome && y.entry != e

/-- The state word of a gallery, 0x2103 (R42); `e`: its entry in the target plan. -/
def Gallery.word (y : Gallery) (e : PlanEntry) : Nat :=
  y.mode.code + (if y.draining e then 8 else 0) + (if y.powerWait then 16 else 0) + (if y.qFault then 32 else 0) +
    (if y.qTestFail then 64 else 0) + (if y.forced then 128 else 0)

/-- A gallery without a task takes Quarantined by fault (R35, R593, R599): it counts as having reached the plan's epoch. A new
quarantine is journalled as a change of the gallery's state word (R528, R534). -/
def setQuarantined (s : State) (g : Nat) : State :=
  let old := s.galAt g
  let s := s.updGal g (fun y => { y with
    mode := .quarantined, qFault := true, changing := false, powerWait := false, epoch := s.plan.epoch,
    qEpoch := if y.qFault then y.qEpoch else s.plan.epoch, entry := { PlanEntry.zero with mode := .quarantined },
    lan := y.lan.map (fun c => (c.1, c.2.stopped)) })
  let s := s.updGalx g (fun y => { y with streams := [], mac := none, upd := none, sponges := [] })
  if old.qFault then s
  else
    let e := PlanEntry.at_ s.plan g
    journal s (JChange.dev 5 1 0x2103 (g + 1) (natLe 2 (old.word e)) (natLe 2 ((s.galAt g).word e)))

/-- The mapping of a logical lantern (R94): the identity until it is spared. -/
def lmapOf (s : State) (g l : Nat) : LMap := Tab.get { phys := l, valid := true, inc := 0 } l (s.galxAt g).lmap

def physOf (s : State) (g p : Nat) : Phys := Tab.get .zero p (s.galxAt g).phys

def updPhys (s : State) (g p : Nat) (f : Phys → Phys) : State := s.updGalx g (fun y => { y with phys := Tab.upd .zero p f y.phys })

/-- Is a physical lantern mapped to some logical index? -/
def isMapped (s : State) (g p : Nat) : Bool := (List.range 64).any (fun l => (lmapOf s g l).valid && (lmapOf s g l).phys == p)

/-- The logical index that a physical lantern serves. -/
def logicalOf (s : State) (g p : Nat) : Option Nat := (List.range 64).find? (fun l => (lmapOf s g l).valid && (lmapOf s g l).phys == p)

/-- The free spares of a gallery, lowest first (R95, R610). -/
def freeSpares (s : State) (g : Nat) : List Nat := (List.range 68).filter (fun p => !(physOf s g p).dead && !isMapped s g p)

/-! ## What a record's consequence reaches (R592, R593, R598) -/

/-- Units on which a gallery's task runs (R593). -/
def galUnit (u : Nat) : Bool := decide (u ≤ 11 ∨ u = 13)

/-- A record of a lantern (R593). -/
def FRec.ofLan (r : FRec) : Bool := decide (r.gallery < 64 ∧ r.index < 64 ∧ (r.unit ≤ 6 ∨ r.unit = 8))

/-- A record whose unit's tasks are a gallery's; a sensor of a gallery (unit 18) among them. -/
def FRec.ofGal (r : FRec) : Bool := decide (r.gallery < 64) && (galUnit r.unit || r.unit == 18)

/-- A record of a hall (R593): its dispatcher, its core rail, itself. -/
def FRec.ofHall (r : FRec) : Bool := decide (r.hall < 4 ∧ r.gallery = 0xFF ∧ (r.unit = 12 ∨ r.unit = 18 ∨ r.unit = 21))

/-- Does a record ask for nothing more: its loss was carried out as it was raised, or another lantern has taken its lantern's place since? -/
def FRec.moot (s : State) (r : FRec) : Bool :=
  r.status == St.lanternSpared || r.status == St.dispatchLost || r.status == St.dramChannelLost || r.status == St.fltDown || r.status == St.fltId ||
    (r.ofLan && decide (r.seq < (physOf s r.gallery (lmapOf s r.gallery r.index).phys).since))

/-- The status that an earlier record, whose consequence still waits, gives the task of a gallery (R598). -/
def waitingAbort (s : State) (g : Nat) : Option Nat :=
  (s.fault.todo.find? (fun r => (r.sev == 2 || nbit r.cls 2) && !r.moot s && (if r.ofGal then r.gallery == g else r.ofHall && r.hall == hallOf g))).map
    (·.status)

/-- Declare physical lantern `p` dead and spare it (R95, R606). The record's unit is a whole lantern, whose index reads 0xFF (R589). -/
def lanternDead (s : State) (g p : Nat) : State :=
  match logicalOf s g p with
  | none => updPhys s g p (fun y => { y with dead := true })
  | some l =>
    let spare := (freeSpares s g).head?
    let s := updPhys s g p (fun y => { y with dead := true, lastLogical := l, stale := false, spoke := none, reheld := false })
    let s := s.updGalx g (fun y => { y with rep := { y.rep with banks := y.rep.banks.filter (fun b => match b with
      | .scratchpad _ k _ => k.val != l
      | _ => true) } })
    let d0 := p + 256 * (spare.getD 0x7F)
    let rep := Rep.ofGal St.lanternSpared 2 true 0 g d0 l
    let s := if (s.galAt g).task.isSome then reportTask s rep else report s rep
    let held := decide (s.boot.stage = .held)
    let s := if held then s else abortTask s g ((waitingAbort s g).getD St.lanternSpared)
    let s :=
      match spare with
      | some q =>
        let inc := (physOf s g q).inc + 1
        let s := updPhys s g q (fun y => { y with inc := inc, since := s.fault.next })
        s.updGalx g (fun y => { y with lmap := Tab.put { phys := l, valid := true, inc := 0 } l { phys := q, valid := true, inc := inc } y.lmap })
      | none =>
        let dead : LMap := { phys := p, valid := false, inc := (physOf s g p).inc }
        s.updGalx g (fun y => { y with lmap := Tab.put { phys := l, valid := true, inc := 0 } l dead y.lmap })
    if held then s
    else
      let s := s.updGal g (fun y => { y with lan := Tab.upd .zero l (fun _ => Lantern.zero) y.lan })
      let s := wipeMemories s g
      if spare.isNone then setQuarantined s g else s

/-- Lanterns whose scratchpad lines reached the threshold are declared dead (R400). -/
def declareDying (s : State) (g : Nat) : State :=
  let dying := (s.galxAt g).rep.dying
  dying.foldl (fun s l => lanternDead s g (lmapOf s g l).phys) (s.updGalx g (fun y => { y with rep := { y.rep with dying := [] } }))

/-- A dead lantern that spoke is held in reset again (R608). -/
def Phys.rehold (y : Phys) : Phys := if y.spoke.isSome && !y.reheld then { y with reheld := true, spoke := none } else y

/-- The task boundary: dead lanterns that spoke are held in reset again, dying ones are declared dead. -/
def taskBoundary (s : State) (g : Nat) : State :=
  declareDying (s.updGalx g (fun y => { y with phys := y.phys.map (fun c => (c.1, c.2.rehold)) })) g

/-- A task that has run to its end completes with the status that R71 chooses. -/
def finishTask (s : State) (g : Nat) : State :=
  match (s.galAt g).task with
  | none => s
  | some t => taskBoundary (endTask s g ((t.abort.orElse (fun _ => t.first)).getD St.ok)) g

/-- An abort, and the task boundary that follows it. -/
def killTask (s : State) (g st : Nat) : State := if (s.galAt g).task.isSome then taskBoundary (abortTask s g st) g else s

/-- An abort by what a command raises: the first of the records that reach the task decides its status (R598). -/
def killNow (s : State) (g st : Nat) : State := killTask s g ((waitingAbort s g).getD st)

/-- A lantern is declared dead; where that ends a task, its boundary follows. -/
def lanternLost (s : State) (g p : Nat) : State := if (s.galAt g).task.isSome then taskBoundary (lanternDead s g p) g else lanternDead s g p

/-- A gallery leaves service (R35, R593): its task aborts, then it is quarantined by fault. -/
def quarantine (s : State) (g st : Nat) : State := setQuarantined (killTask s g st) g

/-! ## Halls -/

/-- A response for a tag that is not outstanding is discarded and counted (R477, R486). -/
def lateResponse (s : State) (f : Option Nat) : State :=
  let s := { s with net := { s.net with late := s.net.late + 1 } }
  match f with
  | some f => s.updFlight f (fun y => { y with ctr := Tab.upd 0 4 (· + 1) y.ctr })
  | none => s

/-- A message that a full landing kept back is gone: its slots empty (R464). -/
def unstick (s : State) (x : StuckMsg) : State :=
  if x.flight < 36 then s.updFlight x.flight (fun y => { y with creditDue := y.creditDue ++ x.credits }) else s

/-- Is a message a response, which a gallery takes (R474)? -/
def isResponse (m : Msg) : Bool := [2, 4, 6, 7, 8].contains m.mtype.toNat

/-- The buffers of a hall's landings are emptied: nothing takes the responses and bursts that they hold any more. Messages to DRAM are left to the agents, the host's lines go through
(log 82). -/
def flushLanding (s : State) (h : Nat) : State :=
  let y := (s.hallAt h).land
  let s := s.updHall h (fun y => { y with land := Landing.zero })
  let all := y.io.map (fun c => (({ flight := c.1.getD 36, credits := [], msg := c.2 } : StuckMsg))) ++ y.stuck
  let s := (all.filter (fun x => isResponse x.msg)).foldl (fun s x => unstick (lateResponse s (if x.flight < 36 then some x.flight else none)) x) s
  let s := { s with net := { s.net with parked := s.net.parked ++ all.filter (fun x => !isResponse x.msg) } }
  y.host.foldl hostLineDo s

/-- The status-window line of a ring's state (R491). -/
def ringLine (r : Nat) : Nat := (0x2000 + 8 * r) / 64

/-- Set every ring bound to a hall, enabled or not, to state 2 with an error (R594, R595). -/
def haltRings (s : State) (h st : Nat) : State :=
  let s := s.cxl.rings.foldl (fun s c => if c.2.hall == h && c.2.part.isSome then windowUpdate s (ringLine c.1) else s) s
  { s with cxl := { s.cxl with rings := s.cxl.rings.map (fun c => (c.1, if c.2.hall == h && c.2.part.isSome then { c.2 with st := 2, err := st } else c.2)) } }

/-- Complete an item that its ring's dispatcher has read and not admitted. -/
def completeRead (s : State) (r idx : Nat) (b : Bytes) (st : Nat) : State :=
  let s := s.updRing r (fun y => { y with read := y.read.filter (fun c => c.idx != idx) })
  completeRaw s r idx b ((s.ringAt r).part.getD 0xFF) (fld b 4 4 % 2 ^ 18) st 0xFF 0

/-- Complete every item that the hall's dispatcher holds: read, pending and waiting (R594, R595). -/
def completePending (s : State) (h st : Nat) : State :=
  let s := s.cxl.rings.foldl (fun s c => (c.2.read.filter (fun x => x.hall == h)).foldl (fun s x => completeRead s c.1 x.idx x.bytes st) s) s
  let y := s.hallAt h
  let s := s.updHall h (fun y => { y with pend := [], ctl := [], miss := [] })
  (y.pend ++ y.ctl).foldl (fun s it => completeItem s it st 0xFF 0) s

/-- A hall halts with a status (R594): stages stop, tasks and admitted items complete, rings halt, galleries are quarantined. -/
def haltHall (s : State) (h st : Nat) : State :=
  let s := s.updHall h (fun y => { y with halted := some st, heldSince := none })
  let s := (List.range 16).foldl (fun s k => let g := 16 * h + k
    quarantine s g ((waitingAbort s g).getD st)) s
  let s := flushLanding s h
  haltRings (completePending s h st) h st

/-- Does a Unit-lost record of this unit halt a hall (R593, R595)? -/
def haltsHall (p : Rep) : Bool :=
  decide (p.hall < 4) && p.gal == 0xFF && (p.unit == 12 || p.unit == 18 || p.unit == 21) && p.st != St.dispatchLost

/-- Raise a record; hall halts are carried out by hardware at once (R598). -/
def raise (s : State) (p : Rep) : State :=
  if outOfService s p then s
  else
    let c := sevOf s p
    let s := report s p
    if c = 2 ∧ haltsHall p then haltHall s p.hall p.st else s

end Sys2Proof.Machine
end

