-- ==== Sys2Proof/Machine/Link.lean ====
section
/-! DEFINITION. The link layer of the flights (17 R457 to R470, R483 to R485): treads, retry, credit, routes, forwarding, a flight going down. -/

namespace Sys2Proof.Machine
open Sys2Proof

/-! ## CRC-32 (R458) -/

/-- Eight steps of the reflected CRC-32 of IEEE 802.3. -/
def crcByte (c : W32) (b : Byte) : W32 :=
  (List.range 8).foldl (fun (c : W32) _ => if c.getLsbD 0 then (c >>> 1) ^^^ 0xEDB88320 else c >>> 1) (c ^^^ b.setWidth 32)

/-- PRESUMED (log 20). The frame check sequence of IEEE 802.3. -/
def crc32 (b : Bytes) : W32 := ~~~(b.foldl crcByte 0xFFFFFFFF)

/-! ## Treads (R458) -/

/-- The fields of a tread's header, and its payload. -/
structure Tread where
  ty : Nat
  vc : Nat
  som : Bool
  eom : Bool
  seq : BitVec 12
  ack : Option (BitVec 12)
  cred : Option (Nat × Bool × Nat)
  abort : Bool
  data : Bytes
  deriving DecidableEq, Repr

/-- The 256 bytes of a tread (R458). -/
def Tread.bytes (t : Tread) : Bytes :=
  let c := t.cred.getD (0, false, 0)
  let h := t.ty + 16 * t.vc + (if t.som then 64 else 0) + (if t.eom then 128 else 0) + 2 ^ 8 * t.seq.toNat +
    2 ^ 20 * (t.ack.getD 0).toNat + (if t.ack.isSome then 2 ^ 32 else 0) + 2 ^ 33 * c.1 + (if c.2.1 then 2 ^ 35 else 0) +
    (if t.cred.isSome then 2 ^ 36 else 0) + 2 ^ 37 * c.2.2 + 2 ^ 48 * (if t.ty = 1 then t.data.length else 0) + (if t.abort then 2 ^ 56 else 0)
  let b := natLe 8 h ++ fitBytes 244 t.data
  b ++ natLe 4 (crc32 b).toNat

/-- Read a tread; none where it is discarded (R459). -/
def readTread (b : Bytes) : Option Tread :=
  let h := fld b 0 8
  if b.length ≠ 256 ∨ fld b 252 4 ≠ (crc32 (b.take 252)).toNat ∨ 3 < h % 16 ∨ nbits h 63 57 ≠ 0 then none
  else some
    { ty := h % 16, vc := nbits h 5 4, som := nbit h 6, eom := nbit h 7, seq := BitVec.ofNat 12 (nbits h 19 8),
      ack := if nbit h 32 then some (BitVec.ofNat 12 (nbits h 31 20)) else none,
      cred := if nbit h 36 then some (nbits h 34 33, nbit h 35, nbits h 47 37) else none,
      abort := nbit h 56, data := slice b 8 (Nat.min 244 (nbits h 55 48)) }

/-! ## Messages (R473, R474) -/

/-- The channel of a message type (R463, R474); none for a reserved type. -/
def msgChannel (m : Nat) : Option Nat :=
  if m = 1 then some 2 else if m = 3 ∨ m = 5 then some 0 else if [2, 4, 6, 7, 8].contains m then some 1
  else if [9, 10, 11].contains m then some 3 else none

/-- Data bytes that follow the header (R474). -/
def msgData (mtype length : Nat) : Nat := if [1, 4, 6, 7].contains mtype then length else 0

/-- The header and the data of a message (R473). -/
def msgBytes (m : Msg) : Bytes :=
  natLe 1 m.mtype.toNat ++ natLe 1 m.hops.toNat ++ natLe 2 m.dstDev.toNat ++ natLe 2 m.srcDev.toNat ++ natLe 1 m.srcGal.toNat ++
    natLe 1 m.mflags.toNat ++ natLe 2 m.tag.toNat ++ natLe 2 m.status.toNat ++ natLe 1 m.srcPart.toNat ++ natLe 1 m.dstPart.toNat ++
    natLe 2 m.length.toNat ++ natLe 8 m.addr.toNat ++ natLe 8 m.arg.toNat ++ natLe 16 m.pmap.toNat ++ m.data

/-- Read a message; the reserved bits of its identifiers are ignored (R9, R473). -/
def parseMsg (b : Bytes) : Msg :=
  { mtype := BitVec.ofNat 8 (fld b 0 1), hops := BitVec.ofNat 8 (fld b 1 1), dstDev := BitVec.ofNat 16 (fld b 2 2 % 4096),
    srcDev := BitVec.ofNat 16 (fld b 4 2 % 4096), srcGal := BitVec.ofNat 8 (fld b 6 1), mflags := BitVec.ofNat 8 (fld b 7 1),
    tag := BitVec.ofNat 16 (fld b 8 2), status := BitVec.ofNat 16 (fld b 10 2), srcPart := BitVec.ofNat 8 (fld b 12 1),
    dstPart := BitVec.ofNat 8 (fld b 13 1), length := BitVec.ofNat 16 (fld b 14 2), addr := w64 (fld b 16 8), arg := w64 (fld b 24 8),
    pmap := BitVec.ofNat 128 (fld b 32 16), data := b.drop 48 }

/-- The device identifier; none while it is unassigned (R467). -/
def State.devId (s : State) : Option Nat := if s.obj 0xA000 1 = 0xFFFF then none else some (s.obj 0xA000 1)

/-- Is a flight up? -/
def flightUp (s : State) (f : Nat) : Bool := decide ((s.flightAt f).st = 2)

/-- Is a flight in service: up, or in a retrain, in which messages wait and none is lost (R462)? -/
def inService (s : State) (f : Nat) : Bool := flightUp s f || (decide ((s.flightAt f).st = 1) && (s.flightAt f).training)

/-- The listed flights of a destination that are up (R468, R469). DEDUCED (log 72): a flight in a retrain counts as up, so that its messages wait. -/
def routesOf (s : State) (dst : Nat) : List Nat :=
  let e := fld (s.objBytes 0xA010 0) (4 * dst) 4
  ((List.range (nbits e 26 24)).map (fun k => nbits e (6 * k + 5) (6 * k))).filter (fun f => inService s f)

/-- The hash that chooses a message's flight and its edges (R469, R470). -/
def msgHash (m : Msg) : Nat := m.srcDev.toNat ^^^ (37 * m.srcGal.toNat)

/-- The flight of a message (R469); none where the destination is unreachable. -/
def routeOf (s : State) (m : Msg) : Option Nat :=
  match routesOf s m.dstDev.toNat with
  | [] => none
  | r => r[msgHash m % r.length]?

/-! ## Sending -/

/-- A record of a flight: unit code 15, the flight as index (R589). -/
def Rep.ofFlight (st cls : Nat) (hw : Bool) (f d0 d1 : Nat) : Rep := { Rep.dev st cls hw 15 d0 d1 with index := f }

/-- A record whose detail words the spec does not give: free values (log 8). -/
def reportFree (s : State) (p : Rep) : State :=
  let (w, s) := s.freshWords 2
  report s { p with d0 := w.getD 0 0, d1 := w.getD 1 0 }

/-- The acknowledgement that a tread carries (R459). -/
def FlightState.ackNow (y : FlightState) : Option (BitVec 12) := if y.gotAny then some (y.rxSeq - 1) else none

/-- The one credit return that a tread carries (R458): as many of the oldest kind as are due. -/
def FlightState.credNow (y : FlightState) : Option (Nat × Bool × Nat) :=
  match y.creditDue with
  | [] => none
  | c :: _ => some (c.1, c.2, Nat.min 2047 (y.creditDue.filter (fun d => d.2 == c.2 && (d.2 || d.1 == c.1))).length)

/-- Remove the credit that `credNow` returns. -/
def FlightState.credSent (y : FlightState) : FlightState :=
  match y.creditDue with
  | [] => y
  | c :: _ =>
    let same (d : Nat × Bool) : Bool := d.2 == c.2 && (d.2 || d.1 == c.1)
    let n := Nat.min 2047 (y.creditDue.filter same).length
    { y with creditDue := (y.creditDue.filter same).drop n ++ y.creditDue.filter (fun d => !same d), rxPool := if c.2 then y.rxPool - n else y.rxPool }

/-- Send one tread with what acknowledgement and credit are due (R459); in the held state idle treads only (R601). -/
def sendTread (s : State) (f ty : Nat) (seq : BitVec 12) (t : WTread) : State :=
  if s.boot.stage = .held ∧ ty ≠ 0 then s
  else
  let y := s.flightAt f
  let b := Tread.bytes { ty := ty, vc := t.vc, som := t.som, eom := t.eom, seq := seq, ack := y.ackNow, cred := y.credNow, abort := t.abort,
                         data := t.data }
  (s.updFlight f (fun y => { y.credSent with ackDue := false })).emit (.tread f b)

/-- A tread that carries nothing of its own. -/
def WTread.none : WTread :=
  { vc := 0, src := 0, pool := false, som := false, eom := false, abort := false, data := [], note := Option.none, cross := 0 }

/-- DESIGN CHOICE (log 73). The link-control tread that tells the neighbour this device's identifier (R467): its first two payload bytes, 0xFFFF while it is
unassigned. -/
def sendLinkControl (s : State) (f : Nat) : State := sendTread s f 3 0 { WTread.none with data := natLe 2 ((s.devId).getD 0xFFFF) }

/-- The edges by which a message that enters on a flight of I/O die West and leaves on one of East crosses the halls (R470): 1 for 0–1, 2 for 2–3; 0 for none. -/
def crossing (inF outF : Nat) (m : Msg) : Nat := if inF < 18 ∧ 18 ≤ outF then 1 + msgHash m % 2 else 0

/-- May a tread cross: is neither hall on its way held (R52, R470)? -/
def crossFree (s : State) (k : Nat) : Bool :=
  k == 0 || ((s.hallAt (2 * k - 2)).heldSince.isNone && (s.hallAt (2 * k - 1)).heldSince.isNone)

/-- Is a tread the first that waits of its channel and source: none goes ahead of it (R461, R473)? -/
def FlightState.isNext (y : FlightState) (t : WTread) : Bool := y.waiting.find? (fun u => u.vc == t.vc && u.src == t.src) == some t

/-- May the first tread of `t`'s channel and source go now: credit, and no other message in the middle of the channel (R464, R473)? -/
def FlightState.mayGo (y : FlightState) (t : WTread) : Bool :=
  (y.pool != 0 || Tab.get 0 t.vc y.cred != 0) && (Tab.get 0 t.vc y.lock == 0 || Tab.get 0 t.vc y.lock == t.src + 1)

/-- Spend a credit: a shared one when held, else a dedicated one (R464). -/
def FlightState.spend (y : FlightState) (vc : Nat) : FlightState :=
  if y.pool ≠ 0 then { y with pool := y.pool - 1 } else { y with cred := Tab.upd 0 vc (· - 1) y.cred }

/-- The slot of a forwarded tread empties at its source: a credit comes due there (R464). -/
def freeSlot (s : State) (t : WTread) : State :=
  if t.src = 0 ∨ 36 < t.src then s else s.updFlight (t.src - 1) (fun y => { y with creditDue := y.creditDue ++ [(t.vc, t.pool)] })

/-- The item of a signal or barrier message ends with a status: its last tread has left (R501), or it never will. -/
def noteLeft (s : State) (n : Option (Nat × Nat × Nat)) (st : Nat) : State :=
  match n with
  | none => s
  | some (h, r, i) =>
    match (s.hallAt h).ctl.find? (fun it => it.ring == r && it.idx == i) with
    | none => s
    | some it => completeItem (s.updHall h (fun y => { y with ctl := y.ctl.erase it })) it st 0xFF 0

/-- Send one waiting data tread of a flight, where one may go (R460, R464). -/
def pumpOne (s : State) (f : Nat) : State :=
  let y := s.flightAt f
  if y.st ≠ 2 ∨ s.boot.stage = .held ∨ 2048 ≤ y.retry.length then s
  else
    match y.waiting.find? (fun t => y.isNext t && y.mayGo t && crossFree s t.cross) with
    | none => s
    | some t =>
      let s := s.updFlight f (fun y =>
        let y := y.spend t.vc
        { y with
            waiting := y.waiting.erase t, txSeq := y.txSeq + 1, retry := y.retry ++ [{ seq := y.txSeq, t := t, at_ := s.clock.now }],
            lock := Tab.put 0 t.vc (if t.eom then 0 else t.src + 1) y.lock })
      noteLeft (freeSlot (sendTread s f 1 y.txSeq t) t) (if t.eom then t.note else none) St.ok

/-- Since when a channel waits for credit (R485). -/
def FlightState.timeStall (now : Nat) (y : FlightState) : FlightState :=
  (List.range 4).foldl (fun y vc =>
    if y.waiting.any (fun t => t.vc == vc) && y.pool == 0 && Tab.get 0 vc y.cred == 0 then
      { y with stall := Tab.upd none vc (fun o => some (o.getD now)) y.stall }
    else { y with stall := Tab.put none vc none y.stall, stalled := Tab.put false vc false y.stalled }) y

/-- Send every waiting tread that may go. -/
def pump (s : State) (f : Nat) : State :=
  let s := (List.range (s.flightAt f).waiting.length).foldl (fun s _ => pumpOne s f) s
  s.updFlight f (FlightState.timeStall s.clock.now)

/-- The treads of a message (R473). -/
def treadsOf (vc : Nat) (b : Bytes) (note : Option (Nat × Nat × Nat)) : List WTread :=
  let n := ceilDiv b.length 244
  (List.range n).map (fun k =>
    { vc := vc, src := 0, pool := false, som := k == 0, eom := k + 1 == n, abort := false, data := (b.drop (244 * k)).take 244, note := note, cross := 0 })

/-- Send a message over the flights; false where its destination is unreachable (R469, R478). -/
def sendMsg (s : State) (m : Msg) (note : Option (Nat × Nat × Nat)) : State × Bool :=
  match s.devId, routeOf s m, msgChannel m.mtype.toNat with
  | some _, some f, some vc => (pump (s.updFlight f (fun y => { y with waiting := y.waiting ++ treadsOf vc (msgBytes m) note })) f, true)
  | _, _, _ => (s, false)

/-! ## Retry (R460 to R462) -/

/-- Send the retry buffer again from the first entry with a number on. -/
def resendFrom (s : State) (f : Nat) (seq : BitVec 12) : State :=
  let y := s.flightAt f
  let again := y.retry.dropWhile (fun r => r.seq != seq)
  let s := again.foldl (fun s r => sendTread s f 1 r.seq r.t) s
  s.updFlight f (fun y => { y with
    retry := y.retry.map (fun r => if again.contains r then { r with at_ := s.clock.now } else r),
    ctr := Tab.upd 0 2 (· + again.length) y.ctr })

/-! ## A flight going down (R484) -/

/-- The treads of a channel of flight `out` that came in on flight `f`. -/
def WTread.cameBy (f vc : Nat) (t : WTread) : Bool := t.src == f + 1 && t.vc == vc

/-- Payload bytes that a message cut short still lacks: those of its treads that wait, and, while it was still coming in, the `left` to come. -/
def lackOf (ts : List WTread) (left : Nat) : Nat :=
  match ts.findIdx? (·.eom) with
  | some k => ((ts.take (k + 1)).map (fun t => t.data.length)).sum
  | none => (ts.map (fun t => t.data.length)).sum + left

/-- Flight `f` is lost: what it brought for a channel of flight `out` is discarded with its receive buffer (R484); a message that has begun to leave is completed with
zero treads, the last with `abort` (R473). Those treads hold no slot of `f`, so no credit comes due there for them. -/
def cutShort (s : State) (f out vc left : Nat) : State :=
  let y := s.flightAt out
  let ts := y.waiting.filter (WTread.cameBy f vc)
  let rest := y.waiting.filter (fun t => !WTread.cameBy f vc t)
  if Tab.get 0 vc y.lock = f + 2 then
    let lack := lackOf ts left
    let n := Nat.max 1 (ceilDiv lack 244)
    let zs : List WTread := (List.range n).map (fun k =>
      { vc := vc, src := f + 65, pool := false, som := false, eom := k + 1 == n, abort := k + 1 == n,
        data := List.replicate (Nat.min 244 (lack - 244 * k)) 0, note := none, cross := (ts.head?.map (·.cross)).getD 0 })
    s.updFlight out (fun y => { y with waiting := rest ++ zs, lock := Tab.put 0 vc (f + 66) y.lock })
  else s.updFlight out (fun y => { y with waiting := rest })

/-- What the forwarding of flight `f` to every flight loses with it. -/
def cutAll (s : State) (f : Nat) : State :=
  let y := s.flightAt f
  (List.range 36).foldl (fun s out => (List.range 4).foldl (fun s vc =>
    cutShort s f out vc (match Tab.get none vc y.fwd with
      | some (o, left, _) => if o = out then left else 0
      | none => 0)) s) s

/-- A flight leaves service: its buffers are discarded, its messages are lost. `st`: the state it takes. DESIGN CHOICE (log 74): an item whose message is lost before it
has left completes with `ST_FLT_UNREACHABLE`. -/
def dropFlight (s : State) (f st : Nat) : State :=
  let y := s.flightAt f
  let s := y.waiting.foldl (fun s t => noteLeft (freeSlot s t) (if t.eom then t.note else none) St.fltUnreachable) s
  let s := cutAll s f
  let s := (List.range 36).foldl (fun s k => s.updFlight k (fun z => { z with
    fwd := z.fwd.map (fun c => (c.1, c.2.map (fun x => if x.1 = f then (36, x.2) else x))) })) s
  let s := s.updFlight f (fun y => { FlightState.zero with st := st, retrains := y.retrains, times := y.times, ctr := y.ctr, neighbour := y.neighbour })
  let s := { s with hall := s.hall.map (fun c => (c.1, { c.2 with land := { c.2.land with
    stuck := c.2.land.stuck.filter (fun x => x.flight != f) } })), net := { s.net with parked := s.net.parked.filter (fun x => x.flight != f) } }
  (List.range 36).foldl pump s

/-- The flight goes down with `ST_FLT_DOWN` (R484). -/
def flightDown (s : State) (f : Nat) : State := dropFlight (reportFree s (Rep.ofFlight St.fltDown 2 true f 0 0)) f 0

/-- Start a retrain, or go down at the fourth within 1 s (R462). -/
def retrain (s : State) (f : Nat) : State :=
  let recent := (s.flightAt f).times.filter (fun t => decide (s.clock.now < t + 1000000000))
  if 3 ≤ recent.length then flightDown s f
  else s.updFlight f (fun y => { y with
    st := 1, training := true, times := recent ++ [s.clock.now], retrains := satAdd 65535 y.retrains 1, resent := 0, resentOf := 0 })

/-- Resend from a number; the eighth time in a row for the same number retrains (R462). -/
def resend (s : State) (f : Nat) (seq : BitVec 12) : State :=
  let y := s.flightAt f
  if y.retry.any (fun r => r.seq == seq) ∧ s.boot.stage ≠ .held then
    let n := if y.resentOf = seq then y.resent + 1 else 1
    let s := s.updFlight f (fun y => { y with resent := n, resentOf := seq })
    let s := resendFrom s f seq
    if 8 ≤ n then retrain s f else s
  else s

/-- Credits and sequence numbers at link-up (R464), and the lanes that trained (R457). -/
def linkUp (s : State) (f : Nat) (lanes : Byte) (neighbour : W16) : State :=
  let full := lanes == 0xFF
  let s := s.updFlight f (fun y => { FlightState.zero with
    st := 2, narrow := !full, lanes := lanes, neighbour := neighbour, pool := 1792, cred := [(0, 64), (1, 64), (2, 64), (3, 64)],
    retrains := y.retrains, times := y.times, ctr := y.ctr })
  if full then s else reportFree s (Rep.ofFlight St.fltNarrow 0 true f 0 0)

/-- Does the link train (R457)? -/
def lanesTrain (lanes : Byte) : Bool := lanes &&& 0x0F == 0x0F || lanes &&& 0xF0 == 0xF0

/-- FLIGHT_TRAINING_DONE (R457, R467): a flight that trains for the first time. -/
def trainingDone (s : State) (f : Nat) (lanes : Byte) (neighbour : W16) : State :=
  let y := s.flightAt f
  if y.st ≠ 1 ∨ y.training then s
  else
    let s := s.updFlight f (fun y => { y with neighbour := neighbour })
    let s := if lanesTrain lanes then sendLinkControl s f else s
    if !lanesTrain lanes then flightDown s f
    else if s.devId = some neighbour.toNat then dropFlight (reportFree s (Rep.ofFlight St.fltId 2 false f 0 0)) f 0
    else linkUp s f lanes neighbour

/-- FLIGHT_TRAINING_DONE. -/
def execFlightTrainingDone (f : Flight) (lanes : BitVec 8) (neighbour : BitVec 16) (s : State) : Result :=
  .next (trainingDone s f.val lanes neighbour)

/-- NACK_RECEIVE (R461). -/
def execNackReceive (f : Flight) (sq : BitVec 12) (s : State) : Result := .next (if flightUp s f.val then pump (resend s f.val sq) f.val else s)

/-- RETRY_TIMEOUT (R461): the oldest tread has waited 4 µs. -/
def retryTimeout (s : State) (f : Nat) : State :=
  match (s.flightAt f).retry with
  | [] => s
  | r :: _ => if flightUp s f ∧ r.at_ + 4000 ≤ s.clock.now then resend s f r.seq else s

def execRetryTimeout (f : Flight) (s : State) : Result := .next (retryTimeout s f.val)

/-- IDLE_TREAD_DUE (R459): in the held state too (R600), but not while the identifier is unassigned (R467). -/
def execIdleTreadDue (f : Flight) (s : State) : Result :=
  let y := s.flightAt f.val
  .next (if flightUp s f.val && s.devId.isSome && (y.ackDue || !y.creditDue.isEmpty) then sendTread s f.val 0 0 WTread.none else s)

/-- RETRAIN_DONE (R462): the flight goes on where it was, from the oldest unacknowledged tread. -/
def retrainDone (s : State) (f : Nat) (ok : Bool) : State :=
  let y := s.flightAt f
  if y.st ≠ 1 ∨ y.training = false then s
  else if !ok then flightDown s f
  else
    let s := reportFree (s.updFlight f (fun y => { y with st := 2, training := false })) (Rep.ofFlight St.fltRetrain 0 true f 0 0)
    pump (match y.retry with
      | [] => s
      | r :: _ => if s.boot.stage = .held then s else resendFrom s f r.seq) f

def execRetrainDone (f : Flight) (ok : Bool) (s : State) : Result := .next (retrainDone s f.val ok)

/-- CREDIT_STALL (R485). -/
def creditStall (s : State) (f vc : Nat) : State :=
  match Tab.get none vc (s.flightAt f).stall with
  | none => s
  | some t =>
    if flightUp s f ∧ t + 1000000 ≤ s.clock.now ∧ Tab.get false vc (s.flightAt f).stalled = false then
      report (s.updFlight f (fun y => { y with stalled := Tab.put false vc true y.stalled }))
        (Rep.ofFlight St.fltCreditStall 1 false f (f + 256 * vc) 0)
    else s

def execCreditStall (f : Flight) (vc : Fin 4) (s : State) : Result := .next (creditStall s f.val vc.val)

/-! ## Receiving a tread (R459, R461, R464, R470, R473) -/

/-- What a received data tread completes: a whole message for this device with the slots it holds, or nothing. -/
structure Got where
  s : State
  msg : Option Bytes
  held : List (Nat × Bool)

/-- Nothing is complete. -/
def Got.none (s : State) : Got := { s := s, msg := Option.none, held := [] }

/-- A message of a flight that is dropped and counted (R486). -/
def countDrop (s : State) (f : Nat) : State :=
  let s := s.updFlight f (fun y => { y with ctr := Tab.upd 0 3 (· + 1) y.ctr })
  { s with net := { s.net with dropped := s.net.dropped + 1 } }

/-- A tread of a message that is being forwarded or dropped. -/
def forwardTread (s : State) (f : Nat) (t : Tread) (pool : Bool) (out left cross : Nat) : State :=
  let rest := left - t.data.length
  let s := s.updFlight f (fun y => { y with fwd := Tab.put none t.vc (if t.eom then none else some (out, rest, cross)) y.fwd })
  let w : WTread :=
    { vc := t.vc, src := f + 1, pool := pool, som := t.som, eom := t.eom, abort := t.abort, data := t.data, note := none, cross := cross }
  if out < 36 then pump (s.updFlight out (fun y => { y with waiting := y.waiting ++ [w] })) out else freeSlot s w

/-- A tread of a message for this device: it keeps its slot until the message is whole and has been taken (R61, R464). -/
def ownTread (s : State) (f : Nat) (t : Tread) (pool : Bool) : Got :=
  let y := s.flightAt f
  let b := (if t.som then [] else Tab.get [] t.vc y.asm) ++ t.data
  let cs := (if t.som then [] else Tab.get [] t.vc y.asmCred) ++ [pool]
  if !t.eom then
    Got.none (s.updFlight f (fun y => { y with asm := Tab.put [] t.vc b y.asm, asmCred := Tab.put [] t.vc cs y.asmCred }))
  else
    let s := s.updFlight f (fun y => { y with asm := Tab.put [] t.vc [] y.asm, asmCred := Tab.put [] t.vc [] y.asmCred })
    let held := cs.map (fun p => (t.vc, p))
    if t.abort then Got.none ((countDrop s f).updFlight f (fun y => { y with creditDue := y.creditDue ++ held }))
    else { s := s, msg := some b, held := held }

/-- The first tread of a message (R470): one that has made 15 hops or is of a reserved type (R474) is dropped; another is for this device, or to forward with one more hop, or to drop. -/
def firstTread (s : State) (f : Nat) (t : Tread) (pool : Bool) : Got :=
  let m := parseMsg t.data
  let all := 48 + msgData m.mtype.toNat m.length.toNat
  let drop (s : State) : Got := Got.none (forwardTread s f t pool 36 all 0)
  match s.devId with
  | none => drop s
  | some me =>
    if 15 ≤ m.hops.toNat then drop (reportFree (countDrop s f) (Rep.ofFlight St.fltHops 0 false f 0 0))
    else if m.dstDev.toNat = me then ownTread s f t pool
    else if (msgChannel m.mtype.toNat).isNone then drop (countDrop s f)
    else
      match routeOf s m with
      | none => drop s
      | some out =>
        Got.none (forwardTread s f { t with data := splice t.data 1 (natLe 1 (m.hops.toNat + 1)) } pool out all (crossing f out m))

/-- A later tread of a message. -/
def nextTread (s : State) (f : Nat) (t : Tread) (pool : Bool) : Got :=
  match Tab.get none t.vc (s.flightAt f).fwd with
  | some (out, left, cross) => Got.none (forwardTread s f t pool out left cross)
  | none => ownTread s f t pool

/-- Apply the acknowledgement and the credit that a tread carries (R460, R464); a channel that receives credit waits anew (R485). -/
def takeAck (s : State) (f : Nat) (t : Tread) : State :=
  s.updFlight f (fun y =>
    let y := match t.ack with
      | none => y
      | some a =>
        if y.retry.any (fun r => r.seq == a) then { y with retry := (y.retry.dropWhile (fun r => r.seq != a)).drop 1, resent := 0 } else y
    match t.cred with
    | none => y
    | some (vc, pool, n) =>
      if pool then { y with pool := y.pool + n, stall := [], stalled := [] }
      else { y with cred := Tab.upd 0 vc (· + n) y.cred, stall := Tab.put none vc none y.stall, stalled := Tab.put false vc false y.stalled })

/-- A nack that names the sequence number expected, once until it arrives (R461). -/
def sendNack (s : State) (f : Nat) : State :=
  if (s.flightAt f).nacked ∨ s.devId = none ∨ s.boot.stage = .held then s
  else sendTread (s.updFlight f (fun y => { y with nacked := true })) f 2 (s.flightAt f).rxSeq WTread.none

/-- A data tread in sequence: its slot, its number, its place in a message. DEDUCED (log 75): the header does not say which credit it cost; the sender spends a shared one
while it holds one (R464), so the receiver takes it that it did while it has shared slots free. -/
def acceptData (s : State) (f : Nat) (t : Tread) : Got :=
  let pool := decide ((s.flightAt f).rxPool < 1792)
  let s := s.updFlight f (fun y => { y with
    rxSeq := y.rxSeq + 1, nacked := false, gotAny := true, ackDue := true, rxPool := if pool then y.rxPool + 1 else y.rxPool })
  if t.som then firstTread s f t pool else nextTread s f t pool

/-- A tread arrives. On a nack the resending comes before new treads (R461). -/
def treadIn (s : State) (f : Nat) (v : Bytes) : Got :=
  if !flightUp s f then Got.none s
  else
    match readTread v with
    | none => Got.none (sendNack s f)
    | some t =>
      let s := takeAck s f t
      if t.ty = 2 then Got.none (pump (resend s f t.seq) f)
      else
        let s := pump s f
        let y := s.flightAt f
        if t.ty ≠ 1 then Got.none s
        else if t.seq = y.rxSeq then acceptData s f t
        else if (t.seq - y.rxSeq).toNat < 2048 then Got.none (sendNack s f)
        else Got.none (s.updFlight f (fun y => { y with ackDue := true }))

end Sys2Proof.Machine
end

