-- ==== Sys2Proof/Machine/Agent.lean ====
section
/-! DEFINITION. The flight agents and the control messages (17 R471, R472, R476, R481, R482): admission, puts and gets on DRAM, signals, barriers. -/

namespace Sys2Proof.Machine
open Sys2Proof

/-- Bits of an admission entry (R471). -/
def rightRead : Nat := 18
def rightWrite : Nat := 19
def rightKey : Nat := 20
def rightSignal : Nat := 21

/-- The admission list of a partition (R471). -/
def admissionOf (s : State) (p : Nat) : Bytes := s.objBytes 0xA200 (p + 1)

/-- Is a message admitted with a right (R471)? -/
def admitted (s : State) (m : Msg) (right : Nat) : Bool :=
  let b := admissionOf s m.dstPart.toNat
  decide (m.dstPart.toNat < 64) && (List.range (fld b 2 2)).any (fun k =>
    let e := fld b (4 + 4 * k) 4
    e % 4096 == m.srcDev.toNat && nbits e 17 12 == m.srcPart.toNat && nbit e right)

/-- The address space in which a partition's incoming addresses are translated (R471). -/
def admitAsid (s : State) (p : Nat) : Nat := fld (admissionOf s p) 0 2

/-- A refusal at the target (R476): counted, a Notice at most once per source device in each millisecond. -/
def refuse (s : State) (f : Option Nat) (m : Msg) : State :=
  let s := { s with net := { s.net with refusals := s.net.refusals + 1 } }
  let s := match f with
    | some f => s.updFlight f (fun y => { y with ctr := Tab.upd 0 3 (· + 1) y.ctr })
    | none => s
  let last : Nat := Tab.get 0 m.srcDev.toNat s.net.notices
  if last = 0 ∨ last - 1 + 1000000 ≤ s.clock.now then
    let s := { s with net := { s.net with notices := Tab.put 0 m.srcDev.toNat (s.clock.now + 1) s.net.notices } }
    let (w, s) := s.freshWords 1
    report s { Rep.dev St.fltRefused 0 false 15 m.srcDev.toNat 0 with part := m.dstPart.toNat, d1 := w.getD 0 0, index := f.getD 0xFF }
  else s

/-- The I/O die whose agent executes a message: that of the flight it came by, or (log 78) of the hall of the gallery that sent it. -/
def dieOf (f : Option Nat) (m : Msg) : Nat := match f with
  | some f => f / 18
  | none => m.srcGal.toNat / 16 % 2

/-- The agent of a die has translated an address: the page is in its cache of 4,096 entries (R360, R472). -/
def agentWalk (s : State) (die asid va : Nat) : State :=
  match (pagesOf s asid).find? (fun p => p.holds va) with
  | none => s
  | some p => { s with net := { s.net with tlb := Tab.upd [] die (tlbPut 4096 (p.entry asid)) s.net.tlb } }

/-- The agent's bursts at physical addresses draw from the bucket of the target partition in the hall of their stack (R439, R472). DESIGN CHOICE (log 76): it goes on at
once where the bucket is low, which counts as one burst held back; only its time would differ. -/
def agentTokens (s : State) (p : Nat) (pas : List Nat) : State :=
  (List.range 4).foldl (fun s h =>
    let n := (((pas.filter (fun a => stackOf a / 4 == h)).map (· / 256)).eraseDups).length
    if n = 0 then s else drawTokens (if bucketOk s h p then s else countHeld s p) h p n) s

/-- Granules of a message's data. -/
def msgGranules (m : Msg) : Nat := m.length.toNat / 32

/-- Is the data range of a put or get legal (R474)? -/
def msgRangeOk (m : Msg) : Bool :=
  let n := m.length.toNat
  decide (32 ≤ n ∧ n ≤ 4096) && n % 32 == 0 && m.addr.toNat % 32 == 0 && decide (m.addr.toNat % 4096 + n ≤ 4096)

/-- Physical addresses of the granules of a message: none on a translation fault of any byte (R476). -/
def msgPas (s : State) (m : Msg) (wr : Bool) : Option (List Nat) :=
  let pas := (List.range (msgGranules m)).map (fun k => xlate s (admitAsid s m.dstPart.toNat) ((m.addr.toNat + 32 * k : Nat) : Int) wr)
  if pas.all (·.isSome) then some (pas.map (fun x => x.getD 0)) else none

/-- Physical addresses of the granules of a put or a get: none where it is refused (R476). -/
def agentPas (s : State) (m : Msg) (wr : Bool) : Option (List Nat) :=
  if admitted s m (if wr then rightWrite else rightRead) && msgRangeOk m then msgPas s m wr else none

/-- The response to a message: addressed to its sender, from the flight agent (R473, R474). -/
def respond (m : Msg) (mtype status : Nat) : Msg :=
  { m with mtype := BitVec.ofNat 8 mtype, hops := 0, dstDev := m.srcDev, srcDev := m.dstDev, srcGal := 0xFF, mflags := 0,
           status := BitVec.ofNat 16 status, srcPart := m.dstPart, dstPart := m.srcPart, length := 0, addr := 0, arg := 0, pmap := 0,
           data := [] }

/-- A put at the target (R476): its data written, poisoned granules in the poison form, and its acknowledgement. -/
def agentPut (s : State) (f : Option Nat) (m : Msg) : State × Msg :=
  match agentPas s m true with
  | none => (refuse s f m, respond m 2 St.fltRefused)
  | some pas =>
    let s := agentTokens (agentWalk s (dieOf f m) (admitAsid s m.dstPart.toNat) m.addr.toNat) m.dstPart.toNat pas
    let s := (List.range pas.length).foldl (fun s k =>
      let a := pas.getD k 0
      (s.snoopRange a 32).dwrite a (slice m.data (32 * k) 32) (m.mflags.getLsbD 0 && m.pmap.getLsbD k)) s
    (s, respond m 2 0)

/-- A get at the target (R476): its data with the poison map; a refused one carries zeros, all poisoned. -/
def agentGet (s : State) (f : Option Nat) (m : Msg) : State × Msg :=
  let answer (st : Nat) (data : Bytes) (pm : Nat) : Msg :=
    { respond m 4 st with length := m.length, addr := m.addr, mflags := 1, pmap := BitVec.ofNat 128 pm, data := data }
  match agentPas s m false with
  | none => (refuse s f m, answer St.fltRefused (List.replicate m.length.toNat 0) (2 ^ msgGranules m - 1))
  | some pas =>
    let s := agentTokens (agentWalk s (dieOf f m) (admitAsid s m.dstPart.toNat) m.addr.toNat) m.dstPart.toNat pas
    let s := pas.foldl (fun s a => s.snoopRange a 32) s
    let r := pas.map (fun a => s.dget a 32)
    (s, answer 0 (r.flatMap (·.1)) ((List.range r.length).foldl (fun n k => if (r.getD k ([], false)).2 then n + 2 ^ k else n) 0))

/-- Send a message; one for this device itself is left to the I/O dies (R469). False where its destination is unreachable (R478). -/
def sendAny (s : State) (m : Msg) : State × Bool :=
  if s.devId = some m.dstDev.toNat then ({ s with net := { s.net with loop := s.net.loop ++ [m] } }, true) else sendMsg s m none

/-! ## Signals and barriers -/

/-- Key of a signal counter or a barrier: 16 of each per partition. -/
def ctrKey (p k : Nat) : Nat := 16 * p + k % 16

/-- Add to a signal counter, modulo 2^64 (R481). -/
def addSignal (s : State) (p k : Nat) (v : W64) : State :=
  let s := windowUpdate s (ctrKey p k / 8)
  { s with net := { s.net with sig := Tab.upd 0 (ctrKey p k) (· + v) s.net.sig } }

/-- A signal arrives (R481). -/
def signalIn (s : State) (f : Option Nat) (m : Msg) : State :=
  if admitted s m rightSignal then addSignal s m.dstPart.toNat (m.arg.toNat % 16) (m.arg >>> 32) else refuse s f m

/-- A barrier release arrives (R482): the signal counter, or the sender's record of a refused arrival. -/
def releaseIn (s : State) (f : Option Nat) (m : Msg) : State :=
  if !admitted s m rightSignal then refuse s f m
  else if m.status.toNat = St.fltBarrier then
    reportFree s { Rep.dev St.fltBarrier 1 false 15 0 0 with part := m.dstPart.toNat, index := f.getD 0xFF }
  else addSignal s m.dstPart.toNat (m.arg.toNat % 16) 1

/-- Send a release to a device and partition: this device's own is delivered at once (R469, R482). -/
def sendRelease (s : State) (m : Msg) (dst : Nat) (st : Nat) : State :=
  let r := { respond m 0x0B st with arg := m.arg, dstDev := BitVec.ofNat 16 (dst / 64), dstPart := BitVec.ofNat 8 (dst % 64) }
  if s.devId = some (dst / 64) then releaseIn s none r else (sendMsg s r none).1

/-- A barrier arrival at its root (R482). -/
def arriveIn (s : State) (f : Option Nat) (m : Msg) : State :=
  if !admitted s m rightSignal then refuse s f m
  else
    let k := ctrKey m.dstPart.toNat (m.arg.toNat % 16)
    let b := Tab.get Barrier.zero k s.net.bar
    let n := m.length.toNat
    let me := 64 * m.srcDev.toNat + m.srcPart.toNat
    if n < 2 ∨ 4096 < n ∨ (m.arg >>> 32).setWidth 32 ≠ b.gen ∨ (b.count ≠ 0 ∧ b.len ≠ n) then sendRelease s m me St.fltBarrier
    else
      let put (s : State) (b : Barrier) : State := { s with net := { s.net with bar := Tab.put Barrier.zero k b s.net.bar } }
      if b.count + 1 < n then put s { b with len := n, count := b.count + 1, devs := b.devs ++ [me] }
      else (b.devs ++ [me]).foldl (fun s d => sendRelease s m d 0) (put s { gen := b.gen + 1, len := 0, count := 0, devs := [] })

/-- Is a message for this device (R467: incoming messages are dropped while the identifier is unassigned)? -/
def mine (s : State) (m : Msg) : Bool := s.devId == some m.dstDev.toNat

/-- A message as a device reads it: the reserved bits of its identifiers are ignored (R9, R473). -/
def cleanMsg (m : Msg) : Msg :=
  { m with dstDev := BitVec.ofNat 16 (m.dstDev.toNat % 4096), srcDev := BitVec.ofNat 16 (m.srcDev.toNat % 4096) }

/-- Take a message with a unit where it is for this device. -/
def takeMsg (s : State) (m : Msg) (unit : State → Msg → State) : State := if mine s (cleanMsg m) then unit s (cleanMsg m) else s

/-- SIGNAL (R481). -/
def execSignal (m : Msg) (s : State) : Result := .next (takeMsg s m (fun s m => signalIn s none m))

/-- BARRIER_ARRIVE (R482). -/
def execBarrierArrive (m : Msg) (s : State) : Result := .next (takeMsg s m (fun s m => arriveIn s none m))

/-- BARRIER_RELEASE (R482). -/
def execBarrierRelease (m : Msg) (s : State) : Result := .next (takeMsg s m (fun s m => releaseIn s none m))

end Sys2Proof.Machine
end

