-- ==== Sys2Proof/Machine/Tensor.lean ====
section
/-! DEFINITION. Tensor descriptors (13 R346 to R356, R363): parsing, maps, bounds, footprints, slots, and element access for the engines. -/

namespace Sys2Proof

/-- A tensor descriptor as R346 lays it out; dimensions at or above `ndim` have extent 1 and zeros. `wf`: R353 but its footprint. -/
structure Tensor where
  word : Nat
  base : Nat
  etype : Nat
  scaled : Bool
  ndim : Nat
  tiled : Bool
  swz : Bool
  note : Bool
  space : Nat
  fill : Nat
  ext : List Nat
  lim : List Nat
  org : List Int
  stride : List Int
  tr : Nat
  tc : Nat
  swn : Nat
  swa : Nat
  swr : Nat
  slink : Nat
  wf : Bool
  deriving DecidableEq, Repr

/-- Bits of an element type (R347). -/
def etypeBits (c : Nat) : Option Nat :=
  match c with
  | 1 => some 32 | 2 => some 16 | 3 => some 8 | 4 => some 8 | 5 => some 6 | 6 => some 6 | 7 => some 4 | 8 => some 8 | 9 => some 4
  | 10 => some 2 | 11 => some 8 | 12 => some 8 | 16 => some 32 | 17 => some 32 | 18 => some 64
  | _ => none

namespace Tensor

/-- Bits of an element. -/
def bits (t : Tensor) : Nat := (etypeBits t.etype).getD 8

/-- The type with its block-scaled bit, as a pair. -/
def ty (t : Tensor) : Nat × Bool := (t.etype, t.scaled)

def extD (t : Tensor) (d : Nat) : Nat := t.ext.getD d 1
def limD (t : Tensor) (d : Nat) : Nat := t.lim.getD d 0
def orgD (t : Tensor) (d : Nat) : Int := t.org.getD d 0
def strD (t : Tensor) (d : Nat) : Int := t.stride.getD d 0

/-- Elements of the view. -/
def total (t : Tensor) : Nat := t.ext.foldl (· * ·) 1

/-- Storage index of a view index (R348). -/
def toJ (t : Tensor) (i : List Nat) : List Int := (List.range 5).map (fun d => (i.getD d 0 : Int) + t.orgD d)

/-- Is a storage index in bounds (R348)? -/
def inb (t : Tensor) (j : List Int) : Bool :=
  (List.range t.ndim).all (fun d => decide (0 ≤ j.getD d 0 ∧ j.getD d 0 < (t.limD d : Int)))

/-- Element offset of dimension 1 within tiles (R350). -/
def tileRow (t : Tensor) (j : Int) : Int := (j / t.tr) * t.strD 1 + (j % t.tr) * t.tc

/-- Element offset of dimension 0 within tiles (R350). -/
def tileCol (t : Tensor) (j : Int) : Int := (j / t.tc) * ((t.tr * t.tc : Nat) : Int) + j % t.tc

/-- Element offset of a storage index (R349, R350). -/
def off (t : Tensor) (j : List Int) : Int :=
  let d (k : Nat) : Int := j.getD k 0 * t.strD k
  if t.tiled then tileRow t (j.getD 1 0) + tileCol t (j.getD 0 0) + d 2 + d 3 + d 4 else d 0 + d 1 + d 2 + d 3 + d 4

/-- The swizzle of a byte offset (R351). -/
def swizzle (t : Tensor) (b : Nat) : Nat := if t.swz then b ^^^ (((b >>> t.swr) % 2 ^ t.swn) <<< t.swa) else b

/-- The address of an element in bits, in its space. -/
def bitAddr (t : Tensor) (j : List Int) : Int :=
  let o := t.off j * t.bits
  if t.swz then (8 * (t.base + t.swizzle (o / 8).toNat) : Nat) + o % 8 else (8 * t.base : Nat) + o

/-- In-bounds storage indices of a dimension: lowest and highest. -/
def range (t : Tensor) (d : Nat) : Int × Int :=
  if d < t.ndim then (max 0 (t.orgD d), min (t.limD d : Int) (t.orgD d + t.extD d) - 1) else (0, 0)

/-- Does the tensor have no in-bounds element? -/
def isEmpty (t : Tensor) : Bool := (List.range 5).any (fun d => decide ((t.range d).2 < (t.range d).1))

/-- Lowest and highest of a list of integers. -/
def span (l : List Int) : Int × Int :=
  match l with
  | [] => (0, 0)
  | x :: r => (r.foldl min x, r.foldl max x)

/-- Element offsets that a strided dimension spans. -/
def spanOf (t : Tensor) (d : Nat) : Int × Int := span [(t.range d).1 * t.strD d, (t.range d).2 * t.strD d]

/-- Element offsets that dimension 1 of a tiled tensor spans: its ends, and the first and last tile edges within its range. -/
def spanRow (t : Tensor) : Int × Int :=
  let (lo, hi) := t.range 1
  let r : Int := t.tr
  let c := [lo, hi, ((lo + r - 1) / r) * r, (hi / r) * r, (lo / r) * r + r - 1, ((hi + 1) / r) * r - 1]
  span ((c.filter (fun x => decide (lo ≤ x ∧ x ≤ hi))).map t.tileRow)

/-- Footprint: the bytes from the first to below the second (R355); none for a tensor with no in-bounds element. -/
def footprint (t : Tensor) : Option (Int × Int) :=
  if t.isEmpty then none
  else
    let s0 := if t.tiled then (t.tileCol (t.range 0).1, t.tileCol (t.range 0).2) else t.spanOf 0
    let s1 := if t.tiled then t.spanRow else t.spanOf 1
    let lo := s0.1 + s1.1 + (t.spanOf 2).1 + (t.spanOf 3).1 + (t.spanOf 4).1
    let hi := s0.2 + s1.2 + (t.spanOf 2).2 + (t.spanOf 3).2 + (t.spanOf 4).2
    let lob := lo * t.bits / 8
    let hib := (hi * t.bits + t.bits + 7) / 8
    if t.swz then
      let blk : Int := (2 ^ (t.swa + t.swn) : Nat)
      some (t.base + lob / blk * blk, t.base + (hib + blk - 1) / blk * blk)
    else some (t.base + lob, t.base + hib)

/-- A tensor whose `ext` and `org` are ignored and whose `lim` bounds its index (R306, R308, R352): the view of every element within `lim`. -/
def whole (t : Tensor) : Tensor :=
  { t with ext := (List.range 5).map (fun d => if d < t.ndim then Nat.max 1 (t.limD d) else 1), org := List.replicate 5 0 }

/-- The elements of a scale or escape tensor that pair with those of a tensor (R352): storage index (j_0 div 32, j_1, ..., j_4). -/
def paired (t base : Tensor) : Tensor :=
  let lo := base.orgD 0 / 32
  let hi := (base.orgD 0 + base.extD 0 - 1) / 32
  { t with ext := (hi - lo + 1).toNat :: base.ext.tail, org := lo :: base.org.tail }

/-- The table of a gather or scatter (R368, R369): along `gdim` an index reaches every element from `org` on. -/
def table (t : Tensor) (gdim : Nat) : Tensor :=
  if gdim < t.ndim then { t with ext := t.ext.set gdim (Nat.max 1 ((t.limD gdim : Int) - t.orgD gdim).toNat) } else t

/-- How two tensors overlap (R302, R376): 0 not at all, 1 with identical footprints, 2 otherwise. -/
def overlap (a b : Tensor) : Nat :=
  if a.space != b.space then 0
  else match a.footprint, b.footprint with
    | some x, some y => if x.2 ≤ y.1 ∨ y.2 ≤ x.1 then 0 else if x = y then 1 else 2
    | _, _ => 0

end Tensor

/-- A 32-bit field as a signed number. -/
def sgn32 (n : Nat) : Int := if n < 2 ^ 31 then n else (n : Int) - 2 ^ 32

/-- The index of position `p` in the logical row-major order of extents, dimension 0 fastest (R296). -/
def viewAt (ext : List Nat) (p : Nat) : List Nat :=
  match ext with
  | [] => []
  | e :: r => p % e :: viewAt r (p / e)

/-- Position of a view index in the logical row-major order. -/
def viewPos (ext i : List Nat) : Nat :=
  match ext, i with
  | e :: er, x :: xr => x + e * viewPos er xr
  | _, _ => 0

/-- R353 but the footprint: every rule of R346 to R352 on the 128 bytes. -/
def tensorWf (b : Bytes) (t : Tensor) : Bool :=
  let et := fld b 8 1
  let lay := fld b 10 1
  let tile := fld b 0x60 1
  let w := t.bits
  let raw (o d : Nat) : Nat := fld b (o + 4 * d) 4
  (etypeBits t.etype).isSome && nbits et 6 5 == 0 && (!t.scaled || decide (3 ≤ t.etype ∧ t.etype ≤ 9)) &&
    decide (1 ≤ fld b 9 1 ∧ fld b 9 1 ≤ 5) && decide (lay % 4 ≤ 1) && decide (lay < 16) && decide (t.space ≤ 2) && zeros b 0x68 24 &&
    (List.range 5).all (fun d =>
      if d < t.ndim then raw 0x10 d != 0 else raw 0x10 d == 0 && raw 0x24 d == 0 && raw 0x38 d == 0 && raw 0x4C d == 0) &&
    decide (w ≥ 32 ∨ t.fill < 2 ^ w) &&
    (decide (8 ≤ w) || (t.strD 0 == 1 && (List.range 4).all (fun d => t.strD (d + 1) % 32 == 0))) &&
    (if t.tiled then
      decide (3 ≤ tile % 16 ∧ tile % 16 ≤ 7 ∧ 3 ≤ tile / 16 ∧ tile / 16 ≤ 7) && t.strD 0 == 1 && t.strD 1 % ((t.tr * t.tc : Nat) : Int) == 0
    else tile == 0) &&
    (if t.swz then
      decide (1 ≤ t.swn ∧ t.swn ≤ 6 ∧ t.swa + t.swn ≤ t.swr ∧ t.swr + t.swn ≤ 24) && decide (w / 8 ≤ 2 ^ t.swa) &&
        (List.range 5).all (fun d => decide (0 ≤ t.strD d)) && decide (t.space ≤ 1) && t.etype != 5 && t.etype != 6
    else t.swn == 0) &&
    decide (t.base < (if t.space = 0 then 98304 else if t.space = 1 then 16777216 else 2 ^ 57)) &&
    (decide (w < 8) || t.base % (w / 8) == 0)

/-- Read the fields of R346 from 128 bytes. -/
def parseTensor (word : Nat) (b : Bytes) : Tensor :=
  let lay := fld b 10 1
  let tile := fld b 0x60 1
  let nd := Nat.min 5 (Nat.max 1 (fld b 9 1))
  let tiled := lay % 4 == 1
  let raw (o d : Nat) : Nat := fld b (o + 4 * d) 4
  let t : Tensor :=
    { word := word, base := fld b 0 8, etype := fld b 8 1 % 32, scaled := nbit (fld b 8 1) 7, ndim := nd, tiled := tiled, swz := nbit lay 2,
      note := nbit lay 3, space := fld b 11 1, fill := fld b 12 4,
      ext := (List.range 5).map (fun d => if d < nd then raw 0x10 d else 1),
      lim := (List.range 5).map (fun d => if d < nd then (if raw 0x24 d = 0 then raw 0x10 d else raw 0x24 d) else 0),
      org := (List.range 5).map (fun d => if d < nd then sgn32 (raw 0x38 d) else 0),
      stride := (List.range 5).map (fun d => if d < nd then sgn32 (raw 0x4C d) else 0),
      tr := if tiled then 2 ^ (tile / 16) else 1, tc := if tiled then 2 ^ (tile % 16) else 1,
      swn := fld b 0x61 1, swa := fld b 0x62 1, swr := fld b 0x63 1, slink := fld b 0x64 4, wf := false }
  { t with wf := tensorWf b t }

namespace Machine

/-- Where the ordinary words of the gallery store end, in bytes (R382). -/
def storeEnd (s : State) (g : Nat) : Nat := if inShareG s g then 16777216 else 15728640
where inShareG (s : State) (g : Nat) : Bool := decide ((s.galAt g).mode = .share)

/-- Is a byte offset of a memory one that engines reach (R355, R383)? -/
def reachable (s : State) (m : Space1) (a : Int) (n : Nat) : Bool :=
  decide (0 ≤ a ∧ a + n ≤ ((if m.store then storeEnd s m.g else 98304 : Nat) : Int))

/-- The tensor descriptor that an engine of a lantern reads at a word address; none where it cannot lie (R346, R353, R383). -/
def tensorAt (s : State) (g l word : Nat) : Option Tensor :=
  if word % 4 != 0 then none
  else match locate g l word with
    | none => none
    | some (m, off) =>
      let shut := m.store && decide ((s.galAt g).mode = .share) && decide (0x800000 < off + 128)
      if shut || !reachable s m off 128 then none
      else if (List.range 5).any (fun i => s.poisoned1 m (Nat.min (off + 32 * i) (off + 127))) then none
      else some (parseTensor word (s.read1 m off 128))

/-- Is a tensor well formed, its footprint included (R353, R355, R383)? -/
def Tensor.good (s : State) (g : Nat) (t : Tensor) : Bool :=
  t.wf &&
    (if t.space = 2 then true
    else match t.footprint with
      | none => true
      | some (lo, hi) => decide (0 ≤ lo ∧ hi ≤ ((if t.space = 1 then storeEnd s g else 98304 : Nat) : Int)))

/-- Does a tensor's footprint touch the sealed region (R275, R276)? -/
def Tensor.touchesSeal (s : State) (g : Nat) (t : Tensor) : Bool :=
  decide (t.space = 1) && decide ((s.galAt g).mode = .share) &&
    (match t.footprint with
    | none => false
    | some (_, hi) => decide (0x800000 < hi))

/-- Does a tensor lie wholly inside the sealed region (R276, R279)? -/
def Tensor.insideSeal (s : State) (g : Nat) (t : Tensor) : Bool :=
  decide (t.space = 1) && decide ((s.galAt g).mode = .share) &&
    (match t.footprint with
    | none => false
    | some (lo, _) => decide (0x800000 ≤ lo))

/-- The on-chip memory of a tensor of space 0 or 1. -/
def Tensor.mem (g l : Nat) (t : Tensor) : Space1 := { g := g, l := l, store := decide (t.space = 1) }

/-- Slots that hold an in-bounds element of the positions given, lowest first; none in space 2. -/
def Tensor.slotsOf (g l : Nat) (t : Tensor) (ps : List Nat) : List Slot :=
  if t.space = 2 ∨ t.isEmpty then []
  else
    let m := Tensor.mem g l t
    let set := ps.foldl (fun (acc : Tab Bool) p =>
      let j := t.toJ (viewAt t.ext p)
      if t.inb j then
        let b := t.bitAddr j
        Tab.put false (((b + t.bits - 1) / 8).toNat / m.slotBytes) true (Tab.put false ((b / 8).toNat / m.slotBytes) true acc)
      else acc) []
    set.map (fun c => { store := m.store, n := c.1 })

/-- Slots that hold an in-bounds element (R301, R404). -/
def Tensor.slots (g l : Nat) (t : Tensor) : List Slot := Tensor.slotsOf g l t (List.range t.total)

def Slot.mem (g l : Nat) (k : Slot) : Space1 := { g := g, l := l, store := k.store }
/-- First byte of a slot. -/
def Slot.byte (k : Slot) : Nat := k.n * (if k.store then 512 else 64)
def Slot.isFull (s : State) (g l : Nat) (k : Slot) : Bool := s.full1 (Slot.mem g l k) k.byte

/-- The address in bytes of the first in-bounds element, in the logical order, that lies in an empty slot (R277, R284). -/
def Tensor.firstEmpty (s : State) (g l : Nat) (t : Tensor) : Option Nat :=
  let m := Tensor.mem g l t
  ((List.range t.total).filterMap (fun p =>
    let j := t.toJ (viewAt t.ext p)
    if t.inb j && !s.full1 m (t.bitAddr j / 8).toNat then some (t.bitAddr j / 8).toNat else none)).head?

/-- Set the tags of slots. -/
def setSlots (s : State) (g l : Nat) (ks : List Slot) (full : Bool) : State :=
  ks.foldl (fun s k => s.setFull1 (Slot.mem g l k) k.byte full) s

/-- Are the slots all full (a source may be read), or all empty (a destination may be written)? -/
def slotsFull (s : State) (g l : Nat) (ks : List Slot) : Bool := ks.all (fun k => Slot.isFull s g l k)
def slotsEmpty (s : State) (g l : Nat) (ks : List Slot) : Bool := ks.all (fun k => !Slot.isFull s g l k)

/-! ## Element access of one engine descriptor -/

/-- What an access can report: an out-of-bounds element of a tensor that asks for it (R364), a translation fault (R361), a scatter's
poisoned index (R369). -/
inductive PortEvent where
  | oob (pos : Nat)
  | fault (va : Int) (wr : Bool)
  | poison (pos : Nat)
  deriving DecidableEq, Repr

/-- Accesses of one engine descriptor: the state so far, counts, events in order, the bits written and the granules poisoned (R388). -/
structure Port1 where
  s : State
  g : Nat
  l : Nat
  asid : Nat
  pos : Nat
  oobR : Nat
  oobW : Nat
  faults : Nat
  noted : List Nat
  ev : List PortEvent
  cov : Tab Nat
  dirty : Tab Bool

def Port1.new (s : State) (g l : Nat) : Port1 :=
  { s := s, g := g, l := l, asid := asidOf s g, pos := 0, oobR := 0, oobW := 0, faults := 0, noted := [], ev := [], cov := [], dirty := [] }

/-- An out-of-bounds access (R363, R364). -/
def Port1.oob (p : Port1) (t : Tensor) (wr : Bool) : Port1 :=
  let p := if wr then { p with oobW := p.oobW + 1 } else { p with oobR := p.oobR + 1 }
  if t.note && !p.noted.contains t.word then { p with noted := t.word :: p.noted, ev := p.ev ++ [.oob p.pos] } else p

/-- A translation fault (R361): the first of the descriptor is an event. -/
def Port1.fault (p : Port1) (va : Int) (wr : Bool) : Port1 :=
  { p with faults := p.faults + 1, ev := if p.faults = 0 then p.ev ++ [.fault va wr] else p.ev }

/-- Read the element at a bit address: its code and its poison. -/
def Port1.readBits (p : Port1) (t : Tensor) (b : Int) : Port1 × Nat × Bool :=
  let n := ((b % 8 + t.bits + 7) / 8).toNat
  let cut (v : Nat) : Nat := (v >>> (b % 8).toNat) % 2 ^ t.bits
  if t.space = 2 then
    let p := { p with s := vsnoop p.s p.asid (b / 8) n false }
    match vread p.s p.asid (b / 8) n with
    | some (v, bad) => (p, cut (leNat v), bad)
    | none => (p.fault (b / 8) false, 0, true)
  else
    let m := Tensor.mem p.g p.l t
    if reachable p.s m (b / 8) n then
      let a := (b / 8).toNat
      (p, cut (p.s.num1 m a n), (List.range n).any (fun i => p.s.poisoned1 m (a + i)))
    else (p.oob t false, t.fill, false)

/-- Element at a storage index: the fill value out of bounds (R363). -/
def Port1.getJ (p : Port1) (t : Tensor) (j : List Int) : Port1 × Nat × Bool :=
  if t.inb j then p.readBits t (t.bitAddr j) else (p.oob t false, t.fill, false)

/-- Element at a view index. -/
def Port1.get (p : Port1) (t : Tensor) (i : List Nat) : Port1 × Nat × Bool := p.getJ t (t.toJ i)

/-- Note that bits [b, b + w) of a space were written, for the poison of the granules (R388). -/
def Port1.cover (p : Port1) (space : Nat) (b w : Nat) (bad : Bool) : Port1 :=
  let put (p : Port1) (gr mask : Nat) : Port1 :=
    let k := 4 * gr + space
    { p with cov := Tab.upd 0 k (fun v => v ||| mask) p.cov, dirty := if bad then Tab.put false k true p.dirty else p.dirty }
  let full := (2 ^ w - 1) <<< (b % 256)
  let p := put p (b / 256) (full % 2 ^ 256)
  if full < 2 ^ 256 then p else put p (b / 256 + 1) (full / 2 ^ 256)

/-- The new bytes of an element written over old ones at a bit offset. -/
def mergeBits (old : Bytes) (sh w v : Nat) : Bytes :=
  let o := leNat old
  natLe old.length (o - ((o >>> sh) % 2 ^ w) <<< sh + (v % 2 ^ w) <<< sh)

/-- Write the element at a bit address. -/
def Port1.writeBits (p : Port1) (t : Tensor) (b : Int) (v : Nat) (bad : Bool) : Port1 :=
  let n := ((b % 8 + t.bits + 7) / 8).toNat
  let sh := (b % 8).toNat
  if t.space = 2 then
    let pas := (List.range n).map (fun (i : Nat) => xlate p.s p.asid (b / 8 + i) true)
    if pas.all (·.isSome) then
      let pas := pas.map (fun x => x.getD 0)
      let p := { p with s := vsnoop p.s p.asid (b / 8) n true }
      let new := mergeBits (pas.map p.s.dramByte) sh t.bits v
      (List.range n).foldl (fun p i =>
        let a := pas.getD i 0
        if p.s.lostAt a then p
        else
          let lo := if i = 0 then sh else 0
          let w := Nat.min 8 (sh + t.bits - 8 * i) - lo
          let p := { p with s := p.s.dramWrite a [new.getD i 0] }
          let p := if bad then { p with s := p.s.dramSetPoison a 1 true } else p
          p.cover 2 (8 * a + lo) w bad) p
    else p.fault (b / 8) true
  else
    let m := Tensor.mem p.g p.l t
    if reachable p.s m (b / 8) n then
      let a := (b / 8).toNat
      let new := mergeBits (p.s.read1 m a n) sh t.bits v
      let s := p.s.setMem1 m (Tab.puts 0 a new (p.s.mem1 m))
      let s := if bad then s.setPoi1 m (Tab.put false ((a + n - 1) / 32) true (Tab.put false (a / 32) true (s.poi1 m))) else s
      { p with s := s }.cover (if m.store then 1 else 0) b.toNat t.bits bad
    else p.oob t true

/-- Write at a storage index: dropped and counted out of bounds (R363). -/
def Port1.putJ (p : Port1) (t : Tensor) (j : List Int) (v : Nat) (bad : Bool) : Port1 :=
  if t.inb j then p.writeBits t (t.bitAddr j) v bad else p.oob t true

/-- Write at a view index. -/
def Port1.put (p : Port1) (t : Tensor) (i : List Nat) (v : Nat) (bad : Bool) : Port1 := p.putJ t (t.toJ i) v bad

/-- The end of the descriptor's writes: granules that clean writes covered whole lose their poison (R388, R445). -/
def Port1.settle (p : Port1) : State :=
  p.cov.foldl (fun s c =>
    if c.2 = 2 ^ 256 - 1 ∧ Tab.get false c.1 p.dirty = false then
      let gr := c.1 / 4
      if c.1 % 4 = 2 then s.dramSetPoison (32 * gr) 32 false
      else
        let m : Space1 := { g := p.g, l := p.l, store := decide (c.1 % 4 = 1) }
        s.setPoi1 m (Tab.put false gr false (s.poi1 m))
    else s) p.s

/-- Granules written poisoned. -/
def Port1.dirtied (p : Port1) : Nat := p.dirty.length

/-- Storage index of the scale, or the escape word, of a storage index (R352). -/
def scaleJ (j : List Int) : List Int := (j.getD 0 0 / 32) :: j.tail

/-- Is the 8-byte aligned run of `n` bytes at word address `w` in memory that engines reach (R185, R189)? -/
def wordsAt (s : State) (g l w n : Nat) : Option (Space1 × Nat) :=
  match locate g l w with
  | none => none
  | some (m, off) =>
    let shut := m.store && decide ((s.galAt g).mode = .share) && decide (0x800000 < off + n)
    if shut || !reachable s m off n then none else some (m, off)

/-! ## Modulus tables (06 R173, R174, R186, R189) -/

/-- Does q have the special form of R174 (kind 0)? -/
def specialForm (q : Nat) : Bool :=
  decide (2 ^ 31 < q ∧ q < 2 ^ 32) && (List.range 15).any (fun i =>
    let b := 17 + i
    let v := 2 ^ 32 + 1 - q
    let u := v / 2 ^ b
    decide (v % 2 ^ b = 0 ∧ u % 2 = 1) && decide (((List.range 32).filter (fun k => nbit u k)).length ≤ 3))

/-- The first failure of an entry (R186): reason 5, 1, 2, 3, 4; none: the entry is valid. `montgomery`: kind 1 is allowed. -/
def modBad (s : State) (m : Space1) (a : Nat) (montgomery : Bool) : Option Nat :=
  let q := s.num1 m a 4
  let qi := s.num1 m (a + 4) 2
  let kind := s.num1 m (a + 6) 1
  if s.poisoned1 m a || s.poisoned1 m (a + 7) then some 5
  else if 1 < kind ∨ s.num1 m (a + 7) 1 ≠ 0 then some 1
  else if kind = 0 then (if !specialForm q then some 2 else if qi ≠ 0xFFFF then some 3 else none)
  else if !(decide (q % 2 = 1 ∧ 2 ^ 28 < q)) then some 2
  else if q * qi % 65536 ≠ 0xFFFF then some 3
  else if !montgomery then some 4 else none

/-- The moduli of a table's first `n` entries, or detail word 1 of R186. -/
def modTable (s : State) (g l mtab n : Nat) (montgomery : Bool) : Except Nat (List (Nat × Nat)) :=
  if mtab = 0 then .error (6 * 65536)
  else match wordsAt s g l mtab (8 * n) with
    | none => .error (6 * 65536)
    | some (m, off) =>
      match (List.range n).find? (fun k => (modBad s m (off + 8 * k) montgomery).isSome) with
      | some k => .error (k % 1024 + 65536 * ((modBad s m (off + 8 * k) montgomery).getD 0))
      | none => .ok ((List.range n).map (fun k => (s.num1 m (off + 8 * k) 4, s.num1 m (off + 8 * k + 4) 2)))

end Machine
end Sys2Proof
end

