-- ==== Sys2Proof/Machine/Operands.lean ====
section
/-! DEFINITION. Utier operands and issue (03, 04): registers, immediates, word addresses, slot tags, skips, what ends an issue. -/

namespace Sys2Proof

/-! ## Fields (R107, R108) -/

/-- `imm11`: `b` in the low 5 bits and `e` above. -/
def Fields.imm11 (f : Fields) : BitVec 11 := f.e ++ f.b

/-- The immediate of the I or L form, sign-extended (R108). -/
def Fields.immV (f : Fields) : W64 := if f.long then f.imm.signExtend 64 else f.imm11.signExtend 64

/-- Bytes of the instruction (R107). -/
def Fields.len (f : Fields) : Nat := if f.long then 8 else 4

/-- The L form of an I-form operation leaves `b` and `e` unused (R107). -/
def Fields.immTail (f : Fields) : Bool := f.long && (f.b != 0 || f.e != 0)

end Sys2Proof

namespace Sys2Proof.Machine
open Sys2Proof

/-! ## Registers (R105) -/

/-- Integer register; `x0` reads 0. -/
def Thread.getX (t : Thread) (r : BitVec 5) : W64 := if r = 0 then 0 else Tab.get 0 r.toNat t.x
/-- Writes to `x0` are discarded. -/
def Thread.setX (t : Thread) (r : BitVec 5) (v : W64) : Thread := if r = 0 then t else { t with x := Tab.put 0 r.toNat v t.x }
def Thread.getF (t : Thread) (r : BitVec 5) : W32 := Tab.get 0 r.toNat t.f
def Thread.setF (t : Thread) (r : BitVec 5) (v : W32) : Thread := { t with f := Tab.put 0 r.toNat v t.f }
def Thread.getV (t : Thread) (r : BitVec 5) : V256 := Tab.get 0 r.toNat t.v
def Thread.setV (t : Thread) (r : BitVec 5) (v : V256) : Thread := { t with v := Tab.put 0 r.toNat v t.v }

/-- Lane `i` of a short vector (lane 0 lowest, R105). -/
def vlane (v : V256) (i : Nat) : W32 := (v >>> (32 * i)).setWidth 32

/-- A vector of eight lanes. -/
def vmake (f : Nat → W32) : V256 := (List.range 8).foldl (fun acc i => acc ||| ((f i).setWidth 256 <<< (32 * i))) 0

def thOf (s : State) (w : Site) : Thread := s.thAt w.g.val w.l.val w.t.val
def updThread (s : State) (w : Site) (f : Thread → Thread) : State := s.updTh w.g.val w.l.val w.t.val f

def xr (s : State) (w : Site) (r : BitVec 5) : W64 := (thOf s w).getX r
def fr (s : State) (w : Site) (r : BitVec 5) : W32 := (thOf s w).getF r
def vr (s : State) (w : Site) (r : BitVec 5) : V256 := (thOf s w).getV r
def setX (s : State) (w : Site) (r : BitVec 5) (v : W64) : State := updThread s w (fun t => t.setX r v)
def setF (s : State) (w : Site) (r : BitVec 5) (v : W32) : State := updThread s w (fun t => t.setF r v)
def setV (s : State) (w : Site) (r : BitVec 5) (v : V256) : State := updThread s w (fun t => t.setV r v)

/-- Which length an operation takes (R109). -/
inductive Form where
  | short
  | long
  | both
  deriving DecidableEq, Repr

def Form.ok (m : Form) (long : Bool) : Bool :=
  match m with
  | .short => !long
  | .long => long
  | .both => true

/-- The lowest reason of R132 that the instruction's own fields give: 2 for the form, 3 for a register, 4 for an unused field. -/
def static (m : Form) (f : Fields) (badReg unused : Bool) : Option Nat :=
  if !m.ok f.long then some 2 else if badReg then some 3 else if unused then some 4 else none

/-- A `v` register above 15 (R105, reason 3). -/
def badV (r : BitVec 5) : Bool := decide (16 ≤ r.toNat)

/-! ## Issue -/

/-- What an instruction does once it issues. -/
inductive Act where
  /-- Illegal with this reason (R132). -/
  | skip (reason : Nat)
  /-- It holds its thread and changes nothing (R68). -/
  | block (w : Wait)
  /-- It read a poisoned word (R389). -/
  | poison (word : Nat)
  /-- Done; the thread goes on with the next instruction. -/
  | ok (s : State)
  /-- Done; the thread goes on at a code offset. -/
  | jump (s : State) (pc : Nat)
  /-- Done, and the thread blocks before its next instruction (R79). -/
  | hold (s : State) (w : Wait)
  /-- Done; the thread ends (R127). -/
  | ends (s : State)

/-- Can threads of a gallery issue: a task with threads runs, its hall neither halted nor held (R52, R594), the device ready? -/
def galRuns (s : State) (g : Nat) : Bool :=
  decide (s.boot.stage = .ready) && (s.hallAt (hallOf g)).halted.isNone && (s.hallAt (hallOf g)).heldSince.isNone &&
    (match (s.galAt g).task with
     | some t => !t.update
     | none => false)

/-- The layout of the context word (R106). -/
def ctxWord (g l t part : Nat) (m : Mode) : W64 := w64 (t + 2 ^ 8 * l + 2 ^ 16 * g + 2 ^ 24 * part + 2 ^ 32 * m.code)

def taskOf (s : State) (g : Nat) : Option Task := (s.galAt g).task

/-- The code section of the running task: its size, and where its translation lies (the model's line numbering, log 13). -/
def codeSize (s : State) (g : Nat) : Nat := ((taskOf s g).map (·.codeSize)).getD 0
def codeBase (s : State) (g : Nat) : Nat := ((taskOf s g).map (·.codeBase)).getD 0

/-- The 256-byte line of a code offset (R91). -/
def lineOf (s : State) (g pc : Nat) : Nat := (codeBase s g + pc) / 256

/-- Count a skip, and record it within the limits of R133. -/
def noteSkip (s : State) (w : Site) (cls op pc reason : Nat) : State :=
  let y := (s.lanAt w.g.val w.l.val).ca
  let rec? := decide (y.skipRec < 16) && !y.skipSeen.contains (pc, reason)
  let s := s.updLan w.g.val w.l.val (fun z => { z with ca := { z.ca with
    skips := satAdd 0xFFFFFF z.ca.skips 1,
    skipRec := if rec? then z.ca.skipRec + 1 else z.ca.skipRec,
    skipSeen := if rec? then (pc, reason) :: z.ca.skipSeen else z.ca.skipSeen } })
  if rec? then
    reportTask s (Rep.ofLan St.skippedIllegal 1 false 1 w.g.val w.l.val pc (reason + 256 * cls + 4096 * op + 262144 * w.t.val))
  else s

/-- Does the second word of an L form lie beyond the end of the code section (R639)? -/
def cutOff (s : State) (w : Site) (f : Fields) : Bool := f.long && decide (codeSize s w.g.val < (thOf s w).pc + 8)

/-- Issue one instruction of a thread (R66 to R68, R130, R389, R639). `st` is its lowest static reason, `body` its effect, `onSkip`
what a skip still does. -/
def issue (s : State) (w : Site) (cls op : Nat) (f : Fields) (st : Option Nat) (onSkip : State → State) (body : State → Act) : State :=
  let g := w.g.val
  let t := thOf s w
  if !galRuns s g || t.st != .ready then s
  else if codeSize s g ≤ t.pc then touch (updThread s w (fun t => { t with st := .ended })) g
  else if !((s.lanAt g w.l.val).icache.contains (lineOf s g t.pc)) then
    let n := lineOf s g t.pc
    let s := s.updLan g w.l.val (fun y => { y with fetching := if y.fetching.contains n then y.fetching else n :: y.fetching })
    touch (updThread s w (fun t => { t with st := .blocked (.line n), since := s.clock.now })) g
  else
    let cut := cutOff s w f
    let skip (r : Nat) : State :=
      updThread (onSkip (noteSkip (touch s g) w cls op t.pc r)) w (fun t => { t with pc := t.pc + f.len })
    match st with
    | some r => skip r
    | none =>
      match body (touch s g) with
      | .skip r => skip r
      | act =>
        if cut then skip 15
        else match act with
          | .skip r => skip r
          | .block v => updThread (touch s g) w (fun t => { t with st := .blocked v, since := s.clock.now })
          | .poison word =>
            killNow (reportTask s (Rep.ofLan St.loadPoison 1 false 1 g w.l.val word (w.t.val + 256 * t.pc))) g St.loadPoison
          | .ok s => updThread s w (fun t => { t with pc := t.pc + f.len })
          | .jump s pc => updThread s w (fun t => { t with pc := pc })
          | .hold s v => updThread s w (fun t => { t with pc := t.pc + f.len, st := .blocked v, since := s.clock.now })
          | .ends s => updThread s w (fun t => { t with st := .ended })

/-- Issue an instruction whose skip does nothing more (R130). -/
def issue1 (s : State) (w : Site) (cls op : Nat) (f : Fields) (st : Option Nat) (body : State → Act) : State :=
  issue s w cls op f st id body

/-! ## Word addresses (R114) -/

/-- The address of a memory instruction: `x a` + `imm11` (R114). -/
def wordAddr (s : State) (w : Site) (f : Fields) : Nat := (xr s w f.a + f.imm11.signExtend 64).toNat

/-- Is the gallery's mode Share (the windows do not exist there, R382)? -/
def inShare (s : State) (g : Nat) : Bool := decide ((s.galAt g).mode = .share)

/-- A word of the sealed Share region (R275, R382). -/
def isSealed (s : State) (g a : Nat) : Bool := inShare s g && decide (0x80200000 ≤ a ∧ a < 0x80400000)

/-- A word of the bit-set or bit-clear window (R382). -/
def isWindow (s : State) (g a : Nat) : Bool := !inShare s g && decide (0x803C0000 ≤ a ∧ a < 0x80400000)

/-- The lowest reason of R132 for an access of `n` words at `a`: 5 out of range or, unless `win` allows them, a window word (R395), 6 misaligned
or across slots, 13 sealed. -/
def badAddr (s : State) (g a n : Nat) (win : Bool) : Option Nat :=
  if !(isPadWord a || isStoreWord a) || (isWindow s g a && !win) then some 5
  else if a % n != 0 then some 6
  else if isSealed s g a then some 13 else none

end Sys2Proof.Machine
end

