-- ==== Sys2Proof/Machine/UtierPush.lean ====
section
/-! DEFINITION. Utier classes 0x7, 0x8 and 0xA: matrix instructions, descriptor pushes, macro calls (03 R72 to R75; 04 R119 to R123, R128 to R130). -/

namespace Sys2Proof.Machine
open Sys2Proof

/-- Depths of the queues array, vector, special, layout, stream (R72). -/
def queueDepth (q : Nat) : Nat := if q = 1 ∨ q = 4 then 32 else 16

/-- Entries of a lantern's queue. -/
def queueLen (y : Lantern) (q : Nat) : Nat :=
  match q with
  | 0 => y.qa.length
  | 1 => y.qv.length
  | 2 => y.qs.length
  | 3 => y.ql.length
  | _ => y.qt.length

/-- Values of k of one pass (R139, R169); 0 for a reserved code. -/
def kPass (fmt : Nat) : Nat :=
  if [1, 2, 3, 4, 5, 8, 9, 10, 11, 12, 13, 14].contains fmt then 128
  else if fmt = 0x10 ∨ fmt = 0x11 then 256
  else if fmt = 0x18 ∨ fmt = 0x19 then 512
  else if fmt = 0x20 then 32
  else if fmt = 0x40 ∨ fmt = 0x41 then 8 else 0

/-- The lanterns whose queues a push enters (R74). -/
def pushed (l : Nat) (gang : Bool) : List Nat := if gang then List.range 64 else [l]

/-- Is one of the queues that a push enters full (R68, R74)? -/
def pushFull (s : State) (g l q : Nat) (gang : Bool) : Bool :=
  (pushed l gang).any (fun k => decide (queueDepth q ≤ queueLen (s.lanAt g k) q))

/-- An array descriptor enters a queue: a drain takes its number (R123), a load sets the `seg` of R150. -/
def Lantern.pushArray (y : Lantern) (d : Bytes) (gang : Bool) : Lantern :=
  let op := fld d 1 1
  { y with
    qa := y.qa ++ [.desc d y.drainSeq gang],
    drainSeq := if op = 3 then y.drainSeq + 1 else y.drainSeq,
    arr := if op = 1 then { y.arr with lastSeg := fld d 0x12 1 } else y.arr }

/-- A descriptor enters a queue (R73, R120). -/
def Lantern.push (y : Lantern) (q : Nat) (d : Bytes) (gang : Bool) : Lantern :=
  let y := { y with pushes := Tab.upd 0 q (· + 1) y.pushes }
  match q with
  | 0 => y.pushArray d gang
  | 1 => { y with qv := y.qv ++ [d] }
  | 2 => { y with qs := y.qs ++ [d] }
  | 3 => { y with ql := y.ql ++ [d] }
  | _ => { y with qt := y.qt ++ [d] }

/-- Push a descriptor, ganged into all 64 queues at once (R74). -/
def pushDesc (s : State) (g l q : Nat) (d : Bytes) (gang : Bool) : State :=
  (pushed l gang).foldl (fun s k =>
    (if queueLen (s.lanAt g k) q = 0 then headNow s g k q else s).updLan g k (fun y => y.push q d gang)) s

/-- The completion flag that a `ctl` byte names (R119, R122, R128). -/
def ctlFlag (c : Nat) : Option Nat := if nbit c 6 then some (c % 64) else none

/-! ## Matrix instructions -/

/-- Segments of `mx.ldw`: the tensor's K over K_pass, rounded up, 1 to 4 (R150); 1 where no descriptor can be read (DEDUCED, log 11) or
the format code is reserved (DESIGN CHOICE, log 103). -/
def mxCount (s : State) (g l fmt word : Nat) : Nat :=
  match locate g l (word + 4) with
  | none => 1
  | some (m, off) => Nat.min 4 (Nat.max 1 (ceilDiv (s.num1 m off 4) (kPass fmt)))

/-- The array descriptor that a matrix instruction produces (R122, R150). DESIGN CHOICE (log 103): the operand descriptor's address is the low 32 bits of `x a`; a run before any
load takes segment 0. -/
def mxDesc (s : State) (w : Site) (f : Fields) (op : Nat) : Bytes :=
  let imm := f.imm.toNat
  let a := (xr s w f.a).toNat % 2 ^ 32
  let fmt := nbits imm 15 8
  let y := s.lanAt w.g.val w.l.val
  let body : Bytes :=
    if op = 1 then natLe 1 fmt ++ natLe 1 0 ++ natLe 1 (4 * (mxCount s w.g.val w.l.val fmt a - 1)) ++ natLe 1 0 ++ natLe 4 a
    else if op = 2 then natLe 1 fmt ++ natLe 1 (nbits imm 16 16) ++ natLe 1 y.arr.lastSeg ++ natLe 1 0 ++ natLe 4 a
    else []
  fitBytes 64 (natLe 1 0 ++ natLe 1 op ++ natLe 1 (imm % 256) ++ List.replicate 13 0 ++ body)

/-- What a skipped instruction with a readable, enabled completion flag still does (R130). -/
def skipFlag (w : Site) (readable : Bool) (c : Nat) (s : State) : State :=
  if readable then Sys2Proof.Machine.flagDone s w.g.val w.l.val (ctlFlag c) else s

/-- A matrix instruction: one array queue entry (R122, R123). DESIGN CHOICE (log 103): a drain ignores its format code. -/
def mxOp (op : Nat) (drain : Bool) (w : Site) (f : Fields) (s : State) : State :=
  let imm := f.imm.toNat
  let noImm := cutOff s w f
  let badImm := !noImm && (nbits imm 31 17 != 0 || (op != 2 && nbit imm 16))
  let unused := if drain then f.a != 0 || f.b != 0 || f.e != 0 else f.d != 0 || f.b != 0 || f.e != 0
  issue s w 7 (op - 1) f (static .long f false (unused || badImm)) (skipFlag w (f.long && !noImm) imm) (fun s =>
    let gang := nbit imm 7
    if !noImm && gang && w.l.val != 0 then .skip 8
    else if pushFull s w.g.val w.l.val 0 gang then .block (.queue (if gang then 8 else 0))
    else
      let seq := (s.lanAt w.g.val w.l.val).drainSeq
      let s := pushDesc s w.g.val w.l.val 0 (mxDesc s w f op) gang
      .ok (if drain then setX s w f.d (seq.setWidth 64) else s))

/-- `mx.ldw` (R122). -/
def execMxLdw (w : Site) (f : Fields) (s : State) : Result := .next (mxOp 1 false w f s)

/-- `mx.run` (R122). -/
def execMxRun (w : Site) (f : Fields) (s : State) : Result := .next (mxOp 2 false w f s)

/-- `mx.drain`: `x d` takes the drain's sequence number (R123). -/
def execMxDrain (w : Site) (f : Fields) (s : State) : Result := .next (mxOp 3 true w f s)

/-! ## Descriptor pushes -/

/-- The header checks of a push (R121): 7, then 8. DESIGN CHOICE (log 89): gang that logical lantern 0 sets on a descriptor other than an array descriptor, for which R132
lists no reason, is reported as 7. -/
def badHeader (d : Bytes) (q l : Nat) : Option Nat :=
  let gang := nbit (fld d 2 1) 7
  if fld d 0 1 % 16 != q || (nbit (fld d 3 1) 0 && q != 1) then some 7
  else if gang && l != 0 then some 8
  else if gang && q != 0 then some 7 else none

/-- Push a descriptor that was read, or block on a full queue. -/
def pushAct (s : State) (w : Site) (q : Nat) (d : Bytes) : Act :=
  let gang := nbit (fld d 2 1) 7
  match badHeader d q w.l.val with
  | some r => .skip r
  | none =>
    if pushFull s w.g.val w.l.val q gang then .block (.queue (if gang then 8 + q else q)) else .ok (pushDesc s w.g.val w.l.val q d gang)

/-- Is `v a`, `v a+1` a legal pair (R120)? -/
def pairOk (f : Fields) : Bool := decide (f.a.toNat % 2 = 0 ∧ f.a.toNat ≤ 14)

/-- The 64 bytes of a register pair (R120). -/
def pairBytes (s : State) (w : Site) (f : Fields) : Bytes := natLe 32 (vr s w f.a).toNat ++ natLe 32 (vr s w (f.a + 1)).toNat

/-- `qpush` from registers (R120). -/
def execQpush (w : Site) (qn : Fin 5) (f : Fields) (s : State) : Result :=
  .next (issue s w 8 qn.val f (static .short f (!pairOk f) (f.d != 0 || f.b != 0 || f.e != 0))
    (skipFlag w (pairOk f) (fld (pairBytes s w f) 2 1)) (fun s => pushAct s w qn.val (pairBytes s w f)))

/-- The lowest reason against a 64-byte block in the lantern's scratchpad: 5, then 6 (R120, R128). -/
def badBlock (a : Nat) : Option Nat := if !isPadWord a then some 5 else if a % 16 != 0 then some 6 else none

/-- `qpush` from the lantern scratchpad: the read ignores tags (R120); a poisoned block aborts the task (R389). -/
def execQpushFromScratchpad (w : Site) (qn : Fin 5) (f : Fields) (s : State) : Result :=
  let m : Space1 := { g := w.g.val, l := w.l.val, store := false }
  let a := (xr s w f.a).toNat
  .next (issue s w 8 (8 + qn.val) f (static .short f false (f.d != 0 || f.b != 0 || f.e != 0))
    (skipFlag w (badBlock a).isNone (s.byte1 m (4 * a + 2)).toNat) (fun s =>
      match badBlock a with
      | some r => .skip r
      | none =>
        if s.poisoned1 m (4 * a) || s.poisoned1 m (4 * a + 32) then .poison a
        else pushAct s w qn.val (s.read1 m (4 * a) 64)))

/-! ## Macro calls -/

/-- Is a macro number in the macro store (R250, R251)? -/
def macroStored (n : Nat) : Bool := decide (1 ≤ n ∧ n ≤ 17)

/-- Entries pushed so far to the other queues of a gallery, lantern by lantern. -/
def pushMarks (s : State) (g : Nat) : List Nat := (List.range 256).map (fun k => Tab.get 0 (k % 4 + 1) (s.lanAt g (k / 4)).pushes)

/-- What a skipped `mcall` still does: its flag, and the block's status where the block address is legal (R130). -/
def mcallSkip (w : Site) (a imm : Nat) (noImm : Bool) (s : State) : State :=
  let s := if (badBlock a).isNone then s.store1 { g := w.g.val, l := w.l.val, store := false } (4 * a + 2) (natLe 2 St.skippedIllegal) else s
  skipFlag w (!noImm) imm s

/-- `mcall`: one ganged entry in all 64 array queues (R128, R129). -/
def execMcall (w : Site) (f : Fields) (s : State) : Result :=
  let imm := f.imm.toNat
  let a := (xr s w f.a).toNat
  let noImm := cutOff s w f || !f.long
  let badImm := !noImm && nbits imm 15 7 != 0
  .next (issue s w 10 0 f (static .long f false (f.d != 0 || f.b != 0 || f.e != 0 || badImm)) (mcallSkip w a imm noImm) (fun s =>
    let m : Space1 := { g := w.g.val, l := w.l.val, store := false }
    match badBlock a with
    | some r => .skip r
    | none =>
      if (s.galAt w.g.val).mode != .cipher || w.l.val != 0 then .skip 10
      else if !noImm && !macroStored (nbits imm 31 16) then .skip 11
      else if s.poisoned1 m (4 * a) || s.poisoned1 m (4 * a + 32) then (if noImm then .ok s else .poison a)
      else if pushFull s w.g.val 0 0 true then (if noImm then .ok s else .block (.queue 8))
      else
        let e : AEntry := .call (nbits imm 31 16) (s.read1 m (4 * a) 64) a (ctlFlag imm) (pushMarks s w.g.val)
        .ok ((List.range 64).foldl (fun s k => s.updLan w.g.val k (fun y => { y with qa := y.qa ++ [e] })) s)))

end Sys2Proof.Machine
end

