-- ==== Sys2Proof/Machine/Engine.lean ====
section
/-! DEFINITION. What the four engines share (03 R73 to R75, 04 R119, 13 R361, R364, 14 R388): when a descriptor may start, what its start
keeps for its end, and its end. -/

namespace Sys2Proof.Machine
open Sys2Proof

/-- Do engines of a gallery run: threads may issue, and no macro owns the engines (R129)? -/
def enginesRun (s : State) (g : Nat) : Bool := galRuns s g && (s.galxAt g).mac.isNone

/-- Reserved bits of the header: `kind`[7:4], `xflags`[7:1], bytes 0x07 to 0x0F (R119). -/
def headerBad (d : Bytes) : Bool := fld d 0 1 / 16 != 0 || fld d 3 1 / 2 != 0 || !zeros d 7 9

/-- A run of 16-bit counter steps. -/
def add16 (v n : Nat) : Nat := satAdd 65535 v n

/-- A record limit of 16 per task: note a report while fewer are recorded. -/
def limited (s : State) (count : Nat) (bump : State → State) (p : Rep) : State :=
  if count < 16 then bump (reportTask s p) else s

/-- The completion flag of a descriptor. -/
def descFlag (d : Bytes) : Option Nat := ctlFlag (fld d 2 1)

/-- What ends at the end of a descriptor (R75, R280, R301). -/
def Run.finish (s : State) (g l : Nat) (r : Run) : State :=
  let s := setSlots s g l r.take false
  let s := r.consume.foldl (fun s k =>
    let m := Slot.mem g l k
    (s.store1 m k.byte (List.replicate m.slotBytes 0)).setFull1 m k.byte false) s
  let s := setSlots s g l r.full true
  touch (flagDone s g l r.flag) g

/-- The array's descriptor that ends first (R151). -/
def firstRun (rs : List Run) : Option Run :=
  match rs with
  | [] => none
  | r :: rest => some (rest.foldl (fun a b => if b.till < a.till then b else a) r)

/-- ENGINE_DESCRIPTOR_END (R75, R301): every write of the descriptor is visible; its slots change and its flag counts. -/
def endDescriptor (s : State) (g l : Nat) (u : Unit4) : State :=
  let y := s.lanAt g l
  match u with
  | .array =>
    match firstRun y.ra with
    | none => s
    | some r => Run.finish (s.updLan g l (fun y => { y with ra := y.ra.erase r })) g l r
  | .vector =>
    match y.rv with
    | none => s
    | some r => Run.finish (headNow (s.updLan g l (fun y => { y with rv := none })) g l 1) g l r
  | .special =>
    match y.rs with
    | none => s
    | some r => Run.finish (headNow (s.updLan g l (fun y => { y with rs := none })) g l 2) g l r
  | .layout =>
    match y.rl with
    | none => s
    | some r => Run.finish (headNow (s.updLan g l (fun y => { y with rl := none })) g l 3) g l r

/-- ENGINE_DESCRIPTOR_END. A hall that is halted or held has no running engine (R52, R594). -/
def execEngineDescriptorEnd (g : Gal) (l : Lan) (u : Unit4) (s : State) : Result :=
  .next (if galRuns s g.val then endDescriptor s g.val l.val u else s)

/-- A descriptor that runs to its end: its `Run`. -/
def Run.of (op : Nat) (full take consume : List Slot) (flag : Option Nat) : Run :=
  { op := op, draws := false, full := full, take := take, consume := consume, flag := flag, till := 0 }

/-- Entries of queue `q` of a lantern that have completed in the task. -/
def doneOf (y : Lantern) (q : Nat) : Nat :=
  let running := if q = 1 then y.rv.isSome else if q = 2 then y.rs.isSome else if q = 3 then y.rl.isSome else y.str.isSome
  Tab.get 0 q y.pushes - queueLen y q - (if running then 1 else 0)

/-- May the call at the head of all 64 array queues start: every entry pushed earlier has completed, and the engines are idle (R129)? -/
def callReady (s : State) (g : Nat) (e : AEntry) (marks : List Nat) : Bool :=
  (List.range 64).all (fun l =>
    let y := s.lanAt g l
    y.qa.head? == some e && y.ra.isEmpty && y.rv.isNone && y.rs.isNone && y.rl.isNone && y.str.isNone &&
      (List.range 4).all (fun q => decide (marks.getD (4 * l + q) 0 ≤ doneOf y (q + 1))))

/-- Detail words of a translation fault (R361). -/
def faultWords (va : Int) (wr : Bool) : Nat × Nat :=
  let v := va.toNat
  (v % 2 ^ 32, nbits v 56 32 + (if wr then 2 ^ 31 else 0))

/-- The exact value of an element of a type (R141, R347), without its block scale; MXINT8 elements count 2^-6. -/
def elemVal (etype : Nat) (scaled : Bool) (c : Nat) : FVal :=
  match etype with
  | 1 => f32.dec c
  | 2 => bf16.dec c
  | 3 => e4m3.dec c
  | 4 => e5m2.dec c
  | 5 => e2m3.dec c
  | 6 => e3m2.dec c
  | 7 => e2m1.dec c
  | 8 => let v := FVal.ofZ (if c < 128 then c else (c : Int) - 256)
         if scaled then v.mul (.fin false 1 (-6)) else v
  | 9 => FVal.ofZ (if c < 8 then c else (c : Int) - 16)
  | 10 => FVal.ofZ (if c = 1 then 1 else if c = 3 then -1 else 0)
  | 11 => if c = 255 then .nan else .fin false 1 ((c : Int) - 127)
  | 16 => FVal.ofZ (sgn32 c)
  | _ => FVal.ofNat c

/-- The value 2^(S - 127) of a scale byte (R141); 0xFF is NaN (R146). -/
def scaleVal (c : Nat) : FVal := if c = 255 then .nan else .fin false 1 ((c : Int) - 127)

/-- The escape that an escape word gives a position of its block (R154, R155). -/
def escapeAt (word pos : Nat) : Option Nat :=
  if nbit word 21 && nbits word 20 16 == pos then some (word % 256)
  else if nbit word 22 && nbits word 28 24 == pos then some (nbits word 15 8) else none

/-- Are both escapes of a word valid at one position (R155)? -/
def escapeBad (word : Nat) : Bool := nbit word 21 && nbit word 22 && nbits word 20 16 == nbits word 28 24

end Sys2Proof.Machine
end

