-- ==== Sys2Proof/Machine/Array.lean ====
section
/-! DEFINITION. The gallery array (05, 06): loads, runs, drains, in Clear and Cipher formats. -/

namespace Sys2Proof.Machine
open Sys2Proof

/-- A format (R139, R169): element types of weights and activations, K_pass, scales (0 none, 1 both, 2 activations only). -/
structure ArrFmt where
  wt : Nat
  act : Nat
  kp : Nat
  sc : Nat
  deriving DecidableEq, Repr

/-- The formats of R139 and R169; none for a reserved code. -/
def arrFmt (c : Nat) : Option ArrFmt :=
  let f (wt act sc : Nat) : Option ArrFmt := some { wt := wt, act := act, kp := kPass c, sc := sc }
  match c with
  | 0x01 => f 3 3 0 | 0x02 => f 3 4 0 | 0x03 => f 4 3 0 | 0x04 => f 4 4 0 | 0x05 => f 8 8 0
  | 0x08 => f 3 3 1 | 0x09 => f 4 4 1 | 0x0A => f 5 5 1 | 0x0B => f 6 6 1 | 0x0C => f 8 8 1 | 0x0D => f 3 4 1 | 0x0E => f 4 3 1
  | 0x10 => f 7 7 1 | 0x11 => f 9 9 1 | 0x18 => f 10 7 2 | 0x19 => f 10 9 2 | 0x20 => f 2 2 0 | 0x40 => f 17 17 0 | 0x41 => f 17 17 0
  | _ => none

/-- Codes of the modular range (R140). -/
def isModular (fmt : Nat) : Bool := decide (0x40 ≤ fmt ∧ fmt < 0x80)

/-- What the checks of a load or a run find: its tensors, rows or k, segments, and the latch of a modular run. -/
structure ArrCtx where
  f : ArrFmt
  t : Tensor
  sct : Option Tensor
  est : Option Tensor
  n : Nat
  first : Nat
  count : Nat
  latch : Option Latch
  deriving DecidableEq, Repr

/-- The lanterns that an array descriptor drives (R138). -/
def slivers (l : Nat) (gang : Bool) : List Nat := if gang then List.range 64 else [l]

/-- An operand tensor of the array: well formed, on chip, of the type named (R139, R152), not in the seal (R276). Of a scale or escape tensor, `lim` alone bounds the
index (R352). -/
def arrTensor (s : State) (g home word etype : Nat) (scaled whole : Bool) : Option Tensor :=
  match (tensorAt s g home word).map (fun t => if whole then t.whole else t) with
  | none => none
  | some t => if Tensor.good s g t && decide (t.space ≤ 1) && t.ty == (etype, scaled) then some t else none

/-- The latch that a modular run uses, or status and detail word 1 (R182 to R186). -/
def arrLatch (s : State) (g home l : Nat) (gang : Bool) (d : Bytes) : Except (Nat × Nat) Latch :=
  let fmt := fld d 0x10 1
  let fl := fld d 0x11 1
  let bank := nbits fl 1 1
  let msel := nbits fl 4 3
  let mtab := fld d 0x18 4
  if nbit fl 0 then
    let held := (slivers l gang).map (fun k => Tab.get none bank (s.lanAt g k).arr.latch)
    let ok (y : Option Latch) : Bool :=
      match y with
      | none => false
      | some v => v.fmt == fmt && ((mtab == 0 && msel == 0) || (v.mtab == mtab && v.msel == msel && v.gang == gang))
    match held.find? (fun y => !ok y) with
    | some y => .error (St.modBank, (y.map (·.mtab)).getD 0)
    | none =>
      match held.head?.join with
      | some v => .ok v
      | none => .error (St.modBank, 0)
  else
    let n := if msel = 0 then 1 else if msel = 2 then 128 else if gang then 512 else 8
    match modTable s g home mtab n (fmt == 0x41) with
    | .error w => .error (St.modModulus, w)
    | .ok ms => .ok { fmt := fmt, mtab := mtab, msel := msel, gang := gang, moduli := ms }

/-- The checks of a load or run, in the order of R152: status and detail word 1, or what the descriptor names. A scale or escape tensor that it names is checked where it
goes unused too (R353). -/
def arrCheck (s : State) (g l : Nat) (gang load : Bool) (d : Bytes) : Except (Nat × Nat) ArrCtx :=
  let home := if gang then 0 else l
  let fmt := fld d 0x10 1
  let fl := fld d 0x11 1
  let seg := fld d 0x12 1
  let tw := fld d 0x14 4
  let sdesc := fld d 0x18 4
  let edesc := fld d 0x1C 4
  let len := fld d 0x20 2
  let first := seg % 4
  let count := nbits seg 3 2 + 1
  let modular := isModular fmt
  match arrFmt fmt with
  | none => .error (St.arrayFormat, 0)
  | some f =>
    if (s.galAt g).mode != (if modular then Mode.cipher else Mode.clear) then .error (St.arrayMode, 0)
    else
      let res := headerBad d || nbit (fld d 3 1) 0 || 16 ≤ seg || !zeros d 0x22 30
      let res := res || (if load then fld d 0x13 1 != 0 || 2 ≤ fl || (modular && (fl != 0 || sdesc != 0 || edesc != 0))
                         else if modular then 32 ≤ fl || nbit fl 2 || nbits fl 4 3 == 3 || edesc != 0 else 8 ≤ fl)
      if res || 4 < first + count then .error (St.arrayShape, 0)
      else
        let need := f.sc == 1 || (f.sc == 2 && !load)
        match arrTensor s g home tw (if load then f.wt else f.act) need false with
        | none => .error (St.arrayShape, tw)
        | some t =>
          let n := if len ≠ 0 then len else if load then t.extD 0 else t.extD 1
          if count * f.kp < t.extD 0 then .error (St.arrayShape, tw)
          else if (if load then decide (count * f.kp < n) else decide (128 < fld d 0x13 1 + n)) then .error (St.arrayShape, 0)
          else
            let lane := !modular && nbit fl (if load then 0 else 2)
            let four := decide ((if load then f.wt else f.act) = 7) || decide ((if load then f.wt else f.act) = 9)
            let sw := if modular then 0 else if sdesc = 0 then (if need then t.slink else 0) else sdesc
            let sct := if sw = 0 then none else arrTensor s g home sw 11 false true
            let est := if edesc = 0 then none else arrTensor s g home edesc 17 false true
            let badSeg := !load && (slivers l gang).any (fun k => (List.range count).any (fun j =>
              let y := Tab.get .zero (first + j) (s.lanAt g k).arr.segs
              !y.valid || y.fmt != fmt))
            if sw ≠ 0 ∧ sct.isNone then .error (St.arrayShape, sw)
            else if edesc ≠ 0 ∧ est.isNone then .error (St.arrayShape, edesc)
            else if badSeg then .error (St.arrayFormat, 0)
            else if lane && (!four || edesc == 0) then .error (St.arrayEscape, 0)
            else if need && sw == 0 then .error (St.arrayScale, 0)
            else if modular && !load then
              match arrLatch s g home l gang d with
              | .error e => .error e
              | .ok v => .ok { f := f, t := t, sct := if need then sct else none, est := if lane then est else none, n := n, first := first, count := count, latch := some v }
            else .ok { f := f, t := t, sct := if need then sct else none, est := if lane then est else none, n := n, first := first, count := count, latch := none }

/-! ## Reading operands -/

/-- One element of an operand: code, scale byte, escape (256 + value, 0 none), poison. -/
structure ArrElem where
  code : Nat
  sc : Nat
  esc : Nat
  poi : Bool
  deriving DecidableEq, Repr

def ArrElem.zero : ArrElem := { code := 0, sc := 127, esc := 0, poi := false }

/-- Read an element at a view index, its own scale and its escape (R147, R150, R155, R352). -/
def arrElem (p : Port1) (c : ArrCtx) (i : List Nat) : ArrElem :=
  let j := c.t.toJ i
  let (_, v, b) := p.get c.t i
  let sc := match c.sct with
    | none => (127, false)
    | some x => (p.getJ x (scaleJ j)).2
  let es := match c.est with
    | none => (0, false)
    | some x => (p.getJ x (scaleJ j)).2
  { code := v, sc := sc.1, esc := match escapeAt es.1 (j.getD 0 0 % 32).toNat with | none => 0 | some e => 256 + e, poi := b || sc.2 || es.2 }

/-- The escape words that a run of elements along k reads, each once, with the positions that it loads from each (R154, R163). -/
def escWords (p : Port1) (c : ArrCtx) (k0 n col : Nat) : List (Nat × List Nat) :=
  match c.est with
  | none => []
  | some x =>
    let js := (List.range n).map (fun i => c.t.toJ [k0 + i, col])
    let blocks := (js.map (fun j => j.getD 0 0 / 32)).eraseDups
    blocks.map (fun b => ((p.getJ x (b :: (c.t.toJ [k0, col]).tail)).2.1,
      (js.filter (fun j => j.getD 0 0 / 32 == b)).map (fun j => (j.getD 0 0 % 32).toNat)))

/-- Count escape words read (R163). -/
def LanCntA.escapes (y : LanCntA) (ws : List (Nat × List Nat)) : LanCntA :=
  { y with
    escOvf := add16 y.escOvf (ws.filter (fun w => nbit w.1 23)).length,
    satBlocks := add16 y.satBlocks (ws.filter (fun w => nbits w.1 31 29 != 0)).length,
    escBad := add16 y.escBad (ws.filter (fun w => escapeBad w.1 && w.2.contains (nbits w.1 20 16))).length }

/-- The positions of the first out-of-bounds access to each tensor that asks for a Notice (R364), among elements [k, col] that a descriptor reads. Rows and columns beyond
the extent are no accesses: they read as 0 and are not counted (R147, R148, R353). -/
def ArrCtx.oobs (c : ArrCtx) (ks cols : Nat) : List Nat :=
  let cells : List (List Nat) := (List.range cols).flatMap (fun n => (List.range ks).map (fun k => [k, n]))
  let first (t : Option Tensor) (f : List Int → List Int) : List Nat :=
    match t with
    | none => []
    | some x => if x.note then ((cells.find? (fun i => !x.inb (f (c.t.toJ i)))).map (viewPos c.t.ext)).toList else []
  first (some c.t) id ++ first c.sct scaleJ ++ first c.est scaleJ

/-- The Notices of a load or run (R364): queue 0. DESIGN CHOICE (log 94): they are raised by the lantern that pushed it and do not count against the limit of its skip
records (R153). -/
def arrNotices (s : State) (g l op : Nat) (ps : List Nat) : State :=
  ps.foldl (fun s n => reportTask s (Rep.ofLan St.oobCounted 0 false 2 g l op (n % 2 ^ 32))) s

/-- The exact value of an element with its scale (R142, R146, R155). -/
def ArrElem.val (e : ArrElem) (etype : Nat) (scaled : Bool) : FVal :=
  let v := if e.esc = 0 then elemVal etype scaled e.code else e4m3.dec (e.esc - 256)
  if scaled then v.mul (scaleVal e.sc) else v

/-! ## Loads -/

/-- Block length along k: 32, or a pass of a modular format. -/
def blockLen (f : ArrFmt) : Nat := Nat.min 32 f.kp

/-- Rows of a load: `k_len`, within the tensor's K (R147). -/
def ArrCtx.rows (c : ArrCtx) : Nat := Nat.min c.n (c.t.extD 0)

/-- Segment first + j of a sliver whose first weight column is `col0` (R147). -/
def loadSeg (p : Port1) (c : ArrCtx) (fmt col0 j : Nat) : Seg :=
  let kp := c.f.kp
  let cells : List (Nat × Nat) := (List.range kp).flatMap (fun k => (List.range 8).map (fun n => (k, n)))
  let es := cells.map (fun x =>
    if j * kp + x.1 < c.rows ∧ col0 + x.2 < c.t.extD 1 then arrElem p c [j * kp + x.1, col0 + x.2] else .zero)
  let tab (h : ArrElem → Nat) : Tab Nat := Tab.puts 0 0 (es.map h) []
  { valid := true, fmt := fmt, k := Nat.min kp (c.rows - j * kp), w := tab (·.code), sc := tab (·.sc), esc := tab (·.esc),
    poi := (cells.zip es).foldl (fun t x => if x.2.poi then Tab.put false (x.1.1 / blockLen c.f * 8 + x.1.2) true t else t) [] }

/-- Weight escape words of a sliver's load, and its reserved ternary codes (R146, R163). -/
def loadCounts (p : Port1) (c : ArrCtx) (col0 : Nat) (y : LanCntA) : LanCntA :=
  let cols := (List.range 8).filter (fun n => decide (col0 + n < c.t.extD 1))
  let words := cols.flatMap (fun n => escWords p c 0 c.rows (col0 + n))
  let tern := if c.f.wt = 10 then
      (cols.map (fun n => ((List.range c.rows).filter (fun k => (p.get c.t [k, col0 + n]).2.1 == 2)).length)).sum
    else 0
  { y.escapes words with ternRsv := add16 y.ternRsv tern }

/-- A load takes effect in one sliver (R147, R151). -/
def loadSliver (s : State) (p : Port1) (g l : Nat) (gang : Bool) (c : ArrCtx) (fmt at_ : Nat) : State :=
  let col0 := if gang then 8 * l else 0
  let named := (List.range c.count).map (fun j => c.first + j)
  s.updLan g l (fun y => { y with
    ca := loadCounts p c col0 y.ca,
    arr := { y.arr with
      segs := (List.range c.count).foldl (fun t j => Tab.put .zero (c.first + j) (loadSeg p c fmt col0 j) t) y.arr.segs,
      lastStart := at_,
      segLoad := named.foldl (fun t k => Tab.upd 0 k (Nat.max (at_ + 8 * c.count)) t) y.arr.segLoad } })

/-! ## Runs -/

/-- A weight of a segment. -/
def Seg.elem (y : Seg) (k n : Nat) : ArrElem :=
  { code := Tab.get 0 (8 * k + n) y.w, sc := Tab.get 0 (8 * k + n) y.sc, esc := Tab.get 0 (8 * k + n) y.esc, poi := false }

/-- Add a scaled exact block sum into an accumulator with one rounding (R143, R145, R146); counts of R163. -/
def accumulate (s : LanCntA × Tab W32) (at_ : Nat) (t : FVal) : LanCntA × Tab W32 :=
  let old := Tab.get 0 at_ s.2
  let t := if t.isZero then .fin false 0 0 else t
  let new := F32.ofVal ((F32.val old).add t)
  let fin (v : FVal) : Bool := !v.isNan && !v.isInf
  let inf := fin (F32.val old) && fin t && (F32.val new).isInf
  let nan := F32.isNan new && !F32.isNan old
  ({ s.1 with accInf := add16 s.1.accInf (if inf then 1 else 0), accNan := add16 s.1.accNan (if nan then 1 else 0) }, Tab.put 0 at_ new s.2)

/-- One activation row of a narrow run meets a segment, block by block (R142, R143). -/
def narrowRow (f : ArrFmt) (y : Seg) (row : List ArrElem) (base : Nat) (s : LanCntA × Tab W32) : LanCntA × Tab W32 :=
  let act := row.map (fun e => e.val f.act (f.sc != 0))
  (List.range (f.kp / 32)).foldl (fun s b =>
    (List.range 8).foldl (fun s n =>
      let t := (List.range 32).foldl (fun t i =>
        FVal.add t ((act.getD (32 * b + i) (.fin false 0 0)).mul ((y.elem (32 * b + i) n).val f.wt (f.sc == 1)))) (.fin false 0 0)
      accumulate s (base + n) t) s) s

/-- The column reduction (R176). -/
def reduce (acc x q qi : Nat) : Nat :=
  let strip (z : Nat) : Nat := (z + (z * qi % 65536) * q) / 65536
  let z := strip (strip (strip (strip (acc * 2 ^ 64 + x))))
  let z := if q ≤ z then z - q else z
  if q ≤ z then z - q else z

/-- The modulus of accumulator entry `e` of a sliver's column (R181). -/
def Latch.modulus (v : Latch) (l e n : Nat) : Nat × Nat :=
  v.moduli.getD (if v.msel = 0 then 0 else if v.msel = 2 then e else if v.gang then 8 * l + n else n) (0, 0)

/-- One activation row of a modular run (R171, R176). -/
def modularRow (v : Latch) (l : Nat) (y : Seg) (row : List ArrElem) (bank e : Nat) (acc : Tab W32) : Tab W32 :=
  (List.range 8).foldl (fun t n =>
    let k := bank * 1024 + e * 8 + n
    let x := ((List.range 8).map (fun i => (row.getD i .zero).code * Tab.get 0 (8 * i + n) y.w)).sum
    let m := v.modulus l e n
    Tab.put 0 k (w32 (reduce (Tab.get 0 k t).toNat x m.1 m.2)) t) acc

/-- The activation row that segment j of a run meets at output row m (R148). -/
def actRow (p : Port1) (c : ArrCtx) (j m : Nat) : List ArrElem :=
  (List.range c.f.kp).map (fun x =>
    if m < c.t.extD 1 ∧ j * c.f.kp + x < c.t.extD 0 then arrElem p c [j * c.f.kp + x, m] else .zero)

/-- Poison of the accumulators that a row reaches (R164). -/
def rowPoison (f : ArrFmt) (y : Seg) (row : List ArrElem) (base : Nat) (t : Tab Bool) : Tab Bool :=
  let bl := blockLen f
  (List.range (f.kp / bl)).foldl (fun t b =>
    let a := ((row.drop (bl * b)).take bl).any (·.poi)
    (List.range 8).foldl (fun t n => if a || Tab.get false (b * 8 + n) y.poi then Tab.put false (base + n) true t else t) t) t

/-- Activation escape words of a run (R163). -/
def runWords (p : Port1) (c : ArrCtx) : List (Nat × List Nat) :=
  (List.range (Nat.min c.n (c.t.extD 1))).flatMap (fun m => escWords p c 0 (c.t.extD 0) m)

/-- Beats of a run (R151, R187). -/
def runBeats (fmt rows : Nat) : Nat := if fmt = 0x41 then ceilDiv (5 * rows) 3 else rows

/-- A run takes effect in one sliver (R143, R145, R176, R182). `rows`: activation rows at j * n + m. -/
def runSliver (s : State) (g l : Nat) (d : Bytes) (c : ArrCtx) (rows : List (List ArrElem)) (words : List (Nat × List Nat)) (at_ : Nat) : State :=
  let fmt := fld d 0x10 1
  let fl := fld d 0x11 1
  let bank := nbits fl 1 1
  let base := fld d 0x13 1
  let last := at_ + runBeats fmt (c.n * c.count) - 1
  s.updLan g l (fun y =>
    let keep := nbit fl 0
    let acc := if keep then y.arr.acc else Tab.keep (fun k => k / 1024 != bank) y.arr.acc
    let accP := if keep then y.arr.accP else Tab.keep (fun k => k / 1024 != bank) y.arr.accP
    let steps : List (Nat × Nat) := (List.range c.count).flatMap (fun j => (List.range c.n).map (fun m => (j, m)))
    let seg (j : Nat) : Seg := Tab.get .zero (c.first + j) y.arr.segs
    let row (x : Nat × Nat) : List ArrElem := rows.getD (x.1 * c.n + x.2) []
    let cnt := if words.isEmpty then y.ca else y.ca.escapes words
    let own := if isModular fmt then (if keep then Tab.get none bank y.arr.latch else c.latch) else none
    let r := match own with
      | some v => (cnt, steps.foldl (fun t (x : Nat × Nat) => modularRow v l (seg x.1) (row x) bank (base + x.2) t) acc)
      | none => steps.foldl (fun t (x : Nat × Nat) => narrowRow c.f (seg x.1) (row x) (bank * 1024 + (base + x.2) * 8) t) (cnt, acc)
    let accP := steps.foldl (fun t (x : Nat × Nat) => rowPoison c.f (seg x.1) (row x) (bank * 1024 + (base + x.2) * 8) t) accP
    let named := (List.range c.count).map (fun j => c.first + j)
    { y with
      ca := r.1,
      arr := { y.arr with
        acc := r.2, accP := accP,
        latch := Tab.put none bank own y.arr.latch,
        lastStart := at_, runEnd := last + 1,
        segUse := named.foldl (fun t k => Tab.put 0 k (last + 1) t) y.arr.segUse,
        bankRow := Tab.put 0 bank (last + 12) y.arr.bankRow } })

/-! ## Drains -/

/-- A drain copies a bank into the ring (R81, R82, R164, R184). DESIGN CHOICE (log 104): all of it at its start. -/
def drainSliver (s : State) (g l bank : Nat) (seq : W16) (at_ : Nat) : State :=
  s.updLan g l (fun y =>
    let dr : Drain :=
      { seq := seq, at_ := at_, data := Tab.gets 0 (bank * 1024) 1024 y.arr.acc,
        poi := (List.range 128).map (fun m => (List.range 8).any (fun n => Tab.get false (bank * 1024 + 8 * m + n) y.arr.accP)) }
    { y with arr := { y.arr with
        drains := dr :: y.arr.drains, lastStart := at_, drainEnd := at_ + 32, bankDrain := Tab.put 0 bank (at_ + 31) y.arr.bankDrain } })

/-! ## Starting -/

/-- The descriptor at the head of the array queues that a command starts, with its drain number per lantern: an entry of one queue, or a
ganged entry at the head of all 64 (R74). -/
def arrHead (s : State) (g l : Nat) : Option (Bytes × Bool) :=
  match (s.lanAt g l).qa with
  | .desc d _ false :: _ => some (d, false)
  | .desc d _ true :: _ =>
    if l = 0 ∧ (List.range 64).all (fun k => match (s.lanAt g k).qa with
      | .desc _ _ true :: _ => true
      | _ => false) then some (d, true) else none
  | _ => none

/-- The drain number of the entry at the head of a lantern's array queue (R123). -/
def headSeq (s : State) (g l : Nat) : W16 :=
  match (s.lanAt g l).qa with
  | .desc _ q _ :: _ => q
  | _ => 0

/-- The earliest beat in which R151 lets a descriptor start in one sliver. -/
def arrEarliest (y : Arr) (d : Bytes) : Nat :=
  let op := fld d 1 1
  let fl := fld d 0x11 1
  let seg := fld d 0x12 1
  let named := ((List.range (nbits seg 3 2 + 1)).map (fun j => seg % 4 + j)).filter (fun k => decide (k < 4))
  let top (l : List Nat) : Nat := l.foldl Nat.max 0
  if op = 1 then Nat.max y.lastStart (top (named.map (fun k => Tab.get 0 k y.segUse)))
  else if op = 2 then
    Nat.max (Nat.max y.lastStart y.runEnd) (Nat.max (top (named.map (fun k => Tab.get 0 k y.segLoad)))
      (if nbit fl 0 then 0 else Tab.get 0 (nbits fl 1 1) y.bankDrain))
  else if op = 3 then Nat.max y.lastStart (Nat.max (Tab.get 0 (fld d 0x10 1 % 2) y.bankRow) y.drainEnd)
  else y.lastStart

/-- Take the entry off the head of the queues (R73). DESIGN CHOICE (log 88): a descriptor that has started takes none of its queue's entries any more (R72). -/
def popArray (s : State) (g l : Nat) (gang : Bool) : State :=
  (slivers l gang).foldl (fun s k => s.updLan g k (fun y => { y with qa := y.qa.tail })) s

/-- A skip (R152, R153): counted and recorded by the lantern, or by lantern 0; a skipped load invalidates its segments. DESIGN CHOICE (log 105): the record of an operation
without a format has 0 for it. -/
def skipArray (s : State) (g l : Nat) (gang : Bool) (d : Bytes) (st d1 : Nat) : State :=
  let op := fld d 1 1
  let fmt := if op = 1 ∨ op = 2 then fld d 0x10 1 else 0
  let seg := fld d 0x12 1
  let s := if op = 1 then
      (slivers l gang).foldl (fun s k => s.updLan g k (fun y => { y with arr := { y.arr with
        segs := (List.range (nbits seg 3 2 + 1)).foldl (fun t j => Tab.put .zero (seg % 4 + j) .zero t) y.arr.segs } })) s
    else s
  let s := s.updLan g l (fun y => { y with ca := { y.ca with arrSkips := add16 y.ca.arrSkips 1 } })
  let s := limited s (s.lanAt g l).ca.arrRec (fun s => s.updLan g l (fun y => { y with ca := { y.ca with arrRec := y.ca.arrRec + 1 } }))
    (Rep.ofLan st 1 false 2 g l (op + 256 * fmt) d1)
  flagDone s g l (descFlag d)

/-- A descriptor that runs is kept until its end; its flag is the pushing lantern's (R75, R138). -/
def keepArray (s : State) (g l : Nat) (d : Bytes) (till : Nat) : State :=
  s.updLan g l (fun y => { y with ra := y.ra ++ [{ Run.of (fld d 1 1) [] [] [] (descFlag d) with till := till }] })

/-- The beat in which a descriptor starts (R47, R151): the first that R151 allows in each of its slivers, and not before it stands at the head of its queues, in beat
`at_`. -/
def startBeat (s : State) (g l at_ : Nat) (d : Bytes) (gang : Bool) : Nat :=
  (slivers l gang).foldl (fun b k => Nat.max b (arrEarliest (s.lanAt g k).arr d)) at_

/-- Would a drain start in a beat in which it would still change a read of its own ring entry that is already computed (R86, log 7)? -/
def tooLate (s : State) (g l at_ : Nat) (d : Bytes) (gang : Bool) : Bool :=
  fld d 1 1 == 3 && (slivers l gang).any (fun k =>
    decide (startBeat s g l at_ d gang < Tab.get 0 ((headSeq s g k).toNat % 4) (s.lanAt g k).ringUse))

/-- Start the array descriptor at the head of a queue, where the command's test holds for it: op, format; it is there from beat `at_` on. -/
def arrStart (s : State) (g l at_ : Nat) (test : Nat → Nat → Bool) (body : Nat → State → Bytes → Bool → State) : State :=
  match arrHead s g l with
  | none => s
  | some (d, gang) =>
    if !enginesRun s g || !test (fld d 1 1) (fld d 0x10 1) || tooLate s g l at_ d gang then s
    else touch (body (startBeat s g l at_ d gang) (popArray s g l gang) d gang) g

/-- What a load does (R147, R179). -/
def loadBody (g l : Nat) (at_ : Nat) (s : State) (d : Bytes) (gang : Bool) : State :=
  match arrCheck s g l gang true d with
  | .error e => skipArray s g l gang d e.1 e.2
  | .ok c =>
    let p := Port1.new s g (if gang then 0 else l)
    let s := arrNotices s g l 1 (c.oobs c.rows (Nat.min (c.t.extD 1) (if gang then 512 else 8)))
    keepArray ((slivers l gang).foldl (fun s k => loadSliver s p g k gang c (fld d 0x10 1) at_) s) g l d (at_ + 8 * c.count)

/-- What a run does (R143, R148, R176, R180), and how a reserved operation is skipped. -/
def runBody (g l : Nat) (at_ : Nat) (s : State) (d : Bytes) (gang : Bool) : State :=
  if fld d 1 1 ≠ 2 then skipArray s g l gang d St.arrayFormat 0
  else match arrCheck s g l gang false d with
  | .error e => skipArray s g l gang d e.1 e.2
  | .ok c =>
    let p := Port1.new s g (if gang then 0 else l)
    let rows := (List.range c.count).flatMap (fun j => (List.range c.n).map (fun m => actRow p c j m))
    let words := runWords p c
    let s := arrNotices s g l 2 (c.oobs (Nat.min (c.count * c.f.kp) (c.t.extD 0)) (Nat.min c.n (c.t.extD 1)))
    keepArray ((slivers l gang).foldl (fun s k => runSliver s g k d c rows (if k = l then words else []) at_) s) g l d
      (at_ + runBeats (fld d 0x10 1) (c.n * c.count) + 11)

/-- What a drain does (R81, R82, R149). -/
def drainBody (g l : Nat) (seqs : Nat → W16) (at_ : Nat) (s : State) (d : Bytes) (gang : Bool) : State :=
  if (s.galAt g).mode = .share then skipArray s g l gang d St.arrayMode 0
  else
    keepArray ((slivers l gang).foldl (fun s k => drainSliver s g k (fld d 0x10 1 % 2) (seqs k) at_) s) g l d (at_ + 32)

/-- LOAD_WEIGHTS (R147). -/
def execLoadWeights (g : Gal) (l : Lan) (at_ : Nat) (s : State) : Result :=
  .next (arrStart s g.val l.val at_ (fun op fmt => op == 1 && !isModular fmt) (loadBody g.val l.val))

/-- ARRAY_RUN (R143); it also meets the descriptors whose `op` is reserved (R152). -/
def execArrayRun (g : Gal) (l : Lan) (at_ : Nat) (s : State) : Result :=
  .next (arrStart s g.val l.val at_ (fun op fmt => (op == 2 && !isModular fmt) || op == 0 || decide (3 < op)) (runBody g.val l.val))

/-- ARRAY_DRAIN (R82). -/
def execArrayDrain (g : Gal) (l : Lan) (at_ : Nat) (s : State) : Result :=
  .next (arrStart s g.val l.val at_ (fun op _ => op == 3) (drainBody g.val l.val (headSeq s g.val)))

/-- MODULAR_LOAD (R179). -/
def execModularLoad (g : Gal) (l : Lan) (at_ : Nat) (s : State) : Result :=
  .next (arrStart s g.val l.val at_ (fun op fmt => op == 1 && isModular fmt) (loadBody g.val l.val))

/-- MODULAR_RUN (R180). -/
def execModularRun (g : Gal) (l : Lan) (at_ : Nat) (s : State) : Result :=
  .next (arrStart s g.val l.val at_ (fun op fmt => op == 2 && isModular fmt) (runBody g.val l.val))

/-- ARRAY_RESIDUE_MISMATCH (R166): the task aborts; the wick is spared at the boundary, or the lantern is dead. DEDUCED (log 87): the Notice of the repair reports the
silicon, and R597 holds for it. -/
def execArrayResidueMismatch (g : Gal) (l : Lan) (s : State) : Result :=
  .next (
    let g := g.val
    let l := l.val
    if (s.galAt g).task.isNone || !galRuns s g then s
    else
      let s := reportTask s (Rep.ofLan St.arrayResidue 1 true 2 g l l 0)
      let s := abortTask s g ((waitingAbort s g).getD St.arrayResidue)
      let ph := (lmapOf s g l).phys
      if Tab.get false ph (s.galxAt g).rep.wickUsed then taskBoundary (lanternDead s g ph) g
      else
        let s := s.updGalx g (fun y => { y with rep := { y.rep with wickUsed := Tab.put false ph true y.rep.wickUsed } })
        taskBoundary (report s (Rep.ofLan St.wickSpared 0 true 2 g l l 0)) g)

end Sys2Proof.Machine
end

