-- ==== Sys2Proof/Machine/Request.lean ====
section
/-! DEFINITION. Requests to the dictionary (19 R517 to R539): who asks, what the right allows, writing an object, answering. -/

namespace Sys2Proof.Machine
open Sys2Proof

/-! ## Frames (R517) -/

/-- A frame without its tag. -/
def frameBytes (ftype sess seq index sub fflags offset status total : Nat) (data : Bytes) : Bytes :=
  [0x48, 0x44, 1] ++ natLe 1 ftype ++ natLe 4 sess ++ natLe 8 seq ++ natLe 2 index ++ natLe 1 sub ++ natLe 1 fflags ++ natLe 4 offset ++
    natLe 2 data.length ++ natLe 2 status ++ natLe 4 total ++ data

/-- The tag of a frame (R517). -/
def tag16 (key v : Bytes) : Bytes := (Crypto.hmac key v).take 16

/-- Length of a mailbox or field frame's data at most (R517, R531). -/
def maxData (p : Port) : Nat := match p with
  | .field => 1024
  | .mailbox => 32768

/-! ## Who asks -/

/-- Who makes a request: role 0 for a mailbox request without a session, else as credentials code it (R549). -/
structure Who where
  role : Nat
  mask : W64
  cred : Nat
  sess : Nat
  deriving DecidableEq, Repr

/-- Origin in the journal (R535, R536). -/
def Who.origin (w : Who) : Nat := if w.role = 2 then 1 else if w.role = 1 then 2 else 3

/-- A live session of a port (R522: ended after 60 s without a valid request). -/
def liveSess (s : State) (q : Req) : Option HSess :=
  match Tab.get none q.sess s.hal.sess with
  | some y => if y.port = q.port ∧ s.clock.now < y.last + 60000000000 then some y else none
  | none => none

/-- Who a request comes from, or the status that refuses it (R522, R523, R526, R616). -/
def whoOf (s : State) (q : Req) : Except Nat Who :=
  if s.boot.stage ≠ .ready then .error St.objAccess
  else if q.sess = 0 then
    match q.port with
    | .field => .error St.objAccess
    | .mailbox => .ok { role := 0, mask := 0, cred := 0xFFFF, sess := 0 }
  else
    match liveSess s q with
    | none => .error St.sessionGone
    | some y => .ok { role := y.role, mask := y.mask, cred := y.cred, sess := q.sess }

/-- In place of a partition: a request that names something no partition owns. -/
def noPart : Nat := 64

/-- May a session act for a partition; where none owns what it names, for any? -/
def Who.actsFor (w : Who) (p : Nat) : Bool := if p = noPart then w.mask != 0 else w.mask.getLsbD p

/-- Objects that their text reserves to the owner of a partition (R520: R203, R292). -/
def ownerOnly (index : Nat) : Bool := index == 0x6120 || index == 0x6161

/-- Does R520 allow the role to write an RWS object? `part`: its partition, none for a device-wide object. DESIGN CHOICE (log 96): the port is not checked beside the role
(R36). -/
def roleAllows (w : Who) (index : Nat) (opOnly : Bool) (part : Option Nat) : Bool :=
  if ownerOnly index then w.role == 2 && (match part with
    | some p => w.actsFor p
    | none => true)
  else if opOnly then w.role == 1
  else if w.role = 1 then true
  else
    match part with
    | some p => (w.role == 2 || w.role == 3) && w.actsFor p
    | none => w.role == 3 && index / 4096 != 3 && index / 4096 != 9

/-- Is the partition locked under TSP against this session (R511)? -/
def tspLocked (s : State) (w : Who) (part : Option Nat) : Bool :=
  match part with
  | some p =>
    match Tab.get none p s.cxl.tsp with
    | some k => w.sess != k
    | none => false
  | none => false

/-! ## Values (R525) -/

def OType.lengthOk (t : OType) (n : Nat) : Bool :=
  match t with
  | .u k => n == k
  | .f32 => n == 4
  | .bool => n == 1
  | .str => decide (1 ≤ n ∧ n ≤ 256)
  | .blob k => n == k
  | .blobs => decide (n ≤ 65536)

def OType.valueOk (t : OType) (v : Bytes) : Bool :=
  match t with
  | .f32 => decide (fld v 0 4 % 2 ^ 31 < 0x7F800000)
  | .bool => decide (fld v 0 1 ≤ 1)
  | _ => true

/-- A plain number within the range that its table gives. -/
def rangeOk (index sub : Nat) (v : Bytes) : Bool :=
  match Dict.range index sub with
  | none => true
  | some (lo, hi) => decide (lo ≤ leNat v ∧ leNat v ≤ hi)

/-! ## Writing -/

/-- What an accepted write does: the state after it, the old and the new value that the journal names. -/
abbrev Applied := Except Nat (State × Bytes × Bytes)

/-- Store the value and nothing else. -/
def keepValue (index sub : Nat) (v : Bytes) (s : State) (_ : Who) : Applied :=
  .ok (s.setObj index sub v, s.objBytes index sub, v)

/-- The checks that come before an object's own rules: it exists, the right, the role, the lock, the length, the value, the journal. -/
def writeBad (s : State) (w : Who) (index sub : Nat) (v : Bytes) (part : Option Nat) : Option Nat :=
  match Dict.info index sub with
  | none => some St.objUnknown
  | some o =>
    if o.right = .ro then some St.objAccess
    else if o.right = .rws ∧ roleAllows w index o.op part = false then some St.objAccess
    else if o.right = .rws ∧ tspLocked s w part then some St.cxlTspLocked
    else if !o.ty.lengthOk v.length then some St.objLength
    else if !o.ty.valueOk v || !rangeOk index sub v then some St.planRefused
    else if s.journalFull then some St.journalBusy else none

/-- A valid request of a session starts its 60 s again (R522). -/
def touchSess (s : State) (q : Req) : State :=
  { s with hal := { s.hal with sess := Tab.upd none q.sess (fun o => o.map (fun y => { y with last := s.clock.now })) s.hal.sess } }

/-- What the journal says of a write (R535, R536); the new value of a registered parameter set and of a map request is their SHA-256 (R198, R358). -/
def writeEntry (w : Who) (index sub : Nat) (part : Option Nat) (old new : Bytes) : JChange :=
  { origin := w.origin, kind := 0, index := index, sub := sub, part := part.getD 0xFF, cred := w.cred, sess := w.sess % 65536, aux := 0,
    old := old, new := new, hashes := if index = 0x6100 ∨ index = 0x6170 then 2 else 0 }

/-- DEDUCED (log 45). An object that is a request for an action reads as the latest request accepted. -/
def keepAsked (index sub : Nat) (v : Bytes) (s : State) : State :=
  if (index = 0x6100 ∧ sub = 1) ∨ index = 0x6101 ∨ index = 0x6140 ∨ index = 0x6141 ∨ index = 0x6170 then s.setObj index sub v else s

/-- A write that reached the lamplighter (R520, R525, R526, R528, R529, R534, R539): its status. `j` adjusts the journal entry. -/
def writeWith (s : State) (q : Req) (index sub : Nat) (v : Bytes) (part : Option Nat) (j : JChange → JChange)
    (apply : State → Who → Applied) : State × Nat :=
  match whoOf s q with
  | .error st => (s, st)
  | .ok w =>
    let s := touchSess s q
    match writeBad s w index sub v part with
    | some st =>
      ((if st = St.journalBusy then journalRefused s else s), st)
    | none =>
      match apply s w with
      | .error st => (s, st)
      | .ok (s, old, new) => (journal (keepAsked index sub v s) (j (writeEntry w index sub part old new)), St.ok)

/-- The checks of a write that is carried out, and journalled, later. -/
def askObj (s : State) (q : Req) (index sub : Nat) (v : Bytes) (part : Option Nat) (accept : State → Who → Except Nat State) : State × Nat :=
  match whoOf s q with
  | .error st => (s, st)
  | .ok w =>
    let s := touchSess s q
    match writeBad s w index sub v part with
    | some st => ((if st = St.journalBusy then journalRefused s else s), st)
    | none =>
      match accept s w with
      | .error st => (s, st)
      | .ok s => (s, St.ok)

/-- The journal entry of a request that has waited: the session's credential, where it still stands. -/
def laterEntry (s : State) (q : Req) (origin kind index sub : Nat) (part : Option Nat) (old new : Bytes) : JChange :=
  { origin := origin, kind := kind, index := index, sub := sub, part := part.getD 0xFF,
    cred := ((Tab.get none q.sess s.hal.sess).map (·.cred)).getD 0xFFFF, sess := q.sess % 65536, aux := 0, old := old, new := new }

/-- A write whose journal entry has the plain form. -/
def writeObj (s : State) (q : Req) (index sub : Nat) (v : Bytes) (part : Option Nat) (apply : State → Who → Applied) : State × Nat :=
  writeWith s q index sub v part id apply

/-! ## Answering -/

/-- The response to a frame, tagged under a session's key (empty: none), and kept for a repeat of the latest request (R518). -/
def respondFrame (s : State) (q : Req) (key f : Bytes) (st : Nat) (data : Bytes) (fflags offset total : Nat) : State :=
  let b := frameBytes 8 q.sess (fld f 8 8) (fld f 0x10 2) (fld f 0x12 1) fflags offset st total data
  let b := if key.isEmpty then b else b ++ tag16 key b
  let keep (y : HSess) : HSess := if fld f 8 8 = y.seq then { y with kept := b } else y
  ({ s with hal := { s.hal with sess := Tab.upd none q.sess (fun o => o.map keep) s.hal.sess } }).emit (.frame q.port b)

/-- Answer a request at once: the response of the write frame that carries it, or its status. -/
def answer (s : State) (q : Req) (st : Nat) : State :=
  match s.hal.serving with
  | none => s.emit (.status q st)
  | some (f, key) => respondFrame { s with hal := { s.hal with serving := none } } q key f st [] 1 (fld f 0x14 4) 0

/-- An accepted request's answer waits. -/
def defer (s : State) (q : Req) : State :=
  match s.hal.serving with
  | none => s
  | some (f, key) => { s with hal := { s.hal with serving := none, waitFrames := s.hal.waitFrames ++ [(q, f, key)] } }

/-- The answer of a request that waited: the response of its frame, found by a test, or its status. In the held state nothing answers (R601). -/
def answerLater (s : State) (q : Req) (p : Bytes → Bool) (st : Nat) : State :=
  if s.boot.stage = .held then s
  else
    match s.hal.waitFrames.find? (fun c => c.1 == q && p c.2.1) with
    | none => s.emit (.status q st)
    | some c =>
      respondFrame { s with hal := { s.hal with waitFrames := s.hal.waitFrames.erase c } } q c.2.2 c.2.1 st [] 1 (fld c.2.1 0x14 4) 0

/-- Is a frame for an object? -/
def frameOf (index : Nat) (f : Bytes) : Bool := fld f 0x10 2 == index

/-- The mailbox runs a module translation in the background: it answers other commands with Busy (R509). -/
def mailboxBusy (s : State) (q : Req) : Bool := q.port == .mailbox && s.dram.translating.isSome

/-- PRESUMED (log 20). The CXL return code Busy. -/
def mbxBusy : Nat := 6

/-- A request reaches the lamplighter: nothing does in the held state (R601), and a busy mailbox says so (R509). -/
def request (s : State) (q : Req) (f : State → State) : State :=
  if s.boot.stage = .held then s else if mailboxBusy s q then s.emit (.mailbox mbxBusy []) else f s

/-- A write answered when it is applied. In the held state no object can be reached (R601). -/
def reqWrite (s : State) (q : Req) (index sub : Nat) (v : Bytes) (part : Option Nat) (apply : State → Who → Applied) : State :=
  request s q (fun s => (fun (x : State × Nat) => answer x.1 q x.2) (writeObj s q index sub v part apply))

/-- A write whose answer waits for its change to take hold; a refusal answers at once. -/
def reqWriteLater (s : State) (q : Req) (index sub : Nat) (v : Bytes) (part : Option Nat) (apply : State → Who → Applied) : State :=
  request s q (fun s => (fun (x : State × Nat) => if x.2 = St.ok then defer x.1 q else answer x.1 q x.2) (writeObj s q index sub v part apply))

/-- A change that the device makes by itself, journalled (R534, R535): origin 4 firmware or 5 hardware. -/
def deviceChange (s : State) (origin index sub : Nat) (old new : Bytes) : State := journal s (JChange.dev origin 1 index sub old new)

end Sys2Proof.Machine
end

