-- ==== Sys2Proof/Machine/FlightObj.lean ====
section
/-! DEFINITION. The dictionary objects of the flights (17 R467, R468, R471, R484). -/

namespace Sys2Proof.Machine
open Sys2Proof

/-- DEVICE_ID_WRITE (R467): 0 to 4,095. -/
def execDeviceIdWrite (q : Req) (v : Bytes) (s : State) : Result :=
  .next (reqWrite s q 0xA000 1 v none (fun s w => if 4095 < leNat v then .error St.planRefused else keepValue 0xA000 1 v s w))

/-- Is an entry of the routing table legal (R468)? -/
def routeEntryOk (e : Nat) : Bool :=
  e / 134217728 == 0 && decide (nbits e 26 24 ≤ 4) && (List.range 4).all (fun k => decide (nbits e (6 * k + 5) (6 * k) ≤ 35))

/-- The whole table, or nothing. -/
def routeApply (v : Bytes) (s : State) (w : Who) : Applied :=
  if v.length ≠ 16384 then .error St.objLength
  else if (List.range 4096).all (fun d => routeEntryOk (fld v (4 * d) 4)) then keepValue 0xA010 0 v s w else .error St.fltRoute

/-- ROUTE_TABLE_WRITE (R468). -/
def execRouteTableWrite (q : Req) (v : Bytes) (s : State) : Result := .next (reqWrite s q 0xA010 0 v none (routeApply v))

/-- An admission list as it reads: reserved bits [31:22] of its entries read as 0 (R9, R471). -/
def admitClean (v : Bytes) : Bytes :=
  slice v 0 4 ++ (List.range (fld v 2 2)).flatMap (fun k => natLe 4 (fld v (4 + 4 * k) 4 % 4194304))

/-- An admission list: `asid`, count and entries (R471). -/
def admitApply (p : Nat) (v : Bytes) (s : State) (w : Who) : Applied :=
  let n := fld v 2 2
  if v.length < 4 then .error St.objLength
  else if 16 < n then .error St.planRefused
  else if v.length ≠ 4 + 4 * n then .error St.objLength
  else if 4095 < fld v 0 2 then .error St.planRefused
  else keepValue 0xA200 (p + 1) (admitClean v) s w

/-- ADMISSION_WRITE (R471). -/
def execAdmissionWrite (q : Req) (p : Part) (v : Bytes) (s : State) : Result :=
  .next (reqWrite s q 0xA200 (p.val + 1) v (some p.val) (admitApply p.val v))

/-- Disable a flight, or bring a flight that is down or disabled back to training (R484). -/
def enableFlight (s : State) (f : Nat) (on : Bool) : State :=
  let st := (s.flightAt f).st
  if on then (if st = 0 ∨ st = 3 then s.updFlight f (fun y => { y with st := 1, training := false }) else s)
  else if st = 3 then s else dropFlight s f 3

/-- FLIGHT_ENABLE_WRITE (R484). -/
def execFlightEnableWrite (q : Req) (f : Flight) (v : Bytes) (s : State) : Result :=
  .next (reqWrite s q 0xA001 (f.val + 1) v none (fun s w =>
    keepValue 0xA001 (f.val + 1) v (enableFlight s f.val (leNat v != 0)) w))

end Sys2Proof.Machine
end

