-- ==== Sys2Proof/Machine/Image.lean ====
section
/-! DEFINITION. The fields and sections of a firmware image (20 R562), and what the running image gives the galleries (09 R250); the items of the
calibration set (19 R541). -/

namespace Sys2Proof.Machine
open Sys2Proof

/-- Field of an image's header; the factory's image reads 0 (log 19). -/
def imgFld (o : Option Bytes) (off n : Nat) : Nat := match o with
  | none => 0
  | some b => fld b off n

/-- The bytes of an image; the factory's are not the spec's (log 19). -/
def imgBytes (o : Option Bytes) : Bytes := o.getD (fitBytes 4096 (Config.standardBytes 0x900))

def imgVersion (o : Option Bytes) : Nat := imgFld o 0x0C 4
def imgSecVer (o : Option Bytes) : Nat := imgFld o 0x08 1
def imgSlot (o : Option Bytes) : Nat := imgFld o 0x06 1

/-- The used sections of a header: type, offset, length. -/
def imgSections (b : Bytes) : List (Nat × Nat × Nat) :=
  ((List.range 8).map (fun e => (fld b (0x20 + 16 * e) 1, fld b (0x24 + 16 * e) 4, fld b (0x28 + 16 * e) 4))).filter (fun c => c.1 != 0)

/-- The bytes of a section of the running image, by its type; the factory image's are not the spec's (log 19). -/
def imgSection (s : State) (k : Nat) : Bytes :=
  match s.lamp.fw.running with
  | none => []
  | some b =>
    match (imgSections b).find? (fun c => c.1 == k) with
    | some c => slice b c.2.1 c.2.2
    | none => []

/-- The version of the macro store that the last reset loaded, object 0x2140:03 (R250). -/
def storeVersion (s : State) : W32 := Config.storeVersion (imgSection s 3)

/-! ## Calibration -/

/-- Bytes of the five items. -/
def calBytes (i : Nat) : Nat := [1024, 768, 1024, 2304, 4096].getD i 0

/-- Item i of a set. -/
def calItem (l : List Bytes) (i : Nat) : Bytes := fitBytes (calBytes i) (l.getD i [])

/-- The factory reference of monitor m of a hall (0 to 63, gallery by gallery), item 0x3102; none where the set is missing or corrupt, and the defaults stand (R63, R65). -/
def paceRef (s : State) (h m : Nat) : Option W32 :=
  if s.lamp.calDefault then none else some (w32 (fld (calItem s.hal.cal.items 2) (4 * (64 * h + m)) 4))

end Sys2Proof.Machine
end

