-- ==== Sys2Proof/Machine/Repair.lean ====
section
/-! DEFINITION. Errors, repair and retention of the on-chip memories (14 R387, R392, R393, R399, R400), and the loss of a dispatcher (22 R595). -/

namespace Sys2Proof.Machine
open Sys2Proof

/-! ## Lines and banks (R381, R382) -/

/-- The bank of a gallery store byte: 0 to 59 single-port, 60 to 63 hand-off (R382, R383). -/
def storeBank (a : Nat) : Nat := if a < 15728640 then (a / 256) % 60 else 60 + (a - 15728640) / 262144

/-- The bank of a lantern scratchpad byte (R381): consecutive groups of 16 bytes lie in consecutive banks. -/
def padBank (a : Nat) : Nat := (a >>> 4) % 64

/-- The key of a line: gallery store lines first, then of each physical lantern the 96 lines of 16 bytes of its 64 banks. -/
def lineKey (s : State) (m : Space1) (a : Nat) : Nat :=
  if m.store then a / 256 else 65536 + 6144 * (lmapOf s m.g m.l).phys + 64 * (a / 1024) + padBank a

/-- The corrected-error threshold (R399). -/
def threshold (s : State) : Nat := s.obj 0x2150 1

/-- A gallery store line at the threshold: a spare of its bank takes it, or it serves on (R399). -/
def remapLine (s : State) (g k : Nat) : State :=
  let bank := storeBank (256 * k)
  let rep := (s.galxAt g).rep
  if Tab.get 0 bank rep.spare < 16 then
    reportFree (s.updGalx g (fun y => { y with
      rep := { y.rep with spare := Tab.upd 0 bank (· + 1) y.rep.spare, lines := Tab.put 0 k 0 y.rep.lines } })) (Rep.ofGal St.rowRemapped 0 true 7 g 0 0)
  else if rep.noSpare.contains k then s
  else reportFree (s.updGalx g (fun y => { y with rep := { y.rep with noSpare := y.rep.noSpare ++ [k] } })) (Rep.ofGal St.rowNoSpare 0 true 7 g 0 0)

/-- A scratchpad line at the threshold: its lantern is declared dead at the end of the task, or at once where none runs (R400). -/
def padLine (s : State) (g k : Nat) : State :=
  match logicalOf s g ((k - 65536) / 6144) with
  | none => s
  | some l =>
    let s := s.updGalx g (fun y => { y with
      rep := { y.rep with dying := if y.rep.dying.contains l then y.rep.dying else y.rep.dying ++ [l], lines := Tab.put 0 k 0 y.rep.lines } })
    if (s.galAt g).task.isSome then s else declareDying s g

/-- Carry out R399 and R400 for every line of a gallery that stands at the threshold. -/
def checkLines (s : State) (g : Nat) : State :=
  ((s.galxAt g).rep.lines.filter (fun c => decide (threshold s ≤ c.2))).foldl (fun s c =>
    if c.1 < 65536 then remapLine s g c.1 else padLine s g c.1) s

/-- A corrected error (R387): counted for the gallery, and against its line unless it was a vote on a tag or a poison bit. -/
def correctedError (s : State) (m : Space1) (a : Nat) (vote : Bool) : State :=
  let k := lineKey s m a
  let s := s.updGalx m.g (fun y => { y with rep := { y.rep with
    corrected := satAdd (2 ^ 32 - 1) y.rep.corrected 1, lines := if vote then y.rep.lines else Tab.upd 0 k (· + 1) y.rep.lines } })
  if vote then s else checkLines s m.g

/-- The memory that an error names: the gallery store, or the scratchpad of a lantern; none outside it. -/
def errorPlace (g : Nat) (l : Option Nat) (word : Nat) : Option (Space1 × Nat) :=
  match l with
  | none => if isStoreWord word then locate g 0 word else none
  | some l => if isPadWord word then locate g l word else none

/-- STORE_CORRECTED_ERROR. -/
def execStoreCorrectedError (g : Gal) (l : Option Lan) (word : Nat) (vote : Bool) (s : State) : Result :=
  .next (if s.boot.stage = .off then s else match errorPlace g.val (l.map (·.val)) word with
    | some (m, a) => correctedError s m a vote
    | none => s)

/-- A multi-bit error (R387): the granule is poisoned, and recorded once while it stays so (log 29). -/
def eccError (s : State) (m : Space1) (a word : Nat) : State :=
  let k := (if m.store then 0 else 1048576 * (m.l + 1)) + a / 32
  let known := (s.galxAt m.g).rep.ecc.contains k && s.poisoned1 m a
  let s := s.setPoi1 m (Tab.put false (a / 32) true (s.poi1 m))
  if known then s
  else
    let s := s.updGalx m.g (fun y => { y with rep := { y.rep with ecc := if y.rep.ecc.contains k then y.rep.ecc else y.rep.ecc ++ [k] } })
    let l := if m.store then 0xFF else m.l
    reportTask s { Rep.ofGal St.storeEcc 1 true (if m.store then 7 else 8) m.g word (m.g + 256 * l) with index := l }

/-- STORE_ECC_ERROR. -/
def execStoreEccError (g : Gal) (l : Option Lan) (word : Nat) (s : State) : Result :=
  .next (if s.boot.stage = .off then s else match errorPlace g.val (l.map (·.val)) word with
    | some (m, a) => eccError s m a word
    | none => s)

/-! ## Retention (R392) -/

/-- Is a bank in retention? -/
def retained (s : State) (b : Bank) : Bool :=
  match b with
  | .scratchpad g _ _ => (s.galxAt g.val).rep.banks.contains b
  | .store g _ => (s.galxAt g.val).rep.banks.contains b
  | .handoff g _ => (s.galxAt g.val).rep.banks.contains b
  | .deep h k => Tab.get false k.val (s.hallAt h.val).deepRet

/-- May a bank enter retention: it is on, and a hand-off bank only in Share mode? -/
def mayRetain (s : State) (b : Bank) : Bool :=
  match b with
  | .scratchpad g l _ => (s.galAt g.val).mode != .dark && (lmapOf s g.val l.val).valid
  | .store g _ => (s.galAt g.val).mode != .dark
  | .handoff g _ => (s.galAt g.val).mode == .share
  | .deep h _ => (s.hallAt h.val).railOn

/-- Put a bank of a gallery into retention, or take it out. -/
def galBank (s : State) (g : Nat) (b : Bank) (on : Bool) : State :=
  s.updGalx g (fun y => { y with rep := { y.rep with banks := if on then y.rep.banks ++ [b] else y.rep.banks.filter (· != b) } })

def setRetained (s : State) (b : Bank) (on : Bool) : State :=
  match b with
  | .scratchpad g _ _ => galBank s g.val b on
  | .store g _ => galBank s g.val b on
  | .handoff g _ => galBank s g.val b on
  | .deep h k => s.updHall h.val (fun y => { y with deepRet := Tab.put false k.val on y.deepRet })

/-- BANK_RETENTION_ENTRY: the bank's idle time has passed. Contents never change (R391). DESIGN CHOICE (log 114): the command stands for the idle time, and BANK_WAKE for the
access that ends retention. -/
def execBankRetentionEntry (bk : Bank) (s : State) : Result := .next (if mayRetain s bk && !retained s bk then setRetained s bk true else s)

/-- BANK_WAKE. -/
def execBankWake (bk : Bank) (s : State) : Result := .next (if retained s bk then setRetained s bk false else s)

/-! ## Deep retention (R393, R595) -/

/-- The dispatcher of a hall is lost: its lists are cleared, what was pending completes, its rings halt; tasks run on (R595). -/
def dispatchLost (s : State) (h : Nat) : State :=
  if (s.hallAt h).halted.isSome then s
  else
    let s := raise s (Rep.ofHall St.dispatchLost 2 true 12 h 0 0)
    if s.boot.stage = .held then s else haltRings (completePending s h St.dispatchLost) h St.dispatchLost

/-- An uncorrectable error in a bank: 0 to 3 lose a roll cache entry, 4 to 7 the dispatcher's lists (R393). -/
def deepError (s : State) (h bank sid : Nat) : State :=
  if bank < 4 then s.updHall h (fun y => { y with roll := y.roll.filter (fun c => c.1 != sid) }) else dispatchLost s h

/-- DEEP_RETENTION_ERROR. -/
def execDeepRetentionError (h : Hall) (bank : Fin 8) (sid : Nat) (s : State) : Result :=
  .next (if s.boot.stage = .off then s else deepError s h.val bank.val sid)

end Sys2Proof.Machine
end

