-- ==== Sys2Proof/Machine/Power.lean ====
section
/-! DEFINITION. The power arbiter (21): budgets, set points, gating, heat, sensors; the hall rails (24 R626, R628); refresh bands (16 R442). -/

namespace Sys2Proof.Machine
open Sys2Proof

/-- `raise` with detail words that the spec does not give (log 8): `d0` where it gives the first, `d1` the second. -/
def raiseFree (s : State) (p : Rep) (d0 d1 : Option Nat) : State :=
  let (w, s) := s.freshWords 2
  raise s { p with d0 := (d0.map w32).getD (w.getD 0 0), d1 := (d1.map w32).getD (w.getD 1 0) }

/-! ## Periodic steps (R442, R572, R575, R583, R588) -/

/-- Is a periodic step due: `period` ns after its last time, or its first? -/
def State.due (s : State) (k period : Nat) : Bool :=
  match Tab.get none k s.power.ran with
  | none => true
  | some t => decide (t + period ≤ s.clock.now)

/-- A periodic step, by its number in `ran`: once in a period of the reference timer. -/
def State.periodic (s : State) (k period : Nat) (f : State → State) : State :=
  if s.due k period then f { s with power := { s.power with ran := Tab.put none k (some s.clock.now) s.power.ran } } else s

/-! ## Set points (R574, R582, R583) -/

/-- The voltage ceiling of a hall (R580, R582). -/
def ceilingOf (s : State) (h : Nat) : Nat := Nat.min (s.obj 0x4021 (h + 1)) (if s.lamp.calDefault then 680 else 800)

/-- A set point: a multiple of 5 mV from 600 to 800 (R574). -/
def clampMv (v : Nat) : Nat := Nat.max 600 (Nat.min 800 (v / 5 * 5))

/-- Is row 1 of R584 in force for a hall: a hot junction, or a stack in band 3? -/
def hotRow (s : State) (h : Nat) : Bool := (s.hallAt h).hotJ.isSome || (List.range 4).any (fun k => (s.stackAt (4 * h + k)).band == 3)

/-- Lower the set point at once. -/
def lowerTo (s : State) (h v : Nat) : State := s.updHall h (fun y => { y with setPoint := Nat.min y.setPoint (clampMv v) })

/-- Move a set point: down at once; up by 5 mV in 100 µs, and only where the last thermal cycle found both readings low enough or the grant has changed (R574, R583). -/
def moveSet (s : State) (h v : Nat) (granted : Bool) : State :=
  let v := clampMv v
  s.updHall h (fun y =>
    if v ≤ y.setPoint then { y with setPoint := v }
    else if (y.rise || granted) && decide (y.riseAt + 100000 ≤ s.clock.now) then { y with setPoint := Nat.min v (y.setPoint + 5), riseAt := s.clock.now } else y)

/-- Gate every gallery of a hall to 1 beat in 4 at least (R584). -/
def gateHot (s : State) (h : Nat) : State :=
  (List.range 16).foldl (fun s k => s.updGal (16 * h + k) (fun y => { y with gating := Nat.min y.gating 4 })) s

/-! ## The trip sequence (R584) -/

/-- Readings in units of 1/64 °C, in which offsets are given (R541). -/
def celsius (n : Nat) : Int := 64 * (n : Int)

/-- A reading as a detail word, in units of 1/16 °C (R443, R584). -/
def readingWord (r : Int) : Nat := (r / 4 % 4294967296).toNat

/-! ## Readings (R587, R588) -/

/-- Place of a sensor among the offsets of item 0x3100: hall sensors, DRAM-layer sensors, I/O die sensors (R541, R587). -/
def sensorAt : Sensor → Nat
  | .junction g k => 4 * g.val + k.val
  | .dram st k => 256 + 12 * st.val + k.val
  | .iod k => 448 + k.val

/-- Offset of a sensor, in 1/64 °C (R541). -/
def sensorOffset (s : State) (sn : Sensor) : Int :=
  let n := fld (calItem s.hal.cal.items 0) (2 * sensorAt sn) 2
  if n < 32768 then n else (n : Int) - 65536

/-- Is every sensor of a stack excluded (R588)? -/
def stackBlind (s : State) (k : Nat) : Bool :=
  (List.finRange 12).all (fun i => s.power.excluded.any (fun e => match e with
    | .dram st j => st.val == k && j == i
    | _ => false))

/-- Is every sensor of a gallery excluded (R588)? -/
def galleryBlind (s : State) (g : Nat) : Bool :=
  (List.finRange 4).all (fun i => s.power.excluded.any (fun e => match e with
    | .junction y j => y.val == g && j == i
    | _ => false))

/-- What control has of a sensor that measures `raw` in 1/16 °C: with its offset, and nothing of one that is excluded. -/
def sensed (s : State) (sn : Sensor) (raw : Int) : Option Int := if s.power.excluded.contains sn then none else some (4 * raw + sensorOffset s sn)

/-- The hottest of some readings. -/
def hottest : List (Option Int) → Option Int
  | [] => none
  | none :: l => hottest l
  | some r :: l => some (match hottest l with
    | none => r
    | some x => max r x)

/-- The hottest of a gallery's junction sensors, from the readings of its hall. -/
def galleryHeat (s : State) (g : Nat) (rs : Ints) : Option Int :=
  hottest ((List.finRange 4).map (fun k => sensed s (.junction (Fin.ofNat 64 g) k) (rs.getD (4 * (g % 16) + k.val) 0)))

/-- The hottest of a stack's layer sensors. -/
def stackHeat (s : State) (k : Nat) (rs : Ints) : Option Int :=
  hottest ((List.finRange 12).map (fun i => sensed s (.dram (Fin.ofNat 16 k) i) (rs.getD i.val 0)))

/-- The same under R584: one whose sensors are all excluded reads 100 °C (R588). -/
def heat (r : Option Int) : Int := r.getD (celsius 100)

/-- The thermal targets; 5 °C lower while the calibration set is replaced by defaults (R582, R620). -/
def junctionTarget (s : State) : Int := celsius (s.obj 0x4020 1) - (if s.lamp.calDefault then celsius 5 else 0)
def dramTarget (s : State) : Int := celsius (s.obj 0x4020 2) - (if s.lamp.calDefault then celsius 5 else 0)

/-- The last row: `THERMTRIP_N`, and the held state. -/
def thermTrip (s : State) (r : Int) : State :=
  if s.pins.thermtrip then s
  else raiseFree { s with pins := { s.pins with thermtrip := true } } (Rep.dev St.thermTrip 3 true 18 0 0) none (some (readingWord r))

/-- Rows 2 and 3: the hall halts. -/
def tripHall (s : State) (h st : Nat) (d0 : Option Nat) (r : Int) : State :=
  if (s.hallAt h).halted.isSome then s
  else
    let s := raiseFree s (Rep.ofHall st 2 true 21 h 0 0) d0 (some (readingWord r))
    s.updHall h (fun y => { y with tripped := true, trips := y.trips + 1, setPoint := 600 })

/-- Row 1 takes or keeps hold of a hall. -/
def holdHot (s : State) (h : Nat) : State := if hotRow s h then gateHot (lowerTo s h 600) h else s

/-- The junction rows for a hall. -/
def junctionRows (s : State) (h : Nat) (j : Int) : State :=
  let s :=
    match (s.hallAt h).hotJ with
    | none =>
      if celsius 95 < j then
        raiseFree (s.updHall h (fun y => { y with hotJ := some s.clock.now })) (Rep.ofHall St.hallHot 0 true 21 h 0 0) none (some (readingWord j))
      else s
    | some _ => if j ≤ celsius 93 then s.updHall h (fun y => { y with hotJ := none }) else s
  let hotSince := if celsius 95 < j then some ((s.hallAt h).overJ.getD s.clock.now) else none
  let s := s.updHall h (fun y => { y with overJ := hotSince })
  let long := match hotSince with
    | some t => decide (t + 10000000 ≤ s.clock.now)
    | none => false
  let s := if celsius 100 < j || long then tripHall s h St.hallTrip none j else s
  if celsius 105 ≤ j then thermTrip s j else s

/-- The band that a reading selects (R442). -/
def bandOf (band : Nat) (r : Int) : Nat :=
  let up := if celsius 85 < r then 3 else if celsius 75 < r then 2 else 1
  let down := if celsius 83 < r then 3 else if celsius 73 < r then 2 else 1
  if band ≤ up then up else Nat.max up (Nat.min band down)

/-- A stack's hottest reading: its band (R442, R443) and the DRAM rows of R584. -/
def dramSense (s : State) (k : Nat) (r : Int) : State :=
  let h := k / 4
  let y := s.stackAt k
  let band := bandOf y.band r
  let hotSince := if celsius 88 < r then some (y.hotSince.getD s.clock.now) else none
  let s := s.updStack k (fun y => { y with band := band, hot := r, hotSince := hotSince })
  let s := if band = 3 ∧ y.band ≠ 3 then report s { Rep.ofHall St.dramHot 0 true 14 h k (readingWord r) with index := k } else s
  let s := holdHot s h
  let long := match hotSince with
    | some t => decide (t + 10000000 ≤ s.clock.now)
    | none => false
  let s := if celsius 92 < r || long then tripHall s h St.stackTrip (some k) r else s
  if celsius 105 ≤ r then thermTrip s r else s

/-- DRAM_SENSOR_READ (R442), every 1 µs: what the 12 sensors of a stack measure. -/
def execDramSensorRead (st : Stack) (readings : Ints) (s : State) : Result :=
  .next (if s.boot.stage = .off then s else s.periodic (8 + st.val) 1000 (fun s => dramSense s st.val (heat (stackHeat s st.val readings))))

/-- A hall that a trip halted restarts when it has cooled (R585). -/
def coolHall (s : State) (h : Nat) (j : Int) : State :=
  let y := s.hallAt h
  if y.tripped ∧ y.halted.isSome ∧ y.railOn ∧ j < celsius 80 ∧ (List.range 4).all (fun k => decide ((s.stackAt (4 * h + k)).hot < celsius 80)) then
    s.updHall h (fun y => { y with halted := none, tripped := false })
  else s

/-- Is a reading, where there is one, above its target? At least 2 °C below it? -/
def aboveTarget (r : Option Int) (t : Int) : Bool := r.any (fun x => decide (t < x))
def belowTarget (r : Option Int) (t : Int) : Bool := r.all (fun x => decide (x + celsius 2 ≤ t))

/-- THERMAL_CYCLE (R583 to R585): what the 64 junction sensors of a hall and the 48 sensors of its stacks measure. -/
def thermalCycle (s : State) (h : Nat) (js ds : Ints) : State :=
  let gs := (List.range 16).map (fun k => galleryHeat s (16 * h + k) js)
  let ks := (List.range 4).map (fun k => stackHeat s (4 * h + k) (ds.drop (12 * k)))
  let j := hottest gs
  let d := hottest ks
  let hot := aboveTarget j (junctionTarget s) || aboveTarget d (dramTarget s)
  let cool := !hot && belowTarget j (junctionTarget s) && belowTarget d (dramTarget s)
  let y := s.hallAt h
  let th := if hot then Nat.max 600 (y.thermal - 5) else if cool then Nat.min (ceilingOf s h) (y.thermal + 5) else y.thermal
  let jr := (hottest (gs.map (fun r => some (heat r)))).getD 0
  let s := s.updHall h (fun y => { y with thermal := th, rise := cool, junctionNow := jr })
  let s := junctionRows (lowerTo s h th) h jr
  let s := (List.range 4).foldl (fun s k => dramSense s (4 * h + k) (heat (ks.getD k none))) s
  coolHall (holdHot s h) h jr

def execThermalCycle (h : Hall) (junction dram : Ints) (s : State) : Result :=
  .next (if s.boot.stage = .off then s else s.periodic (1 + h.val) 100000 (fun s => thermalCycle s h.val junction dram))

/-- THERMTRIP (R584): a junction or DRAM sensor at 105 °C or more, or an I/O die sensor at 115 °C or more; an excluded one does nothing (R588). -/
def sensorTrip (s : State) (v : SensorReading) : State :=
  match sensed s v.sensor v.raw with
  | none => s
  | some r =>
    match v.sensor with
    | .junction g _ => if celsius 105 ≤ r then junctionRows s (hallOf g.val) r else s
    | .dram k _ => if celsius 105 ≤ r then dramSense s k.val r else s
    | .iod _ => if celsius 115 ≤ r then thermTrip s r else s

def execThermtrip (v : SensorReading) (s : State) : Result := .next (if s.boot.stage = .off then s else sensorTrip s v)

/-! ## The arbiter's cycle (R572 to R581) -/

/-- Push a reading onto a window of 1 ms of 1 µs cycles. -/
def pushWin (w : List Nat) (v : Nat) : List Nat := (v :: w).take 1000

/-- The shares of the galleries of a hall (R573): equal, and what the others leave unused. -/
def shareLevel (grant : Nat) (draws : List Nat) : Nat :=
  let n := draws.length
  (List.range 16).foldl (fun (lv : Nat) _ =>
    let under := draws.filter (fun d => decide (d ≤ lv))
    let k := n - under.length
    if k = 0 then lv else (grant - under.sum) / k) (if n = 0 then 0 else grant / n)

/-- Gating of a gallery (R575): how long it has drawn over its share, and by how much it is held. -/
def gateGallery (s : State) (g share draw : Nat) : State :=
  let heavy := decide (11 * share < 10 * draw)
  s.updGal g (fun y =>
    let since := if heavy then some (y.overSince.getD s.clock.now) else none
    let long := match since with
      | some t => decide (t + 10000 ≤ s.clock.now)
      | none => false
    let deep := Nat.max 1 (Nat.min 8 (Config.gateSixteenths draw share))
    { y with overShare := decide (share < draw), overSince := since, gating := if long then Nat.min y.gating deep else y.gating })

/-- The galleries of a hall that are not Dark. -/
def litGalleries (s : State) (h : Nat) : List Nat := ((List.range 16).map (fun k => 16 * h + k)).filter (fun g => (s.galAt g).mode != .dark)

/-- A hall's part of the cycle. -/
def arbitrateHall (rd : Readings) (allowance total : Nat) (s : State) (h : Nat) : State :=
  let demand := rd.demand.getD h 0
  let cur := rd.current.getD h 0
  let grant := if total = 0 then 0 else allowance * demand / total
  let granted := (s.hallAt h).grant != grant
  let s := s.updHall h (fun y => { y with grant := grant, curWin := pushWin y.curWin cur })
  if (s.hallAt h).halted.isSome || !(s.hallAt h).railOn then s.updHall h (fun y => { y with setPoint := 600 })
  else
    let limit := s.obj 0x4010 (h + 1)
    let over_ := decide (1000 * limit ≤ cur)
    let s := if over_ && !(s.hallAt h).railLimit then raiseFree s (Rep.ofHall St.railLimit 0 true 18 h 0 0) (some h) none else s
    let s := s.updHall h (fun y => { y with railLimit := over_ })
    let fit := Config.fitVoltage h demand grant
    let byCur := if over_ then Nat.min ((s.hallAt h).setPoint - 5) (Config.currentVoltage h cur limit) else 800
    let v := Nat.min (Nat.min fit byCur) (Nat.min (s.hallAt h).thermal (ceilingOf s h))
    let s := moveSet s h (if hotRow s h then 600 else v) granted
    let lit := litGalleries s h
    let lv := shareLevel grant (lit.map (fun g => rd.galDraw.getD g 0))
    holdHot (lit.foldl (fun s g => gateGallery s g lv (rd.galDraw.getD g 0)) s) h

/-- Is every hall at 0.60 V and every gallery at the gating floor (R576)? -/
def atFloor (s : State) : Bool :=
  (List.range 4).all (fun h => (s.hallAt h).setPoint == 600 && (litGalleries s h).all (fun g => decide ((s.galAt g).gating ≤ 1)))

/-- The Notice of R576. -/
def floorStep (s : State) (draw budget : Nat) : State :=
  if atFloor s ∧ budget < draw then
    let t := s.power.floorSince.getD s.clock.now
    let s := { s with power := { s.power with floorSince := some t } }
    if t + 1000000 ≤ s.clock.now ∧ s.power.floorSaid = false then
      raiseFree { s with power := { s.power with floorSaid := true } } (Rep.dev St.powerFloor 0 true 18 0 0) none none
    else s
  else { s with power := { s.power with floorSince := none, floorSaid := false } }

/-- ARBITER_CYCLE (R572 to R578, R581). Readings in mW and mA. The draw of the rails that are never shed is averaged over 100 cycles of 1 µs (R572). -/
def arbiterCycle (s : State) (rd : Readings) : State :=
  let budget := 1000 * s.obj 0x4000 1
  let draw := rd.nonHall + rd.draw.sum
  let rest := (rd.nonHall :: s.power.restWin).take 100
  let allowance := budget - rest.sum / rest.length
  let s := { s with power := { s.power with drawWin := pushWin s.power.drawWin draw, restWin := rest, allowance := allowance, granting := 0 } }
  floorStep ((List.range 4).foldl (arbitrateHall rd allowance rd.demand.sum) s) draw budget

def execArbiterCycle (rd : Readings) (s : State) : Result := .next (if s.boot.stage = .off then s else s.periodic 0 1000 (fun s => arbiterCycle s rd))

/-- GATING_LIFT_STEP (R575, R584): one sixteenth every 100 µs, once the gallery's draw is back within its share. -/
def execGatingLiftStep (g : Gal) (s : State) : Result :=
  .next (
    let y := s.galAt g.val
    let cap := if hotRow s (hallOf g.val) then 4 else 16
    if y.overShare then s
    else s.periodic (32 + g.val) 100000 (fun s => s.updGal g.val (fun y => { y with gating := Nat.max y.gating (Nat.min cap (y.gating + 1)) })))

/-! ## Rails (24 R626, R628) -/

/-- A failed hall rail: `HALL_EN` off, the hall halts, until the next reset (R594). -/
def railDown (s : State) (h st : Nat) : State :=
  if (s.hallAt h).railOn then raiseFree (s.updHall h (fun y => { y with railOn := false, tripped := false })) (Rep.ofHall st 2 true 18 h 0 0) none none else s

/-- AVS_TIMEOUT (R626). -/
def execAvsTimeout (h : Hall) (s : State) : Result := .next (railDown s h.val St.railFail)

/-- RAIL_OVERVOLTAGE (R628). -/
def execRailOvervoltage (h : Hall) (s : State) : Result := .next (railDown s h.val St.railOv)

/-! ## Sensors (R587, R588) -/

/-- Insert into a rising list. -/
def insertInt (x : Int) : Ints → Ints
  | [] => [x]
  | y :: r => if x ≤ y then x :: y :: r else y :: insertInt x r

/-- Twice the median of a list. -/
def median2 (l : Ints) : Int :=
  let r := l.foldr insertInt []
  r.getD ((r.length - 1) / 2) 0 + r.getD (r.length / 2) 0

/-- The reading of a sensor, kept for its object. -/
def keepReading (s : State) (sn : Sensor) (r : Int) : State :=
  match sn with
  | .junction g k => s.updGalx g.val (fun y => { y with junction := Tab.put 0 k.val r y.junction })
  | .dram st k => { s with power := { s.power with dramT := Tab.put 0 (12 * st.val + k.val) r s.power.dramT } }
  | .iod k => { s with power := { s.power with iodT := Tab.put 0 k.val r s.power.iodT } }

/-- Where a sensor stands, for its record. -/
def sensorRep (sn : Sensor) : Rep :=
  match sn with
  | .junction g _ => Rep.ofGal St.sensorFail 0 true 18 g.val 0 0
  | .dram st _ => Rep.ofHall St.sensorFail 0 true 18 (st.val / 4) 0 0
  | .iod _ => Rep.dev St.sensorFail 0 true 18 0 0

/-- SENSOR_SELF_CHECK (R588): the sensor reads `r` in 1/16 °C before its offset, its neighbours `others` with theirs; what is kept is in 1/64 °C.
Excluded until the next reset (log 30). -/
def selfCheck (s : State) (sn : Sensor) (r : Int) (others : Ints) : State :=
  let r := 4 * r + sensorOffset s sn
  let s := keepReading s sn r
  if others.isEmpty || decide ((2 * r - 4 * median2 others).natAbs ≤ 1280) || s.power.excluded.contains sn then s
  else raiseFree { s with power := { s.power with excluded := s.power.excluded ++ [sn] } } (sensorRep sn) none none

def execSensorSelfCheck (sn : Sensor) (reading : Int) (others : Ints) (s : State) : Result :=
  .next (if s.boot.stage = .off then s else s.periodic (128 + sensorAt sn) 1000000 (fun s => selfCheck s sn reading others))

/-! ## Budgets (R1, R2, R580) -/

/-- A budget within the ordering code's range. -/
def budgetApply (v : Bytes) (s : State) (w : Who) : Applied :=
  if 900 ≤ leNat v ∧ leNat v ≤ (if s.lamp.fuses.hx then 2000 else 1400) then keepValue 0x4000 1 v s w else .error St.budgetRange

/-- PACKAGE_BUDGET_WRITE. -/
def execPackageBudgetWrite (q : Req) (v : Bytes) (s : State) : Result := .next (reqWrite s q 0x4000 1 v none (budgetApply v))

end Sys2Proof.Machine
end

