-- ==== Sys2Proof/Machine/Keys.lean ====
section
/-! DEFINITION. Parameter sets (07 R198 to R209), key sets (08 R218 to R224), the partition objects of 07 and 10. -/

namespace Sys2Proof.Machine
open Sys2Proof

/-! ## The canonical encoding (R200) -/

def PSet.logN (p : PSet) : Nat := fld p.enc 4 1
def PSet.n (p : PSet) : Nat := 2 ^ fld p.enc 4 1
def PSet.nq (p : PSet) : Nat := fld p.enc 5 1
def PSet.np (p : PSet) : Nat := fld p.enc 6 1
def PSet.dnum (p : PSet) : Nat := fld p.enc 7 1
def PSet.prime (p : PSet) (i : Nat) : Nat := fld p.enc (16 + 16 * i) 4
def PSet.psi (p : PSet) (i : Nat) : Nat := fld p.enc (20 + 16 * i) 4
def PSet.kind (p : PSet) (i : Nat) : Nat := fld p.enc (24 + 16 * i) 1
/-- Limbs of a digit (R226). -/
def PSet.alpha (p : PSet) : Nat := ceilDiv p.nq p.dnum

/-- round(256 log2 q), halves up: the largest L with 2^(2L - 1) ≤ q^512 (R209). -/
def lqOf (q : Nat) : Nat := (Nat.log2 (q ^ 512) + 1) / 2

def PSet.lq (p : PSet) (i : Nat) : Nat := lqOf (p.prime i)
/-- LQ[ℓ] (R209). -/
def PSet.LQ (p : PSet) (l : Nat) : Nat := ((List.range (l + 1)).map p.lq).sum


/-! ## Checks of a registration (R201) -/

/-- The bound B of R202 for log2 N. -/
def secBits (logN : Nat) : Nat := if logN = 12 then 109 else if logN = 13 then 218 else if logN = 14 then 438 else if logN = 15 then 881 else 1762

/-- Is a value below 2^32 prime, by Miller-Rabin to bases 2, 7 and 61 (R201)? -/
def isPrime32 (q : Nat) : Bool :=
  if q < 2 then false else if q = 2 ∨ q = 7 ∨ q = 61 then true else if q % 2 = 0 then false
  else Crypto.mrBase q 2 && Crypto.mrBase q 7 && Crypto.mrBase q 61

/-- Form and range of a prime of its kind (R174). -/
def primeForm (q kind : Nat) : Bool := if kind = 0 then specialForm q else decide (q % 2 = 1 ∧ 2 ^ 28 < q ∧ q < 2 ^ 32)

/-- The set that a record describes; its margin (R199). -/
def PSet.ofRecord (v : Bytes) (below : Bool) (at_ : Nat) (q : Req) : PSet :=
  { part := fld v 2 1, margin := if fld v 4 2 = 0xFFFF then 3072 else fld v 4 2, enc := v.drop 16, below := below, ready := false, at_ := at_,
    req := q }

/-- Check 1: the fields outside the prime entries. DEDUCED (log 121): reserved bytes of the record itself are ignored (R9); those of the encoding are 0 (R200). -/
def recordBad (v : Bytes) : Bool :=
  let e := v.drop 16
  let id := fld v 0 2
  let nq := fld e 5 1
  let np := fld e 6 1
  decide (v.length < 32 ∨ id = 0 ∨ 4095 < id ∨ 63 < fld v 2 1 ∨ (16384 < fld v 4 2 ∧ fld v 4 2 ≠ 0xFFFF)) ||
    decide (fld v 6 2 ≠ e.length) || slice e 0 4 != [0x4C, 0x50, 0x53, 0x31] ||
    decide (fld e 4 1 < 12 ∨ 16 < fld e 4 1 ∨ nq = 0 ∨ 63 < nq ∨ np = 0 ∨ 32 < np ∨ 64 < nq + np ∨ fld e 7 1 = 0 ∨
      Nat.min 8 nq < fld e 7 1 ∨ fld e 8 1 ≠ 1) ||
    !zeros e 9 7 || decide (e.length ≠ 16 + 16 * (nq + np))

/-- Registered sets, those under way among them. -/
def psetCount (s : State) : Nat := s.dram.psets.length

/-- KiB of the parameter region in use (R197). -/
def PSet.kib (p : PSet) : Nat :=
  Config.paramTableKiB (p.n) ((List.range (p.nq + p.np)).map p.prime)

def paramKiB (s : State) : Nat := (s.dram.psets.map (fun c => (c.2.map PSet.kib).getD 0)).sum

/-- The first failing check of a record: its status and the index of the failing prime, 0xFF for none (R201). -/
def recordCheck (s : State) (q : Req) (v : Bytes) : Except (Nat × Nat) PSet :=
  if recordBad v then .error (St.paramFormat, 0xFF)
  else
    let p := PSet.ofRecord v false s.clock.now q
    let m := p.nq + p.np
    let ix := List.range m
    let pr (i : Nat) := p.prime i
    let badEntry := ix.find? (fun i => decide (1 < p.kind i) || !zeros p.enc (25 + 16 * i) 7)
    let badPrime := ix.find? (fun i => !primeForm (pr i) (p.kind i) || !isPrime32 (pr i) || pr i % (2 * p.n) != 1 ||
      (List.range i).any (fun j => pr j == pr i))
    let badRoot := ix.find? (fun i => decide (p.psi i ≤ 1 ∨ pr i ≤ p.psi i) ||
      Crypto.powMod (p.psi i) (p.n) (pr i) != pr i - 1)
    let below := decide (2 ^ secBits (p.logN) ≤ (ix.map pr).foldl (· * ·) 1)
    match badEntry with
    | some i => .error (St.paramFormat, i)
    | none =>
      if (Tab.get none (fld v 0 2) s.dram.psets).isSome ∨ 256 ≤ psetCount s then .error (St.paramId, 0xFF)
      else if p.np < p.alpha then .error (St.paramFormat, 0xFF)
      else match badPrime with
        | some i => .error (St.paramPrime, i)
        | none => match badRoot with
          | some i => .error (St.paramRoot, i)
          | none =>
            if below ∧ s.obj 0x6120 (p.part + 1) ≠ 1 then .error (St.paramSecurity, 0xFF)
            else if 8388608 < paramKiB s + p.kib then .error (St.paramNoRoom, 0xFF)
            else .ok { p with below := below }

/-! ## Who may write for which partition -/

/-- The partition byte of a record, where the record has one; above 63 it names none. -/
def bytePart (v : Bytes) (off : Nat) : Option Nat := if off < v.length then some (Nat.min noPart (fld v off 1)) else none

/-! ## Registering (R198 to R206) -/

def registerApply (q : Req) (v : Bytes) (s : State) (_ : Who) : Applied :=
  match recordCheck s q v with
  | .error e => .error e.1
  | .ok p =>
    .ok ({ s with dram := { s.dram with psets := Tab.put none (fld v 0 2) (some p) s.dram.psets, psFail := 0xFF } }, [], Crypto.sha256 p.enc)

/-- PARAM_SET_REGISTER: the answer waits for PARAM_SET_REGISTRATION_DONE; a check that fails sets 0x6100:02 (R201). -/
def registerSet (s : State) (q : Req) (v : Bytes) : State :=
  request s q (fun s =>
    let x := writeObj s q 0x6100 1 v (bytePart v 2) (registerApply q v)
    if x.2 = St.ok then defer x.1 q
    else
      match recordCheck s q v with
      | .error e => answer (if e.1 = x.2 then { x.1 with dram := { x.1.dram with psFail := e.2 } } else x.1) q x.2
      | .ok _ => answer x.1 q x.2)

def execParamSetRegister (q : Req) (v : Bytes) (s : State) : Result := .next (registerSet s q v)

/-- PARAM_SET_REGISTRATION_DONE (R197, R204): the tables stand in the hardware-managed DRAM, the set can be used; the write is acknowledged. -/
def registrationDone (s : State) (ps : Nat) : State :=
  match Tab.get none ps s.dram.psets with
  | none => s
  | some p =>
    if p.ready then s
    else
      let s := hwWritten s 2 ps (1024 * p.kib)
      answerLater { s with dram := { s.dram with psets := Tab.put none ps (some { p with ready := true }) s.dram.psets } } p.req (frameOf 0x6100) St.ok

def execParamSetRegistrationDone (ps : Nat) (s : State) : Result := .next (if s.boot.stage = .ready then registrationDone s ps else s)

/-- A registered set whose tables in the hardware-managed DRAM can be read (R197, R596). -/
def psetOf (s : State) (id : Nat) : Option PSet :=
  match Tab.get none id s.dram.psets with
  | some p => if p.ready && !hwGone s 2 id (1024 * p.kib) then some p else none
  | none => none

/-- The session entries that stand or are about to (R21, R205, R223). -/
def rollEntries (s : State) : List SessEntry := s.roll.filterMap (·.2) ++ s.changes.filterMap (·.entry)

/-- Does a session or a key set name a parameter set (R205)? -/
def psetBusy (s : State) (id : Nat) : Bool := (rollEntries s).any (fun e => e.paramSet == id) || s.dram.ksets.any (fun k => k.ps == id)

/-- The partition by which a write that names a set is judged (R205, R206): a set that is not registered has no owner, and no partition's lock stands before its
refusal. -/
def psetPart (s : State) (id : Nat) : Nat := ((psetOf s id).map (·.part)).getD noPart

/-- PARAM_SET_UNREGISTER (R205). -/
def execParamSetUnregister (q : Req) (v : Bytes) (s : State) : Result :=
  .next (reqWrite s q 0x6101 0 v (some (psetPart s (leNat v))) (fun s _ =>
    if (psetOf s (leNat v)).isNone then .error St.paramUnknown
    else if psetBusy s (leNat v) then .error St.paramBusy
    else .ok ({ s with dram := { s.dram with psets := Tab.put none (leNat v) none s.dram.psets } }, [], v)))

/-- MARGIN_WRITE (R206): the margin of the selected set. -/
def execMarginWrite (q : Req) (v : Bytes) (s : State) : Result :=
  .next (
    let id := s.obj 0x6102 0
    reqWrite s q 0x6103 4 v (some (psetPart s id)) (fun s _ =>
      match psetOf s id with
      | none => .error St.paramUnknown
      | some p =>
        if 16384 < leNat v then .error St.planRefused
        else .ok ({ s with dram := { s.dram with psets := Tab.put none id (some { p with margin := leNat v }) s.dram.psets } },
                  natLe 2 p.margin, v)))

/-- SECURITY_OVERRIDE_WRITE (R203). -/
def execSecurityOverrideWrite (q : Req) (p : Part) (v : Bytes) (s : State) : Result :=
  .next (reqWrite s q 0x6120 (p.val + 1) v (some p.val) (keepValue 0x6120 (p.val + 1) v))

/-! ## Key sets (R221 to R224) -/

/-- The model's number of a key set's record. -/
def ksetId (part fp : Nat) : Nat := 64 * fp + part

def KSet.named (part fp : Nat) (k : KSet) : Bool := k.part == part && k.fp == fp

/-- The record of a partition's fingerprint, whatever its granules. -/
def ksetHeld (s : State) (part fp : Nat) : Option KSet := s.dram.ksets.find? (KSet.named part fp)

/-- The key set of a partition and a fingerprint; one whose record reads poisoned is absent (R596). -/
def ksetOf (s : State) (part fp : Nat) : Option KSet := if hwGone s 3 (ksetId part fp) 64 then none else ksetHeld s part fp

/-- Check 1 of R222. -/
def ksetBad (v : Bytes) : Bool :=
  decide (v.length ≠ 64 ∨ fld v 0 8 = 0 ∨ 1 < fld v 0x0B 1 ∨ fld v 0x0C 4 = 0 ∨ 4096 < fld v 0x0C 4 ∨
    fld v 0x30 8 % 256 ≠ 0 ∨ 2 ^ 57 ≤ fld v 0x30 8) || !zeros v 0x38 8

def ksetApply (v : Bytes) (s : State) (_ : Who) : Applied :=
  let part := fld v 0x0A 1
  if ksetBad v then .error St.keysetFormat
  else match psetOf s (fld v 8 2) with
  | none => .error St.keysetParam
  | some p =>
    if p.part ≠ part then .error St.keysetParam
    else if (ksetOf s part (fld v 0 8)).isSome then .error St.keysetExists
    else if 262144 ≤ s.dram.ksets.length then .error St.keysetFull
    else
      let k : KSet := { fp := fld v 0 8, ps := fld v 8 2, part := part, seeded := nbit (fld v 0x0B 1) 0, dirCount := fld v 0x0C 4,
                        seed := slice v 0x10 32, dirAddr := fld v 0x30 8, opened := 0, stopped := 0 }
      let s := hwWritten s 3 (ksetId part k.fp) 64
      .ok ({ s with dram := { s.dram with ksets := s.dram.ksets.filter (fun y => !y.named part k.fp) ++ [k] } }, [], slice v 0 8 ++ slice v 0x0A 1)

/-- KEYSET_REGISTER (R222). -/
def execKeysetRegister (q : Req) (v : Bytes) (s : State) : Result := .next (reqWrite s q 0x6140 1 v (bytePart v 0x0A) (ksetApply v))

/-- Does a session name a key set (R223, R224)? -/
def namesKset (part fp : Nat) (e : SessEntry) : Bool := e.part == part && e.fp == fp

/-- Does a session name the key set, or a taper have a stream of it open (R223)? -/
def ksetBusy (s : State) (part fp : Nat) : Bool :=
  (rollEntries s).any (namesKset part fp) || s.galx.any (fun c => c.2.streams.any (fun t => t.part == part && t.fp == fp))

/-- KEYSET_UNREGISTER (R223). -/
def execKeysetUnregister (q : Req) (v : Bytes) (s : State) : Result :=
  .next (reqWrite s q 0x6141 0 v (bytePart v 8) (fun s _ =>
    let part := fld v 8 1
    let fp := fld v 0 8
    if v.length ≠ 9 then .error St.objLength
    else if (ksetOf s part fp).isNone then .error St.keysetUnknown
    else if ksetBusy s part fp then .error St.keysetBusy
    else .ok ({ s with dram := { s.dram with ksets := s.dram.ksets.filter (fun k => !k.named part fp) } }, [], v)))

/-- The refusal of a Cipher session's parameter set and key set (R205, R223). -/
def sessionKeyBad (s : State) (e : SessEntry) : Option Nat :=
  if e.modeCode ≠ 2 then none
  else match psetOf s e.paramSet with
    | none => some St.paramUnknown
    | some p =>
      if p.part ≠ e.part then some St.paramUnknown
      else match ksetOf s e.part e.fp with
        | none => some St.keysetUnknown
        | some k => if k.ps = e.paramSet then none else some St.keysetUnknown

/-! ## Flooding (R292) -/

/-- FLOODING_SIGMA_WRITE (R292): 3.2 to 2^48. -/
def execFloodingSigmaWrite (q : Req) (p : Part) (v : Bytes) (s : State) : Result :=
  .next (reqWrite s q 0x6161 (p.val + 1) v (some p.val) (fun s w =>
    let x := w32 (leNat v)
    if F32.lt x 0x404CCCCD || F32.lt 0x57800000 x then .error St.planRefused else keepValue 0x6161 (p.val + 1) v s w))

end Sys2Proof.Machine
end

