-- ==== Sys2Proof/Machine/KeyRing.lean ====
section
/-! DEFINITION. Key streams as the stream unit and the census see them (08 R226 to R238): key images, the key ring, when a stream asks, what the taper needs. -/

namespace Sys2Proof.Machine
open Sys2Proof

/-! ## Key images (R226 to R229) -/

/-- Parts of a limb (R229). -/
def PSet.parts (p : PSet) : Nat := Nat.max 1 (p.n / 16384)
/-- Limbs of Q and P. -/
def PSet.limbs (p : PSet) : Nat := p.nq + p.np
/-- Active digits at a level: d′ (R226). -/
def PSet.digits (p : PSet) (l : Nat) : Nat := ceilDiv (l + 1) p.alpha
/-- Limbs of Q_ℓ and P (R226). -/
def PSet.active (p : PSet) (l : Nat) : List Nat := List.range (l + 1) ++ (List.range p.np).map (· + p.nq)
/-- Bytes of a block's payload that hold values (R229). -/
def PSet.payload (p : PSet) : Nat := Nat.min (4 * p.n) 65536

/-- Blocks for each position of a stream (R236). -/
def KSet.comps (k : KSet) : Nat := if k.seeded then 1 else 2

/-- The blocks of a stream at level ℓ, as (part, limb, digit, component), in canonical order (R228, R236). -/
def streamBlocks (p : PSet) (comps l : Nat) : List (Nat × Nat × Nat × Nat) :=
  (List.range p.parts).flatMap (fun (q : Nat) => (p.active l).flatMap (fun (i : Nat) =>
    (List.range (p.digits l)).flatMap (fun (j : Nat) => (List.range comps).map (fun (c : Nat) => (q, i, j, c)))))

/-- The number of a block in its image (R228). -/
def blockNo (p : PSet) (comps : Nat) (b : Nat × Nat × Nat × Nat) : Nat :=
  ((b.1 * p.limbs + b.2.1) * p.dnum + b.2.2.1) * comps + b.2.2.2

/-- Bytes of an image's header area (R228). -/
def headerArea (p : PSet) (comps : Nat) : Nat := 65536 * ceilDiv (32 * (p.parts * p.limbs * p.dnum * comps)) 65536

/-! ## The running macro's surroundings -/

/-- The session entry of a gallery's task. -/
def taskSess (s : State) (g : Nat) : Option SessEntry := (s.galAt g).task.map (·.item.sess)

/-- The parameter set of the task's session. -/
def taskPset (s : State) (g : Nat) : Option PSet := (taskSess s g).bind (fun e => psetOf s e.paramSet)

/-! ## The key ring (R237, R238) -/

/-- Pairs of the ring. -/
def krPairs (s : State) : Nat := s.obj 0x2130 2

/-- First byte of a pair in the gallery store. -/
def pairByte (s : State) (num n : Nat) : Nat := 131072 * (Config.keyRing num % (121 - Nat.min 120 (krPairs s)) + n % krPairs s)

/-- The slots that a position writes: both halves, as far as they hold values. -/
def pairSlots (s : State) (num n bytes : Nat) : List Slot :=
  let b := pairByte s num n / 512
  (List.range (bytes / 512)).flatMap (fun i => [{ store := true, n := b + i }, { store := true, n := b + 128 + i }])

/-- The position of a stream's block number `n` (R237). -/
def Stream.at_ (t : Stream) (n : Nat) : Nat := n / Nat.max 1 t.blocks

/-- Positions of a stream that a pair is kept for: those asked of a peer; else the one that it stands in. -/
def Stream.keeps (t : Stream) : List Nat :=
  if t.peer ≠ 0xFFFF then (List.range (t.asked - t.at_ t.pay)).map (· + t.at_ t.pay)
  else if t.pay < t.pos.length then [t.at_ t.pay] else []

/-- May a position of stream `k` take its pair: the macro has used and releases what it holds, or its slots are empty; and the stream before it does not keep
the pair (R235, R238)? -/
def pairFree (s : State) (g k : Nat) (m : MacroRun) (p : PSet) (n : Nat) : Bool :=
  (m.ring.contains (n % krPairs s) || slotsEmpty s g 0 (pairSlots s m.num n p.payload)) &&
    (k == 0 || (match (s.galxAt g).streams.head? with
      | some t => !(t.keeps.map (· % krPairs s)).contains (n % krPairs s)
      | none => true))

/-- May stream `k` take a pair: it is the first, or the first has requested its last block (R235)? -/
def streamTurn (s : State) (g k : Nat) : Bool :=
  k == 0 || (match (s.galxAt g).streams.head? with
    | some t => if t.peer = 0xFFFF then decide (t.pos.length ≤ t.pay + 1) else decide (t.at_ t.pos.length ≤ t.asked)
    | none => true)

/-- Has local stream `k` a request of its next block outstanding: it is its turn, and the block's pair is its own or free (R238, R243)? -/
def streamAsks (s : State) (g k : Nat) (t : Stream) : Bool :=
  match t.pos[t.pay]?, (s.galxAt g).mac, taskPset s g with
  | some b, some m, some p => streamTurn s g k && (b.2.2.2 != 0 || pairFree s g k m p (t.at_ t.pay))
  | _, _, _ => false

/-- Is a request of stream `k` outstanding (R243, R245)? -/
def streamWaits (s : State) (g k : Nat) (t : Stream) : Bool :=
  if t.peer ≠ 0xFFFF then decide (t.at_ t.pay < t.asked) else streamAsks s g k t

/-- The bursts that the taper of a gallery has outstanding or waiting (R234): the payloads of local blocks whose pairs it can take. -/
def taperNeed (s : State) (g : Nat) : Nat :=
  match (s.galxAt g).mac, taskPset s g with
  | some m, some p =>
    let ts := (s.galxAt g).streams
    ((List.range ts.length).map (fun k => match ts[k]? with
      | none => 0
      | some t =>
        if t.peer ≠ 0xFFFF ∨ streamTurn s g k = false then 0
        else ((List.range (krPairs s)).filter (fun i =>
          decide (t.at_ t.pay + i < t.at_ t.pos.length) && pairFree s g k m p (t.at_ t.pay + i))).length * t.blocks * ceilDiv p.payload 256)).sum
  | _, _ => 0

end Sys2Proof.Machine
end

