-- ==== Sys2Proof/Machine/Convert.lean ====
section
/-! DEFINITION. Conversions to narrow formats (05 R157 to R161, 11 R305, R306, R308) and the reductions of the vector engine (R309 to R311). -/

namespace Sys2Proof.Machine
open Sys2Proof

/-- r_i of R161. -/
def r16 (seed : W64) (i : Nat) : Nat :=
  let z := seed + w64 (i + 1) * 0x9E3779B97F4A7C15
  let z := (z ^^^ (z >>> 30)) * 0xBF58476D1CE4E5B9
  let z := (z ^^^ (z >>> 27)) * 0x94D049BB133111EB
  (((z ^^^ (z >>> 31)) >>> 48).toNat) % 65536

/-- A magnitude m * 2^-sh as a whole number of grid steps: to nearest even, or stochastically with r (R160). -/
def roundSteps (m sh : Nat) (r : Option Nat) : Nat :=
  match r with
  | none => FFmt.rneShift m sh
  | some r => (m >>> sh) + (if r < ((m % 2 ^ sh) * 65536) >>> sh then 1 else 0)

/-- The magnitude code of m * 2^e in a float format, rounded as R160 says. -/
def floatCode (t : FFmt) (m : Nat) (e : Int) (r : Option Nat) : Nat :=
  if m = 0 then 0
  else
    let q : Int := max t.emin (e + (Nat.log2 m + 1 : Nat) - ((t.mb : Int) + 1))
    let steps := if q ≤ e then m <<< (e - q).toNat else roundSteps m (q - e).toNat r
    (q - t.emin).toNat * 2 ^ t.mb + steps

/-- A whole number of steps of 2^q, rounded as R160 says. -/
def intSteps (m : Nat) (e q : Int) (r : Option Nat) : Nat := if q ≤ e then m <<< (e - q).toNat else roundSteps m (q - e).toNat r

/-- The float formats by element code (R347). -/
def floatOf (etype : Nat) : Option FFmt :=
  match etype with
  | 2 => some bf16 | 3 => some e4m3 | 4 => some e5m2 | 5 => some e2m3 | 6 => some e3m2 | 7 => some e2m1
  | _ => none

/-- A finite value clamped to a float format and rounded: code, and whether it clamped (R157, R158). -/
def convFloat (t : FFmt) (neg : Bool) (m : Nat) (e : Int) (r : Option Nat) : Nat × Bool :=
  let sg := if neg then 2 ^ (t.eb + t.mb) else 0
  let tooBig := FVal.lt (t.dec t.maxCode) (.fin false m e)
  if tooBig then (sg + t.maxCode, true) else (sg + floatCode t m e r, false)

/-- A finite value clamped to bounds -lo and hi in steps of 2^q, rounded: a two's complement code of `w` bits, and whether it clamped. -/
def convInt (w lo hi : Nat) (q : Int) (neg : Bool) (m : Nat) (e : Int) (r : Option Nat) : Nat × Bool :=
  let bound := if neg then lo else hi
  let tooBig := FVal.lt (.fin false bound q) (.fin false m e)
  let k := if tooBig then bound else intSteps m e q r
  ((if neg then (2 ^ w - k) % 2 ^ w else k), tooBig)

/-- Convert a value to an element type without block scale (R158, R305): code, counted in `sat`. -/
def convTo (etype : Nat) (v : FVal) (r : Option Nat) : Nat × Bool :=
  match etype, v with
  | 1, v => (f32.enc false v, false)
  | 16, .nan => (0, true)
  | 16, .inf s => (if s then 0x80000000 else 0x7FFFFFFF, true)
  | 16, .fin s m e =>
    let k := intSteps m e 0 none
    if s then (if 2 ^ 31 < k then (0x80000000, true) else ((2 ^ 32 - k) % 2 ^ 32, false))
    else if 2 ^ 31 - 1 < k then (0x7FFFFFFF, true) else (k, false)
  | 17, .nan => (0, true)
  | 17, .inf s => (if s then 0 else 0xFFFFFFFF, true)
  | 17, .fin s m e =>
    let k := intSteps m e 0 none
    if s then (0, k != 0) else if 2 ^ 32 - 1 < k then (0xFFFFFFFF, true) else (k, false)
  | 8, .nan => (0, true)
  | 8, .inf _ => (0, true)
  | 8, .fin s m e => convInt 8 128 127 0 s m e r
  | t, v =>
    match floatOf t, v with
    | some f, .nan => (f.nanCode, false)
    | some f, .inf s => (f.enc false (.inf s), false)
    | some f, .fin s m e => convFloat f s m e r
    | none, _ => (0, false)

/-! ## Blocks -/

/-- emax of R157. -/
def emaxOf (etype : Nat) : Int :=
  match etype with
  | 3 => 8 | 4 => 15 | 5 => 2 | 6 => 4 | 7 => 2 | 9 => 2 | _ => 0

/-- An element of a block after division by 2^E (R157). -/
def blockElem (etype : Nat) (neg : Bool) (m : Nat) (e : Int) (r : Option Nat) : Nat × Bool :=
  match floatOf etype with
  | some f => convFloat f neg m e r
  | none => if etype = 9 then convInt 4 8 7 0 neg m e r else convInt 8 128 127 (-6) neg m e r

/-- floor(log2 m) of a finite magnitude. -/
def log2Val (v : FVal) : Option Int :=
  match v with
  | .fin _ m e => if m = 0 then none else some (e + (Nat.log2 m : Int))
  | _ => none

/-- The result of converting a block: codes, scale byte, escape word, elements clamped, whether it holds NaN or infinity, and whether the gap
count was 3. -/
structure BlockOut where
  codes : List Nat
  scale : Nat
  word : Nat
  sats : Nat
  nf : Bool
  gap3 : Bool
  deriving DecidableEq, Repr

/-- Insert an index by falling magnitude, ties by lower position (R159). -/
def rankInsert (mags : List FVal) (k : Nat) : List Nat → List Nat
  | [] => [k]
  | j :: r => if FVal.lt (mags.getD j .nan) (mags.getD k .nan) then k :: j :: r else j :: rankInsert mags k r

/-- The scale exponent of a block from the largest magnitude of its bulk (R157). -/
def blockExp (etype : Nat) (bulk : List FVal) : Int :=
  match log2Val (bulk.foldl (fun a b => if FVal.lt a b then b else a) (.fin false 0 0)) with
  | none => -127
  | some k => max (-127) (min 127 (k - emaxOf etype))

/-- Convert a block of up to 32 values (R157, R159, R160). `idx`: positions for stochastic rounding; `lane`: the escape lane. -/
def blockConv (etype : Nat) (xs : List FVal) (idx : List Nat) (lane : Bool) (rho : Nat) (seed : Option W64) : BlockOut :=
  if xs.any (fun v => v.isNan || v.isInf) then
    { codes := xs.map (fun _ => 0), scale := 255, word := 0, sats := 0, nf := true, gap3 := false }
  else
    let mags := xs.map FVal.abs
    let order := (List.range xs.length).foldl (fun acc k => rankInsert mags k acc) []
    let mag (c : Nat) : FVal := if c < order.length then mags.getD (order.getD c 0) (.fin false 0 0) else .fin false 0 0
    let gap (c : Nat) : Bool := !(mag (c - 1)).isZero && FVal.le ((mag c).mul (.fin false 1 rho)) (mag (c - 1))
    let c := if !lane then 0 else if gap 3 then 3 else if gap 2 then 2 else if gap 1 then 1 else 0
    let escs := order.take (Nat.min c 2)
    let ks := List.range xs.length
    let ex := blockExp etype ((ks.filter (fun k => !escs.contains k)).map (fun k => mags.getD k .nan))
    let conv (f : Bool → Nat → Int → Option Nat → Nat × Bool) (k : Nat) : Nat × Bool :=
      let r := seed.map (fun z => r16 z (idx.getD k 0))
      match xs.getD k .nan with
      | .fin s m e => f s m (e - ex) r
      | _ => (0, false)
    let es := escs.map (conv (fun s m e r => convFloat e4m3 s m e r))
    let out := ks.map (fun k => if escs.contains k then (0, false) else conv (blockElem etype) k)
    let sats := ((out ++ es).filter (·.2)).length
    let word := (es.getD 0 (0, false)).1 + 256 * (es.getD 1 (0, false)).1 + 2 ^ 16 * escs.getD 0 0 + 2 ^ 24 * escs.getD 1 0 +
      (if 1 ≤ escs.length then 2 ^ 21 else 0) + (if 2 ≤ escs.length then 2 ^ 22 else 0) + (if c = 3 then 2 ^ 23 else 0) +
      2 ^ 29 * Nat.min 7 sats
    { codes := out.map (·.1), scale := (ex + 127).toNat, word := if lane then word else 0, sats := sats, nf := false, gap3 := c == 3 }

/-- A dequantised element (R308): its value with its scale, as FP32. -/
def dequant (etype c scale esc : Nat) : W32 :=
  let v := if esc = 0 then elemVal etype true c else e4m3.dec (esc - 256)
  F32.ofVal (v.mul (scaleVal scale))

/-! ## Reductions -/

/-- The fixed order of R309: 32 partial results in ascending k, then halving. -/
def foldLine (op join : W32 → W32 → W32) (ident : W32) (xs : List W32) : W32 :=
  let p := (List.range 32).map (fun l =>
    ((List.range xs.length).filter (fun k => k % 32 == l)).foldl (fun a k => op a (xs.getD k 0)) ident)
  let half (p : List W32) (w : Nat) : List W32 := (List.range w).map (fun l => join (p.getD l 0) (p.getD (l + w) 0))
  (half (half (half (half (half p 16) 8) 4) 2) 1).getD 0 0

/-- `rsum`, `rmax`, `rmin`, `rabsmax` (R309): any NaN in the line gives NaN. -/
def reduceLine (op : Nat) (xs : List W32) : W32 :=
  if op = 0x30 then foldLine F32.add F32.add 0 xs
  else if xs.any F32.isNan then F32.qnan
  else if op = 0x31 then foldLine F32.max F32.max 0xFF800000 xs
  else if op = 0x32 then foldLine F32.min F32.min 0x7F800000 xs
  else foldLine (fun p x => F32.max p (F32.abs x)) F32.max 0 xs

/-- The quotient of an FP32 value by an integer, rounded once (R310). -/
def divInt (a : W32) (n : Nat) : W32 := F32.ofVal ((F32.val a).div (FVal.ofNat n))

/-- Mean and variance of a line (R310, R311); the halving steps add the partial sums (DEDUCED, log 24). -/
def statLine (unbiased : Bool) (xs : List W32) : W32 × W32 :=
  let bad (w : W32) : Bool := F32.isNan w || (F32.val w).isInf
  if xs.any bad then (F32.qnan, F32.qnan)
  else
    let n := xs.length
    let c := xs.getD 0 0
    let dd := xs.map (fun x => F32.sub x c)
    let s1 := foldLine F32.add F32.add 0 dd
    let ms := divInt s1 n
    let ee := dd.map (fun x => F32.sub x ms)
    let s2 := foldLine (fun p e => F32.fma e e p) F32.add 0 ee
    let den := if unbiased then n - 1 else n
    let var := if den = 0 then 0 else divInt s2 den
    (F32.add c ms, if (dd ++ ee ++ [s1, ms, s2, var]).any bad then 0x7F800000 else var)

end Sys2Proof.Machine
end

