-- ==== Sys2Proof/Machine/Drbg.lean ====
section
/-! DEFINITION. A gallery's DRBG (10 R289, R290): AES-256 (FIPS 197), CTR_DRBG with the derivation function (SP 800-90A), and drawing from it. -/

namespace Sys2Proof.Machine.Crypto
open Sys2Proof

/-! ## AES-256 -/

/-- Times x in the field of AES. -/
def xtime (b : Byte) : Byte := if b.getLsbD 7 then (b <<< 1) ^^^ 0x1B else b <<< 1

/-- The product in the field of AES. -/
def gfMul (a b : Byte) : Byte :=
  ((List.range 8).foldl (fun (acc : Byte × Byte) k => (if b.getLsbD k then acc.1 ^^^ acc.2 else acc.1, xtime acc.2)) (0, a)).1

/-- The inverse, a^254; 0 of 0. -/
def gfInv (a : Byte) : Byte :=
  ((List.range 7).foldl (fun (acc : Byte × Byte) _ => (gfMul acc.1 acc.2, gfMul acc.2 acc.2)) (1, gfMul a a)).1

/-- The S-box. -/
def sbox (a : Byte) : Byte :=
  let b := gfInv a
  b ^^^ b.rotateLeft 1 ^^^ b.rotateLeft 2 ^^^ b.rotateLeft 3 ^^^ b.rotateLeft 4 ^^^ 0x63

/-- Byte by byte. -/
def xorBytes (a b : Bytes) : Bytes := (a.zip b).map (fun c => c.1 ^^^ c.2)

/-- The 60 words of the key schedule. -/
def aesKeys (key : Bytes) : List Bytes :=
  let first := (List.range 8).map (fun i => slice key (4 * i) 4)
  let rcon (k : Nat) : Byte := (List.range (k - 1)).foldl (fun b _ => xtime b) 1
  (List.range 52).foldl (fun ws k =>
    let i := k + 8
    let t := ws.getD (i - 1) []
    let t :=
      if i % 8 = 0 then xorBytes ((t.drop 1 ++ t.take 1).map sbox) [rcon (i / 8), 0, 0, 0]
      else if i % 8 = 4 then t.map sbox else t
    ws ++ [xorBytes (ws.getD (i - 8) []) t]) first

/-- SubBytes and ShiftRows; byte r + 4c stands in row r of column c. -/
def subShift (b : Bytes) : Bytes := (List.range 16).map (fun i => sbox (b.getD (i % 4 + 4 * ((i / 4 + i % 4) % 4)) 0))

/-- MixColumns. -/
def mixCols (b : Bytes) : Bytes :=
  (List.range 16).map (fun i =>
    let at_ (r : Nat) : Byte := b.getD (4 * (i / 4) + (i + r) % 4) 0
    xtime (at_ 0) ^^^ (xtime (at_ 1) ^^^ at_ 1) ^^^ at_ 2 ^^^ at_ 3)

/-- Round key k. -/
def roundKey (ws : List Bytes) (k : Nat) : Bytes := (List.range 4).flatMap (fun i => ws.getD (4 * k + i) [])

/-- One block under a key schedule. -/
def aesBlock (ws : List Bytes) (b : Bytes) : Bytes :=
  let b := (List.range 13).foldl (fun b k => xorBytes (mixCols (subShift b)) (roundKey ws (k + 1))) (xorBytes b (roundKey ws 0))
  xorBytes (subShift b) (roundKey ws 14)

/-! ## CTR_DRBG (SP 800-90A) -/

/-- `n` counter blocks after a value: the bytes, and the value then. -/
def ctrBlocks (ws : List Bytes) : Nat → Nat → Bytes × Nat
  | 0, v => ([], v)
  | n + 1, v =>
    let v := (v + 1) % 2 ^ 128
    let r := ctrBlocks ws n v
    (aesBlock ws (natBe 16 v) ++ r.1, r.2)

/-- CTR_DRBG_Update: key and value, from 48 bytes. -/
def drbgUpdate (data key : Bytes) (v : Nat) : Bytes × Nat :=
  let t := xorBytes (ctrBlocks (aesKeys key) 3 v).1 data
  (t.take 32, beNat (t.drop 32))

/-- The chaining of Block_Cipher_df. -/
def bcc (ws : List Bytes) : Nat → Bytes → Bytes → Bytes
  | 0, c, _ => c
  | n + 1, c, d => bcc ws n (aesBlock ws (xorBytes c (d.take 16))) (d.drop 16)

/-- Block_Cipher_df to 48 bytes. -/
def blockDf (v : Bytes) : Bytes :=
  let body := natBe 4 v.length ++ natBe 4 48 ++ v ++ [0x80]
  let m := body ++ List.replicate ((16 - body.length % 16) % 16) 0
  let ws := aesKeys ((List.range 32).map (fun i => BitVec.ofNat 8 i))
  let t := (List.range 3).flatMap (fun i =>
    bcc ws (m.length / 16 + 1) (List.replicate 16 0) (natBe 4 i ++ List.replicate 12 0 ++ m))
  let ks := aesKeys (t.take 32)
  let x1 := aesBlock ks (slice t 32 16)
  let x2 := aesBlock ks x1
  x1 ++ x2 ++ aesBlock ks x2

end Sys2Proof.Machine.Crypto

namespace Sys2Proof.Machine
open Sys2Proof

/-- A seeding (R289): 256 bits of entropy input and a 128-bit nonce. -/
def Drbg.seed (y : Drbg) (entropy : Bytes) : Drbg :=
  let r := Crypto.drbgUpdate (Crypto.blockDf entropy) (natBe 32 y.key.toNat) y.v.toNat
  { due := false, key := BitVec.ofNat 256 (beNat r.1), v := BitVec.ofNat 128 r.2, reqs := 0 }

/-- One request for `n` bytes. -/
def Drbg.generate (y : Drbg) (n : Nat) : Bytes × Drbg :=
  let key := natBe 32 y.key.toNat
  let o := Crypto.ctrBlocks (Crypto.aesKeys key) (ceilDiv n 16) y.v.toNat
  let r := Crypto.drbgUpdate (List.replicate 48 0) key o.2
  (o.1.take n, { due := false, key := BitVec.ofNat 256 (beNat r.1), v := BitVec.ofNat 128 r.2, reqs := y.reqs + 1 })

/-- One request of a gallery's DRBG. A reseed that is due, or that 2^20 requests have made due, comes first: from conditioned entropy, which is free (log 52). -/
def drawRequest (s : State) (g n : Nat) : Bytes × State :=
  let y := (s.galxAt g).drbg
  let x : Drbg × State :=
    if y.due || decide (2 ^ 20 ≤ y.reqs) then
      let (e, s) := s.freshBytes 48
      (y.seed e, s)
    else (y, s)
  let r := x.1.generate n
  (r.1, x.2.updGalx g (fun z => { z with drbg := r.2 }))

/-- Draw `n` bytes, in requests of at most 64 KiB (R289). -/
def drawBytes (s : State) (g n : Nat) : Bytes × State :=
  (List.range (ceilDiv n 65536)).foldl (fun (acc : Bytes × State) k =>
    let r := drawRequest acc.2 g (Nat.min 65536 (n - 65536 * k))
    (acc.1 ++ r.1, r.2)) ([], s)

/-- Draw a 64-bit word. -/
def drawWord (s : State) (g : Nat) : W64 × State :=
  let r := drawBytes s g 8
  (w64 (leNat r.1), r.2)

end Sys2Proof.Machine
end

