-- ==== Sys2Proof/Machine/Update.lean ====
section
/-! DEFINITION. The parameter update engine (15): the checks of a job, the gradient norm, the update pass, the job's end. -/

namespace Sys2Proof.Machine
open Sys2Proof

/-- Does a job use a tensor entry (R416)? -/
def jUses (b : Bytes) (e : Nat) : Bool :=
  match e with
  | 0 => true | 1 => jMaster b | 2 => true | 3 => true | 4 => jOpt b == 1 | _ => jTouched b

/-- Types that an entry allows (R416). -/
def jTypes (e : Nat) : List Nat :=
  match e with
  | 0 => [1, 2, 0x83, 0x84, 0x85, 0x86, 0x87] | 1 => [1] | 2 => [1, 2, 0x84] | 3 => [1, 2, 0x83] | 4 => [1, 2, 0x84] | 5 => [16] | _ => [17]

/-- A tensor entry that R416 allows. -/
def entryOk (b : Bytes) (e : Nat) : Bool :=
  if jUses b e then
    jAddr b e % 256 == 0 && (jTypes e).contains (jType b e) && zeros b (0x69 + 24 * e) 7 && (typeScaled (jType b e) || jScale b e == 0)
  else zeros b (0x58 + 24 * e) 24

/-- Is an FP32 field finite and within [0, hi)? `hi` none: no bound. -/
def hyper (w : W32) (hi : Option W32) : Bool :=
  !F32.isNan w && !(F32.val w).isInf && F32.le 0 w && (match hi with
    | some h => F32.lt w h
    | none => true)

/-- Check 1 of R417, on a block that was read. -/
def jobBad (b : Bytes) : Bool :=
  let one : W32 := 0x3F800000
  let adam := jOpt b == 1
  !(decide (1 ≤ jOpt b ∧ jOpt b ≤ 3)) || !(decide (1 ≤ jPhase b ∧ jPhase b ≤ 3)) || fld b 2 1 / 16 != 0 || jMode b == 3 || fld b 3 1 != 0 ||
    decide (4096 < fld b 6 2) || (if jTouched b then fld b 8 4 != 0 else fld b 8 4 == 0) || !hyper (jF b 0x20) none ||
    !hyper (jF b 0x24) (some one) || !hyper (jF b 0x28) (some one) || (!adam && !(F32.val (jF b 0x28)).isZero) ||
    (if adam then !hyper (jF b 0x2C) none || (F32.val (jF b 0x2C)).isZero else !(F32.val (jF b 0x2C)).isZero) ||
    !hyper (jF b 0x30) none || !hyper (jF b 0x34) none || fld b 0x40 8 % 8 != 0 || fld b 0x48 8 % 8 != 0 ||
    (jPhase b == 2 && fld b 6 2 == 0 && !(F32.val (jF b 0x34)).isZero)

/-- Check 2 of R417. -/
def jobShapeBad (b : Bytes) : Bool :=
  let rows := fld b 0x18 4
  let sizes := if jTouched b then
      decide (1 ≤ jN b ∧ jN b ≤ 2 ^ 24) && jWidth b % 32 == 0 && decide (32 ≤ jWidth b ∧ jWidth b ≤ 65536) && decide (1 ≤ rows ∧ rows < 2 ^ 31)
    else decide (32 ≤ jN b) && jN b % 32 == 0 && jWidth b == 0 && rows == 0
  !sizes || (List.range 7).any (fun e => !entryOk b e) || jStage b % 0x40000 != 0 ||
    !(decide (0x80000000 ≤ jStage b ∧ jStage b + 0x40000 ≤ 0x803C0000))

/-- A record of the job: unit code 10, at most 16 for a task (R428). -/
def updRecord (s : State) (g st cls : Nat) (d0 d1 : Option Nat) : State :=
  if 16 ≤ (s.galxAt g).cnt.updRec then s
  else
    let (w, s) := s.freshWords 2
    let s := s.updGalx g (fun y => { y with cnt := { y.cnt with updRec := y.cnt.updRec + 1 } })
    reportTask s { Rep.ofGal st cls false 10 g 0 0 with d0 := (d0.map w32).getD (w.getD 0 0), d1 := (d1.map w32).getD (w.getD 1 0) }

/-- Has the job recorded its first translation fault? -/
def updFaulted (s : State) (g : Nat) : Bool := ((s.galxAt g).upd.map (·.faulted)).getD false

/-- `ST_XLATE` for the first fault of the job alone (R361, R428). -/
def updFault (s : State) (g : Nat) (flt : Option (Nat × Bool)) : State :=
  match flt with
  | none => s
  | some (va, wr) =>
    if updFaulted s g then s
    else
      let d := faultWords (va : Int) wr
      (updRecord s g St.xlate 1 (some d.1) (some d.2)).updGalx g (fun y => { y with upd := y.upd.map (fun j => { j with faulted := true }) })

/-- A write of the job; its first fault is recorded. -/
def jobWrite (s : State) (g : Nat) (ws : UWrites) : State :=
  let x := uWrite (uSnoop s (asidOf s g) ws) (asidOf s g) ws
  updFault x.1 g (x.2.map (fun a => (a, true)))

/-- The staging region holds what the job writes there (R414): free values (log 8), from its start on, since nothing reads them before the job has ended. -/
def stageFree (s : State) (g : Nat) (b : Bytes) : State :=
  let a := 4 * (jStage b - 0x80000000)
  let m : Space1 := { g := g, l := 0, store := true }
  let (v, s) := s.freshBytes 1048576
  let s := s.setMem1 m (Tab.puts 0 a v (s.mem1 m))
  let (v, s) := s.freshBytes 2048
  let s := s.setTags1 m (Tab.puts false (a / 512) (v.map (fun x => x.getLsbD 0)) (s.tags1 m))
  let (v, s) := s.freshBytes 32768
  s.setPoi1 m (Tab.puts false (a / 32) (v.map (fun x => x.getLsbD 0)) (s.poi1 m))

/-! ## Start (R417) -/

/-- The status that refuses a job; the block where it does not. -/
def checkJob (s : State) (g : Nat) (va : Nat) : Except Nat Bytes :=
  match vread s (asidOf s g) (va : Int) 256 with
  | none => .error St.updJob
  | some (b, poi) =>
    if poi || jobBad b then .error St.updJob
    else if jobShapeBad b then .error St.updShape
    else if jMode b = 2 ∧ (s.hallAt (hallOf g)).rng ≠ 0 then .error St.rngHalted else .ok b

/-- The job of the task that gallery `g` has just taken. A refused job writes only `status`. -/
def updStart (s : State) (g va : Nat) : State :=
  let s := vsnoop s (asidOf s g) (va : Int) 256 false
  match checkJob s g va with
  | .ok b => stageFree (s.updGalx g (fun y => { y with upd := some { block := b, addr := va, pass := none, faulted := false } })) g b
  | .error st => jobWrite (updRecord s g st 1 none none) g (uBytes (va + 4) (natLe 2 st) false)

/-! ## FP64 steps -/

def d64 (v : FVal) : FVal := f64.dec (f64.enc false v)
def add64 (a b : FVal) : FVal := d64 (a.add b)

/-- A running read: what it brought together with earlier poison and the first fault. -/
structure UAcc where
  poi : Bool
  flt : Option Nat
  deriving DecidableEq, Repr

def UAcc.see (a : UAcc) (r : URead) : UAcc := { poi := a.poi || r.poi, flt := a.flt.orElse (fun _ => r.flt) }

/-- Element `k` of tensor `e`, dequantised (R308). -/
def uElem (s : State) (asid : Nat) (b : Bytes) (e k : Nat) : W32 × List URead :=
  let t := jType b e
  let r := uBits s asid (jAddr b e) k (typeBits t)
  if typeScaled t then
    let sc := uBits s asid (jScale b e) (k / 32) 8
    (dequant (t % 128) r.v sc.v 0, [r, sc])
  else (if t = 2 then F32.ofVal (bf16.dec r.v) else w32 r.v, [r])

/-- S of R418: 64 lanes in ascending order, then halving. -/
def gradNorm (s : State) (asid : Nat) (b : Bytes) : FVal × UAcc :=
  let zero : FVal := .fin false 0 0
  let r : Tab FVal × UAcc := (List.range (gradCount b)).foldl (fun (a : Tab FVal × UAcc) (k : Nat) =>
    let x := uElem s asid b 2 k
    let v := F32.val x.1
    (Tab.upd zero (k % 64) (fun p => add64 p (v.mul v)) a.1, x.2.foldl UAcc.see a.2)) ([], { poi := false, flt := none })
  let half (p : List FVal) (w : Nat) : List FVal := (List.range w).map (fun l => add64 (p.getD l zero) (p.getD (l + w) zero))
  let p := Tab.gets zero 0 64 r.1
  ((half (half (half (half (half (half p 32) 16) 8) 4) 2) 1).getD 0 zero, r.2)

/-- Add the partials of R418 in list order. -/
def addPartials (s : State) (asid : Nat) (b : Bytes) (start : FVal) : FVal × UAcc :=
  (List.range (fld b 6 2)).foldl (fun (a : FVal × UAcc) (k : Nat) =>
    let r := uBits s asid (fld b 0x40 8) k 64
    (add64 a.1 (f64.dec r.v), a.2.see r)) (start, { poi := false, flt := none })

/-- The clip factor (R419). -/
def clipFactor (clip : W32) (st : FVal) : W32 :=
  let root := d64 st.sqrt
  if (F32.val clip).isZero || FVal.le root (F32.val clip) then 0x3F800000 else F32.ofVal (d64 ((F32.val clip).div root))

/-- β^t by binary exponentiation from the most significant bit (R422). -/
def betaPow (beta : FVal) (t : Nat) : FVal :=
  ((List.range (Nat.log2 t + 1)).reverse).foldl (fun pw i =>
    let pw := d64 (pw.mul pw)
    if nbit t i then d64 (pw.mul beta) else pw) FVal.one

/-- r_i of R422. -/
def biasCorr (beta : W32) (t : Nat) : W32 :=
  let v := F32.val beta
  if v.isZero then 0x3F800000 else F32.ofVal (d64 (FVal.one.div (d64 (FVal.one.sub (betaPow v t)))))

/-! ## Pass two (R421, R423) -/

/-- New p, m and v of an element. -/
def stepElem (b : Bytes) (c r1 r2 : W32) (p gIn m v : W32) : W32 × W32 × W32 :=
  let b1 := jF b 0x24
  let b2 := jF b 0x28
  let g := F32.mul gIn c
  let adam := jOpt b == 1
  let m2 := if adam then F32.fma b1 m (F32.mul (F32.sub 0x3F800000 b1) g) else F32.fma b1 m g
  let v2 := if adam then F32.fma b2 v (F32.mul (F32.sub 0x3F800000 b2) (F32.mul g g)) else v
  let u := if adam then F32.div (F32.mul m2 r1) (F32.add (F32.sqrt (F32.mul v2 r2)) (jF b 0x2C))
           else if jOpt b = 3 then F32.fma b1 m2 g else m2
  (F32.fma (jF b 0x20 ^^^ 0x80000000) (F32.fma (jF b 0x30) p u) p, m2, v2)

/-- Pack codes of `w` bits. -/
def packCodes (w : Nat) (cs : List Nat) : Bytes :=
  natLe (4 * w) ((List.range cs.length).foldl (fun n i => n + cs.getD i 0 * 2 ^ (w * i)) 0)

/-- Store a block of tensor `e` in its format (R423): the bytes, and the elements clamped. -/
def storeBlock (b : Bytes) (e j : Nat) (xs : List W32) (seed : Option W64) (bad : Bool) : UWrites × Nat :=
  let t := jType b e
  let w := typeBits t
  let idx := (List.range 32).map (fun i => 32 * j + i)
  if typeScaled t then
    let o := blockConv (t % 128) (xs.map F32.val) idx false 0 seed
    (uBytes (jAddr b e + 4 * w * j) (packCodes w o.codes) bad ++ uBytes (jScale b e + j) (natLe 1 o.scale) bad, o.sats)
  else if t = 2 then
    let cs := (List.range xs.length).map (fun i => convTo 2 (F32.val (xs.getD i 0)) (seed.map (fun z => r16 z (idx.getD i 0))))
    (uBytes (jAddr b e + 64 * j) (packCodes 16 (cs.map (·.1))) bad, (cs.filter (·.2)).length)
  else (uBytes (jAddr b e + 128 * j) (packCodes 32 (xs.map (·.toNat))) bad, 0)

/-- What the update pass has done so far. -/
structure UPass where
  ws : UWrites
  sat : Nat
  nf : Nat
  blocks : Nat
  poisoned : Nat
  firstBad : Option Nat
  oob : Nat
  order : Nat
  last : Int
  flt : Option Nat
  deriving DecidableEq, Repr

/-- One block: table block `j`, gradient block `gj`. `rowPoi`: what its row's list entry and count brought. -/
def updBlock (s : State) (asid : Nat) (b : Bytes) (c r1 r2 : W32) (seed : Option W64) (rowSeen : UAcc) (u : UPass) (j gj : Nat) : UPass :=
  let pe := if jMaster b then 1 else 0
  let rd (e k : Nat) : W32 × List URead := uElem s asid b e k
  let els : List (W32 × W32 × W32 × List URead) := (List.range 32).map (fun i =>
    let p := rd pe (32 * j + i)
    let g := rd 2 (32 * gj + i)
    let m := rd 3 (32 * j + i)
    let v := if jOpt b = 1 then rd 4 (32 * j + i) else (0, [])
    let n := stepElem b c r1 r2 p.1 g.1 m.1 v.1
    (n.1, n.2.1, n.2.2, p.2 ++ g.2 ++ m.2 ++ v.2))
  let seen := (els.flatMap (·.2.2.2)).foldl UAcc.see rowSeen
  let bad := seen.poi
  let ps := els.map (·.1)
  let ms := els.map (·.2.1)
  let vs := els.map (·.2.2.1)
  let inf (x : W32) : Bool := F32.isNan x || (F32.val x).isInf
  let nf := ((ps ++ ms ++ (if jOpt b = 1 then vs else [])).filter inf).length
  let o0 := storeBlock b 0 j ps seed bad
  let o1 := if jMaster b then storeBlock b 1 j ps none bad else ([], 0)
  let o3 := storeBlock b 3 j ms none bad
  let o4 := if jOpt b = 1 then storeBlock b 4 j vs none bad else ([], 0)
  { u with
      ws := u.ws ++ o0.1 ++ o1.1 ++ o3.1 ++ o4.1, sat := u.sat + o0.2 + o1.2 + o3.2 + o4.2, nf := u.nf + nf, blocks := u.blocks + 1,
      poisoned := u.poisoned + (if bad then 1 else 0), firstBad := u.firstBad.orElse (fun _ => if bad then some gj else none),
      flt := u.flt.orElse (fun _ => seen.flt) }

/-- One touched row (R425). -/
def updRow (s : State) (asid : Nat) (b : Bytes) (c : W32) (seed : Option W64) (u : UPass) (k : Nat) : UPass :=
  let r := uBits s asid (jAddr b 5) k 32
  let idx := (BitVec.ofNat 32 r.v).toInt
  if idx < 0 ∨ (fld b 0x18 4 : Int) ≤ idx then { u with oob := u.oob + 1, flt := u.flt.orElse (fun _ => r.flt) }
  else if idx ≤ u.last then { u with order := u.order + 1, flt := u.flt.orElse (fun _ => r.flt) }
  else
    let n := idx.toNat
    let cr := uBits s asid (jAddr b 6) n 32
    let t := Nat.min (2 ^ 32 - 1) (cr.v + 1)
    let seen := UAcc.see (UAcc.see { poi := false, flt := none } r) cr
    let wb := jWidth b / 32
    let bad0 := u.poisoned
    let u := (List.range wb).foldl (fun u i =>
      updBlock s asid b c (biasCorr (jF b 0x24) t) (biasCorr (jF b 0x28) t) seed seen u (n * wb + i) (k * wb + i)) { u with last := idx }
    { u with ws := u.ws ++ uBytes (jAddr b 6 + 4 * n) (natLe 4 t) (decide (bad0 < u.poisoned)) }

/-- Units `lo` to `lo + n` of pass two: rows of the list, or blocks. -/
def updPass (s : State) (asid : Nat) (b : Bytes) (p : UpdPos) (n : Nat) : UPass :=
  let u : UPass := { ws := [], sat := 0, nf := 0, blocks := 0, poisoned := 0, firstBad := none, oob := 0, order := 0, last := p.last, flt := none }
  let units := (List.range n).map (fun i => p.next + i)
  if jTouched b then units.foldl (updRow s asid b p.clip p.seed) u
  else
    let t := fld b 8 4
    let r1 := biasCorr (jF b 0x24) t
    let r2 := biasCorr (jF b 0x28) t
    units.foldl (fun u j => updBlock s asid b p.clip r1 r2 p.seed { poi := false, flt := none } u j j) u

/-! ## The job -/

/-- The seed of rounding mode 1 or 2 (R162): drawn and written to the block in mode 2. -/
def updSeed (s : State) (g : Nat) (j : UpdJob) : State × Option W64 :=
  match jMode j.block with
  | 0 => (s, none)
  | 1 => (s, some (w64 (fld j.block 0x38 8)))
  | _ =>
    let (w, s) := drawWord s g
    (jobWrite s g (uBytes (j.addr + 0x38) (natLe 8 w.toNat) false), some w)

/-- The job ends: its status (`ends`, else that of the task's first record) and its progress, the blocks that pass two has completed (R415, R426). -/
def updEnd (s : State) (g : Nat) (j : UpdJob) (done : Nat) (ends : Option Nat) : State :=
  let s := jobWrite s g (uBytes (j.addr + 0x50) (natLe 8 done) false)
  let st := (ends.orElse (fun _ => (taskOf s g).bind (·.first))).getD St.ok
  let s := jobWrite s g (uBytes (j.addr + 4) (natLe 2 st) false)
  s.updGalx g (fun y => { y with upd := none })

/-- Write the word at `norm_out` (R418, R420). -/
def writeNorm (s : State) (g : Nat) (j : UpdJob) (v : FVal) (bad : Bool) : State :=
  let va := fld j.block 0x48 8
  if va = 0 then s else jobWrite s g (uBytes va (natLe 8 (f64.enc false v)) bad)

/-- Bursts of `n` blocks of the tensors that a job uses (R439): what it reads and what it writes. -/
def jobBursts (b : Bytes) (n : Nat) : Nat :=
  let w (e : Nat) : Nat := if jUses b e then 4 * typeBits (jType b e) else 0
  ceilDiv (n * (2 * w 0 + 2 * w 1 + w 2 + 2 * w 3 + 2 * w 4)) 256

/-- The counters of what pass two has done (R429). -/
def updCount (s : State) (g : Nat) (u : UPass) : State :=
  s.updGalx g (fun y => { y with cnt := { y.cnt with
    updBlocks := satAdd (2 ^ 32 - 1) y.cnt.updBlocks u.blocks, updSat := add16 y.cnt.updSat u.sat, updNf := add16 y.cnt.updNf u.nf,
    updOob := add16 y.cnt.updOob u.oob, updOrder := add16 y.cnt.updOrder u.order, updPoi := add16 y.cnt.updPoi u.poisoned } })

/-- Units until the lowest uncompleted block has advanced by 65,536, or the last. -/
def passUnits (b : Bytes) (next : Nat) : Nat :=
  let done := next * rowBlocks b
  Nat.min (ceilDiv ((done / 65536 + 1) * 65536 - done) (rowBlocks b)) (jobBlocks b / rowBlocks b - next)

/-- Pass two goes on until `progress` is due, or to its end (R421, R426): what it writes, what it counts, its first poisoned block. -/
def passStep (s : State) (g : Nat) (j : UpdJob) (p : UpdPos) : State :=
  let n := passUnits j.block p.next
  let s := blockSnoop s (asidOf s g) j.block (p.next * rowBlocks j.block) (n * rowBlocks j.block)
  let u := updPass s (asidOf s g) j.block p n
  let s := jobWrite (updFault s g (u.flt.map (fun a => (a, false)))) g u.ws
  let s := updCount s g u
  let s := match u.firstBad with
    | some k => if p.poisoned then s else updRecord s g St.poison 1 (some (k % 2 ^ 32)) none
    | none => s
  let next := p.next + n
  if jobBlocks j.block ≤ next * rowBlocks j.block then updEnd s g j (jobBlocks j.block) none
  else
    let s := jobWrite s g (uBytes (j.addr + 0x50) (natLe 8 (progressOf j.block next)) false)
    s.updGalx g (fun y => { y with upd := y.upd.map (fun x => { x with
      pass := some { p with next := next, last := u.last, poisoned := p.poisoned || u.firstBad.isSome } }) })

/-- Pass two asks for its next bursts, and goes on once the regulator has let them go (R439). -/
def passGo (s : State) (g : Nat) : State :=
  match (s.galxAt g).upd with
  | none => s
  | some j =>
    match j.pass with
    | none => s
    | some p =>
      let x := askTokens s g unitUpdate (jobBursts j.block (passUnits j.block p.next * rowBlocks j.block))
      if x.2 then passStep x.1 g j p else x.1

/-- Pass two begins. -/
def runPass (s : State) (g : Nat) (j : UpdJob) (c : W32) : State :=
  let (s, seed) := updSeed s g j
  passGo (s.updGalx g (fun y => { y with upd := y.upd.map (fun x => { x with
    pass := some { clip := c, seed := seed, next := 0, last := -1, poisoned := false } }) })) g

/-- What pass one forms (R418): S of the job's own gradient in phase 1, with the partials in the others, whether an operand was poisoned, and its first fault. -/
def jobNorm (s : State) (asid : Nat) (b : Bytes) : FVal × Bool × Option Nat :=
  let n := if jPhase b = 2 then (.fin false 0 0, { poi := false, flt := none }) else gradNorm s asid b
  let p := if jPhase b = 1 then n else addPartials s asid b n.1
  (p.1, n.2.poi || p.2.poi, n.2.flt.orElse (fun _ => p.2.flt))

/-- NORM_PASS_DONE (R418 to R426): S_T and the clip factor are formed; the job skips, ends, or makes pass two. -/
def normDone (s : State) (g : Nat) (j : UpdJob) : State :=
  let asid := asidOf s g
  let b := j.block
  let s := normSnoop s asid b
  let p := jobNorm s asid b
  let poi := p.2.1
  let s := updFault s g (p.2.2.map (fun a => (a, false)))
  let noSum := jPhase b == 2 && fld b 6 2 == 0
  let s := if noSum then s else writeNorm s g j p.1 poi
  if poi then updEnd (updRecord s g St.poison 1 none none) g j 0 (some St.poison)
  else if jPhase b = 1 then updEnd s g j 0 none
  else if p.1.isNan || p.1.isInf then updEnd (updRecord s g St.updNonfinite 0 none none) g j 0 (some St.updNonfinite)
  else runPass s g j (if noSum then 0x3F800000 else clipFactor (jF b 0x34) p.1)

/-- Bursts that pass one reads (R439). -/
def normBursts (b : Bytes) : Nat :=
  (if jPhase b = 2 then 0 else ceilDiv (jobBlocks b * 4 * typeBits (jType b 2)) 256) + (if jPhase b = 1 then 0 else ceilDiv (8 * fld b 6 2) 256)

/-- The engine goes on: pass one ends, or, where pass two has begun, its next blocks have every write acknowledged (R426). -/
def updGo (s : State) (g : Nat) : State :=
  match (s.galxAt g).upd with
  | none => s
  | some j =>
    if (s.hallAt (hallOf g)).halted.isSome || (s.hallAt (hallOf g)).heldSince.isSome then s
    else if j.pass.isSome then passGo s g
    else
      let x := askTokens s g unitUpdate (normBursts j.block)
      if x.2 then normDone x.1 g j else x.1

/-- NORM_PASS_DONE. -/
def execNormPassDone (g : Gal) (s : State) : Result :=
  .next (awaited s (fun s => if ((s.galxAt g.val).upd.bind (·.pass)).isSome then s else updGo s g.val))

end Sys2Proof.Machine
end

