-- ==== Sys2Proof/Machine/Stream.lean ====
section
/-! DEFINITION. The gallery stream unit (14 R402 to R412), its peers (17 R475 to R478). -/

namespace Sys2Proof.Machine
open Sys2Proof

/-! ## Checks (R409) -/

/-- A checked stream descriptor. -/
structure TCtx where
  op : Nat
  dst : Tensor
  src : Tensor
  sealed : Bool
  deriving DecidableEq, Repr

/-- The checks of R409, in order: status, order number, detail word 1. -/
def strCheck (s : State) (g l : Nat) (d : Bytes) : Except (Nat × Nat × Nat) TCtx :=
  let op := fld d 1 1
  let sf := fld d 0x18 1
  let dw := fld d 0x10 4
  let sw := fld d 0x14 4
  let badF := nbits sf 2 1 != 0 || 32 ≤ sf || !zeros d 0x19 1 || !zeros d 0x1E 34 || 384 < fld d 0x1C 2
  if (op ≠ 1 ∧ op ≠ 2) ∨ headerBad d ∨ nbit (fld d 3 1) 0 ∨ badF ∨ (op = 2 ∧ nbit sf 4) then .error (St.streamOp, 1, 0)
  else
    let dt? := tensorAt s g l dw
    let st? := tensorAt s g l sw
    if dt?.isSome ∧ st?.isSome ∧ dt?.map (·.ty) ≠ st?.map (·.ty) then .error (St.streamType, 2, dw)
    else
      let bad (t : Option Tensor) (far : Bool) : Bool := match t with
        | none => true
        | some t => !Tensor.good s g t || (t.space == 2) != far
      if bad dt? (op == 2) then .error (St.streamShape, 3, dw)
      else if bad st? (op == 1) then .error (St.streamShape, 3, sw)
      else
        let dt := dt?.getD (parseTensor 0 [])
        let st := st?.getD (parseTensor 0 [])
        let sl := nbit sf 4
        if dt.ext ≠ st.ext then .error (St.streamShape, 3, dw)
        else if sl ∧ (s.galAt g).mode ≠ .share then .error (St.shareMode, 4, 0)
        else if Tensor.touchesSeal s g st then .error (St.shareSealed, 5, sw)
        else if (if sl then !Tensor.insideSeal s g dt else Tensor.touchesSeal s g dt) then .error (St.shareSealed, 5, dw)
        else .ok { op := op, dst := dt, src := st, sealed := sl }

/-! ## Planning (R403, R404, R407, R475) -/

/-- The elements that a descriptor moves, and the out-of-bounds accesses that it meets (R363). -/
def strElements (s : State) (g l : Nat) (c : TCtx) : Port1 × List Piece :=
  let far := if c.op = 1 then c.src else c.dst
  let near := if c.op = 1 then c.dst else c.src
  (List.range c.dst.total).foldl (fun (acc : Port1 × List Piece) n =>
    let (p, els) := acc
    let p := { p with pos := n }
    let i := viewAt c.dst.ext n
    let fj := far.toJ i
    let nj := near.toJ i
    let fin := far.inb fj
    let nin := near.inb nj
    let nb := (near.bitAddr nj).toNat
    let fb := (far.bitAddr fj % (2 ^ 63 : Int)).toNat
    if c.op = 1 then
      if !nin then (p.oob near true, els)
      else if !fin then (p.oob far false, els ++ [{ n := n, near := some nb, far := 0, w := 0, v := far.fill }])
      else (p, els ++ [{ n := n, near := some nb, far := fb, w := near.bits, v := 0 }])
    else if !fin then (p.oob far true, els)
    else if !nin then (p.oob near false, els ++ [{ n := n, near := none, far := fb, w := near.bits, v := near.fill }])
    else (p, els ++ [{ n := n, near := some nb, far := fb, w := near.bits, v := 0 }])) (Port1.new s g l, [])

/-- Is a granule the first after a cut (R475): at 4 KiB, and (DESIGN CHOICE, log 77) at each `max_out` bursts within it, so that a message covers no more? -/
def atCut (maxOut gr : Nat) : Bool := gr % 128 % (8 * Nat.min 16 maxOut) == 0

/-- The first granule of the run of touched granules that holds one, from its last cut on. -/
def runStart (maxOut : Nat) (set : Tab Bool) (gr : Nat) : Nat :=
  ((List.range 128).foldl (fun (acc : Nat × Bool) _ =>
    if acc.2 && !atCut maxOut acc.1 && Tab.get false (acc.1 - 1) set then (acc.1 - 1, true) else (acc.1, false)) (gr, true)).1

/-- Length in granules of the run that starts at a granule. -/
def runLen (maxOut : Nat) (set : Tab Bool) (gr : Nat) : Nat :=
  ((List.range 128).foldl (fun (acc : Nat × Bool) k =>
    if acc.2 && Tab.get false (gr + k) set && (k == 0 || !atCut maxOut (gr + k)) then (k + 1, true) else (acc.1, false)) (0, true)).1

/-- Cut a piece at multiples of 256 bytes. -/
def cutPiece (p : Piece) : List Piece :=
  let e := (p.far / 2048 + 1) * 2048 - p.far
  if p.w ≤ e then [p]
  else [{ p with w := e, v := p.v % 2 ^ e }, { n := p.n, near := p.near.map (· + e), far := p.far + e, w := p.w - e, v := p.v >>> e }]

/-- Put a piece into its burst, in iteration order of the bursts. -/
def addPiece (va len : Nat) (slots : List Nat) (p : Piece) : List Burst → List Burst
  | [] => [{ va := va, len := len, els := [p], slots := slots, st := .credit }]
  | b :: r =>
    if b.va = va ∧ b.len = len then { b with els := b.els ++ [p], slots := (b.slots ++ slots).eraseDups } :: r
    else b :: addPiece va len slots p r

/-- Slots of the on-chip side of a piece; a fill's piece has its element's width. -/
def pieceSlots (slotBytes w : Nat) (p : Piece) : List Nat :=
  match p.near with
  | none => []
  | some b => [b / 8 / slotBytes, (b + w - 1) / 8 / slotBytes].eraseDups

/-- The bursts of a descriptor, in iteration order; fills stand in bursts of length 0. -/
def strPlan (bits slotBytes maxOut : Nat) (peer : Bool) (els : List Piece) : List Burst :=
  let pieces := els.flatMap (fun p => if p.w = 0 then [p] else cutPiece p)
  let set : Tab Bool := pieces.foldl (fun t p =>
    if p.w = 0 then t else Tab.put false ((p.far + p.w - 1) / 256) true (Tab.put false (p.far / 256) true t)) []
  pieces.foldl (fun bs p =>
    if p.w = 0 then
      let k := pieceSlots slotBytes bits p
      addPiece (k.getD 0 0) 0 k { p with w := bits } bs
    else if peer then
      let gr := runStart maxOut set (p.far / 256)
      addPiece (32 * gr) (32 * runLen maxOut set gr) (pieceSlots slotBytes p.w p) p bs
    else addPiece (p.far / 2048 * 256) 256 (pieceSlots slotBytes p.w p) p bs) []

/-! ## Records (R410) -/

def strBump (g l : Nat) (s : State) : State := s.updLan g l (fun y => { y with cb := { y.cb with strRec := y.cb.strRec + 1 } })

def strRecord (s : State) (g l st cls d0 d1 : Nat) : State :=
  limited s (s.lanAt g l).cb.strRec (strBump g l) (Rep.ofLan st cls false 6 g l d0 d1)

/-- A record that a descriptor raises once. -/
def strOnce (s : State) (g l st cls d0 d1 : Nat) : State :=
  match (s.lanAt g l).str with
  | none => s
  | some r =>
    if r.once.contains st then s
    else strRecord (s.updLan g l (fun y => { y with str := y.str.map (fun r => { r with once := st :: r.once }) })) g l st cls d0 d1

/-- A once-record whose detail words the spec does not give (log 8). -/
def strOnceFree (s : State) (g l st cls : Nat) : State :=
  let (w, s) := s.freshWords 2
  strOnce s g l st cls (w.getD 0 0).toNat (w.getD 1 0).toNat

/-- A skip (R409, R410). -/
def strSkip (s : State) (g l : Nat) (d : Bytes) (e : Nat × Nat × Nat) : State :=
  let s := s.updLan g l (fun y => { y with cb := { y.cb with strSkips := add16 y.cb.strSkips 1 } })
  flagDone (strRecord s g l e.1 1 (fld d 1 1 + 256 * e.2.1) e.2.2) g l (descFlag d)

/-- Count poisoned granules and raise the first as a Notice (R408, R411). -/
def strPoison (s : State) (g l : Nat) (grs : List Nat) : State :=
  match grs with
  | [] => s
  | gr :: r =>
    let a := r.foldl Nat.min gr * 32
    let s := s.updLan g l (fun y => { y with cb := { y.cb with strPoi := add16 y.cb.strPoi grs.length } })
    strOnce s g l St.poison 0 (a % 2 ^ 32) (nbits a 56 32)

/-- A translation fault of a burst: its accesses counted (R361, R411). -/
def strFault (s : State) (g l : Nat) (b : Burst) (wr : Bool) : State :=
  let s := s.updLan g l (fun y => { y with cb := { y.cb with strXlate := add16 y.cb.strXlate b.els.length } })
  let a := ((b.els.head?).map (fun p => p.far / 8)).getD b.va
  strOnce s g l St.xlate 1 (faultWords a wr).1 (faultWords a wr).2

/-! ## Moving data -/

/-- Change one burst of the running descriptor. -/
def updBurst (s : State) (g l k : Nat) (f : Burst → Burst) : State :=
  s.updLan g l (fun y => { y with str := y.str.map (fun r => { r with
    bursts := (List.range r.bursts.length).filterMap (fun i => (r.bursts[i]?).map (fun b => if i = k then f b else b)) }) })

/-- The on-chip memory of a descriptor. -/
def StrRun.mem (g l : Nat) (r : StrRun) : Space1 := { g := g, l := l, store := r.store }

/-- Write bits on chip. -/
def Port1.putBits (p : Port1) (m : Space1) (b w v : Nat) (bad : Bool) : Port1 :=
  let n := (b % 8 + w + 7) / 8
  let a := b / 8
  let s := p.s.setMem1 m (Tab.puts 0 a (mergeBits (p.s.read1 m a n) (b % 8) w v) (p.s.mem1 m))
  let s := if bad then s.setPoi1 m (Tab.put false ((a + n - 1) / 32) true (Tab.put false (a / 32) true (s.poi1 m))) else s
  ({ p with s := s }).cover (if m.store then 1 else 0) b w bad

/-- Bits of a byte string. -/
def cutBits (v : Bytes) (off w : Nat) : Nat := (fld v (off / 8) ((off % 8 + w + 7) / 8) >>> (off % 8)) % 2 ^ w

/-- Granules of space 2 that a piece touches. -/
def pieceGranules (p : Piece) : List Nat := [p.far / 256, (p.far + p.w - 1) / 256].eraseDups

/-- Burst `k` is done: slots that the descriptor no longer writes turn full (R404). -/
def burstDone (s : State) (g l k : Nat) : State :=
  let s := updBurst s g l k (fun b => { b with st := .done })
  match (s.lanAt g l).str with
  | none => s
  | some r =>
    if r.write then s
    else
      let mine := ((r.bursts[k]?).map (·.slots)).getD []
      let full := mine.filter (fun n => !r.bursts.any (fun b => b.st != .done && b.slots.contains n))
      setSlots s g l (full.map (fun n => { store := r.store, n := n })) true

/-- The bits of an on-chip run, from bit `b`, that later elements of the descriptor have already written: where destination elements share an address, the later in
iteration order wins (R354), whatever the order in which the data lands. -/
def laterBits (r : StrRun) (n b w : Nat) : Nat :=
  r.bursts.foldl (fun m x =>
    if x.st != .done then m
    else x.els.foldl (fun m e => match e.near with
      | none => m
      | some a =>
        if e.n ≤ n ∨ b + w ≤ a ∨ a + e.w ≤ b then m
        else m ||| (if b ≤ a then (2 ^ e.w - 1) <<< (a - b) else (2 ^ e.w - 1) >>> (b - a))) m) 0 % 2 ^ w

/-- Land one piece: its value and whether it is poisoned. -/
def landPiece (r : StrRun) (m : Space1) (p : Port1) (e : Piece) (v : Nat) (bad : Bool) : Port1 :=
  let b := e.near.getD 0
  let late := laterBits r e.n b e.w
  if late = 0 then p.putBits m b e.w v bad
  else if late = 2 ^ e.w - 1 then p
  else
    let old := cutBits (p.s.read1 m (b / 8) ((b % 8 + e.w + 7) / 8)) (b % 8) e.w
    p.putBits m b e.w ((old &&& late) ||| ((v % 2 ^ e.w) &&& (2 ^ e.w - 1 - late))) bad

/-- Land a fetched burst: data and the granules of it that are poisoned (R404, R408). -/
def strLand (s : State) (g l k : Nat) (data : Bytes) (bad : Nat → Bool) : State :=
  match (s.lanAt g l).str with
  | none => s
  | some r =>
    match r.bursts[k]? with
    | none => s
    | some b =>
      let p := b.els.foldl (fun (p : Port1) e =>
        let v := if b.len = 0 then e.v else cutBits data (e.far - 8 * b.va) e.w
        let poi := b.len != 0 && (pieceGranules e).any bad
        landPiece r (r.mem g l) p e v poi) (Port1.new s g l)
      let grs := if b.len = 0 then [] else ((b.els.flatMap pieceGranules).eraseDups).filter bad
      touch (strPoison (burstDone p.settle g l k) g l grs) g

/-- A fetched burst whose data is zeros, all poisoned (R361, R476, R477). -/
def strLandBad (s : State) (g l k : Nat) : State := strLand s g l k [] (fun _ => true)

/-- Read the on-chip side of a piece of a store: value and poison. -/
def pieceRead (s : State) (m : Space1) (p : Piece) : Nat × Bool :=
  match p.near with
  | none => (p.v, false)
  | some b => (cutBits (s.read1 m (b / 8) ((b % 8 + p.w + 7) / 8)) (b % 8) p.w,
      (List.range ((b % 8 + p.w + 7) / 8)).any (fun i => s.poisoned1 m (b / 8 + i)))

/-- The data of a stored burst over old bytes: new bytes, the bits covered and the granules poisoned. -/
def strGather (s : State) (m : Space1) (b : Burst) (old : Bytes) : Bytes × Nat × List Nat :=
  let w := b.els.foldl (fun (acc : Nat × Nat × List Nat) e =>
    let (v, bad) := pieceRead s m e
    let off := e.far - 8 * b.va
    let mask := (2 ^ e.w - 1) <<< off
    (acc.1 - (acc.1 &&& mask) + (v % 2 ^ e.w) <<< off, acc.2.1 ||| mask, if bad then acc.2.2 ++ pieceGranules e else acc.2.2))
    (leNat old, 0, [])
  (natLe b.len w.1, w.2.1, w.2.2.eraseDups)

/-- Write a stored burst to DRAM, granule by granule (R434, R445); a fault drops it (R361). -/
def strWrite (s : State) (g l : Nat) (r : StrRun) (b : Burst) : State :=
  match xlate s r.asid (b.va : Int) true with
  | none => strFault s g l b true
  | some pa =>
    let s := s.snoopRange pa 256
    let (v, cov, bad) := strGather s (r.mem g l) b (s.dramRead pa 256)
    let s := (List.range 8).foldl (fun s k =>
      let c := (cov >>> (256 * k)) % 2 ^ 256
      let p := bad.contains (b.va / 32 + k)
      if c = 0 || s.lostAt pa then s
      else
        let s := s.dramWrite (pa + 32 * k) (slice v (32 * k) 32)
        if p then s.dramSetPoison (pa + 32 * k) 32 true else if c = 2 ^ 256 - 1 then s.dramSetPoison (pa + 32 * k) 32 false else s) s
    strPoison s g l bad

/-! ## Issue (R404 to R406, R439, R475) -/

/-- Bursts of 256 bytes that a burst or message covers (R475). -/
def Burst.units (b : Burst) : Nat := if b.len = 0 then 0 else (b.va + b.len - 1) / 256 - b.va / 256 + 1

/-- Outstanding bursts of a descriptor. -/
def strOut (r : StrRun) : Nat := r.bursts.foldl (fun n b => if b.st = .issued then n + b.units else n) 0

/-- Outstanding stream bursts of a gallery (R406). -/
def galOut (s : State) (g : Nat) : Nat :=
  (s.galAt g).lan.foldl (fun n c => match c.2.str with
    | some r => n + strOut r
    | none => n) 0

/-- The lanterns' share of the 384 bursts: what the taper's requests leave, of which 192 are granted (R234, R406). DESIGN CHOICE (log 79): the taper has as many
outstanding as it needs, up to those 192. -/
def strCap (s : State) (g : Nat) : Nat := 384 - Nat.min 192 (taperNeed s g)

/-- Does the next burst have its credit (R404, R405)? -/
def strCredit (s : State) (g l : Nat) (r : StrRun) (b : Burst) : Bool :=
  b.slots.all (fun n =>
    let full := Slot.isFull s g l { store := r.store, n := n }
    r.seen.contains n || (if r.write then full else r.overwrite || !full))

/-- A message tag that no gallery has outstanding, nor has timed out within 1 ms (R475, R477; device-wide, log 27). -/
def freeTag (s : State) (g : Nat) : W16 :=
  let busy (t : W16) : Bool := s.galx.any (fun c =>
    c.2.txs.any (fun x => x.tag == t) || c.2.streams.any (fun x => x.peer != 0xFFFF && x.tag == t) || c.2.late.any (fun x => x.1 == t && decide (s.clock.now < x.2 + 1000000)))
  let n := s.galx.foldl (fun n c => n + c.2.txs.length + c.2.streams.length + c.2.late.length) 0
  let from_ := (s.galxAt g).nextTag
  (((List.range (n + 1)).map (fun k => from_ + BitVec.ofNat 16 k)).find? (fun t => !busy t)).getD from_

/-- The message of a burst (R473, R475): a put with its data, or a get. The target partition is the task's own (DEDUCED, log 27). -/
def strMsg (s : State) (g : Nat) (r : StrRun) (b : Burst) (tag : W16) (data : Bytes) (pm : Nat) : Msg :=
  let part := BitVec.ofNat 8 (((taskOf s g).map (·.item.sess.part)).getD 0)
  { mtype := if r.write then 1 else 3, hops := 0, dstDev := BitVec.ofNat 16 r.peer, srcDev := BitVec.ofNat 16 (s.devId.getD 0),
    srcGal := BitVec.ofNat 8 g, mflags := if r.write then 1 else 0, tag := tag, status := 0, srcPart := part, dstPart := part,
    length := BitVec.ofNat 16 b.len, addr := w64 b.va, arg := 0, pmap := BitVec.ofNat 128 pm, data := data }

/-- A get's data arrives at its burst (R475, R476). -/
def strGetDone (s : State) (g l k : Nat) (m : Msg) : State :=
  let s := if m.status.toNat = St.fltRefused then strOnceFree s g l St.fltRefused 1 else s
  let base := ((((s.lanAt g l).str.map (fun r => ((r.bursts[k]?).map (·.va)).getD 0))).getD 0) / 32
  strLand s g l k m.data (fun gr => m.mflags.getLsbD 0 && m.pmap.getLsbD (gr - base))

/-- A put is acknowledged (R476). -/
def strPutDone (s : State) (g l k : Nat) (m : Msg) : State :=
  let s := if m.status.toNat = St.fltRefused then strOnceFree s g l St.fltRefused 1 else s
  touch (burstDone s g l k) g

/-- Issue a burst to a peer (R469, R475, R478): this device itself is answered at once; an unreachable one too. -/
def strPeer (s : State) (g l k : Nat) (r : StrRun) (b : Burst) : State :=
  let (hole, s) := s.freshBytes (if r.write then b.len else 0)
  let (data, _, bad) := if r.write then strGather s (r.mem g l) b hole else ([], 0, [])
  let pm := (List.range (b.len / 32)).foldl (fun n i => if bad.contains (b.va / 32 + i) then n + 2 ^ i else n) 0
  let s := strPoison s g l bad
  let tag := freeTag s g
  let m := strMsg s g r b tag data pm
  if s.devId = some r.peer then
    if r.write then (fun (x : State × Msg) => strPutDone x.1 g l k x.2) (agentPut s none m)
    else (fun (x : State × Msg) => strGetDone x.1 g l k x.2) (agentGet s none m)
  else
    let (s, ok) := sendMsg s m none
    if ok then
      s.updGalx g (fun y => { y with
        nextTag := tag + 1,
        txs := y.txs ++ [{ tag := tag, lan := l, burst := k, write := r.write, since := s.clock.now, dev := r.peer }] })
    else
      let s := strOnceFree s g l St.fltUnreachable 1
      if r.write then burstDone s g l k else strLandBad s g l k

/-- Note the slots of a burst as granted or seen; a fetch's new slots turn empty (R404). -/
def strGrant (s : State) (g l : Nat) (r : StrRun) (b : Burst) : State :=
  let new := b.slots.filter (fun n => !r.seen.contains n)
  let s := if r.write then s else setSlots s g l (new.map (fun n => { store := r.store, n := n })) false
  s.updLan g l (fun y => { y with str := y.str.map (fun r => { r with seen := r.seen ++ new }) })

/-- Source slots whose last read has been issued are taken (R405). -/
def strTake (s : State) (g l k : Nat) : State :=
  match (s.lanAt g l).str with
  | none => s
  | some r =>
    if r.write && r.take then
      let mine := ((r.bursts[k]?).map (·.slots)).getD []
      let last := mine.filter (fun n => !r.bursts.any (fun b => (b.st == .credit || b.st == .held || b.st == .waits) && b.slots.contains n))
      setSlots s g l (last.map (fun n => { store := r.store, n := n })) false
    else s

/-- Carry out burst `k`, which has its credit, its place and its tokens. -/
def strGo (s : State) (g l k : Nat) (r : StrRun) (b : Burst) : State :=
  let s := strGrant (headNow (touch s g) g l 4) g l r b
  let s := updBurst s g l k (fun b => { b with st := .issued })
  let s := s.updLan g l (fun y => { y with cb := { y.cb with strBursts := satAdd (2 ^ 32 - 1) y.cb.strBursts b.units } })
  let s :=
    if b.len = 0 then strLand s g l k [] (fun _ => false)
    else if r.peer ≠ 0xFFFF then strPeer s g l k r b
    else
      let s := drawTokens s (hallOf g) (taskPart s g) 1
      if r.write then strWrite s g l r b else s
  strTake s g l k

/-- The next burst of a lantern's descriptor, where it may go or be held back: it has its credit (R404, R405) and fits `max_out` and the lanterns' share (R406). -/
def strNext (s : State) (g l : Nat) : Option (Nat × StrRun × Burst) :=
  match (s.lanAt g l).str with
  | none => none
  | some r =>
    match (List.range r.bursts.length).find? (fun k => ((r.bursts[k]?).map (fun b => b.st == .credit || b.st == .held || b.st == .waits)).getD false) with
    | none => none
    | some k =>
      match r.bursts[k]? with
      | none => none
      | some b =>
        if b.st == .credit && strCredit s g l r b && decide (strOut r + b.units ≤ r.maxOut ∧ galOut s g + b.units ≤ strCap s g) then some (k, r, b) else none

/-- The ranges of DRAM that the issue of a burst touches here: a store's burst, or the granules that a message to this device itself names. -/
def strTouches (s : State) (g : Nat) (r : StrRun) (b : Burst) : List (Nat × Nat) :=
  if b.len = 0 then []
  else if r.peer = 0xFFFF then (if r.write then ((xlate s r.asid (b.va : Int) true).map (fun a => (a, 256))).toList else [])
  else if s.devId = some r.peer then
    (List.range (b.len / 32)).filterMap (fun k => (xlate s (admitAsid s (taskPart s g)) ((b.va + 32 * k : Nat) : Int) r.write).map (fun a => (a, 32)))
  else []

/-- Issue a lantern's next burst. One that must wait for a snoop or a held hall does (R52, R506); one whose bucket is low is held back (R439). -/
def strIssueOne (s : State) (g l : Nat) : State :=
  match strNext s g l with
  | none => s
  | some (k, r, b) =>
    let ts := strTouches s g r b
    if ts.any (fun c => s.lineBusy c.1 c.2) then
      updBurst (awaited s (fun s => ts.foldl (fun s c => s.snoopRange c.1 c.2) s)) g l k (fun b => { b with st := .waits })
    else if b.len ≠ 0 ∧ r.peer = 0xFFFF ∧ bucketOk s (hallOf g) (taskPart s g) = false then
      countHeld (updBurst s g l k (fun b => { b with st := .held })) (taskPart s g)
    else strGo s g l k r b

/-- A descriptor whose bursts are all done ends (R75, R405). -/
def strEnd (s : State) (g l : Nat) : State :=
  match (s.lanAt g l).str with
  | none => s
  | some r =>
    if r.bursts.all (fun b => b.st == .done) then
      touch (flagDone (headNow (s.updLan g l (fun y => { y with str := none })) g l 4) g l r.flag) g
    else s

/-- Turns of the lanterns, one burst each, in ascending order from the one whose turn it is (R406); `n` bounds the bursts that remain. -/
def strRound (s : State) (g : Nat) : Nat → State
  | 0 => s
  | n + 1 =>
    let from_ := (s.galxAt g).strNext
    match ((List.range 64).map (fun i => (from_ + i) % 64)).find? (fun l => (strNext s g l).isSome) with
    | none => s
    | some l => strRound ((strIssueOne s g l).updGalx g (fun y => { y with strNext := (l + 1) % 64 })) g n

/-- Bursts of the descriptors that run. -/
def strLeft (s : State) (g : Nat) : Nat := (s.galAt g).lan.foldl (fun n c => match c.2.str with
  | some r => n + r.bursts.length
  | none => n) 0

/-- The stream unit of a gallery issues as far as credit allows; descriptors that are through end. -/
def strIssue (s : State) (g : Nat) : State := (List.range 64).foldl (fun s l => strEnd s g l) (strRound s g (strLeft s g))

/-- Bursts of a gallery that waited for a snoop or a held hall try again. -/
def strAgain (s : State) (g : Nat) : State :=
  if (s.galAt g).lan.any (fun c => c.2.str.any (fun r => r.bursts.any (fun b => b.st == .waits))) then
    strIssue (s.updGal g (fun y => { y with lan := y.lan.map (fun c => (c.1, { c.2 with
      str := c.2.str.map (fun r => { r with bursts := r.bursts.map (fun b => if b.st = .waits then { b with st := .credit } else b) }) })) })) g
  else s

/-! ## Starting -/

/-- Start the descriptor at the head of a stream queue. -/
def strStart (s : State) (g l : Nat) (test : Nat → Bool) : State :=
  match (s.lanAt g l).qt with
  | [] => s
  | d :: rest =>
    if !test (fld d 1 1) then s
    else
      let s := touch (headNow (s.updLan g l (fun y => { y with qt := rest })) g l 4) g
      match strCheck s g l d with
      | .error e => strSkip s g l d e
      | .ok c =>
        let near := if c.op = 1 then c.dst else c.src
        let peer := fld d 0x1A 2
        let maxOut := if fld d 0x1C 2 = 0 then 384 else fld d 0x1C 2
        let (p, els) := strElements s g l c
        let run : StrRun :=
          { write := c.op == 2, store := near.space == 1, peer := peer, asid := asidOf s g,
            bursts := strPlan near.bits (Tensor.mem g l near).slotBytes maxOut (peer != 0xFFFF) els, maxOut := maxOut, overwrite := nbit (fld d 0x18 1) 3 || c.sealed, seen := [],
            take := nbit (fld d 0x18 1) 0, once := [], flag := descFlag d, op := c.op }
        let s := s.updLan g l (fun y => { y with
          str := some run, cb := { y.cb with strOob := add16 y.cb.strOob (p.oobR + p.oobW) } })
        let s := (oobPos p.ev).foldl (fun s n => strRecord s g l St.oobCounted 0 (c.op + 1024) (n % 2 ^ 32)) s
        strIssue s g
where oobPos (ev : List PortEvent) : List Nat := ev.filterMap (fun e => match e with
  | .oob n => some n
  | .fault _ _ => none
  | .poison _ => none)

/-- FETCH and STORE: the stream unit's turn for a lantern: it starts the next descriptor, or goes on issuing. -/
def strTurn (s : State) (g l : Nat) (test : Nat → Bool) : State :=
  if !enginesRun s g then s
  else
    match (s.lanAt g l).str with
    | none => strStart s g l test
    | some r => if test r.op then strIssue s g else s

/-- FETCH (R404). -/
def execFetch (g : Gal) (l : Lan) (s : State) : Result := .next (awaited s (fun s => strTurn s g.val l.val (fun op => op != 2)))

/-- STORE (R405). -/
def execStore (g : Gal) (l : Lan) (s : State) : Result := .next (awaited s (fun s => strTurn s g.val l.val (fun op => op == 2)))

/-- What a read burst brings from DRAM: its data and the map of its poisoned granules; none on a translation fault (R361). -/
def burstData (s : State) (asid va : Nat) : Option (State × Bytes × Byte) :=
  match xlate s asid (va : Int) false with
  | none => none
  | some pa =>
    let s := s.snoopLines pa 256
    some (s, (s.dget pa 256).1,
      BitVec.ofNat 8 ((List.range 8).foldl (fun n i => if s.lostAt pa || s.dramPoisoned (pa + 32 * i) 32 then n + 2 ^ i else n) 0))

/-- A read burst lands in its gallery (R404). -/
def landBurst (s : State) (b : LandBurst) : State :=
  match (s.lanAt b.gal b.lan).str with
  | none => s
  | some r =>
    match r.bursts[b.burst]? with
    | none => s
    | some x => strIssue (strLand s b.gal b.lan b.burst b.data (fun gr => b.bad.getLsbD (gr - x.va / 32))) b.gal

/-! ## Landings (R59, R61) -/

/-- The halls that traffic from hall `h` still enters on its way to hall `d`: the east-west edge of its row first, then the north-south edge (R15). -/
def hopsFrom (h d : Nat) : List (Nat × LandBuf) :=
  (if h % 2 = d % 2 then [] else [(h / 2 * 2 + d % 2, .ew)]) ++ (if h / 2 = d / 2 then [] else [(d, .ns)])

/-- What a buffer of a landing holds. -/
def Landing.buf (y : Landing) (b : LandBuf) : List LandBurst := match b with
  | .dram ch => Tab.get [] ch y.dram
  | .ew => y.ew
  | .ns => y.ns

/-- Is there room for one more burst: 16 in a DRAM channel's buffer, 64 KiB in an edge's? -/
def Landing.room (y : Landing) (b : LandBuf) : Bool := match b with
  | .dram ch => decide ((Tab.get [] ch y.dram).length < 16)
  | .ew => decide (y.ew.length < 256)
  | .ns => decide (y.ns.length < 256)

/-- Put a burst into a buffer, last. -/
def Landing.push (y : Landing) (b : LandBuf) (x : LandBurst) : Landing := match b with
  | .dram ch => { y with dram := Tab.upd [] ch (· ++ [x]) y.dram }
  | .ew => { y with ew := y.ew ++ [x] }
  | .ns => { y with ns := y.ns ++ [x] }

/-- A burst travels on: to its gallery, or into the buffer of the first held hall on its way; behind a full buffer it stalls, in order (R61). -/
def passBurst (s : State) (hops : List (Nat × LandBuf)) (x : LandBurst) : State :=
  match hops.find? (fun c => hallHeld s c.1) with
  | none => landBurst s x
  | some (h, b) =>
    if (s.hallAt h).land.room b && !(s.hallAt h).land.late.any (fun c => c.1.contains (h, b)) then s.updHall h (fun y => { y with land := y.land.push b x })
    else s.updHall h (fun y => { y with land := { y.land with late := y.land.late ++ [(hops, x)] } })

/-- Does a landing hold a burst already? -/
def inLanding (s : State) (g l k : Nat) : Bool :=
  s.hall.any (fun c => (c.2.land.dram.flatMap (·.2) ++ c.2.land.ew ++ c.2.land.ns ++ c.2.land.late.map (·.2)).any (fun b => b.gal == g && b.lan == l && b.burst == k))

/-- May data still reach a gallery: the device is ready, the hall has not halted, and a task that is no update runs there? -/
def galReach (s : State) (g : Nat) : Bool :=
  decide (s.boot.stage = .ready) && (s.hallAt (hallOf g)).halted.isNone && (match (s.galAt g).task with
    | some t => !t.update
    | none => false)

/-- BURST_LAND (R404, R61): a read burst comes from DRAM. -/
def burstLand (s : State) (g l k : Nat) : State :=
  match (s.lanAt g l).str with
  | none => s
  | some r =>
    match r.bursts[k]? with
    | none => s
    | some b =>
      if !galReach s g || r.write || r.peer != 0xFFFF || b.st != .issued || inLanding s g l k then s
      else
        match burstData s r.asid b.va with
        | none => if hallHeld s (hallOf g) then s else strIssue (strLandBad (strFault s g l b false) g l k) g
        | some (s1, v, bad) =>
          let pa := (xlate s r.asid (b.va : Int) false).getD 0
          let h := stackOf pa / 4
          passBurst s1 ((h, .dram (32 * (stackOf pa % 4) + channelOf pa)) :: hopsFrom h (hallOf g))
            { gal := g, lan := l, burst := k, data := v, bad := bad }

def execBurstLand (g : Gal) (l : Lan) (bno : Nat) (s : State) : Result := .next (awaited s (fun s => burstLand s g.val l.val bno))

/-- A hall that resumes passes on what a buffer of its landings holds, in order. -/
def drainBuf (s : State) (h : Nat) (b : LandBuf) : State :=
  let xs := (s.hallAt h).land.buf b
  let s := s.updHall h (fun y => { y with land := match b with
    | .dram ch => { y.land with dram := Tab.put [] ch [] y.land.dram }
    | .ew => { y.land with ew := [] }
    | .ns => { y.land with ns := [] } })
  xs.foldl (fun s x => passBurst s (hopsFrom h (hallOf x.gal)) x) s

/-- All buffers for bursts of a hall that resumes, then the bursts that stalled behind them. -/
def drainBursts (s : State) (h : Nat) : State :=
  let late := (s.hallAt h).land.late
  let s := s.updHall h (fun y => { y with land := { y.land with late := [] } })
  let s := (List.range 128).foldl (fun s ch => drainBuf s h (.dram ch)) s
  late.foldl (fun s x => passBurst s x.1 x.2) (drainBuf (drainBuf s h .ew) h .ns)

/-- BURST_WRITE_ACK (R405): a stack base die acknowledges a write burst. -/
def burstAck (s : State) (g l k : Nat) : State :=
  match (s.lanAt g l).str with
  | none => s
  | some r =>
    match r.bursts[k]? with
    | none => s
    | some b =>
      if !galRuns s g || !r.write || r.peer != 0xFFFF || b.st != .issued then s
      else strIssue (touch (burstDone s g l k) g) g

/-- The command: where the gallery runs an update job in pass two, no lantern has a transfer (R413), and the write is the engine's: with it
every write of the blocks so far is acknowledged, and the engine goes on (R426; DESIGN CHOICE, log 8). -/
def execBurstWriteAck (g : Gal) (l : Lan) (bno : Nat) (s : State) : Result :=
  .next (awaited s (fun s => if ((s.galxAt g.val).upd.bind (·.pass)).isSome then updGo s g.val else burstAck s g.val l.val bno))

/-- BURST_RELEASE (R439): the bucket has refilled. -/
def burstRelease (s : State) (g l k : Nat) : State :=
  match (s.lanAt g l).str with
  | none => s
  | some r =>
    match r.bursts[k]? with
    | none => s
    | some b =>
      if !galRuns s g || b.st != .held || !bucketOk s (hallOf g) (taskPart s g) then s
      else strIssue (strIssueOne (updBurst s g l k (fun b => { b with st := .credit })) g l) g

/-- The command; an update engine whose next blocks were held back goes on too. -/
def execBurstRelease (g : Gal) (l : Lan) (bno : Nat) (s : State) : Result :=
  .next (awaited s (fun s => if ((s.galxAt g.val).upd.bind (·.pass)).isSome then updGo s g.val else burstRelease s g.val l.val bno))

/-! ## Responses (R475 to R477) -/

/-- The transaction that a response answers: its gallery and itself (R475). -/
def findTx (s : State) (tag : W16) (write : Bool) (dev : Nat) : Option (Nat × Tx) :=
  s.galx.findSome? (fun c => (c.2.txs.find? (fun t => t.tag == tag && t.write == write && t.dev == dev)).map (fun t => (c.1, t)))

/-- A put ack or a get response arrives at its requester (R475, R476). -/
def responseIn (s : State) (f : Option Nat) (m : Msg) (write : Bool) : State :=
  match findTx s m.tag write m.srcDev.toNat with
  | none => lateResponse s f
  | some (g, t) =>
    let s := s.updGalx g (fun y => { y with txs := y.txs.erase t })
    strIssue (if write then strPutDone s g t.lan t.burst m else strGetDone s g t.lan t.burst m) g

/-- MESSAGE_TIMEOUT (R477). In a hold the stages of the hall land nothing (R52): it comes once the hall resumes. -/
def messageTimeout (s : State) (g : Nat) (tag : W16) : State :=
  match (s.galxAt g).txs.find? (fun t => t.tag == tag) with
  | none => s
  | some t =>
    if s.clock.now < t.since + 1000 * s.obj 0xA020 1 ∨ galRuns s g = false then s
    else
      let s := s.updGalx g (fun y => { y with txs := y.txs.erase t, late := y.late ++ [(tag, s.clock.now)] })
      let s := strOnceFree s g t.lan St.fltTimeout 1
      strIssue (if t.write then touch (burstDone s g t.lan t.burst) g else strLandBad s g t.lan t.burst) g

def execMessageTimeout (g : Gal) (tag : BitVec 16) (s : State) : Result := .next (messageTimeout s g.val tag)

/-- A put arrives (R476). -/
def putIn (s : State) (f : Option Nat) (m : Msg) : State := (fun (x : State × Msg) => (sendAny x.1 x.2).1) (agentPut s f m)

/-- A get arrives (R476). -/
def getIn (s : State) (f : Option Nat) (m : Msg) : State := (fun (x : State × Msg) => (sendAny x.1 x.2).1) (agentGet s f m)

end Sys2Proof.Machine
end

