-- ==== Sys2Proof/Machine/Taper.lean ====
section
/-! DEFINITION. Key streams (08 R225 to R247; 17 R479, R480): the directory, seed expansion, the taper's streams, the peer's agent. -/

namespace Sys2Proof.Machine
open Sys2Proof

/-! ## The directory (R231) -/

/-- Binary search of a directory for g (R231): the image's address, or the status that stops the stream. -/
def dirFind (s : State) (asid dir g : Nat) : Nat → Nat → Nat → Except Nat Nat
  | 0, _, _ => .error St.keyNotFound
  | fuel + 1, lo, hi =>
    if hi ≤ lo then .error St.keyNotFound
    else
      let mid := (lo + hi) / 2
      match vread s asid ((dir + 16 * mid : Nat) : Int) 16 with
      | none => .error St.keyImage
      | some (e, poi) =>
        if poi then .error St.keyPoison
        else if fld e 0 4 = g then .ok (fld e 8 8)
        else if fld e 0 4 < g then dirFind s asid dir g fuel (mid + 1) hi else dirFind s asid dir g fuel lo mid

/-- Virtual addresses of the entries that the search reads: one burst each (R439). -/
def dirProbes (s : State) (asid dir g : Nat) : Nat → Nat → Nat → List Nat
  | 0, _, _ => []
  | fuel + 1, lo, hi =>
    if hi ≤ lo then []
    else
      let mid := (lo + hi) / 2
      match vread s asid ((dir + 16 * mid : Nat) : Int) 16 with
      | none => [dir + 16 * mid]
      | some (e, poi) =>
        if poi ∨ fld e 0 4 = g then [dir + 16 * mid]
        else (dir + 16 * mid) :: (if fld e 0 4 < g then dirProbes s asid dir g fuel (mid + 1) hi else dirProbes s asid dir g fuel lo mid)

/-- The search is about to read its entries: lines that the host holds are snooped (R506). -/
def dirSnoop (s : State) (asid : Nat) (probes : List Nat) : State := probes.foldl (fun s (va : Nat) => vsnoop s asid (va : Int) 16 false) s

/-! ## Seed expansion (R232) -/

/-- The words of one block of the output stream. -/
def blockWords (a : List W64) : List Nat := (a.take 21).flatMap (fun x => [x.toNat % 2 ^ 32, x.toNat / 2 ^ 32])

/-- Accept up to `need` values below q: the values, and how many words were read. -/
def takeWords (q : Nat) : List Nat → Nat → List W32 × Nat
  | _, 0 => ([], 0)
  | [], _ + 1 => ([], 0)
  | w :: ws, n + 1 =>
    let v := w % 2 ^ (Nat.log2 q + 1)
    let r := takeWords q ws (if v < q then n else n + 1)
    (if v < q then w32 v :: r.1 else r.1, r.2 + 1)

/-- Values from a sponge, of whose block `used` words are read, until `need` have been accepted; the sponge after them. The fuel bounds the blocks squeezed. -/
def expandLoop (q : Nat) : Nat → List W64 → Nat → Nat → List W32 × List W64 × Nat
  | 0, a, used, _ => ([], a, used)
  | fuel + 1, a, used, need =>
    let r := takeWords q ((blockWords a).drop used) need
    if r.1.length = need then (r.1, a, used + r.2)
    else
      let x := expandLoop q fuel (Crypto.keccakF a) 0 (need - r.1.length)
      (r.1 ++ x.1, x.2)

/-- The sponge of limb i of digit j for Galois element g, before its first word. -/
def seedSponge (seed : Bytes) (j i g : Nat) : List W64 := Crypto.shakeState (seed ++ natLe 1 j ++ natLe 1 i ++ natLe 4 g)

/-- The seed expansion of limb i of digit j for Galois element g: n values below q. -/
def seedExpand (seed : Bytes) (j i g q n : Nat) : List W32 := (expandLoop q (n + 64) (seedSponge seed j i g) 0 n).1

/-! ## The running macro's surroundings -/

def updMac (s : State) (g : Nat) (f : MacroRun → MacroRun) : State := s.updGalx g (fun y => { y with mac := y.mac.map f })

def updCnt (s : State) (g : Nat) (f : GalCnt → GalCnt) : State := s.updGalx g (fun y => { y with cnt := f y.cnt })

/-- Write `status` of the argument block, ignoring tags (R129). -/
def blockStatus (s : State) (g addr st : Nat) : State := s.store1 { g := g, l := 0, store := false } (4 * addr + 2) (natLe 2 st)

/-- A macro ends: its status, its flag, its streams cancelled, the sponge state store cleared (R129, R235). -/
def macroEnds (s : State) (g addr : Nat) (flag : Option Nat) (st : Option Nat) : State :=
  let s := match st with
    | some v => blockStatus s g addr v
    | none => s
  let s := s.updGalx g (fun y => { y with mac := none, late := y.late ++ lateKeys s.clock.now y.streams, streams := [], sponges := [], heldBy := y.heldBy.filter (fun c => !decide (3 ≤ c.1 ∧ c.1 < 8)) })
  touch (flagDone s g 0 flag) g

/-- The bytes of a header that the device owns, but for the layout (R207). -/
def headerWrites (va : Nat) (e : SessEntry) (sid level scale form ncomp flags st : Nat) : UWrites :=
  uBytes va ([0x43, 0x54, 0x48, 0x31] ++ natLe 2 e.paramSet ++ natLe 1 level ++ natLe 1 form ++ natLe 4 scale ++ natLe 2 flags ++ natLe 1 ncomp) false ++
    uBytes (va + 0x10) (natLe 8 e.fp ++ natLe 4 (sid % 2 ^ 18) ++ natLe 2 st) false ++ uBytes (va + 0x1F) [0] false ++
    uBytes (va + 0x38) (List.replicate 8 0) false

/-- Write a destination header (R207). -/
def writeHeader (s : State) (g va level scale form ncomp flags st : Nat) : State :=
  match taskOf s g with
  | none => s
  | some t =>
    let ws := headerWrites va t.item.sess t.item.sid level scale form ncomp flags st
    (uWrite (uSnoop s (asidOf s g) ws) (asidOf s g) ws).1

/-- Count a destination header by the flags it was left with (R217). -/
def countHeader (s : State) (g flags : Nat) : State :=
  updCnt s g (fun c => { c with
    exhausted := satAdd 65535 c.exhausted (if nbit flags 1 then 1 else 0), aborted := satAdd 65535 c.aborted (if nbit flags 2 then 1 else 0),
    poisoned := satAdd 65535 c.poisoned (if nbit flags 0 then 1 else 0) })

/-- Headers of a member with flags and a status (R213, R214). -/
def memberHeaders (s : State) (g flags st : Nat) (m : Member) : State :=
  m.dst.foldl (fun s va => writeHeader s g va m.level m.scale m.form m.ncomp (flags + (if m.poison then 1 else 0)) st) s

/-- Rewrite every participating destination as aborted (R241, R271). -/
def taintAll (s : State) (g st : Nat) (ms : List Member) : State :=
  ms.foldl (fun s m => m.dst.foldl (fun s _ => countHeader s g (4 + (if m.poison then 1 else 0))) (memberHeaders s g 4 st m)) s

/-! ## Stopping a stream (R241 to R243) -/

/-- A record of the taper: unit code 9, at most 16 for a task (R242). -/
def taperRecord (s : State) (g st d0 d1 : Nat) : State :=
  if 16 ≤ (s.galxAt g).cnt.tprRec then s
  else reportTask (updCnt s g (fun c => { c with tprRec := c.tprRec + 1 })) (Rep.ofGal st 1 false 9 g d0 d1)

/-- A stream stops and the macro aborts (R241): position k, field code, the value found or the reason. -/
def stopStream (s : State) (g part fp st k code d1 : Nat) : State :=
  match (s.galxAt g).mac with
  | none => s
  | some m =>
    let s := { s with dram := { s.dram with
      ksets := s.dram.ksets.map (fun y => if y.part = part ∧ y.fp = fp then { y with stopped := y.stopped + 1 } else y) } }
    let s := updCnt s g (fun c => { c with stops := satAdd 65535 c.stops 1 })
    let s := taperRecord s g st (k % 2 ^ 24 + 2 ^ 24 * code) (d1 % 2 ^ 32)
    macroEnds (taintAll s g st m.members) g m.addr m.flag (some st)

/-- Stop an open stream. -/
def stopOpen (s : State) (g : Nat) (t : Stream) (st k code d1 : Nat) : State := stopStream s g t.part t.fp st k code d1

def updStream (s : State) (g k : Nat) (f : Stream → Stream) : State := s.updGalx g (fun y => { y with streams := y.streams.modify k f })

/-! ## Opening (R236, R239) -/

/-- How many consecutive positions from `a` on may be asked of a peer, at most `n`: their pairs are empty and not kept (R238, R479). -/
def freeRun (s : State) (g k : Nat) (m : MacroRun) (p : PSet) (a : Nat) : Nat → Nat
  | 0 => 0
  | n + 1 => if pairFree s g k m p a then 1 + freeRun s g k m p (a + 1) n else 0

/-- The macro releases the pairs of `n` positions from `a` on, which it has used, by emptying their slots (R238). -/
def releasePairs (s : State) (g : Nat) (m : MacroRun) (p : PSet) (a n : Nat) : State :=
  (List.range n).foldl (fun s i =>
    if m.ring.contains ((a + i) % krPairs s) then
      updMac (setSlots s g 0 (pairSlots s m.num (a + i) p.payload) false) g (fun m => { m with ring := m.ring.filter (· != (a + i) % krPairs s) })
    else s) s

/-- A key stream request for the next positions of a peer's stream (R479): at most 8, in its turn (R235), and only positions whose pairs are empty. -/
def askOnce (s : State) (g k : Nat) : State :=
  match (s.galxAt g).streams[k]?, (s.galxAt g).mac, taskPset s g with
  | some t, some r, some p =>
    let n := freeRun s g k r p t.asked (Nat.min 8 (Nat.min (t.at_ t.pos.length) (t.at_ t.pay + krPairs s) - t.asked))
    if t.peer = 0xFFFF ∨ n = 0 ∨ streamTurn s g k = false then s
    else
      let m : Msg :=
        { mtype := 5, hops := 0, dstDev := BitVec.ofNat 16 t.peer, srcDev := BitVec.ofNat 16 (s.devId.getD 0), srcGal := BitVec.ofNat 8 g,
          mflags := 0, tag := t.tag, status := 0, srcPart := BitVec.ofNat 8 t.part, dstPart := BitVec.ofNat 8 t.part,
          length := BitVec.ofNat 16 n, addr := w64 t.fp, arg := w64 (t.galois + 2 ^ 32 * t.level + 2 ^ 40 * t.asked), pmap := 0, data := [] }
      let x := sendAny (releasePairs s g r p t.asked n) m
      if !x.2 then stopOpen s g t St.keyPeer (t.at_ t.pay) 0 0x81
      else updStream x.1 g k (fun y => { y with
        asked := y.asked + n, via := (routeOf s m).getD 36, since := if t.asked = t.at_ t.pay then s.clock.now else y.since })
  | _, _, _ => s

/-- Ask as far as the ring has room. -/
def askAll (s : State) (g k : Nat) : State := (List.range (krPairs s)).foldl (fun s _ => askOnce s g k) s

/-- The stream of g, not yet moving. -/
def newStream (s : State) (g : Nat) (p : PSet) (ks : KSet) (gal level asid image peer : Nat) : Stream :=
  { galois := gal, level := level, fp := ks.fp, part := ks.part, asid := asid, image := image, seeded := ks.seeded,
    pos := streamBlocks p ks.comps level, blocks := ks.comps, hdr := 0, pay := 0, chunk := 0, peer := peer, asked := 0,
    tag := freeTag s g, via := 36, since := s.clock.now }

/-- The taper opens the stream of g at a level for the running macro (R236): of a peer, the session's `key_peer`, by requests (R239); else from local DRAM. -/
def openStream (s : State) (g gal level : Nat) : State :=
  match taskSess s g, taskPset s g with
  | some e, some p =>
    match ksetHeld s e.part e.fp with
    | none => stopStream s g e.part e.fp St.keyNotFound 0 0 0
    | some ks =>
      let s := { s with dram := { s.dram with
        ksets := s.dram.ksets.map (fun y => if y.part = ks.part ∧ y.fp = ks.fp then { y with opened := y.opened + 1 } else y) } }
      let add (s : State) (t : Stream) : State := s.updGalx g (fun y => { y with streams := y.streams ++ [t], nextTag := t.tag + 1 })
      if hwGone s 3 (ksetId ks.part ks.fp) 64 then stopStream s g e.part e.fp St.keyPoison 0 0 0
      else if e.keyPeer ≠ 0xFFFF then
        let k := (s.galxAt g).streams.length
        askAll (add s (newStream s g p ks gal level 0 0 e.keyPeer)) g k
      else
        let asid := asidOf s g
        let probes := dirProbes s asid ks.dirAddr gal (ks.dirCount + 1) 0 ks.dirCount
        let s := dirSnoop s asid probes
        match dirFind s asid ks.dirAddr gal (ks.dirCount + 1) 0 ks.dirCount with
        | .error st => stopStream s g e.part e.fp st 0 0 0
        | .ok image => add s (newStream s g p ks gal level asid image 0xFFFF)
  | _, _ => s

/-- Bursts of the directory search that opening the stream of g costs: none for a peer's stream, or where no search is made. -/
def openBursts (s : State) (g gal : Nat) : Nat :=
  match taskSess s g with
  | none => 0
  | some e =>
    match ksetOf s e.part e.fp with
    | none => 0
    | some ks => if e.keyPeer ≠ 0xFFFF then 0 else (dirProbes s (asidOf s g) ks.dirAddr gal (ks.dirCount + 1) 0 ks.dirCount).length

/-- Open the next stream that the macro needs, while fewer than two are open (R235), once the bursts of its search have gone (R439). -/
def openNext (s : State) (g : Nat) : State :=
  match (s.galxAt g).mac with
  | none => s
  | some m =>
    match m.wanted with
    | [] => s
    | x :: rest =>
      if 2 ≤ (s.galxAt g).streams.length then s
      else
        let y := askTokens s g (unitTaper 2) (openBursts s g x.1)
        if y.2 then openStream (updMac y.1 g (fun m => { m with wanted := rest })) g x.1 x.2 else y.1

/-! ## Headers (R240) -/

/-- The first mismatch of a header: its code and the value found (R240, R242). -/
def headerMismatch (h : Bytes) (p : PSet) (t : Stream) (b : Nat × Nat × Nat × Nat) : Option (Nat × Nat) :=
  if slice h 0 4 ≠ [0x4B, 0x42, 0x48, 0x31] then some (1, fld h 0 4)
  else if fld h 8 8 ≠ t.fp then some (2, fld h 8 4)
  else if fld h 4 4 ≠ t.galois then some (3, fld h 4 4)
  else if fld h 0x10 1 ≠ b.2.2.1 then some (4, fld h 0x10 1)
  else if fld h 0x11 1 ≠ b.2.1 then some (5, fld h 0x11 1)
  else if fld h 0x12 1 ≠ b.1 then some (6, fld h 0x12 1)
  else if fld h 0x13 1 ≠ (if t.seeded then 1 else 2 * b.2.2.2) then some (7, fld h 0x13 1)
  else if fld h 0x14 1 ≠ p.logN ∨ fld h 0x15 1 ≠ p.dnum then some (8, fld h 0x14 2)
  else if !zeros h 0x16 10 then some (9, fld h 0x16 4) else none

/-- A header arrives: checked, or the stream stops (R240, R241). -/
def headerIn (s : State) (g k : Nat) (t : Stream) (p : PSet) (h : Bytes) (poisoned : Bool) : State :=
  match t.pos[t.hdr]? with
  | none => s
  | some b =>
    if poisoned then stopOpen s g t St.keyPoison (t.at_ t.hdr) 0 0
    else match headerMismatch h p t b with
      | some (c, v) => stopOpen s g t St.keyMismatch (t.at_ t.hdr) c v
      | none => touch (updStream s g k (fun y => { y with hdr := y.hdr + 1, since := s.clock.now })) g

/-- May the taper of a gallery work: its macro runs, its hall does (R235, R52)? -/
def taperRuns (s : State) (g : Nat) : Bool := galRuns s g && (s.galxAt g).mac.isSome

/-- Bursts that reading the header of block `n` costs: one for 8 headers that share it (R240). -/
def headerBursts (p : PSet) (t : Stream) (b : Nat × Nat × Nat × Nat) : Nat :=
  match t.hdr with
  | 0 => 1
  | n + 1 => if (t.pos[n]?).map (fun x => blockNo p t.blocks x / 8) = some (blockNo p t.blocks b / 8) then 0 else 1

/-- A directory search that the regulator has held back goes on (R439). -/
def openHeld (s : State) (g : Nat) : State :=
  if taperRuns s g && (s.galxAt g).heldBy.any (fun c => c.1 == unitTaper 2) then openNext s g else s

/-- The next header of stream `k` is read from local DRAM. -/
def headerRead (s : State) (g k : Nat) : State :=
  match (s.galxAt g).streams[k]?, taskPset s g with
  | some t, some p =>
    match t.pos[t.hdr]? with
    | none => s
    | some b =>
      if !taperRuns s g || t.peer != 0xFFFF then s
      else
        let x := askTokens s g (unitTaper k) (headerBursts p t b)
        if !x.2 then x.1
        else
          let va : Int := ((t.image + 32 * blockNo p t.blocks b : Nat) : Int)
          let s := vsnoop x.1 t.asid va 32 false
          match vread s t.asid va 32 with
          | none => stopOpen s g t St.keyImage (t.at_ t.hdr) 0 0
          | some (h, poi) => headerIn s g k t p h poi
  | _, _ => s

/-- BLOCK_HEADER_READ (R240); a directory search that was held back comes first. -/
def blockHeaderRead (s : State) (g k : Nat) : State := headerRead (openHeld s g) g k

/-! ## Payload (R238, R244) -/

/-- The words of a byte string. -/
def wordsOf (b : Bytes) : List W32 := (List.range (b.length / 4)).map (fun i => w32 (fld b (4 * i) 4))

/-- Write payload bytes into a half of a pair, tags held empty; `bad`: granules to be poisoned (R238, R244). -/
def ringWrite (s : State) (g at_ : Nat) (v : Bytes) (bad : List Nat) : State :=
  s.write1 { g := g, l := 0, store := true } ((List.range v.length).map (fun i => (at_ + i, v.getD i 0))) (bad.map (fun k => at_ + 32 * k))

/-- Keep received key words for the macro. -/
def keepWords (s : State) (g : Nat) (t : Stream) (b : Nat × Nat × Nat × Nat) (comp : Nat) (ws : List W32) (poison : Bool) : State :=
  updMac s g (fun m => { m with keys := m.keys ++ [(t.galois, b.2.2.1, b.2.1, 4 * comp + b.1, ws)], keyPoison := m.keyPoison || poison })

/-- The sponge from which the expander goes on for a block: the stream's own of its limb and digit, saved at the end of the part before (R236). DESIGN CHOICE (log 81): one that the full
store has let go is squeezed anew from the seed. -/
def spongeFor (s : State) (g : Nat) (t : Stream) (p : PSet) (seed : Bytes) (b : Nat × Nat × Nat × Nat) : List W64 × Nat :=
  let fresh := seedSponge seed b.2.2.1 b.2.1 t.galois
  if b.1 = 0 then (fresh, 0)
  else
    match (s.galxAt g).sponges.find? (fun x => x.tag == t.tag && x.part + 1 == b.1 && x.digit == b.2.2.1 && x.limb == b.2.1) with
    | some x => (x.words, x.used)
    | none => (expandLoop (p.prime b.2.1) (p.n + 64) fresh 0 (16384 * b.1)).2

/-- Save a sponge in the store of 512 entries (R234). -/
def saveSponge (s : State) (g : Nat) (x : Sponge) : State :=
  s.updGalx g (fun y => { y with
    sponges := (x :: y.sponges.filter (fun z => !(z.tag == x.tag && z.digit == x.digit && z.limb == x.limb))).take 512 })

/-- The half that the expander supplies for a seeded block (R232, R236). -/
def expandHalf (s : State) (g : Nat) (t : Stream) (p : PSet) (at_ : Nat) (b : Nat × Nat × Nat × Nat) : State :=
  let seed := ((ksetHeld s t.part t.fp).map (·.seed)).getD []
  let from_ := spongeFor s g t p seed b
  let r := expandLoop (p.prime b.2.1) (p.n + 64) from_.1 from_.2 (p.payload / 4)
  let s := saveSponge s g { tag := t.tag, part := b.1, digit := b.2.2.1, limb := b.2.1, words := r.2.1, used := r.2.2 }
  keepWords (ringWrite s g (at_ + 65536) (r.1.flatMap (fun w => natLe 4 w.toNat)) []) g t b 1 r.1 false

/-- The wait of every stream that has no request outstanding starts anew (R243). -/
def restartWaits (s : State) (g : Nat) : State :=
  let ts := (s.galxAt g).streams
  (List.range ts.length).foldl (fun s k => match ts[k]? with
    | some t => if streamWaits s g k t then s else updStream s g k (fun y => { y with since := s.clock.now })
    | none => s) s

/-- A stream that has moved every block is closed; the next one opens; streams of peers ask on (R235, R236). -/
def afterBlock (s : State) (g k : Nat) : State :=
  match (s.galxAt g).streams[k]? with
  | none => s
  | some t =>
    let s := if t.pay < t.pos.length then s else openNext (s.updGalx g (fun y => { y with streams := y.streams.eraseIdx k })) g
    askAll (askAll s g 0) g 1

/-- A block's payload, or a chunk of it from byte `off` on, lands (R238). `last`: the block is complete. -/
def payloadIn (s : State) (g k : Nat) (t : Stream) (m : MacroRun) (p : PSet) (b : Nat × Nat × Nat × Nat) (off : Nat) (v : Bytes) (bad : List Nat)
    (last : Bool) : State :=
  let n := t.at_ t.pay
  let base := pairByte s m.num n
  let slots := pairSlots s m.num n p.payload
  let s := if b.2.2.2 = 0 ∧ off = 0 then
      updMac (setSlots s g 0 slots false) g (fun m => { m with ring := m.ring.filter (· != n % krPairs s) })
    else s
  let s := ringWrite s g (base + 65536 * b.2.2.2 + off) v bad
  let s := keepWords s g t b b.2.2.2 (wordsOf v) (!bad.isEmpty)
  if !last then updStream s g k (fun y => { y with chunk := y.chunk + 1, since := s.clock.now })
  else
    let s := restartWaits s g
    let s := if t.seeded then expandHalf s g t p base b else s
    let s := if b.2.2.2 + 1 = t.blocks then
        updCnt (updMac (setSlots s g 0 slots true) g (fun m => { m with ring := n % krPairs s :: m.ring })) g
          (fun c => { c with pairs := satAdd (2 ^ 32 - 1) c.pairs 1 })
      else s
    afterBlock (touch (updStream s g k (fun y => { y with pay := y.pay + 1, chunk := 0, since := s.clock.now })) g) g k

/-- A run of virtual memory, granule by granule: its bytes (zeros where no page grants the read), and the poisoned granules (R244). -/
def vgran (s : State) (asid va n : Nat) : Bytes × List Nat :=
  (List.range (n / 32)).foldl (fun (acc : Bytes × List Nat) k =>
    match xlate s asid ((va + 32 * k : Nat) : Int) false with
    | some pa =>
      let r := s.dget pa 32
      (acc.1 ++ r.1, if r.2 then acc.2 ++ [k] else acc.2)
    | none => (acc.1 ++ List.replicate 32 0, acc.2 ++ [k])) ([], [])

/-- TAPER_PAYLOAD_LAND (R238): a payload read from local DRAM lands in the ring. -/
def taperLand (s : State) (g k : Nat) : State :=
  match (s.galxAt g).streams[k]?, (s.galxAt g).mac, taskPset s g with
  | some t, some m, some p =>
    match t.pos[t.pay]? with
    | none => s
    | some b =>
      if !taperRuns s g || t.peer != 0xFFFF || decide (t.hdr ≤ t.pay) || !streamAsks s g k t then s
      else
        let x := askTokens s g (unitTaper k) (ceilDiv p.payload 256)
        if !x.2 then x.1
        else
          let va := t.image + headerArea p t.blocks + 65536 * blockNo p t.blocks b
          let s := vsnoop x.1 t.asid (va : Int) p.payload false
          let r := vgran s t.asid va p.payload
          payloadIn s g k t m p b 0 r.1 r.2 true
  | _, _, _ => s

/-- Is a stream's flight down (R480)? -/
def viaDown (s : State) (t : Stream) : Bool := t.peer != 0xFFFF && s.devId != some t.peer && !inService s t.via

/-- KEY_STREAM_TIMEOUT (R243, R480): no block for the timeout while a request is outstanding, or the flight of the requests is down. -/
def keyTimeout (s : State) (g k : Nat) : State :=
  match (s.galxAt g).streams[k]? with
  | none => s
  | some t =>
    if !taperRuns s g then s
    else if !streamWaits s g k t then updStream s g k (fun y => { y with since := s.clock.now })
    else if viaDown s t then stopOpen s g t St.keyPeer (t.at_ t.pay) 0 0x82
    else if s.clock.now < t.since + 1000 * s.obj 0x2130 1 then s
    else stopOpen s g t St.keyPeer (t.at_ t.pay) 0 0x80

/-! ## The peer's agent (R479, R480) -/

/-- A response of the agent for a position. -/
def keyAnswer (m : Msg) (mtype st pos chunk : Nat) (data : Bytes) (pm : Nat) : Msg :=
  { respond m mtype st with mflags := if data.isEmpty then 0 else 1, length := BitVec.ofNat 16 data.length, arg := w64 (pos + 2 ^ 24 * chunk),
                            pmap := BitVec.ofNat 128 pm, data := data }

/-- The poison map of a run of granules. -/
def pmapOf (bad : List Nat) (from_ n : Nat) : Nat := (List.range n).foldl (fun acc i => if bad.contains (from_ + i) then acc + 2 ^ i else acc) 0

/-- The messages that answer for one block: header, then payload in chunks; none where a byte has no readable page. -/
def blockMsgs (s : State) (m : Msg) (p : PSet) (comps asid image pos : Nat) (b : Nat × Nat × Nat × Nat) : Option (List Msg) :=
  let ha := image + 32 * blockNo p comps b
  let pa := image + headerArea p comps + 65536 * blockNo p comps b
  if !(List.range (p.payload / 32)).all (fun k => (xlate s asid ((pa + 32 * k : Nat) : Int) false).isSome) then none
  else match vread s asid (ha : Int) 32 with
    | none => none
    | some (h, poi) =>
      let r := vgran s asid pa p.payload
      some (keyAnswer m 6 0 pos 0 h (if poi then 1 else 0) ::
        (List.range (ceilDiv p.payload 4096)).map (fun c => keyAnswer m 7 0 pos c (slice r.1 (4096 * c) (Nat.min 4096 p.payload)) (pmapOf r.2 (128 * c) 128)))

/-- The answer to a request: its messages in order, a refusal last where one ends it. DESIGN CHOICE (log 116): a number of positions that is 0 or above 8 (R479) is
refused with reason 4. -/
def keyAnswers (s : State) (m : Msg) : List Msg :=
  let gal := m.arg.toNat % 2 ^ 32
  let level := nbits m.arg.toNat 39 32
  let first := nbits m.arg.toNat 63 40
  let n := m.length.toNat
  let refusal (code pos : Nat) : Msg := keyAnswer m 8 code (pos % 2 ^ 24) 0 [] 0
  if !admitted s m rightKey then [refusal 1 first]
  else match ksetOf s m.dstPart.toNat m.addr.toNat with
  | none => [refusal 2 first]
  | some ks => match psetOf s ks.ps with
    | none => [refusal 2 first]
    | some p =>
      let blocks := streamBlocks p ks.comps level
      if n = 0 ∨ 8 < n ∨ p.nq ≤ level ∨ blocks.length < ks.comps * (first + n) then [refusal 4 first]
      else
        let asid := admitAsid s m.dstPart.toNat
        match dirFind s asid ks.dirAddr gal (ks.dirCount + 1) 0 ks.dirCount with
        | .error st => [refusal (if st = St.keyImage then 5 else if st = St.keyPoison then 6 else 3) first]
        | .ok image =>
          ((List.range n).foldl (fun (acc : List Msg × Bool) i =>
            if acc.2 then acc
            else
              let ms := (List.range ks.comps).map (fun c => (blocks[ks.comps * (first + i) + c]?).bind (fun b =>
                blockMsgs s m p ks.comps asid image (first + i) b))
              if ms.all (·.isSome) then (acc.1 ++ ms.flatMap (fun x => x.getD []), false)
              else (acc.1 ++ [refusal 5 (first + i)], true)) ([], false)).1

/-- The bursts that a run of virtual memory takes. -/
def burstVas (va n : Nat) : List Nat := (List.range ((va + n + 255) / 256 - va / 256)).map (fun k => 256 * (va / 256 + k))

/-- Virtual addresses of the bursts of the blocks that answers to a request sent (R439, R472). -/
def keyVas (s : State) (m : Msg) (answers : List Msg) : List Nat :=
  let asid := admitAsid s m.dstPart.toNat
  let gal := m.arg.toNat % 2 ^ 32
  match ksetOf s m.dstPart.toNat m.addr.toNat with
  | none => []
  | some ks => match psetOf s ks.ps with
    | none => []
    | some p =>
      match dirFind s asid ks.dirAddr gal (ks.dirCount + 1) 0 ks.dirCount with
      | .error _ => []
      | .ok image =>
        let heads := answers.filter (fun x => x.mtype == 6)
        let blocks := streamBlocks p ks.comps (nbits m.arg.toNat 39 32)
        ((List.range heads.length).filterMap (fun i => blocks[ks.comps * nbits m.arg.toNat 63 40 + i]?)).flatMap (fun b =>
          burstVas (image + 32 * blockNo p ks.comps b) 32 ++
            burstVas (image + headerArea p ks.comps + 65536 * blockNo p ks.comps b) p.payload)

/-- Virtual addresses at which the agent reads for a request: a burst for each directory entry that the search reads, those of the blocks (R472). -/
def keyReads (s : State) (m : Msg) (answers : List Msg) : List Nat :=
  match ksetOf s m.dstPart.toNat m.addr.toNat with
  | none => []
  | some ks =>
    if !admitted s m rightKey then []
    else dirProbes s (admitAsid s m.dstPart.toNat) ks.dirAddr (m.arg.toNat % 2 ^ 32) (ks.dirCount + 1) 0 ks.dirCount ++ keyVas s m answers

/-- Their physical addresses. -/
def keyPas (s : State) (m : Msg) (answers : List Msg) : List Nat :=
  (keyReads s m answers).filterMap (fun (va : Nat) => xlate s (admitAsid s m.dstPart.toNat) (va : Int) false)

/-- What a request costs the target: every page read in the agent's cache, tokens for every burst in the hall of its stack (R472); the host's lines are snooped (R506). -/
def keyCost (s : State) (f : Option Nat) (m : Msg) (answers : List Msg) : State :=
  let pas := keyPas s m answers
  let s := (keyReads s m answers).foldl (fun s va => agentWalk s (dieOf f m) (admitAsid s m.dstPart.toNat) va) s
  let s := if quiet s then s else pas.foldl (fun s a => s.snoopRange (256 * (a / 256)) 256) s
  agentTokens s m.dstPart.toNat pas

/-- A key request arrives: the agent keeps no state of the stream and answers (R479). -/
def keyRequestIn (s : State) (f : Option Nat) (m : Msg) : State :=
  let as := keyAnswers s m
  as.foldl (fun s x => (sendAny s x).1) (keyCost s f m as)

/-! ## Responses at the requester (R479, R480) -/

/-- The stream that a response answers: its gallery, its index, itself. -/
def findStream (s : State) (m : Msg) : Option (Nat × Nat × Stream) :=
  s.galx.findSome? (fun c => ((List.range c.2.streams.length).findSome? (fun k =>
    match c.2.streams[k]? with
    | some t => if t.peer ≠ 0xFFFF ∧ t.tag = m.tag ∧ t.peer = m.srcDev.toNat then some (c.1, k, t) else none
    | none => none)))

/-- A key header arrives (R240, R480). -/
def keyHeaderIn (s : State) (f : Option Nat) (m : Msg) : State :=
  match findStream s m with
  | none => lateResponse s f
  | some (g, k, t) =>
    match taskPset s g with
    | some p => if taperRuns s g then headerIn s g k t p (fitBytes 32 m.data) (m.mflags.getLsbD 0 && m.pmap.getLsbD 0) else s
    | none => s

/-- A key payload arrives (R244, R479): the next chunk of the block whose header has passed. -/
def keyPayloadIn (s : State) (f : Option Nat) (m : Msg) : State :=
  match findStream s m with
  | none => lateResponse s f
  | some (g, k, t) =>
    match t.pos[t.pay]?, (s.galxAt g).mac, taskPset s g with
    | some b, some r, some p =>
      if !taperRuns s g || decide (t.hdr ≤ t.pay) then s
      else
        let bad := (List.range (m.data.length / 32)).filter (fun i => m.mflags.getLsbD 0 && m.pmap.getLsbD i)
        payloadIn s g k t r p b (4096 * t.chunk) m.data bad (decide (p.payload ≤ 4096 * (t.chunk + 1)))
    | _, _, _ => s

/-- A key refusal arrives (R480). -/
def keyRefusalIn (s : State) (f : Option Nat) (m : Msg) : State :=
  match findStream s m with
  | none => lateResponse s f
  | some (g, _, t) => stopOpen s g t St.keyPeer (m.arg.toNat % 2 ^ 24) 0 m.status.toNat

end Sys2Proof.Machine
end

