-- ==== Sys2Proof/Machine/Landing.lean ====
section
/-! DEFINITION. The landings of a hall towards its I/O die (02 R52, R59, R61): messages and lines of the host that reach a held hall, its recovery; what waits for a snoop (18 R506);
messages of the device to itself (17 R469). -/

namespace Sys2Proof.Machine
open Sys2Proof

/-! ## Responses (R474) -/

/-- The gallery that a response is for: of its transaction, or of its key stream. -/
def responseGal (s : State) (m : Msg) : Option Nat :=
  if m.mtype = 2 ∨ m.mtype = 4 then (findTx s m.tag (m.mtype == 2) m.srcDev.toNat).map (·.1) else (findStream s m).map (·.1)

/-- A response is taken by its requester. -/
def takeResponse (s : State) (f : Option Nat) (m : Msg) : State :=
  match m.mtype.toNat with
  | 2 => responseIn s f m true
  | 4 => responseIn s f m false
  | 6 => keyHeaderIn s f m
  | 7 => keyPayloadIn s f m
  | _ => keyRefusalIn s f m

/-- A message is taken by the unit that its type names (R474); one of a reserved type is dropped and counted. -/
def takeAny (s : State) (f : Option Nat) (m : Msg) : State :=
  match m.mtype.toNat with
  | 1 => putIn s f m
  | 3 => getIn s f m
  | 5 => keyRequestIn s f m
  | 9 => signalIn s f m
  | 10 => arriveIn s f m
  | 11 => releaseIn s f m
  | _ => if isResponse m then takeResponse s f m else (match f with
    | some f => countDrop s f
    | none => s)

/-! ## Landings that keep a message back (R52, R59, R61) -/

/-- The halls that a way from an I/O die enters to reach a hall (R14; DEDUCED, log 82: the die's own hall of the row first). -/
def wayIn (die h : Nat) : List Nat := if h % 2 = die then [h] else [2 * (h / 2) + die, h]

/-- The halls of the stacks that the agent touches for a message. -/
def touchedHalls (s : State) (m : Msg) : List Nat :=
  ((match m.mtype.toNat with
    | 1 => (agentPas s m true).getD []
    | 3 => (agentPas s m false).getD []
    | 5 => keyPas s m (keyAnswers s m)
    | _ => []).map (fun a => stackOf a / 4)).eraseDups

/-- The held hall that a message reaches first, if any. -/
def heldOnWay (s : State) (f : Option Nat) (m : Msg) : Option Nat :=
  if !s.hall.any (fun c => c.2.heldSince.isSome) then none
  else if isResponse m then
    (responseGal s m).bind (fun g => (wayIn ((f.map (· / 18)).getD (hallOf g % 2)) (hallOf g)).find? (hallHeld s))
  else ((touchedHalls s m).flatMap (wayIn (dieOf f m))).find? (hallHeld s)

/-- Bytes of what a landing from the I/O die holds. -/
def Landing.ioBytes (y : Landing) : Nat := (y.io.map (fun c => 48 + c.2.data.length)).sum + 64 * y.host.length

/-- The slots of a message have emptied (R464). -/
def freeSlots (s : State) (f : Option Nat) (cs : List (Nat × Bool)) : State :=
  match f with
  | none => s
  | some f => s.updFlight f (fun y => { y with creditDue := y.creditDue ++ cs })

/-- A message waits for snoops at its agent (R506). -/
def park (s : State) (x : StuckMsg) : State := { s with net := { s.net with parked := s.net.parked ++ [x] } }

/-- Does a message wait already that came the same way, on the same channel? Those that follow keep their order (R61). -/
def behind (s : State) (x : StuckMsg) : Bool :=
  s.net.parked.any (fun y => y.flight == x.flight && msgChannel y.msg.mtype.toNat == msgChannel x.msg.mtype.toNat)

/-- A message for this device, which holds slots (R59, R61, R506): the landing of the first held hall on its way keeps it in its buffer of 64 KiB, behind whose end the flight's credit
is withheld; one that touches lines which the host holds waits for the snoops; else it is taken. -/
def landMsg (s : State) (f : Option Nat) (cs : List (Nat × Bool)) (m : Msg) : State :=
  let x : StuckMsg := { flight := f.getD 36, credits := cs, msg := m }
  match heldOnWay s f m with
  | some h =>
    if (s.hallAt h).land.stuck.isEmpty ∧ (s.hallAt h).land.ioBytes + 48 + m.data.length ≤ 65536 then
      freeSlots (s.updHall h (fun z => { z with land := { z.land with io := z.land.io ++ [(f, m)] } })) f cs
    else s.updHall h (fun z => { z with land := { z.land with stuck := z.land.stuck ++ [x] } })
  | none =>
    let t := takeAny s f m
    if behind s x then park s x
    else if dramBusy s t then park (sendSnoops s (toSnoop s t)) x
    else freeSlots t f cs

/-- A message that was kept back tries again. -/
def landAgain (s : State) (x : StuckMsg) : State := landMsg s (if x.flight < 36 then some x.flight else none) x.credits x.msg

/-- The messages that wait for snoops try again, in order. -/
def unpark (s : State) : State := s.net.parked.foldl landAgain { s with net := { s.net with parked := [] } }

/-- A line of the host on its way to DRAM (R52, R59): the landing of the first held hall keeps it; behind a full buffer the port withholds credit, and the line waits with it. -/
def hostLine (s : State) (x : HostAcc) : State :=
  match (wayIn 0 (stackOf x.addr / 4)).find? (hallHeld s) with
  | some h => s.updHall h (fun z => { z with land := { z.land with host := z.land.host ++ [x] } })
  | none => hostLineDo s x

/-! ## Messages of the device to itself (R469) -/

/-- Deliver what waits, in order; `n` bounds the messages. -/
def settleFor : Nat → State → State
  | 0, s => s
  | n + 1, s =>
    match s.net.loop with
    | [] => s
    | m :: rest => settleFor n (landMsg { s with net := { s.net with loop := rest } } none [] m)

/-- Messages that the streams of a device to itself can still cost, at most. -/
def loopBound (s : State) : Nat :=
  s.net.loop.length + 1000000 * (s.galx.map (fun c => c.2.streams.length + ((c.2.mac.map (fun m => m.wanted.length)).getD 0))).sum

/-- The I/O dies deliver every message that the device sends to itself. -/
def settleLoop (s : State) : State := if s.net.loop.isEmpty then s else settleFor (loopBound s) s

/-- They do, and what waited for snoops tries again. -/
def settle (s : State) : State :=
  let s := settleLoop s
  if s.net.parked.isEmpty then s else settleLoop (unpark s)

/-! ## The commands of key streams -/

def execBlockHeaderRead (g : Gal) (k : Fin 2) (s : State) : Result := .next (settle (awaited s (fun s => blockHeaderRead s g.val k.val)))

def execTaperPayloadLand (g : Gal) (k : Fin 2) (s : State) : Result := .next (settle (awaited s (fun s => taperLand s g.val k.val)))

def execKeyStreamTimeout (g : Gal) (k : Fin 2) (s : State) : Result := .next (settle (awaited s (fun s => keyTimeout s g.val k.val)))

/-- KEY_REQUEST (R479). -/
def execKeyRequest (m : Msg) (s : State) : Result := .next (takeMsg s m (fun s m => settle (landMsg s none [] { m with mtype := 5 })))

/-- KEY_HEADER (R479). -/
def execKeyHeader (m : Msg) (s : State) : Result := .next (takeMsg s m (fun s m => settle (landMsg s none [] { m with mtype := 6 })))

/-- KEY_PAYLOAD (R479). -/
def execKeyPayload (m : Msg) (s : State) : Result := .next (takeMsg s m (fun s m => settle (landMsg s none [] { m with mtype := 7 })))

/-- KEY_REFUSAL (R480). -/
def execKeyRefusal (m : Msg) (s : State) : Result := .next (takeMsg s m (fun s m => settle (landMsg s none [] { m with mtype := 8 })))

/-- PUT_ACK (R476). -/
def execPutAck (m : Msg) (s : State) : Result := .next (takeMsg s m (fun s m => landMsg s none [] { m with mtype := 2 }))

/-- GET_RESPONSE (R475). -/
def execGetResponse (m : Msg) (s : State) : Result := .next (takeMsg s m (fun s m => landMsg s none [] { m with mtype := 4 }))

/-- PUT (R476). -/
def execPut (m : Msg) (s : State) : Result := .next (takeMsg s m (fun s m => settle (landMsg s none [] { m with mtype := 1 })))

/-- GET (R476). -/
def execGet (m : Msg) (s : State) : Result := .next (takeMsg s m (fun s m => settle (landMsg s none [] { m with mtype := 3 })))

/-! ## Brown-outs (R52, R53) -/

/-- BROWNOUT_DETECT (R52): the hall's stages hold. -/
def brownoutDetect (s : State) (h : Nat) : State :=
  let y := s.hallAt h
  if s.boot.stage ≠ .off ∧ y.railOn ∧ y.halted.isNone ∧ y.heldSince.isNone then
    s.updHall h (fun y => { y with heldSince := some s.clock.now, holds := satAdd (2 ^ 32 - 1) y.holds 1 })
  else s

def execBrownoutDetect (h : Hall) (s : State) : Result := .next (brownoutDetect s h.val)

/-- What the landing of a resumed hall holds from the I/O die goes on, in order, then what it kept back. -/
def drainMsgs (s : State) (h : Nat) : State :=
  let y := (s.hallAt h).land
  let s := s.updHall h (fun z => { z with land := { z.land with io := [], host := [], stuck := [] } })
  let s := y.io.foldl (fun s c => landMsg s c.1 [] c.2) s
  y.host.foldl hostLine (y.stuck.foldl landAgain s)

/-- Bursts and messages that waited for a snoop or a held hall try again. -/
def tryAgain (s : State) : State := settle ((List.range 64).foldl strAgain s)

/-- The hall resumes with no loss (R53): its landings empty into it, messages that wait to cross it go on (R470). -/
def resume (s : State) (h : Nat) : State :=
  let s := s.updHall h (fun y => { y with heldSince := none })
  let s := tryAgain (drainMsgs (drainBursts s h) h)
  (List.range 36).foldl pump s

/-- BROWNOUT_RECOVER (R53): within 10 µs. -/
def brownoutRecover (s : State) (h : Nat) : State :=
  match (s.hallAt h).heldSince with
  | none => s
  | some t => if s.clock.now ≤ t + 10000 then raiseFree (resume s h) (Rep.ofHall St.hallHold 0 true 21 h 0 0) none none else s

def execBrownoutRecover (h : Hall) (s : State) : Result := .next (brownoutRecover s h.val)

end Sys2Proof.Machine
end

