-- ==== Sys2Proof/Machine/Stack.lean ====
section
/-! DEFINITION. The DRAM stacks (16): errors, lost channels, scrub, wipe, regulators, and the host's window (R452, R453; 18 R490, R505, R506). -/

namespace Sys2Proof.Machine
open Sys2Proof

/-- A fault in the error path (22 R600): the watchdog trips at once and `ST_FAULT_PATH` holds the device. -/
def faultPath (s : State) : State :=
  if s.boot.stage = .held then s
  else
    let (w, s) := s.freshWords 2
    report { s with lamp := { s.lamp with wdTrips := satAdd 255 s.lamp.wdTrips 1 } }
      { Rep.dev St.faultPath 3 true 20 0 0 with d0 := w.getD 0 0, d1 := w.getD 1 0 }

/-- A record of a stack: unit code 14, the stack as index (R589). -/
def Rep.ofStack (st cls k d0 d1 : Nat) : Rep := { Rep.ofHall st cls true 14 (k / 4) d0 d1 with index := k }

/-- Start-up cannot go on: `ST_STARTUP_FATAL` holds the device (R622). -/
def startFatal (s : State) : State :=
  let (w, s) := s.freshWords 2
  report s { Rep.dev St.startupFatal 3 true 17 0 0 with d0 := w.getD 0 0, d1 := w.getD 1 0 }

/-- A channel is lost (R447); all of stack 0's hold part of the lamplighter's private area (R545, R596), and of the gigabyte that a start needs (DEDUCED, log 57: R622). -/
def loseChannel (s : State) (k ch : Nat) : State :=
  if (s.stackAt k).lost.getLsbD ch then s
  else
    let s := s.updStack k (fun y => { y with lost := y.lost ||| w32 (2 ^ ch) })
    let s := (report s (Rep.ofStack St.dramChannelLost 2 k (ch + 65536 * k) 0)).bootFailed St.dramChannelLost
    if k = 0 then (if s.boot.stage = .boot then startFatal s else faultPath s) else s

/-- A granule that cannot be delivered (R446): stored in the poison form, counted and recorded; it names no task. -/
def badGranule (s : State) (a st : Nat) : State :=
  let k := stackOf a
  let s := s.dramSetPoison a 1 true
  let s := s.updStack k (fun y => { y with bad := satAdd (2 ^ 32 - 1) y.bad 1 })
  report s (Rep.ofStack st 0 k (a % 2 ^ 32) (nbits a 40 32 + 65536 * k))

/-- Does an address lie in DRAM, in a channel that is not lost? -/
def dramAlive (s : State) (a : Nat) : Bool := decide (a < dramBytes) && !s.lostAt a

/-- DRAM_UNCORRECTABLE (R446). -/
def execDramUncorrectable (addr : Nat) (s : State) : Result := .next (if s.boot.stage ≠ .off ∧ dramAlive s addr then badGranule s addr St.dramUe else s)

/-- A bond transfer fails its CRC (R444, R446, R447): retried up to 8 times. A channel serves its requests in order (R436), so the failure of
another transfer says that the one before it went through. -/
def bondFail (s : State) (a : Nat) : State :=
  let k := stackOf a
  let ch := channelOf a
  let prev : Nat × Nat := Tab.get (0, 0) ch (s.stackAt k).retries
  let n := if prev.1 = a / 64 then prev.2 + 1 else 1
  if n ≤ 8 then s.updStack k (fun y => { y with retries := Tab.put (0, 0) ch (a / 64, n) y.retries })
  else
    let recent := (Tab.get [] ch (s.stackAt k).fails).filter (fun t => decide (s.clock.now < t + 1000000)) ++ [s.clock.now]
    let s := s.updStack k (fun y => { y with retries := Tab.put (0, 0) ch (0, 0) y.retries, fails := Tab.put [] ch recent y.fails })
    let s := badGranule s a St.dramLink
    if 16 ≤ recent.length then loseChannel s k ch else s

/-- BOND_CRC_FAIL. -/
def execBondCrcFail (addr : Nat) (s : State) : Result := .next (if s.boot.stage ≠ .off ∧ dramAlive s addr then bondFail s addr else s)

/-- A corrected error of a row; at 8 the row moves to a spare of its bank (R448). -/
def scrubRow (s : State) (a : Nat) : State :=
  let k := stackOf a
  let bank := 80 * channelOf a + bankOf a
  let row := 16384 * bank + rowOf a
  let s := s.updStack k (fun y => { y with corrected := satAdd (2 ^ 32 - 1) y.corrected 1, rows := Tab.upd 0 row (· + 1) y.rows })
  let y := s.stackAt k
  if 8 ≤ Tab.get 0 row y.rows ∧ Tab.get 0 bank y.bankSpare < 32 then
    reportFree (s.updStack k (fun y => { y with
      rows := Tab.put 0 row 0 y.rows, bankSpare := Tab.upd 0 bank (· + 1) y.bankSpare, spare := y.spare + 1 }))
      (Rep.ofStack St.dramRowRepaired 0 k 0 0)
  else s

/-- DRAM_SCRUB (R448). -/
def execDramScrub (addr : Nat) (found : Scrub) (s : State) : Result :=
  .next (if s.boot.stage ≠ .off ∧ dramAlive s addr then
    (match found with
     | .clean => s
     | .corrected => scrubRow s addr
     | .uncorrectable => badGranule s addr St.dramUe) else s)

/-- DRAM_WIPE_DONE (R450): every byte 0, every poison mark cleared; lost channels are not written. -/
def wipeDone (s : State) : State :=
  if s.boot.wiping then { s with boot := { s.boot with wiping := false }, dram := { s.dram with
    mem := Tab.keep (fun a => s.lostAt a) s.dram.mem, poi := Tab.keep (fun k => s.lostAt (32 * k)) s.dram.poi } } else s

def execDramWipeDone (s : State) : Result := .next (wipeDone s)

/-- REGULATOR_WRITE (R440): the rate 0x6180, or the depth 0x6181, of a partition. -/
def execRegulatorWrite (q : Req) (depth : Bool) (p : Part) (v : Bytes) (s : State) : Result :=
  .next (
    let i := if depth then 0x6181 else 0x6180
    reqWrite s q i (p.val + 1) v (some p.val) (fun s w => keepValue i (p.val + 1) v (settleTokens s p.val) w))

/-! ## The host's window on DRAM -/

/-- May a window of `n` GiB stand at a base (R452)? -/
def windowOk (base n : Nat) : Bool :=
  n == 0 || (decide (base + n * 1073741824 ≤ dramBytes) && (List.range n).all (fun k => (base / 1073741824 + k) % 80 != 79))

/-- A new base or size of the window, in force from the next decoder commit. -/
def hdmApply (sub : Nat) (v : Bytes) (s : State) (w : Who) : Applied :=
  let base := if sub = 1 then leNat v else s.obj 0xC100 1
  let n := if sub = 2 then leNat v else s.obj 0xC100 2
  if base % 1073741824 ≠ 0 ∨ 256 < n then .error St.planRefused
  else if windowOk base n then keepValue 0xC100 sub v s w else .error St.hdmRange

/-- HDM_WINDOW_WRITE. -/
def execHdmWindowWrite (q : Req) (sub : Nat) (v : Bytes) (s : State) : Result :=
  .next (reqWrite s q 0xC100 sub v none (hdmApply sub v))

/-- The physical address behind an offset of the committed window. -/
def windowPa (s : State) (off : Nat) : Option Nat :=
  if s.cxl.dec1.committed ∧ off + 64 ≤ s.cxl.dec1.size then some (s.cxl.hdmBase + off) else none

/-- Lines that containment mode holds until IDE has verified their flits (R510) are written. -/
def releaseHeld (s : State) : State :=
  s.cxl.ideHeld.foldl (fun s c => hostLine s { addr := c.1, hold := false, line := some (c.2.1, c.2.2) }) { s with cxl := { s.cxl with ideHeld := [] } }

/-- HOST_WINDOW_READ (R453, R506, R616): zeros before ready; an offset that no committed decoder maps does not exist for the host. `hold`:
the host keeps the line in its cache. The flits of a read that is served, and with them those before it, are verified. -/
def execHostWindowRead (off : Nat) (hold : Bool) (s : State) : Result :=
  if cxlUp s = false then .next s
  else if s.boot.stage = .ready ∨ s.boot.stage = .held then
    match windowPa s off with
    | none => .fault .noSuchAddress
    | some a => .next (hostLine (releaseHeld s) { addr := a, hold := hold, line := none })
  else .next (s.emit (.line (List.replicate 64 0) false))

/-- HOST_WINDOW_WRITE (R453, R510, R601, R616): completed and dropped before ready and in the held state; in IDE's containment mode a line whose flits are not yet
verified is held, and one that is verified follows those held before it (DESIGN CHOICE, log 99). -/
def execHostWindowWrite (off : Nat) (v : HostLine) (poison : Bool) (s : State) : Result :=
  if s.boot.stage = .ready ∧ cxlUp s = true then
    match windowPa s off with
    | none => .fault .noSuchAddress
    | some a =>
      .next (if s.cxl.ideMem = some .containment ∧ v.checked = false
        then { s with cxl := { s.cxl with ideHeld := s.cxl.ideHeld ++ [(a, fitBytes 64 v.bytes, poison)] } }
        else hostLine (releaseHeld s) { addr := a, hold := false, line := some (fitBytes 64 v.bytes, poison) })
  else .next s

end Sys2Proof.Machine
end

