-- ==== Sys2Proof/Machine/Cxl.lean ====
section
/-! DEFINITION. The CXL port (18): decoders, snoops, the status window, link events, TSP, the mailbox's CXL commands, DOE (R487 to R513). -/

namespace Sys2Proof.Machine
open Sys2Proof

/-! ## Decoders (R490, R505) -/

/-- The least power of two at or above a number. -/
def pow2Up (n : Nat) : Nat := if n ≤ 1 then 1 else 2 ^ (Nat.log2 (n - 1) + 1)

/-- Does a commit fail? Decoder 0 decodes its 256 MiB and nothing else; decoder 1 at most the window (R505). -/
def commitFails (s : State) (dec base size : Nat) : Bool :=
  if dec = 0 then size != 0x10000000 || base % 0x10000000 != 0
  else
    let w := s.obj 0xC100 2 * 1073741824
    decide (w < size) || base % pow2Up w != 0

/-- DECODER_COMMIT (R505): a commit that fails leaves the decoder uncommitted. The window's base comes into force (R452). -/
def decoderCommit (s : State) (dec base size : Nat) : State :=
  let d : Decoder := { base := base, size := size, committed := !commitFails s dec base size }
  if dec = 0 then { s with cxl := { s.cxl with dec0 := d } }
  else { s with cxl := { s.cxl with dec1 := d, hdmBase := s.obj 0xC100 1, hdmSize := s.obj 0xC100 2 * 1073741824 } }

def execDecoderCommit (dec : Fin 2) (base size : Nat) (s : State) : Result :=
  .next (if cxlUp s then decoderCommit s dec.val base size else s)

/-! ## Snoops (R493, R506, R507) -/

/-- Snoops end: the census window of the tasks that waited starts anew (R87), and what waited goes on (R506, R507, log 12). `waits`: the galleries whose tasks did. -/
def releaseWaits (s : State) (waits : List Nat) : State := tryAgain (waits.foldl touch s)

/-- Galleries whose tasks wait for a snoop (R507). -/
def waitsSnoop (s : State) : List Nat := (List.range 64).filter (snoopWaits s)

/-- BI_SNOOP_RESPONSE: the access that waited goes on; a line of the status window shows its updates (R493). -/
def execBiSnoopResponse (line : Nat) (s : State) : Result :=
  .next (releaseWaits { s with cxl := { s.cxl with
    snoops := s.cxl.snoops.filter (fun c => c.1 != line), winOld := Tab.put none line none s.cxl.winOld } } (waitsSnoop s))

/-- BI_TIMEOUT (R507): 1 ms without a response, recorded once for the line. -/
def biTimeout (s : State) (line : Nat) : State :=
  if s.cxl.snoops.any (fun c => c.1 == line && !c.2.2 && decide (c.2.1 + 1000000 ≤ s.clock.now)) then
    raiseFree { s with cxl := { s.cxl with snoops := s.cxl.snoops.map (fun c => if c.1 = line then (c.1, c.2.1, true) else c) } }
      (Rep.dev St.cxlBiTimeout 1 false 16 0 0) none none
  else s

def execBiTimeout (line : Nat) (s : State) : Result := .next (biTimeout s line)

/-! ## The status window (R490 to R493) -/

/-- STATUS_WINDOW_READ: the line of an offset in decoder 0's range; beyond the window's 64 KiB it reads 0. A line whose update waits for a snoop reads as it was (R493). `hold`: the host keeps
the line. -/
def execStatusWindowRead (off : Nat) (hold : Bool) (s : State) : Result :=
  if cxlUp s = false then .next s
  else if s.cxl.dec0.committed = false ∨ s.cxl.dec0.size ≤ off then .fault .noSuchAddress
  else
    let k := off / 64
    if 1024 ≤ k then .next (s.emit (.line (List.replicate 64 0) false))
    else
      let s := if hold && !s.cxl.winHeld.contains k then { s with cxl := { s.cxl with winHeld := s.cxl.winHeld ++ [k] } } else s
      .next (s.emit (.line ((Tab.get none k s.cxl.winOld).getD (windowLine s k)) false))

/-! ## Port events (R510, R512) -/

/-- Sessions of the mailbox end. -/
def endMailbox (s : State) : State :=
  { s with hal := { s.hal with
      sess := s.hal.sess.filter (fun c => match c.2 with
        | some y => y.port == .field
        | none => true)
      openings := s.hal.openings.filter (fun o => o.port == .field),
      waitFrames := s.hal.waitFrames.filter (fun c => c.1.port == .field) } }

/-- Ring reads stop, enabled rings are disabled, the filter is cleared, what waits for a snoop is released (R507, R512); host lines that IDE has not verified are dropped (R510). -/
def portDown (s : State) : State :=
  { s with cxl := { s.cxl with
      rings := s.cxl.rings.map (fun c => (c.1, if c.2.enable then { c.2 with enable := false, st := 0, err := St.cxlLinkDown } else c.2)),
      filter := [], winHeld := [], winOld := [], snoops := [], ideHeld := [] } }

/-- Decoders, IDE keys and mailbox sessions are reset, and with the port's configuration its PTM. -/
def portReset (s : State) : State :=
  endMailbox { s with hal := { s.hal with ptm := false }, cxl := { s.cxl with dec0 := Decoder.zero, dec1 := Decoder.zero, hdmBase := 0, hdmSize := 0, ideIo := false, ideMem := none } }

/-- The link is down, with its record. -/
def linkDown (s : State) : State :=
  let s := releaseWaits (portDown { s with cxl := { s.cxl with up := false } }) (waitsSnoop s)
  raiseFree s (Rep.dev St.cxlLinkDown 1 true 16 0 0) none none

/-- LINK_DOWN (R512). -/
def execLinkDown (s : State) : Result := .next (if s.boot.stage ≠ .off ∧ s.cxl.up then linkDown s else s)

/-- HOT_RESET (R512): no record; nothing of the halls. -/
def execHotReset (s : State) : Result := .next (if s.boot.stage ≠ .off ∧ s.cxl.up then portReset (releaseWaits (portDown s) (waitsSnoop s)) else s)

/-- Does IDE protect a stream of the port? -/
def ideOn (s : State) : Bool := s.cxl.ideIo || s.cxl.ideMem.isSome

/-- IDE_FAILURE (R510, log 99) on a protected stream: `ST_CXL_IDE`, then as a link-down. In skid mode the failing stream's writes before the detection are applied already;
in containment mode those that are still held are dropped. -/
def execIdeFailure (s : State) : Result :=
  .next (if s.boot.stage ≠ .off ∧ s.cxl.up ∧ ideOn s then linkDown (raiseFree s (Rep.dev St.cxlIde 1 true 16 0 0) none none) else s)

/-- CXL_LINK_UP (R488, R512): what a link-down kept is gone when the link returns; `cxl` false: alternate-protocol negotiation failed. -/
def execCxlLinkUp (cxl : Bool) (s : State) : Result :=
  .next (if s.boot.stage = .off ∨ s.cxl.up then s
    else (fun s => { s with cxl := { s.cxl with up := true, cxl := cxl } }) (portReset s))

/-! ## TSP (R511) -/

/-- Is the partition bound by another guest's session? -/
def boundElsewhere (s : State) (sess p : Nat) : Bool :=
  match Tab.get none p s.cxl.tsp with
  | some k => k != sess
  | none => false

/-- TSP_BIND: the guest whose Haldub session is `sess` binds and locks the partitions of `mask`; those that it held before and does not name
are its no longer. It comes over a secured session (R508). -/
def tspBind (s : State) (mask : W64) (sess : Nat) : State :=
  let named := (List.range 64).filter (fun p => mask.getLsbD p)
  if named.any (boundElsewhere s sess) then s.emit (.doe 0x7F [])
  else
    let mine := s.cxl.tsp.filter (fun c => c.2 != some sess)
    ({ s with cxl := { s.cxl with tsp := named.foldl (fun t (p : Nat) => Tab.put none p (some sess) t) mine } }).emit (.doe 5 [])

/-- Are the mailbox and the DOE mailboxes ready (R601, R615)? -/
def mbxReady (s : State) : Bool := decide (s.boot.stage = .ready) && s.cxl.up

/-- Is some secured session of SPDM open (R567)? -/
def secured (s : State) : Bool := s.cxl.spdmSess.any (·.2)

def execTspBind (mask : BitVec 64) (sess : Nat) (s : State) : Result := .next (if mbxReady s && secured s then tspBind s mask sess else s)

/-! ## CXL mailbox commands (R509) -/

/-- PRESUMED (log 20). CXL return codes Invalid Input and Invalid Payload Length; Success is 0. -/
def mbxInvalid : Nat := 2
def mbxLength : Nat := 0x16

/-- A mailbox command runs: ready, and no background operation (R509). -/
def mailboxDo (s : State) (f : State → State) : State :=
  if !mbxReady s then s else if s.dram.translating.isSome then s.emit (.mailbox mbxBusy []) else f s

/-- The records of an event log. -/
def eventRecs (s : State) (l : EventLog) : List Bytes := match l with
  | .failure => s.cxl.failLog
  | .fatal => s.cxl.fatalLog

/-- GET_EVENT_RECORDS: the error records that the log's events carry (log 22). -/
def execGetEventRecords (log : EventLog) (s : State) : Result := .next (mailboxDo s (fun s => s.emit (.event log (eventRecs s log).flatten)))

/-- CLEAR_EVENT_RECORDS: the `n` oldest leave the log. -/
def clearEvents (s : State) (l : EventLog) (n : Nat) : State :=
  if (eventRecs s l).length < n then s.emit (.mailbox mbxInvalid [])
  else
    match l with
    | .failure => ({ s with cxl := { s.cxl with failLog := s.cxl.failLog.drop n, failLost := if n = 0 then s.cxl.failLost else 0 } }).emit (.mailbox 0 [])
    | .fatal => ({ s with cxl := { s.cxl with fatalLog := s.cxl.fatalLog.drop n, fatalLost := if n = 0 then s.cxl.fatalLost else 0 } }).emit (.mailbox 0 [])

def execClearEventRecords (log : EventLog) (n : Nat) (s : State) : Result := .next (mailboxDo s (fun s => clearEvents s log n))

/-- GET_SUPPORTED_LOGS: the command effects log (log 118). -/
def execGetSupportedLogs (s : State) : Result := .next (mailboxDo s (fun s => s.emit (.mailbox 0 (Config.standardBytes 0x0400))))

/-- GET_LOG (log 118). -/
def execGetLog (s : State) : Result := .next (mailboxDo s (fun s => s.emit (.mailbox 0 (Config.standardBytes 0x0401))))

/-- IDENTIFY_MEMORY_DEVICE (log 118). -/
def execIdentifyMemoryDevice (s : State) : Result := .next (mailboxDo s (fun s => s.emit (.mailbox 0 (Config.standardBytes 0x4000))))

/-! ## DOE (R508) -/

/-- DOE_DISCOVERY: the protocols of R508 by the model's numbers: 0 discovery, 1 CMA/SPDM, 2 secured CMA/SPDM, 3 Table Access (log 22). -/
def execDoeDiscovery (s : State) : Result := .next (if mbxReady s then s.emit (.doe 0 [0, 1, 2, 3]) else s)

/-- CDAT_TABLE_ACCESS (log 118). -/
def execCdatTableAccess (s : State) : Result := .next (if mbxReady s then s.emit (.doe 3 (Config.standardBytes 0xCDA7)) else s)

/-- Keys of a stream are programmed or stopped. -/
def setIde (s : State) (k : IdeKeys) : State := match k.stream with
  | .io => { s with cxl := { s.cxl with ideIo := k.on } }
  | .cachemem m => { s with cxl := { s.cxl with ideMem := if k.on then some m else none } }

/-- IDE_KM (R510): keys are programmed, or stopped, over a secured session only. -/
def execIdeKm (sess : Nat) (keys : IdeKeys) (s : State) : Result :=
  .next (
    if !mbxReady s then s
    else if s.cxl.spdmSess.contains (sess, true) then (setIde s keys).emit (.doe 4 []) else s.emit (.doe 0x7F []))

end Sys2Proof.Machine
end

