-- ==== Sys2Proof/Machine/MacroCheck.lean ====
section
/-! DEFINITION. The start of a Cipher call: arguments (09 R251 to R257), members, headers and headroom (07 R207 to R217). -/

namespace Sys2Proof.Machine
open Sys2Proof

/-! ## Arguments (R251 to R255) -/

/-- Does the operation use src1 (R251)? -/
def macTwo (num : Nat) : Bool := [1, 2, 3, 4, 5, 7].contains num
/-- Is src1 a plaintext (R257)? -/
def macPlain (num : Nat) : Bool := num == 3 || num == 4
/-- Does it switch keys by a source's own relinearisation first (R261)? -/
def macSwitches (num : Nat) : Bool := [7, 0xB, 0xC, 0xD, 0xE, 0xF].contains num

/-- Bits of `param0` that the operation uses. -/
def macP0 (num : Nat) : Nat :=
  if num = 0xA ∨ num = 0x10 then 0xFF else if num = 0xB ∨ num = 0xC ∨ num = 0xF then 2 ^ 32 - 1 else if num = 0xD then 2 ^ 64 - 1 else 0
/-- Bits of `param1` that it uses (R252, R253, R258). -/
def macP1 (num : Nat) : Nat := 0xFF * 2 ^ 56 + (if num = 0xD then 0xFF else if num = 0x10 then 1 else 0)

def blkDst0 (b : Bytes) : Nat := fld b 8 8
def blkSrc0 (b : Bytes) : Nat := fld b 0x18 8
def blkSrc1 (b : Bytes) : Nat := fld b 0x20 8
def blkP0 (b : Bytes) : Nat := fld b 0x30 8
def blkP1 (b : Bytes) : Nat := fld b 0x38 8

/-- B (R252). -/
def macB (b : Bytes) : Nat := Nat.max 1 (nbits (blkP1 b) 63 56)
/-- R (R253); 1 but for `hrotate`. -/
def macR (num : Nat) (b : Bytes) : Nat := if num = 0xD then blkP1 b % 256 else 1

/-- Checked arguments: lists of header addresses and of Galois elements. -/
structure MacArgs where
  dst : List Nat
  src0 : List Nat
  src1 : List Nat
  gals : List Nat
  deriving DecidableEq, Repr

/-- Read a list of `n` numbers of `w` bytes; the index of its first failing entry otherwise (R255 reason 4). -/
def readList (s : State) (asid va n w : Nat) : Except Nat (List Nat) :=
  if va % 8 ≠ 0 then .error 0
  else
    let es := (List.range n).map (fun i => vread s asid ((va + w * i : Nat) : Int) w)
    match (List.range n).find? (fun i => (match es[i]? with
      | some (some (_, false)) => false
      | _ => true)) with
    | some i => .error i
    | none => .ok (es.map (fun e => (e.map (fun x => leNat x.1)).getD 0))

/-- An operand: the header itself, or a list of headers (R252, R253). -/
def operandList (s : State) (asid va n : Nat) : Except Nat (List Nat) := if n = 1 then .ok [va] else readList s asid va n 8

/-- Bytes that the work area needs for a gallery (R254). -/
def workNeed (p : PSet) (b : Nat) : Nat := b * (2 * p.dnum + 8) * (p.nq + p.np) * 4 * p.n

/-- The Galois elements that the call names: of `kswitch` and `rotate` param0, of `hrotate` its list. -/
def macGals (s : State) (asid num : Nat) (b : Bytes) : Except Nat (List Nat) :=
  if num = 0xB ∨ num = 0xC then .ok [blkP0 b % 2 ^ 32]
  else if num = 0xD then readList s asid (blkP0 b) (macR num b) 4 else .ok []

/-- The argument checks in the order of R255: the reason and detail word 1, or the lists. -/
def macArgs (s : State) (g num : Nat) (b : Bytes) (p : Option PSet) : Except (Nat × Nat) MacArgs :=
  let asid := asidOf s g
  let bn := macB b
  let rn := macR num b
  let zero (v : Nat) (used : Bool) : Bool := (v == 0) == used
  let bits := fld b 0 2 != 0 || fld b 4 4 != 0 || blkP0 b &&& macP0 num != blkP0 b || blkP1 b &&& macP1 num != blkP1 b
  let wa := s.objBytes 0x6150 (((taskSess s g).map (·.part)).getD 0 + 1)
  if bits then .error (1, 0)
  else if 64 < bn ∨ 256 < bn * rn then .error (2, 0)
  else if zero (blkDst0 b) true || zero (fld b 0x10 8) false || zero (blkSrc0 b) true || zero (blkSrc1 b) (macTwo num) || zero (fld b 0x28 8) false then
    .error (3, 0)
  else
    match operandList s asid (blkDst0 b) (bn * rn), operandList s asid (blkSrc0 b) bn,
        (if macTwo num then operandList s asid (blkSrc1 b) bn else .ok []), macGals s asid num b with
    | .error i, _, _, _ => .error (4, i)
    | _, .error i, _, _ => .error (4, i)
    | _, _, .error i, _ => .error (4, i)
    | _, _, _, .error i => .error (4, i)
    | .ok d, .ok s0, .ok s1, .ok gs =>
      match gs.findIdx? (fun x => decide (x % 2 = 0 ∨ x = 1 ∨ 2 * ((p.map PSet.n).getD 0) ≤ x)) with
      | some i => .error (5, i)
      | none =>
        if num = 0xD ∧ (rn = 0 ∨ 16 < rn) then .error (6, 0)
        else match p with
          | none => .error (7, 0)
          | some ps => if fld wa 8 8 < workNeed ps bn then .error (7, 0) else .ok { dst := d, src0 := s0, src1 := s1, gals := gs }

/-- A record of R255 or R260: unit code 11, at most 16 for a task (R273). -/
def macRecord (s : State) (g st cls d0 d1 : Nat) : State :=
  if 16 ≤ (s.galxAt g).cnt.macRec then s
  else reportTask (updCnt s g (fun c => { c with macRec := c.macRec + 1 })) (Rep.ofGal st cls false 11 g d0 d1)

/-! ## Headers (R207, R208) -/

def hLevel (h : Bytes) : Nat := fld h 6 1
def hForm (h : Bytes) : Nat := fld h 7 1 % 2
def hScale (h : Bytes) : Nat := fld h 8 4
def hFlags (h : Bytes) : Nat := fld h 0xC 2
def hComp (h : Bytes) : Nat := fld h 0xE 1
def hCapLimbs (h : Bytes) : Nat := fld h 0xF 1
def hCapComp (h : Bytes) : Nat := fld h 0x1E 1
/-- Address of limb i of polynomial c (R208). -/
def hLimb (h : Bytes) (c i : Nat) : Nat := fld h 0x20 8 + c * fld h 0x28 8 + i * fld h 0x30 8

/-- Allocated limbs as address ranges. -/
def hRanges (h : Bytes) (n : Nat) : List (Nat × Nat) :=
  (List.range (hCapComp h)).flatMap (fun c => (List.range (hCapLimbs h)).map (fun i => (hLimb h c i, hLimb h c i + 4 * n)))

/-- The header and its allocated limbs. -/
def hAll (va : Nat) (h : Bytes) (n : Nat) : List (Nat × Nat) := (va, va + 128) :: hRanges h n

def rangesMeet (a b : List (Nat × Nat)) : Bool := a.any (fun x => b.any (fun y => decide (x.1 < y.2 ∧ y.1 < x.2)))

/-- No two of the ranges overlap. -/
def rangesApart : List (Nat × Nat) → Bool
  | [] => true
  | x :: r => !rangesMeet [x] r && rangesApart r

/-- Layout fields (R207, R208). -/
def layoutOk (h : Bytes) (n : Nat) (plain : Bool) : Bool :=
  decide (1 ≤ hCapLimbs h ∧ hCapLimbs h ≤ 64) && (if plain then hCapComp h == 1 else hCapComp h == 2 || hCapComp h == 3) &&
    fld h 0x20 8 % 256 == 0 && fld h 0x28 8 % 256 == 0 && fld h 0x30 8 % 256 == 0 && rangesApart (hRanges h n)

/-- Does the task's space grant every byte of a range, in steps of 32 bytes? -/
def granted (s : State) (asid va n : Nat) (wr : Bool) : Bool :=
  (List.range ((va + n + 31) / 32 - va / 32)).all (fun k => (xlate s asid ((32 * (va / 32 + k) : Nat) : Int) wr).isSome)

/-- A destination header: none where it is unmapped, misaligned or poisoned. -/
def dstHeader (s : State) (asid va : Nat) : Option Bytes :=
  if va % 128 ≠ 0 ∨ granted s asid va 128 true = false then none
  else
    let gs := (List.range 4).map (fun k => (xlate s asid ((va + 32 * k : Nat) : Int) true).map (fun pa => s.dget pa 32))
    if gs.any (fun x => (x.map (·.2)).getD true) then none else some (gs.flatMap (fun x => (x.map (·.1)).getD []))

/-- A source header. -/
def srcHeader (s : State) (asid va : Nat) : Option Bytes :=
  if va % 128 ≠ 0 then none
  else match vread s asid (va : Int) 128 with
    | some (h, false) => some h
    | _ => none

/-- Check 1 of R212. -/
def dstOk (s : State) (asid n : Nat) (h : Option Bytes) : Bool :=
  match h with
  | none => false
  | some h => layoutOk h n false && (hRanges h n).all (fun r => granted s asid r.1 (4 * n) true)

/-- Check 2 of R212, R257. -/
def srcOk (s : State) (plain : Bool) (h : Option Bytes) : Bool :=
  match h with
  | none => false
  | some h =>
    match psetOf s (fld h 4 2) with
    | none => false
    | some p =>
      slice h 0 4 == (if plain then [0x50, 0x54, 0x48, 0x31] else [0x43, 0x54, 0x48, 0x31]) && fld h 7 1 / 2 == 0 && hFlags h / 8 == 0 &&
        fld h 0x18 4 / 2 ^ 18 == 0 && fld h 0x1F 1 == 0 && zeros h 0x38 8 && decide (hLevel h < p.nq) &&
        (if plain then hComp h == 1 else hComp h == 2 || hComp h == 3) && layoutOk h p.n plain

/-- Check 3 of R212. -/
def srcMine (it : Item) (plain : Bool) (h : Bytes) : Bool :=
  fld h 4 2 == it.sess.paramSet && (plain || fld h 0x10 8 == it.sess.fp) && fld h 0x18 4 % 2 ^ 18 == it.sid

/-! ## Level and scale (R209 to R211, R251, R261, R266) -/

/-- The result's level, scale and polynomials, and the intermediate states as (level, scale). -/
structure MacPlan where
  level : Int
  scale : Int
  ncomp : Nat
  mids : List (Int × Int)
  deriving DecidableEq, Repr

/-- lq at a level that may be negative. -/
def PSet.lqI (p : PSet) (l : Int) : Int := if l < 0 then 0 else (p.lq l.toNat : Int)

/-- R251's ℓ′, s′ and `ncomp`. -/
def macPlan (p : PSet) (num p0 : Nat) (h0 h1 : Bytes) : MacPlan :=
  let l0 : Int := (hLevel h0 : Nat)
  let l1 : Int := (hLevel h1 : Nat)
  let s0 : Int := (hScale h0 : Nat)
  let s1 : Int := (hScale h1 : Nat)
  let lm : Int := if macTwo num then min l0 l1 else l0
  let n0 := hComp h0
  let n1 := hComp h1
  let t : Int := ((p0 % 256 : Nat) : Int)
  let mk (l sc : Int) (n : Nat) (mids : List (Int × Int)) : MacPlan := { level := l, scale := sc, ncomp := n, mids := mids }
  let re (n : Nat) (l sc : Int) : List (Int × Int) := if n = 3 then [(l, sc)] else []
  match num with
  | 1 | 2 => mk lm s0 (Nat.max n0 n1) []
  | 3 => mk lm s0 n0 []
  | 4 => mk lm (s0 + s1) n0 []
  | 5 => mk lm (s0 + s1) (n0 + n1 - 1) []
  | 6 => mk l0 s0 2 []
  | 7 => mk (lm - 1) (s0 + s1 - p.lqI lm) 2 (re n0 l0 s0 ++ re n1 l1 s1 ++ [(lm, s0 + s1)])
  | 8 => mk (l0 - 1) (s0 - p.lqI l0) n0 []
  | 9 => mk (l0 - 2) (s0 - p.lqI l0 - p.lqI (l0 - 1)) n0 []
  | 0xA => mk (min t l0) s0 n0 []
  | 0xF =>
    let l : Int := (p.nq : Int) - 12
    let sc : Int := ((p0 % 2 ^ 32 : Nat) : Int)
    mk l (if sc = 0 then p.lqI l else sc) 2 (re n0 l0 s0 ++ [(0, s0 + 2048)])
  | 0x10 => mk (min t l0) s0 n0 []
  | 0x11 => mk l0 s0 n0 []
  | _ => mk l0 s0 2 (re n0 l0 s0)

/-- Headroom (R210). -/
def headroom (p : PSet) (l sc : Int) : Int := (p.LQ l.toNat : Int) - sc - p.margin

/-- Checks 7 and 8 of R212: the status and what detail word 1 holds. -/
def planFails (p : PSet) (m : MacPlan) : Option (Nat × Int) :=
  let states := (m.level, m.scale) :: m.mids
  match states.find? (fun x => decide (x.1 < 0)) with
  | some x => some (St.levelExhausted, x.1)
  | none =>
    match states.find? (fun x => decide (x.2 < 0 ∨ 2 ^ 32 ≤ x.2) || decide (headroom p x.1 x.2 < 0)) with
    | some x => some (St.scaleHeadroom, headroom p x.1 x.2)
    | none => none

/-- The form of the result (R258). -/
def macForm (num p1 : Nat) (h0 : Bytes) : Nat :=
  if num = 1 ∨ num = 2 ∨ num = 3 ∨ num = 0xA then hForm h0 else if num = 0x11 ∨ (num = 0x10 ∧ p1 % 2 = 1) then 0 else 1

/-! ## Members (R212, R217, R256) -/

/-- Why a member fails: status, the member index and the operand code of detail word 0, detail word 1. -/
structure CtFail where
  st : Nat
  idx : Nat
  opnd : Nat
  d1 : Int
  deriving DecidableEq, Repr

/-- One member's headers as they were copied. -/
structure Heads where
  dst : List Nat
  dh : List (Option Bytes)
  sh : List (Option Bytes)
  deriving DecidableEq, Repr

def getHeads (s : State) (g num bn b : Nat) (a : MacArgs) (rn : Nat) : Heads :=
  let asid := asidOf s g
  let dst := (List.range rn).map (fun r => a.dst.getD (r * bn + b) 0)
  let src := a.src0.getD b 0 :: (if macTwo num then [a.src1.getD b 0] else [])
  { dst := dst, dh := dst.map (dstHeader s asid), sh := src.map (srcHeader s asid) }

/-- The checks of R212 in order; `earlier`: destinations of earlier members. -/
def ctCheck (s : State) (g num bn b : Nat) (it : Item) (p : PSet) (a : MacArgs) (block : Bytes) (x : Heads) (earlier : List (Nat × Nat)) :
    Except CtFail Member :=
  let asid := asidOf s g
  let plain (k : Nat) : Bool := macPlain num && k == 1
  let dl := x.dh.length
  let sl := x.sh.length
  let h (k : Nat) : Bytes := ((x.sh[k]?).getD none).getD []
  let d (k : Nat) : Bytes := ((x.dh[k]?).getD none).getD []
  let fail (st idx opnd : Nat) (d1 : Int) : Except CtFail Member := .error { st := st, idx := idx, opnd := opnd, d1 := d1 }
  let srcs := (List.range sl).flatMap (fun k => hAll ((if k = 0 then a.src0 else a.src1).getD b 0) (h k) p.n)
  let dsts (k : Nat) : List (Nat × Nat) := hAll (x.dst.getD k 0) (d k) p.n
  match (List.range dl).find? (fun k => !dstOk s asid p.n ((x.dh[k]?).getD none)) with
  | some k => fail St.ctHeader (k * bn + b) 0 0
  | none =>
    match (List.range sl).find? (fun k => !srcOk s (plain k) ((x.sh[k]?).getD none)) with
    | some k => fail St.ctHeader b (2 + k) 0
    | none =>
      match (List.range sl).find? (fun k => !srcMine it (plain k) (h k)) with
      | some k => fail St.ctSession b (2 + k) 0
      | none =>
        match (List.range dl).find? (fun k => rangesMeet (dsts k) srcs || rangesMeet (dsts k) earlier) with
        | some k => fail St.ctAlias (k * bn + b) 0 0
        | none =>
          match (List.range sl).find? (fun k => nbit (hFlags (h k)) 2) with
          | some k => fail St.ctSrcAborted b (2 + k) 0
          | none =>
            match (List.range sl).find? (fun k => nbit (hFlags (h k)) 1) with
            | some k => fail St.ctSrcExhausted b (2 + k) 0
            | none =>
              let m := macPlan p num (blkP0 block) (h 0) (if sl = 2 then h 1 else h 0)
              match planFails p m with
              | some (st, v) => fail st b 2 v
              | none =>
                match (List.range dl).find? (fun k => decide ((hCapLimbs (d k) : Int) < m.level + 1 ∨ hCapComp (d k) < m.ncomp)) with
                | some k => fail St.ctRoom (k * bn + b) 0 0
                | none =>
                  .ok { idx := b, dst := x.dst, dstHdr := (List.range dl).map d, srcHdr := (List.range sl).map h,
                        poison := (List.range sl).any (fun k => nbit (hFlags (h k)) 0), level := m.level.toNat, scale := m.scale.toNat,
                        form := macForm num (blkP1 block) (h 0), ncomp := m.ncomp }

/-- The record of a failing member, at most 16 for a task (R217). -/
def ctRecord (s : State) (g num : Nat) (f : CtFail) : State :=
  if 16 ≤ (s.galxAt g).cnt.ctRec then s
  else reportTask (updCnt s g (fun c => { c with ctRec := c.ctRec + 1 }))
    (Rep.ofGal f.st 1 false 11 g (65536 * num + 256 * (f.idx % 256) + f.opnd) (f.d1 % 2 ^ 32).toNat)

/-- A member that fails (R212, R213): its writable destinations take the flags and the status; form and `ncomp` are not stated (log 8). -/
def failMember (s : State) (g num : Nat) (x : Heads) (f : CtFail) : State :=
  let flag := if f.st = St.ctSrcExhausted ∨ f.st = St.levelExhausted ∨ f.st = St.scaleHeadroom then 2 else 4
  let bad := x.sh.any (fun h => (h.map (fun b => nbit (hFlags b) 0)).getD false)
  let flags := flag + (if bad then 1 else 0)
  let (lv, sc) := match x.sh.head? with
    | some (some h) => (hLevel h, hScale h)
    | _ => (0, 0)
  let s := (List.range x.dst.length).foldl (fun s (k : Nat) =>
    if ((x.dh[k]?).getD none).isNone then s
    else
      let (w, s) := s.freshWords 2
      countHeader (writeHeader s g (x.dst.getD k 0) lv sc ((w.getD 0 0).toNat % 2) ((w.getD 1 0).toNat % 256) flags f.st) g flags) s
  ctRecord s g num f

/-- Every member in order (R256): those that take part, and the first failing status. Every header is copied before any check (R212). -/
def checkMembers (s : State) (g num : Nat) (it : Item) (p : PSet) (a : MacArgs) (block : Bytes) : State × List Member × Option Nat :=
  let bn := macB block
  let heads := (List.range bn).map (fun b => getHeads s g num bn b a (macR num block))
  let r := (List.range bn).foldl (fun (acc : State × List Member × Option Nat × List (Nat × Nat)) b =>
    let (s, ms, st, earlier) := acc
    let x := heads.getD b { dst := [], dh := [], sh := [] }
    let mine := (List.range x.dst.length).flatMap (fun k => match (x.dh[k]?).getD none with
      | some h => hAll (x.dst.getD k 0) h p.n
      | none => [])
    match ctCheck s g num bn b it p a block x earlier with
    | .error f => (failMember s g num x f, ms, st.orElse (fun _ => some f.st), earlier ++ mine)
    | .ok m => (s, ms ++ [m], st, earlier ++ mine)) (s, [], none, [])
  (r.1, r.2.1, r.2.2.1)

end Sys2Proof.Machine
end

