-- ==== Sys2Proof/Machine/MacroMath.lean ====
section
/-! DEFINITION. The arithmetic of Cipher calls (06 R191, R195; 09 R258 to R263, R272): limbs, transforms, conversion, key switches, rescales. -/

namespace Sys2Proof.Machine
open Sys2Proof

/-- A polynomial: its limbs, each N residues. -/
abbrev Poly := List (List Nat)

/-! ## Transforms and conversion -/

/-- The evaluation representation of a limb (R191). -/
def evalLimb (q psi n : Nat) (a : List Nat) : List Nat :=
  (List.range n).map (fun j => ((List.range n).map (fun i => a.getD i 0 * Crypto.powMod psi ((2 * j + 1) * i) q)).sum % q)

/-- The inverse (R191); ψ has order 2N. -/
def coefLimb (q psi n : Nat) (a : List Nat) : List Nat :=
  let inv := Crypto.powMod psi (2 * n - 1) q
  let ninv := Crypto.invMod n q
  (List.range n).map (fun i => ninv * (((List.range n).map (fun j => a.getD j 0 * Crypto.powMod inv ((2 * j + 1) * i) q)).sum % q) % q)

/-- Bring limb `i` from one representation to another (0 coefficient, 1 evaluation), as canonical residues. -/
def PSet.limbTo (p : PSet) (i from_ to_ : Nat) (a : List Nat) : List Nat :=
  let q := p.prime i
  let a := a.map (· % q)
  if from_ = to_ then a else if to_ = 1 then evalLimb q (p.psi i) p.n a else coefLimb q (p.psi i) p.n a

/-- A polynomial over limbs 0 to ℓ, from one representation to another. -/
def PSet.polyTo (p : PSet) (from_ to_ : Nat) (x : Poly) : Poly := (List.range x.length).map (fun i => p.limbTo i from_ to_ (x.getD i []))

/-- Basis conversion of coefficient limbs, given with their prime, to a prime (R195). -/
def convLimbs (src : List (Nat × List Nat)) (n q : Nat) : List Nat :=
  let hat (k : Nat) (m : Nat) : Nat := (List.range src.length).foldl (fun acc i => if i = k then acc else acc * (src.getD i (1, [])).1 % m) (1 % m)
  (List.range n).map (fun c => ((List.range src.length).map (fun i =>
    let x := src.getD i (1, [])
    (x.2.getD c 0 * Crypto.invMod (hat i x.1) x.1 % x.1) * hat i q)).sum % q)

/-- The product of primes modulo another. -/
def prodMod (ps : List Nat) (q : Nat) : Nat := ps.foldl (fun acc x => acc * x % q) (1 % q)

/-- Pointwise operation of two limbs modulo a prime; an absent value is 0. -/
def limbOp (q n : Nat) (f : Nat → Nat → Nat) (a b : List Nat) : List Nat := (List.range n).map (fun c => f (a.getD c 0) (b.getD c 0) % q)

/-- Limb by limb over limbs 0 to ℓ. -/
def PSet.polyOp (p : PSet) (l : Nat) (f : Nat → Nat → Nat → Nat) (a b : Poly) : Poly :=
  (List.range (l + 1)).map (fun i => limbOp (p.prime i) p.n (f (p.prime i)) (a.getD i []) (b.getD i []))

def addQ (q a b : Nat) : Nat := a % q + b % q
def subQ (q a b : Nat) : Nat := a % q + (q - b % q)
def mulQ (q a b : Nat) : Nat := (a % q) * (b % q)

/-! ## Key switching (R262) -/

/-- The received key words (R227): of g, digit j, limb i, component. -/
def keyLimb (keys : List (Nat × Nat × Nat × Nat × List W32)) (p : PSet) (g j i comp : Nat) : List Nat :=
  (List.range p.parts).flatMap (fun part => ((keys.filter (fun k => k.1 == g && k.2.1 == j && k.2.2.1 == i && k.2.2.2.1 == 4 * comp + part)).flatMap
    (fun k => k.2.2.2.2.map (·.toNat))).take (p.payload / 4))

/-- Limbs of digit j at level ℓ (R226). -/
def PSet.digitLimbs (p : PSet) (j l : Nat) : List Nat := (List.range (l + 1)).filter (fun i => decide (j * p.alpha ≤ i ∧ i < (j + 1) * p.alpha))

/-- ModUp of a polynomial in coefficient representation: for each digit its limbs over Q_ℓ and P, in evaluation representation, in the order
of `PSet.active`. -/
def modUp (p : PSet) (l : Nat) (x : Poly) : List Poly :=
  (List.range (p.digits l)).map (fun j =>
    let own := p.digitLimbs j l
    let src := own.map (fun i => (p.prime i, x.getD i []))
    (p.active l).map (fun i => p.limbTo i 0 1 (if own.contains i then x.getD i [] else convLimbs src p.n (p.prime i))))

/-- Inner product with the key of g: component `comp`, over Q_ℓ and P. -/
def innerKey (p : PSet) (keys : List (Nat × Nat × Nat × Nat × List W32)) (g l comp : Nat) (ds : List Poly) : Poly :=
  (List.range (p.active l).length).map (fun k =>
    let i := (p.active l).getD k 0
    let q := p.prime i
    (List.range ds.length).foldl (fun acc j =>
      limbOp q p.n (fun a b => a + b) acc (limbOp q p.n (fun a b => a * b) ((ds.getD j []).getD k []) (keyLimb keys p g j i comp)))
      (List.replicate p.n 0))

/-- ModDown to limbs 0 to ℓ, or to ℓ - 1 with q_ℓ in the divisor (R262). -/
def modDown (p : PSet) (l : Nat) (fused : Bool) (u : Poly) : Poly :=
  let pi := (List.range p.np).map (fun k => (p.nq + k, l + 1 + k)) ++ (if fused then [(l, l)] else [])
  let src := pi.map (fun c => (p.prime c.1, p.limbTo c.1 1 0 (u.getD c.2 [])))
  (List.range (if fused then l else l + 1)).map (fun i =>
    let q := p.prime i
    let inv := Crypto.invMod (prodMod (src.map (·.1)) q) q
    limbOp q p.n (fun a b => subQ q a b * inv) (u.getD i []) (p.limbTo i 0 1 (convLimbs src p.n q)))

/-- The two polynomials of a key switch of raised digits with the key of g. -/
def switchDigits (p : PSet) (keys : List (Nat × Nat × Nat × Nat × List W32)) (g l : Nat) (ds : List Poly) : List Poly :=
  [modDown p l false (innerKey p keys g l 0 ds), modDown p l false (innerKey p keys g l 1 ds)]

/-- A key switch of a polynomial in evaluation representation (R262). -/
def keySwitch (p : PSet) (keys : List (Nat × Nat × Nat × Nat × List W32)) (g l : Nat) (x : Poly) : List Poly :=
  switchDigits p keys g l (modUp p l (p.polyTo 1 0 x))

/-- X → X^g on a limb in evaluation representation (R263). -/
def autoLimb (n g : Nat) (a : List Nat) : List Nat := (List.range n).map (fun j => a.getD (((g * (2 * j + 1)) % (2 * n) - 1) / 2) 0)

def autoPoly (n g : Nat) (x : Poly) : Poly := x.map (autoLimb n g)

/-- Relinearise (R261): three polynomials to two; two stay. -/
def relin (p : PSet) (keys : List (Nat × Nat × Nat × Nat × List W32)) (l : Nat) (ct : List Poly) : List Poly :=
  if ct.length = 3 then
    let y := keySwitch p keys 0 l (ct.getD 2 [])
    [p.polyOp l addQ (ct.getD 0 []) (y.getD 0 []), p.polyOp l addQ (ct.getD 1 []) (y.getD 1 [])]
  else ct

/-- Add a switched polynomial pair to c_0 (R227). -/
def withSwitched (p : PSet) (l : Nat) (c0 : Poly) (y : List Poly) : List Poly := [p.polyOp l addQ c0 (y.getD 0 []), y.getD 1 []]

/-- Rotation or conjugation by g, key switch after the automorphism (DEDUCED, log 15). -/
def rotateCt (p : PSet) (keys : List (Nat × Nat × Nat × Nat × List W32)) (g l : Nat) (ct : List Poly) : List Poly :=
  withSwitched p l (autoPoly p.n g (ct.getD 0 [])) (keySwitch p keys g l (autoPoly p.n g (ct.getD 1 [])))

/-- Hoisted rotation: one ModUp, the automorphism on the raised digits (DEDUCED, log 15). -/
def hoistCt (p : PSet) (keys : List (Nat × Nat × Nat × Nat × List W32)) (l : Nat) (ct : List Poly) (gs : List Nat) : List (List Poly) :=
  let ds := modUp p l (p.polyTo 1 0 (ct.getD 1 []))
  gs.map (fun g => withSwitched p l (autoPoly p.n g (ct.getD 0 [])) (switchDigits p keys g l (ds.map (autoPoly p.n g))))

/-- The tensor product of two ciphertexts (evaluation representation, limbs 0 to ℓ). -/
def tensorCt (p : PSet) (l : Nat) (a b : List Poly) : List Poly :=
  (List.range (a.length + b.length - 1)).map (fun k =>
    (List.range a.length).foldl (fun acc i =>
      if i ≤ k ∧ k - i < b.length then p.polyOp l addQ acc (p.polyOp l mulQ (a.getD i []) (b.getD (k - i) [])) else acc) [])

/-- `mulr`: product, relinearisation and the fused rescale (R251, R262): c_0 and c_1 enter the ModDown times P (DEDUCED, log 15). -/
def mulrCt (p : PSet) (keys : List (Nat × Nat × Nat × Nat × List W32)) (l : Nat) (a b : List Poly) : List Poly :=
  let t := tensorCt p l a b
  let ds := modUp p l (p.polyTo 1 0 (t.getD 2 []))
  let ps := (List.range p.np).map (fun k => p.prime (p.nq + k))
  (List.range 2).map (fun c =>
    let u := innerKey p keys 0 l c ds
    modDown p l true ((List.range u.length).map (fun k =>
      let q := p.prime k
      if k ≤ l then limbOp q p.n (fun x y => x + y * prodMod ps q) (u.getD k []) ((t.getD c []).getD k []) else u.getD k [])))

/-! ## Rescale (R263) -/

/-- One rescale of a polynomial in coefficient representation: its last limb divides. -/
def rescalePoly (p : PSet) (x : Poly) : Poly :=
  let l := x.length - 1
  let ql := p.prime l
  (List.range l).map (fun i =>
    let q := p.prime i
    limbOp q p.n (fun a v => (if (ql - 1) / 2 < v then a % q + (ql - v) else subQ q a v) * Crypto.invMod ql q) (x.getD i []) (x.getD l []))

/-- Two at once, one after the other (DEDUCED, log 15). -/
def rescaleCt (p : PSet) (times : Nat) (ct : List Poly) : List Poly :=
  ct.map (fun x => p.polyTo 0 1 ((List.range times).foldl (fun x _ => rescalePoly p x) (p.polyTo 1 0 x)))

/-! ## Results -/

/-- Galois elements of linear level k of the bootstrap (R267), equal ones once. -/
def bootLevel (p : PSet) (k : Nat) : List Nat :=
  let h := p.n / 2
  ((List.range (2 ^ (if k = 2 then p.logN - 11 else 5) - 1)).flatMap (fun r =>
    let e := (r + 1) * 2 ^ (5 * k)
    [Crypto.powMod 5 (e % h) (2 * p.n), Crypto.powMod 5 ((h - e % h) % h) (2 * p.n)])).eraseDups

/-- The key streams of the bootstrap, as (galois, level), in order (R266 to R268): CoeffToSlot, the split, EvalMod, SlotToCoeff. -/
def bootStreams (p : PSet) : List (Nat × Nat) :=
  let lin (top : Nat) : List (Nat × Nat) := (List.range 3).flatMap (fun k => (bootLevel p k).map (fun g => (g, top - k)))
  lin (p.nq - 1) ++ [(2 * p.n - 1, p.nq - 4), (0, p.nq - 4), (0, p.nq - 6), (0, p.nq - 8)] ++ lin (p.nq - 9)

/-! ## The bootstrap (R266) -/

/-- A limb of constants of a store version (log 16): of a stage, its step and its place there, for limb i. -/
def bootLimb (p : PSet) (ver : W32) (tag : List Nat) (i : Nat) : List Nat :=
  (List.range p.n).map (fun j => Config.bootConst ver (tag ++ [p.prime i, j]) % p.prime i)

/-- Stage 1: limb 0 alone, raised to level nq - 1. DESIGN CHOICE (log 16): the store's choice between v and v - q_0 for a value v. -/
def modRaise (p : PSet) (ver : W32) (x : Poly) : Poly :=
  let q0 := p.prime 0
  let co := p.limbTo 0 1 0 (x.getD 0 [])
  (List.range p.nq).map (fun i =>
    let q := p.prime i
    p.limbTo i 0 1 (co.map (fun v => if Config.bootConst ver [1, q0, v] % 2 = 0 then v % q else subQ q v q0 % q)))

/-- One linear level (stages 2 and 6): one ModUp, its rotations with their diagonals, one ModDown fused with a rescale. -/
def linearLevel (p : PSet) (ver : W32) (keys : List (Nat × Nat × Nat × Nat × List W32)) (tag : List Nat) (gs : List Nat) (l : Nat) (ct : List Poly) :
    List Poly :=
  let ds := modUp p l (p.polyTo 1 0 (ct.getD 1 []))
  let ps := (List.range p.np).map (fun k => p.prime (p.nq + k))
  let act := p.active l
  (List.range 2).map (fun c => modDown p l true ((List.range act.length).map (fun k =>
    let i := act.getD k 0
    let q := p.prime i
    let own (y : Poly) : List Nat := if k ≤ l then (y.getD k []).map (fun v => v * prodMod ps q % q) else []
    let one := limbOp q p.n (fun a b => a * b) (own (ct.getD c [])) (bootLimb p ver (tag ++ [1]) i)
    gs.foldl (fun acc g =>
      let u := (innerKey p keys g l c (ds.map (autoPoly p.n g))).getD k []
      let u := if c = 0 then limbOp q p.n (fun a b => a + b) u (own (autoPoly p.n g (ct.getD 0 []))) else u
      limbOp q p.n (fun a b => a + b) acc (limbOp q p.n (fun a b => a * b) u (bootLimb p ver (tag ++ [g]) i))) one)))

/-- Three linear levels from level `l` on; stage 2 or 6. -/
def linearLevels (p : PSet) (ver : W32) (keys : List (Nat × Nat × Nat × Nat × List W32)) (stage scale l : Nat) (ct : List Poly) : List Poly :=
  (List.range 3).foldl (fun ct k => linearLevel p ver keys [stage, k, scale] (bootLevel p k) (l - k) ct) ct

/-- A combination of ciphertexts with constants, at level `l`: the limbs above it are not used. -/
def affine (p : PSet) (ver : W32) (tag : List Nat) (l : Nat) (hist : List (List Poly)) : List Poly :=
  (List.range 2).map (fun c => (List.range hist.length).foldl (fun acc k =>
    p.polyOp l addQ acc (p.polyOp l mulQ ((hist.getD k []).getD c []) ((List.range (l + 1)).map (bootLimb p ver (tag ++ [k + 1])))))
    (if c = 0 then (List.range (l + 1)).map (bootLimb p ver (tag ++ [0])) else []))

/-- Stage 4 on one half, from level `l`: three relinearised products fused with rescales and two plain rescales, interleaved. DESIGN CHOICE (log 16): each takes
combinations, with the store's constants, of the half and of what the steps before it gave. -/
def evalMod (p : PSet) (ver : W32) (keys : List (Nat × Nat × Nat × Nat × List W32)) (half l : Nat) (ct : List Poly) : List Poly :=
  let hist := (List.range 5).foldl (fun (hist : List (List Poly)) k =>
    let at_ := l - k
    if k % 2 = 0 then hist ++ [mulrCt p keys at_ (affine p ver [4, half, k, 0] at_ hist) (affine p ver [4, half, k, 1] at_ hist)]
    else hist ++ [rescaleCt p 1 (affine p ver [4, half, k] at_ hist)]) [ct]
  hist.getLast?.getD []

/-- An operation on the polynomials of two ciphertexts, at level `l`. -/
def pairOp (p : PSet) (l : Nat) (f : Nat → Nat → Nat → Nat) (a b : List Poly) : List Poly :=
  (List.range 2).map (fun c => p.polyOp l f (a.getD c []) (b.getD c []))

/-- A ciphertext times X^(N/2), which stands for i in every slot (log 16). -/
def timesI (p : PSet) (l : Nat) (ct : List Poly) : List Poly :=
  ct.map (fun x => p.polyOp l mulQ x ((List.range (l + 1)).map (fun i =>
    (List.range p.n).map (fun j => Crypto.powMod (p.psi i) ((2 * j + 1) * (p.n / 2)) (p.prime i)))))

/-- The stages of R266 on a ciphertext of two polynomials in evaluation representation; `scale`: the result's. Stage 3 leaves z + conj z and
-i (z - conj z); stage 5 puts i times the second to the first; their halves are the constants' (log 16). -/
def bootstrapCt (p : PSet) (ver : W32) (keys : List (Nat × Nat × Nat × Nat × List W32)) (scale : Nat) (ct : List Poly) : List Poly :=
  let up := ct.map (modRaise p ver)
  let slots := linearLevels p ver keys 2 scale (p.nq - 1) up
  let l := p.nq - 4
  let cj := rotateCt p keys (2 * p.n - 1) l slots
  let re := pairOp p l addQ slots cj
  let im := timesI p l (pairOp p l subQ cj slots)
  let low := pairOp p (l - 5) addQ (evalMod p ver keys 0 l re) (timesI p (l - 5) (evalMod p ver keys 1 l im))
  linearLevels p ver keys 6 scale (l - 5) low

/-- Add noise to a limb in coefficient representation (R272). -/
def addNoise (p : PSet) (noise : List Int) (x : Poly) : Poly :=
  (List.range x.length).map (fun i =>
    let q := p.prime i
    (List.range p.n).map (fun c => (((x.getD i []).getD c 0 : Int) + noise.getD c 0) % (q : Int) |>.toNat))

/-- What a member's computation needs: the sources' polynomials in their own representation, their forms and levels. -/
structure MacIn where
  a : List Poly
  b : List Poly
  fa : Nat
  fb : Nat
  la : Nat
  lb : Nat
  deriving DecidableEq, Repr

/-- Limbs 0 to ℓ of each polynomial. -/
def cutTo (l : Nat) (ct : List Poly) : List Poly := ct.map (fun x => x.take (l + 1))

/-- The result polynomials of one member, one list for each destination, in the result's representation (R251, R258 to R263). -/
def macResult (p : PSet) (ver : W32) (num : Nat) (gals : List Nat) (keys : List (Nat × Nat × Nat × Nat × List W32)) (m : Member) (noise : List Int) (x : MacIn) :
    List (List Poly) :=
  let ev (ct : List Poly) (f : Nat) : List Poly := ct.map (fun y => p.polyTo f 1 y)
  let to_ (ct : List Poly) (f t : Nat) : List Poly := ct.map (fun y => p.polyTo f t y)
  let l := m.level
  let n := Nat.max x.a.length x.b.length
  let sums (f : Nat → Nat → Nat → Nat) : List (List Poly) :=
    let b := to_ (cutTo l x.b) x.fb x.fa
    [(List.range n).map (fun k => p.polyOp l f ((cutTo l x.a).getD k []) (b.getD k []))]
  match num with
  | 1 => sums addQ
  | 2 => sums subQ
  | 3 =>
    let b := to_ (cutTo l x.b) x.fb x.fa
    [(List.range x.a.length).map (fun k => p.polyOp l addQ ((cutTo l x.a).getD k []) (if k = 0 then b.getD 0 [] else []))]
  | 4 => let b := (ev (cutTo l x.b) x.fb).getD 0 []
         [(ev (cutTo l x.a) x.fa).map (fun y => p.polyOp l mulQ y b)]
  | 5 => [tensorCt p l (ev (cutTo l x.a) x.fa) (ev (cutTo l x.b) x.fb)]
  | 6 => [relin p keys x.la (ev x.a x.fa)]
  | 7 => let lm := l + 1
         [mulrCt p keys lm (cutTo lm (relin p keys x.la (ev x.a x.fa))) (cutTo lm (relin p keys x.lb (ev x.b x.fb)))]
  | 8 => [rescaleCt p 1 (ev x.a x.fa)]
  | 9 => [rescaleCt p 2 (ev x.a x.fa)]
  | 0xA => [to_ (cutTo l x.a) x.fa x.fa]
  | 0xB =>
    let ct := relin p keys x.la (ev x.a x.fa)
    [withSwitched p l (ct.getD 0 []) (keySwitch p keys (gals.getD 0 0) l (ct.getD 1 []))]
  | 0xC => [rotateCt p keys (gals.getD 0 0) l (relin p keys x.la (ev x.a x.fa))]
  | 0xD => hoistCt p keys l (relin p keys x.la (ev x.a x.fa)) gals
  | 0xE => [rotateCt p keys (2 * p.n - 1) l (relin p keys x.la (ev x.a x.fa))]
  | 0xF => [bootstrapCt p ver keys m.scale (relin p keys x.la (ev x.a x.fa))]
  | 0x10 =>
    if noise.isEmpty then [to_ (cutTo l x.a) x.fa m.form]
    else
      let co := to_ (cutTo l x.a) x.fa 0
      [to_ ((List.range co.length).map (fun k => if k = 0 then addNoise p noise (co.getD 0 []) else co.getD k [])) 0 m.form]
  | _ => [to_ x.a x.fa 0]

end Sys2Proof.Machine
end

