-- ==== Sys2Proof/Machine/Vector.lean ====
section
/-! DEFINITION. The vector engine (11), with its modular (06 R188), share (10 R279) and sample operations, and ring reads (03 R83 to R85). -/

namespace Sys2Proof.Machine
open Sys2Proof

/-- Families of vector operations (R303). -/
inductive VCat where
  | flt
  | int
  | cvt
  | quant
  | deq
  | copy
  | red
  | stat
  | modular
  | share
  | sample
  deriving DecidableEq, Repr

/-- What R303 and R313 say of an operation: its family, the operands it names besides `dst` (1 a, 2 b, 3 c, 4 aux0, 5 aux1), and whether it
uses `mtab`, `imm`, `seed_addr`, `rdim`, `octl`. -/
structure VInfo where
  cat : VCat
  ops : List Nat
  m : Bool
  i : Bool
  s : Bool
  r : Bool
  o : Bool
  deriving DecidableEq, Repr

/-- The operations of R303; none for a reserved code. -/
def vInfo (op : Nat) : Option VInfo :=
  let k (c : VCat) (ops : List Nat) : VInfo := { cat := c, ops := ops, m := false, i := false, s := false, r := false, o := false }
  match op with
  | 0x01 => some (k .flt [1, 2]) | 0x02 => some (k .flt [1, 2]) | 0x03 => some (k .flt [1, 2]) | 0x04 => some (k .flt [1, 2, 3])
  | 0x05 => some (k .flt [1, 2, 3]) | 0x06 => some (k .flt [1, 2, 3]) | 0x07 => some (k .flt [1, 2]) | 0x08 => some (k .flt [1, 2])
  | 0x09 => some (k .flt [1]) | 0x0A => some (k .flt [1])
  | 0x0B => some { k .flt [1] with i := true } | 0x0C => some { k .flt [1] with i := true }
  | 0x10 => some (k .int [1, 2]) | 0x11 => some (k .int [1, 2]) | 0x12 => some (k .int [1, 2]) | 0x13 => some (k .int [1, 2])
  | 0x14 => some (k .int [1, 2]) | 0x15 => some (k .int [1, 2])
  | 0x16 => some { k .int [1] with i := true } | 0x17 => some { k .int [1] with i := true } | 0x18 => some { k .int [1] with i := true }
  | 0x19 => some (k .int [1, 2]) | 0x1A => some (k .int [1, 2])
  | 0x20 => some { k .cvt [1] with o := true, s := true } | 0x21 => some { k .quant [1, 4, 5] with o := true, s := true }
  | 0x22 => some (k .deq [1, 2, 5]) | 0x23 => some (k .copy [1])
  | 0x30 => some { k .red [1] with r := true } | 0x31 => some { k .red [1] with r := true } | 0x32 => some { k .red [1] with r := true }
  | 0x33 => some { k .red [1] with r := true } | 0x34 => some { k .stat [1, 4] with r := true, o := true }
  | 0x40 => some { k .modular [1] with m := true } | 0x41 => some { k .modular [1, 2] with m := true }
  | 0x42 => some { k .modular [1, 2] with m := true } | 0x43 => some { k .modular [1] with m := true }
  | 0x44 => some { k .modular [1, 2] with m := true } | 0x45 => some { k .modular [1, 2] with m := true }
  | 0x46 => some { k .modular [1, 2] with m := true }
  | 0x50 => some (k .share [1, 2]) | 0x51 => some (k .share [1, 2]) | 0x52 => some (k .share [1, 2]) | 0x53 => some (k .share [1, 2])
  | 0x54 => some { k .share [1, 2] with o := true } | 0x55 => some (k .share [1, 2, 3, 4, 5]) | 0x56 => some (k .share [])
  | 0x60 => some (k .sample []) | 0x61 => some { k .sample [] with m := true } | 0x62 => some { k .sample [] with m := true }
  | 0x63 => some { k .sample [] with m := true, i := true } | 0x64 => some { k .sample [] with m := true, i := true }
  | _ => none

/-- Operands of share operations that lie in the sealed region, the destination 0 included (R279). -/
def sealedOps (op : Nat) : List Nat :=
  match op with
  | 0x50 => [0, 1, 2] | 0x51 => [0, 1, 2] | 0x52 => [0, 1] | 0x53 => [0, 1] | 0x54 => [1, 2] | 0x55 => [0, 1, 2, 3] | _ => [0]

/-- Does the operation draw from the DRBG (R291)? -/
def drawsOp (op : Nat) : Bool := op == 0x56 || decide (0x60 ≤ op ∧ op ≤ 0x64)

/-- Is a hall's randomness halted (R286, R293)? -/
def rngHalted (s : State) (g : Nat) : Bool := (s.hallAt (hallOf g)).rng != 0

/-- The word of an operand field (R295): 0 `dst`, 1 to 3 sources, 4 and 5 `aux0` and `aux1`. -/
def vField (d : Bytes) (k : Nat) : Nat := fld d (0x10 + 4 * k) 4

/-- A checked vector descriptor. `ts`: its tensors by operand number. -/
structure VCtx where
  op : Nat
  info : VInfo
  ts : List (Nat × Tensor)
  mode : Nat
  lane : Bool
  mods : List Nat
  ringTy : Nat
  deriving DecidableEq, Repr

/-- The operand, `dst` or source A, with which a scale or escape operand pairs (R306, R308): their `ext` and `org` are ignored. -/
def vPair (i : VInfo) (k : Nat) : Option Nat :=
  match i.cat with
  | .quant => if k = 4 ∨ k = 5 then some 0 else none
  | .deq => if k = 2 ∨ k = 5 then some 1 else none
  | _ => none

def VCtx.t (c : VCtx) (k : Nat) : Option Tensor := (c.ts.find? (fun x => x.1 == k)).map (·.2)
def VCtx.dst (c : VCtx) : Tensor := (c.t 0).getD (parseTensor 0 [])

/-- Types that an operand accepts (R303, R305, R306, R308, R313): element types, or none for the block formats. -/
def vTypes (i : VInfo) (op k mtab : Nat) : Option (List Nat) :=
  match i.cat with
  | .flt => some [1] | .red => some [1] | .stat => some [1]
  | .int => some [16, 17]
  | .cvt => some [1, 2, 3, 4, 8, 16, 17]
  | .quant => if k = 1 then some [1] else if k = 4 then some [11] else if k = 5 then some [17] else none
  | .deq => if k = 0 then some [1] else if k = 2 then some [11] else if k = 5 then some [17] else none
  | .copy => some [1, 2, 3, 4, 5, 6, 7, 8, 9, 10, 11, 12, 16, 17, 18]
  | .modular => some [17] | .share => some [17]
  | .sample => some [if op = 0x60 ∨ op = 0x61 ∨ mtab ≠ 0 then 17 else 16]

/-- Is a tensor's type refused for its operand? -/
def vTypeBad (i : VInfo) (op k mtab : Nat) (t : Tensor) : Bool :=
  match vTypes i op k mtab with
  | none => !(t.scaled && decide (3 ≤ t.etype ∧ t.etype ≤ 9))
  | some l => (t.scaled && i.cat != .copy) || !l.contains t.etype

/-- Do two tensors coincide exactly (R302): same address, type, strides and map? -/
def sameTensor (a b : Tensor) : Bool :=
  a.base == b.base && a.ty == b.ty && a.stride == b.stride && a.tiled == b.tiled && a.tr == b.tr && a.tc == b.tc && a.swz == b.swz &&
    a.swn == b.swn && a.swa == b.swa && a.swr == b.swr && a.org == b.org && a.space == b.space

/-- Check 1 of R317: fields that must be 0, modes and parameters out of range. -/
def vBadOp (d : Bytes) (op : Nat) (i : VInfo) (dt : Option Tensor) : Bool :=
  let ring := nbit (fld d 3 1) 0
  let octl := fld d 0x2F 1
  let imm := fld d 0x30 8
  let mode := octl % 4
  let lane := i.cat == .quant && nbit octl 5
  let used (k : Nat) : Bool := i.ops.contains k
  let f := F32.val (w32 imm)
  let sigma := !FVal.le (F32.val 0x404CCCCD) f || FVal.lt (.fin false 1 48) f
  headerBad d || !zeros d 0x3C 4 || 16 ≤ fld d 0x2C 1 || 8 ≤ fld d 0x2D 1 || (i.i && 2 ^ 32 ≤ imm) ||
    [1, 2, 3, 4, 5].any (fun k => !used k && vField d k != 0 && !(k == 1 && ring)) ||
    [1, 2, 3].any (fun k => !used k && nbit (fld d 0x2C 1) (k - 1)) ||
    (!i.m && (fld d 0x28 4 != 0 || fld d 0x2E 1 != 0)) || (!i.r && fld d 0x2D 1 != 0) || (!i.o && octl != 0) || (!i.i && imm != 0) ||
    (!i.s && fld d 0x38 4 != 0) || (i.s && mode == 0 && fld d 0x38 4 != 0) || (i.s && mode == 3) ||
    (i.cat == .cvt && (4 ≤ octl || (mode != 0 && (match dt with
      | none => false
      | some t => !([2, 3, 4].contains t.etype)))) ) ||
    (i.cat == .quant && (64 ≤ octl || nbits octl 4 2 == 7 || (!lane && vField d 5 != 0))) ||
    ((op == 0x34 || op == 0x54) && 2 ≤ octl) || (i.cat == .sample && i.m && fld d 0x28 4 == 0 && fld d 0x2E 1 != 0 && op != 0x61) ||
    (op == 0x63 && (imm % 32 == 0 || 16 < imm % 32)) || (op == 0x64 && sigma)

/-- Check 4 of R317 on extents (R297, R306, R308): the first failing operand. -/
def vBadExt (i : VInfo) (rdim : Nat) (ts : List (Nat × Tensor)) : Option Nat :=
  let t (k : Nat) : Option Tensor := (ts.find? (fun x => x.1 == k)).map (·.2)
  match t 0 with
  | none => some 0
  | some dt =>
    let ext (k : Nat) : List Nat := ((t k).map (·.ext)).getD []
    match i.cat with
    | .red | .stat =>
      if dt.extD rdim ≠ 1 then some 0
      else if (List.range 5).any (fun d => d != rdim && (ext 1).getD d 1 != dt.extD d) then some 1
      else if i.cat == .stat && ext 4 != dt.ext then some 4 else none
    | .quant => if ext 1 ≠ dt.ext then some 1 else if dt.orgD 0 % 32 ≠ 0 then some 0 else none
    | .deq =>
      if ext 1 ≠ dt.ext then some 1
      else if (t 5).isSome && !(((t 1).map (fun x => decide (x.etype = 7 ∨ x.etype = 9))).getD false) then some 5 else none
    | _ => (ts.find? (fun x => x.1 != 0 && x.2.ext != dt.ext)).map (·.1)

/-- Is an operation one that a ring read may use (R298)? -/
def ringOp (op : Nat) (c : VCat) : Bool :=
  c == .flt || c == .int || c == .cvt || c == .copy || (c == .modular && op != 0x46)

/-- The checks of R317, in order: status, order number and detail word 1, or what the descriptor names. DESIGN CHOICE (log 97): the first failing word of R284 is that of the
first sealed operand, in the order of the descriptor's fields, and of its first element in iteration order that meets an empty slot. -/
def vCheck (s : State) (g l : Nat) (d : Bytes) : Except (Nat × Nat × Nat) VCtx :=
  let op := fld d 1 1
  match vInfo op with
  | none => .error (St.vecOp, 1, 0)
  | some i =>
    let ring := nbit (fld d 3 1) 0
    let octl := fld d 0x2F 1
    let mode := if i.s then octl % 4 else 0
    let lane := i.cat == .quant && nbit octl 5
    let mtab := fld d 0x28 4
    let mdim := fld d 0x2E 1
    let rdim := fld d 0x2D 1
    let seed := fld d 0x38 4
    let share := (s.galAt g).mode == .share
    let src := tensorAt s g l (vField d 1)
    let word (k : Nat) : Nat := if i.cat == .deq && k == 2 && vField d 2 == 0 then (src.map (·.slink)).getD 0 else vField d k
    let keys := (0 :: i.ops).filter (fun k => !(k == 1 && ring) && !(k == 5 && (i.cat == .quant || i.cat == .deq) && vField d 5 == 0))
    let at_ (k : Nat) : Option Tensor := if i.cat == .deq && k == 2 && word 2 == 0 then none
      else (tensorAt s g l (word k)).map (fun t => if (vPair i k).isSome then t.whole else t)
    let ts := keys.filterMap (fun k => (at_ k).map (fun t => (k, t)))
    let ringTy := if (s.galAt g).mode == .cipher then 17 else 1
    if vBadOp d op i (at_ 0) then .error (St.vecOp, 1, 0)
    else if i.cat == .share && !share then .error (St.shareMode, 2, 0)
    else
      let badTy := ts.find? (fun x => vTypeBad i op x.1 mtab x.2)
      let pairTy := i.cat == .copy && (match ts.find? (fun x => x.1 == 0), ts.find? (fun x => x.1 == 1) with
        | some x, some y => x.2.ty != y.2.ty
        | some x, none => ring && !share && x.2.ty != (ringTy, false)
        | _, _ => false)
      let bigSigma := op == 0x64 && mtab == 0 && FVal.lt (.fin false 1 26) (F32.val (w32 (fld d 0x30 8)))
      match badTy with
      | some x => .error (St.vecType, 3, word x.1)
      | none =>
        if pairTy then .error (St.vecType, 3, if ring then word 0 else word 1)
        else if bigSigma then .error (St.vecType, 3, word 0)
        else
          match keys.find? (fun k => match at_ k with
            | none => true
            | some t => !Tensor.good s g t || t.space == 2) with
          | some k => .error (St.vecShape, 4, word k)
          | none =>
            let dt := ((ts.find? (fun x => x.1 == 0)).map (·.2)).getD (parseTensor 0 [])
            if 4 < rdim || (ring && !ringOp op i.cat) then .error (St.vecShape, 4, 0)
            else
              match vBadExt i rdim ts with
              | some k => .error (St.vecShape, 4, word k)
              | none =>
                if mode != 0 && !(decide (seed ≠ 0 ∧ seed % 2 = 0 ∧ seed + 1 < 0x6000)) then .error (St.vecShape, 4, seed)
                else if lane && (!(decide (dt.etype = 7 ∨ dt.etype = 9)) || vField d 5 == 0) then .error (St.vecShape, 4, 0)
                else if ring && (share || vField d 1 != 0 || dt.total != 1024) then .error (St.vecShape, 4, 0)
                else
                  match ts.find? (fun x => x.1 != 0 && Tensor.overlap dt x.2 != 0 && !(decide (x.1 ≤ 3) && sameTensor dt x.2)) with
                  | some x => .error (St.vecOverlap, 5, word x.1)
                  | none =>
                    let wrongSide (x : Nat × Tensor) : Bool :=
                      share && (if i.cat == .share && (sealedOps op).contains x.1 then !Tensor.insideSeal s g x.2
                        else Tensor.touchesSeal s g x.2 && !(i.cat == .sample && Tensor.insideSeal s g x.2))
                    match ts.find? wrongSide with
                    | some x => .error (St.shareSealed, 6, word x.1)
                    | none =>
                      let needM := i.cat == .modular || op == 0x61 || (i.cat == .sample && i.m && mtab != 0)
                      let tab : Except Nat (List (Nat × Nat)) :=
                        if !needM then .ok []
                        else if 4 < mdim ∧ mdim ≠ 7 then .error (7 * 65536)
                        else modTable s g l mtab (if mdim = 7 then 1 else dt.extD mdim) true
                      match tab with
                      | .error w => .error (St.modModulus, 7, w)
                      | .ok ms =>
                        if (drawsOp op || mode == 2) && rngHalted s g then .error (St.rngHalted, 8, 0)
                        else
                          let spent := if i.cat == .share then
                              ((ts.filter (fun x => x.1 != 0 && (sealedOps op).contains x.1)).filterMap (fun x =>
                                (Tensor.firstEmpty s g l x.2).map (fun a => (Tensor.mem g l x.2).word a))).head?
                            else none
                          match spent with
                          | some w => .error (St.shareSpent, 9, w)
                          | none => .ok { op := op, info := i, ts := ts, mode := mode, lane := lane, mods := ms.map (·.1), ringTy := ringTy }

/-! ## Results -/

/-- An output: tensor operand, storage index, code, poison, position for R364. -/
structure VOut where
  k : Nat
  j : List Int
  v : Nat
  poi : Bool
  pos : Nat
  deriving DecidableEq, Repr

/-- FP32 operations 0x01 to 0x0C (R303, R304). -/
def fltOp (op : Nat) (imm a b c : W32) : W32 :=
  match op with
  | 0x01 => F32.add a b | 0x02 => F32.sub a b | 0x03 => F32.mul a b | 0x04 => F32.fma a b c
  | 0x05 => F32.ofVal (((F32.val a).mul (F32.val b)).sub (F32.val c)) | 0x06 => F32.mul (F32.sub a b) c
  | 0x07 => F32.min a b | 0x08 => F32.max a b | 0x09 => F32.abs a | 0x0A => F32.neg a | 0x0B => F32.add a imm | _ => F32.mul a imm

/-- Integer operations 0x10 to 0x1A (R303, R304); `sgn`: the destination is I32. -/
def intOp2 (op : Nat) (sgn : Bool) (sh : Nat) (a b : W32) : W32 :=
  match op with
  | 0x10 => a + b | 0x11 => a - b | 0x12 => a * b | 0x13 => a &&& b | 0x14 => a ||| b | 0x15 => a ^^^ b
  | 0x16 => a <<< sh | 0x17 => a >>> sh | 0x18 => a.sshiftRight sh
  | 0x19 => if (if sgn then a.slt b else a.ult b) then a else b
  | _ => if (if sgn then a.slt b else a.ult b) then b else a

/-- 2^-32 modulo an odd q (R188). -/
def inv32 (q : Nat) : Nat := Crypto.powMod ((q + 1) / 2) 32 q

/-- Modular operations 0x40 to 0x46 (R188). -/
def modOp (op q a b d : Nat) : Nat :=
  match op with
  | 0x40 => a % q | 0x41 => (a + b) % q | 0x42 => (a % q + (q - b % q)) % q | 0x43 => (q - a % q) % q
  | 0x44 => a * b * inv32 q % q | 0x45 => (d + a * b * inv32 q) % q | _ => a * b % q

/-- Share operations 0x50 to 0x55 modulo 2^32 (R279); `zero`: party 0. -/
def shareOp (op : Nat) (zero : Bool) (a b c d e : W32) : W32 :=
  match op with
  | 0x50 => a + b | 0x51 => a - b | 0x52 => if zero then a + b else a | 0x53 => b * a | 0x54 => a - b
  | _ => c + d * b + e * a + (if zero then d * e else 0)

/-! ## Samplers (R291) -/

/-- Bits of a byte string: those from bit `at_` on, as a number. -/
def bitsAt (v at_ : Nat) (n : Nat) : Nat := (v >>> at_) % 2 ^ n

/-- Set bits of a number below 2^n. -/
def popcount (n v : Nat) : Nat := ((List.range n).filter (fun k => nbit v k)).length

/-- floor(12 sigma): where the table of a width is cut. -/
def gaussCut (sigma : W32) : Nat :=
  match (F32.val sigma).mul (.fin false 12 0) with
  | .fin _ m e => if e ≥ 0 then m <<< e.toNat else m >>> (-e).toNat
  | _ => 0

/-- A table sample: the scan of the 256 entries gives the magnitude, cut at 12 sigma. -/
def gaussOne (sigma : W32) (w : W64) : Int :=
  let m := Nat.min (gaussCut sigma) ((List.range 256).filter (fun k => decide (Config.gaussTable sigma k ≤ w.toNat))).length
  if Config.gaussMinus w then -(m : Int) else m

/-- The table samples that a width takes, with their factors: one up to 16, a convolution above. -/
def gaussPlan (sigma : W32) : List (Nat × W32) := if F32.le sigma 0x41800000 then [(1, sigma)] else Config.gaussParts sigma

/-- A Gaussian value from the words of its table samples. -/
def gaussVal (sigma : W32) (ws : List W64) : Int :=
  (((gaussPlan sigma).zip ws).map (fun x => (x.1.1 : Int) * gaussOne x.1.2 x.2)).sum

/-- Words meet the moduli that still want a value, one after another (R232, R291): the values accepted, and the moduli left. -/
def acceptWords : List Nat → List Nat → List Nat × List Nat
  | _, [] => ([], [])
  | [], qs => ([], qs)
  | w :: ws, q :: qs =>
    let v := w % 2 ^ (if q = 0 then 0 else Nat.log2 q + 1)
    if v < q then
      let r := acceptWords ws qs
      (v :: r.1, r.2)
    else acceptWords ws (q :: qs)

/-- Masked rejection: rounds of as many words as values are wanted; a value that no round of the fuel has given is free (log 52). -/
def rejectLoop (g : Nat) : Nat → State → List Nat → State × List Nat
  | 0, s, qs =>
    let x := s.freshWords qs.length
    (x.2, (x.1.zip qs).map (fun p => p.1.toNat % p.2))
  | fuel + 1, s, qs =>
    if qs.isEmpty then (s, [])
    else
      let x := drawBytes s g (4 * qs.length)
      let a := acceptWords ((List.range qs.length).map (fun i => fld x.1 (4 * i) 4)) qs
      let r := rejectLoop g fuel x.2 a.2
      (r.1, a.1 ++ r.2)

/-- Samples of a sampler, one for each modulus listed (R291): uniform modulo 2^32, uniform modulo q, ternary, centred binomial, Gaussian. DESIGN CHOICE (log 52): they are cut
from the drawn bytes in order, lowest bit first. -/
def drawSamples (s : State) (g op imm : Nat) (qs : List Nat) : State × List Int :=
  let n := qs.length
  let idx := List.range n
  match op with
  | 0x61 =>
    let r := rejectLoop g 4096 s qs
    (r.1, r.2.map (fun (v : Nat) => (v : Int)))
  | 0x62 =>
    let x := drawBytes s g (ceilDiv n 4)
    let v := leNat x.1
    (x.2, idx.map (fun k => (bitsAt v (2 * k) 1 : Int) - bitsAt v (2 * k + 1) 1))
  | 0x63 =>
    let e := imm % 32
    let x := drawBytes s g (ceilDiv (2 * e * n) 8)
    let v := leNat x.1
    (x.2, idx.map (fun k => (popcount e (bitsAt v (2 * e * k) e) : Int) - popcount e (bitsAt v (2 * e * k + e) e)))
  | 0x64 =>
    let m := (gaussPlan (w32 imm)).length
    let x := drawBytes s g (8 * m * n)
    (x.2, idx.map (fun k => gaussVal (w32 imm) ((List.range m).map (fun i => w64 (fld x.1 (8 * (m * k + i)) 8)))))
  | _ =>
    let x := drawBytes s g (4 * n)
    (x.2, idx.map (fun k => (fld x.1 (4 * k) 4 : Int)))

/-- A sample as its destination holds it: its canonical residue (R291, R313). -/
def sampleCode (c : VCtx) (q : Nat) (v : Int) : Nat := if c.op = 0x61 ∨ c.mods.isEmpty then (v % 2 ^ 32).toNat else (v % (q : Int)).toNat

/-- Where the values of source A come from: a tensor, or the elements that a ring read saw. -/
abbrev RingVals := Option (List (W32 × Bool))

/-- The modulus of an element (R189). -/
def VCtx.modulus (c : VCtx) (mdim : Nat) (i : List Nat) : Nat := c.mods.getD (if mdim = 7 then 0 else i.getD mdim 0) 1

/-- Read the operands of one element; the escape and scale operands of `dequantise` pair by storage index (R308). -/
def vReads (p : Port1) (c : VCtx) (ring : RingVals) (n : Nat) (i : List Nat) : Port1 × List Nat × Bool :=
  c.info.ops.foldl (fun (acc : Port1 × List Nat × Bool) k =>
    let (p, vs, bad) := acc
    match k, ring with
    | 1, some rs =>
      let r := rs.getD n (0, false)
      (p, vs ++ [r.1.toNat], bad || r.2)
    | _, _ =>
      match c.t k with
      | none => (p, vs ++ [0], bad)
      | some t =>
        let j := if c.info.cat == .deq && k != 1 then scaleJ (((c.t 1).getD t).toJ i) else t.toJ i
        let (p, v, b) := p.getJ t j
        (p, vs ++ [v], bad || b)) (p, [], false)

/-- The code of one element, and whether it clamped. -/
def vOne (s : State) (g : Nat) (c : VCtx) (d : Bytes) (seed : W64) (n : Nat) (i : List Nat) (vs : List Nat) (prior : Nat) : Nat × Bool :=
  let a := vs.getD 0 0
  let b := vs.getD 1 0
  let w (k : Nat) : W32 := w32 (vs.getD k 0)
  let imm := w32 (fld d 0x30 8)
  match c.info.cat with
  | .flt => ((fltOp c.op imm (w 0) (w 1) (w 2)).toNat, false)
  | .int => ((intOp2 c.op (c.dst.etype == 16) (imm.toNat % 32) (w 0) (w 1)).toNat, false)
  | .cvt =>
    let st := ((c.t 1).map (·.etype)).getD c.ringTy
    convTo c.dst.etype (elemVal st false a) (if c.mode = 0 then none else some (r16 seed n))
  | .copy => (a, false)
  | .modular => (modOp c.op (c.modulus (fld d 0x2E 1) i) a b prior, false)
  | .share =>
    let part := ((taskOf s g).map (·.item.sess.part)).getD 0
    ((shareOp c.op (s.obj 0x6160 (part + 1) == 0) (w 0) (w 1) (w 2) (w 3) (w 4)).toNat, false)
  | .deq =>
    let at_ := (c.t 1).getD c.dst
    let e := if (c.t 5).isNone then 0 else match escapeAt (vs.getD 2 0) ((at_.toJ i).getD 0 0 % 32).toNat with
      | none => 0
      | some x => 256 + x
    ((dequant at_.etype a b e).toNat, false)
  | _ => (0, false)

/-- Write outputs (R315, R316, R354, R388). -/
def vWrite (p : Port1) (c : VCtx) (outs : List VOut) : Port1 :=
  outs.foldl (fun p o => ({ p with pos := o.pos } : Port1).putJ ((c.t o.k).getD c.dst) o.j o.v o.poi) p

/-- The groups of one beat each: up to 32 consecutive indices of dimension 0 (R296); on a ring read, of the iteration order (R298). -/
def vGroups (c : VCtx) (ring : Bool) : List (List Nat) :=
  let e0 := if ring then c.dst.total else Nat.max 1 (c.dst.extD 0)
  (List.range (c.dst.total / e0)).flatMap (fun row => (List.range (ceilDiv e0 32)).map (fun b =>
    (List.range (Nat.min 32 (e0 - 32 * b))).map (fun x => row * e0 + 32 * b + x)))

/-- Beats that a group of `n` elements takes (R296, R299): on a ring read one (R83). DESIGN CHOICE (log 93): waits for operands of the gallery store or for slot tags are not counted. -/
def vBeats (c : VCtx) (ring : Bool) (n : Nat) : Nat :=
  if ring then 1
  else Nat.max (if c.op = 0x46 then 2 else if c.op = 0x55 then 3 else 1) (if c.ts.any (fun x => x.2.strD 0 != 1) then ceilDiv n 8 else 1)

/-- Groups that wait to be written, with their lane beats. -/
abbrev VWaits := List (Nat × List VOut)

/-- Is a group written before beat `b`: 6 beats after its lane beat (R300)? -/
def writtenBy (b : Nat) (w : Nat × List VOut) : Bool := decide (w.1 + 7 ≤ b)

/-- One element in its lane beat: every operand is read before the element is written (R302, R312). -/
def vElem (c : VCtx) (d : Bytes) (seed : W64) (seedPoi : Bool) (ring : RingVals) (acc : Port1 × List VOut × Nat) (k : Nat) : Port1 × List VOut × Nat :=
  let i := viewAt c.dst.ext k
  let (p, vs, bad) := vReads { acc.1 with pos := k } c ring k i
  let (p, prior, pb) := if c.op = 0x45 then p.get c.dst i else (p, 0, false)
  let r := vOne p.s p.g c d seed k i vs prior
  let bad := bad || pb || (c.mode != 0 && seedPoi)
  (p, acc.2.1 ++ [{ k := 0, j := c.dst.toJ i, v := r.1, poi := bad, pos := k }], acc.2.2 + (if r.2 then 1 else 0))

/-- Element-wise operations: groups in order, each written 6 beats after its lane beat (R300). Of a ring read that stops at a chunk (R319) the groups before it are read,
and those written whose beat has come. The outputs, and the clamped elements. -/
def vElems (p : Port1) (c : VCtx) (d : Bytes) (seed : W64) (seedPoi : Bool) (ring : RingVals) (stop : Option Nat) : Port1 × List VOut × Nat :=
  let gs := vGroups c ring.isSome
  let gs := match stop with
    | some ch => gs.take ch
    | none => gs
  let r := gs.foldl (fun (acc : Port1 × VWaits × List VOut × Nat × Nat) ks =>
    let (p, wait, outs, sat, t) := acc
    let lane := t + vBeats c ring.isSome ks.length - 1
    let p := (wait.takeWhile (writtenBy lane)).foldl (fun p w => vWrite p c w.2) p
    let (p, new, n) := ks.foldl (vElem c d seed seedPoi ring) (p, [], 0)
    (p, wait.dropWhile (writtenBy lane) ++ [(lane, new)], outs ++ new, sat + n, lane + 1)) (p, [], [], 0, 0)
  let last := if stop.isNone then r.2.1 else r.2.1.takeWhile (writtenBy r.2.2.2.2)
  (last.foldl (fun p w => vWrite p c w.2) r.1, r.2.2.1, r.2.2.2.1)

/-- Samples (R291, R313). -/
def vSamples (p : Port1) (c : VCtx) (d : Bytes) : Port1 × List VOut :=
  let is := (List.range c.dst.total).map (viewAt c.dst.ext)
  let qs := is.map (c.modulus (fld d 0x2E 1))
  let r := drawSamples p.s p.g c.op (fld d 0x30 8) qs
  ({ p with s := r.1 }, (List.range is.length).map (fun k =>
    { k := 0, j := c.dst.toJ (is.getD k []), v := sampleCode c (qs.getD k 0) (r.2.getD k 0), poi := false, pos := k }))

/-- One line of a reduction along `r`: values and poison (R309). -/
def vLine (p : Port1) (t : Tensor) (r : Nat) (i : List Nat) : Port1 × List W32 × Bool :=
  (List.range (t.extD r)).foldl (fun (acc : Port1 × List W32 × Bool) k =>
    let (p, xs, bad) := acc
    let i := i.set r k
    let (p, v, b) := ({ p with pos := viewPos t.ext i } : Port1).get t i
    (p, xs ++ [w32 v], bad || b)) (p, [], false)

/-- Reductions and row statistics (R309, R310). -/
def vReduce (p : Port1) (c : VCtx) (d : Bytes) : Port1 × List VOut :=
  let r := fld d 0x2D 1
  (List.range c.dst.total).foldl (fun (acc : Port1 × List VOut) k =>
    let (p, outs) := acc
    let i := viewAt c.dst.ext k
    let (p, xs, bad) := vLine p ((c.t 1).getD c.dst) r i
    let j := c.dst.toJ i
    if c.info.cat == .stat then
      let m := statLine (nbit (fld d 0x2F 1) 0) xs
      let aux := (c.t 4).getD c.dst
      (p, outs ++ [{ k := 0, j := j, v := m.1.toNat, poi := bad, pos := k }, { k := 4, j := aux.toJ i, v := m.2.toNat, poi := bad, pos := k }])
    else (p, outs ++ [{ k := 0, j := j, v := (reduceLine c.op xs).toNat, poi := bad, pos := k }])) (p, [])

/-- Counts of a quantise: clamped elements, blocks with scale 0xFF, blocks with `ovf`. -/
structure QCount where
  sat : Nat
  nf : Nat
  ovf : Nat
  deriving DecidableEq, Repr

/-- `quantise` (R306): blocks of 32 along dimension 0 of the destination, from index 0. -/
def vQuantise (p : Port1) (c : VCtx) (d : Bytes) (seed : W64) (seedPoi : Bool) : Port1 × List VOut × QCount :=
  let t := c.dst
  let e0 := t.extD 0
  let octl := fld d 0x2F 1
  let rho := if nbits octl 4 2 = 0 then 3 else nbits octl 4 2
  let blocks : List (Nat × Nat) := (List.range (t.total / e0)).flatMap (fun row => (List.range (ceilDiv e0 32)).map (fun b => (row, b)))
  blocks.foldl (fun (acc : Port1 × List VOut × QCount) rb =>
    let (p, outs, q) := acc
    let first := rb.1 * e0 + 32 * rb.2
    let idx := (List.range (Nat.min 32 (e0 - 32 * rb.2))).map (fun x => first + x)
    let (p, xs, bad) := idx.foldl (fun (a : Port1 × List FVal × Bool) n =>
      let (p, xs, bad) := a
      let (p, v, b) := ({ p with pos := n } : Port1).get ((c.t 1).getD t) (viewAt t.ext n)
      (p, xs ++ [f32.dec v], bad || b)) (p, [], false)
    let bad := bad || (c.mode != 0 && seedPoi)
    let o := blockConv t.etype xs idx c.lane rho (if c.mode = 0 then none else some seed)
    let els := (List.range idx.length).map (fun x =>
      let n := idx.getD x 0
      ({ k := 0, j := t.toJ (viewAt t.ext n), v := o.codes.getD x 0, poi := bad, pos := n } : VOut))
    let bj := scaleJ (t.toJ (viewAt t.ext first))
    let sc : List VOut := [{ k := 4, j := bj, v := o.scale, poi := bad, pos := first }]
    let es : List VOut := if c.lane then [{ k := 5, j := bj, v := o.word, poi := bad, pos := first }] else []
    (p, outs ++ els ++ sc ++ es,
      { sat := q.sat + o.sats, nf := q.nf + (if o.nf then 1 else 0), ovf := q.ovf + (if o.gap3 then 1 else 0) }))
    (p, [], { sat := 0, nf := 0, ovf := 0 })

/-! ## Records -/

def vBump (g l : Nat) (s : State) : State := s.updLan g l (fun y => { y with ca := { y.ca with vecRec := y.ca.vecRec + 1 } })

/-- A record of the vector engine, within its limit (R318). -/
def vRecord (s : State) (g l st cls d0 d1 : Nat) : State :=
  limited s (s.lanAt g l).ca.vecRec (vBump g l) (Rep.ofLan st cls false 3 g l d0 d1)

/-- A skip (R317, R318). -/
def vSkip (s : State) (g l : Nat) (d : Bytes) (e : Nat × Nat × Nat) : State :=
  let s := s.updLan g l (fun y => { y with ca := { y.ca with vecSkips := add16 y.ca.vecSkips 1 } })
  flagDone (vRecord s g l e.1 1 (fld d 1 1 + 256 * e.2.1) e.2.2) g l (descFlag d)

/-- Insert an event by its position in the iteration (R364). -/
def insertPos (x : Nat) : List Nat → List Nat
  | [] => [x]
  | y :: r => if x < y then x :: y :: r else y :: insertPos x r

/-- Positions of the out-of-bounds notices of a descriptor, rising. -/
def oobPositions (ev : List PortEvent) : List Nat :=
  ev.foldl (fun acc e => match e with
    | .oob n => insertPos n acc
    | .fault _ _ => acc
    | .poison _ => acc) []

/-- The counters and records that a descriptor's accesses leave (R316, R320, R364). -/
def vAccount (s : State) (g l op : Nat) (p : Port1) (sat : Nat) (q : QCount) : State :=
  let s := s.updLan g l (fun y => { y with ca := { y.ca with
    vecSat := add16 y.ca.vecSat (sat + q.sat), vecNf := add16 y.ca.vecNf q.nf, vecEscOvf := add16 y.ca.vecEscOvf q.ovf,
    vecOob := add16 y.ca.vecOob (p.oobR + p.oobW), vecPoi := add16 y.ca.vecPoi p.dirtied } })
  (oobPositions p.ev).foldl (fun s n => vRecord s g l St.oobCounted 0 (op + 256) (n % 2 ^ 32)) s

/-! ## Starting -/

/-- The elements of each operand that the descriptor reads or writes. -/
def VCtx.used (c : VCtx) : List (Nat × Tensor) :=
  c.ts.map (fun x => (x.1, match vPair c.info x.1 with
    | some b => x.2.paired ((c.t b).getD x.2)
    | none => x.2))

/-- Operands that a descriptor reads and those that it writes, by number (R301). -/
def VCtx.ins (c : VCtx) : List (Nat × Tensor) :=
  c.used.filter (fun x => if c.info.cat == .quant || c.info.cat == .stat then x.1 == 1 else x.1 != 0 || c.op == 0x45)
def VCtx.outs (c : VCtx) : List (Nat × Tensor) :=
  c.used.filter (fun x => x.1 == 0 || ((c.info.cat == .quant || c.info.cat == .stat) && decide (4 ≤ x.1)))

/-- Slots of operands that obey the tag rules: not those of the sealed region (R277). -/
def tagSlots (s : State) (g l : Nat) (ts : List (Nat × Tensor)) : List Slot :=
  (ts.filter (fun x => !Tensor.touchesSeal s g x.2)).flatMap (fun x => Tensor.slots g l x.2)

/-- Are the slots ready (R301)? -/
def vReady (s : State) (g l : Nat) (c : VCtx) (d : Bytes) : Bool :=
  slotsFull s g l (tagSlots s g l c.ins) && (nbit (fld d 0x2C 1) 3 || slotsEmpty s g l (tagSlots s g l c.outs))

/-- The seed word of a stochastic conversion (R162, R307): read in mode 1; in mode 2 drawn and written first, so that no poison of its granule reaches the results
(R315). -/
def vSeed (s : State) (g l : Nat) (c : VCtx) (d : Bytes) : State × W64 × Bool :=
  let m : Space1 := { g := g, l := l, store := false }
  let a := 4 * fld d 0x38 4
  if c.mode = 0 then (s, 0, false)
  else if c.mode = 2 then
    let x := drawWord s g
    (x.2.store1 m a (natLe 8 x.1.toNat), x.1, false)
  else (s, w64 (s.num1 m a 8), s.poisoned1 m a)

/-- The sampler's tables are those of the width last asked for (R314). -/
def vTables (s : State) (g : Nat) (c : VCtx) (d : Bytes) : State :=
  if c.op = 0x64 then s.updGalx g (fun y => { y with sigma := some (w32 (fld d 0x30 8)) }) else s

/-- Every result of a descriptor, written: outputs in order, clamped elements, quantise counts. -/
def vResults (p : Port1) (c : VCtx) (d : Bytes) (seed : W64) (seedPoi : Bool) (ring : RingVals) (stop : Option Nat) : Port1 × List VOut × Nat × QCount :=
  let none3 : QCount := { sat := 0, nf := 0, ovf := 0 }
  match c.info.cat with
  | .quant => let (p, o, q) := vQuantise p c d seed seedPoi; (vWrite p c o, o, 0, q)
  | .red => let (p, o) := vReduce p c d; (vWrite p c o, o, 0, none3)
  | .stat => let (p, o) := vReduce p c d; (vWrite p c o, o, 0, none3)
  | .sample => let (p, o) := vSamples p c d; (vWrite p c o, o, 0, none3)
  | _ =>
    if c.op = 0x56 then let (p, o) := vSamples p c d; (vWrite p c o, o, 0, none3)
    else let (p, o, n) := vElems p c d seed seedPoi ring stop; (p, o, n, none3)

/-- Sources whose take bit is set (R301). -/
def VCtx.takes (c : VCtx) (d : Bytes) : List (Nat × Tensor) :=
  c.used.filter (fun x => decide (1 ≤ x.1 ∧ x.1 ≤ 3) && nbit (fld d 0x2C 1) (x.1 - 1))

/-- Taken slots that a ring read which stops at a chunk has read for the last time (R301, R319). -/
def takenBefore (s : State) (g l : Nat) (c : VCtx) (d : Bytes) (ch : Nat) : List Slot :=
  let later := (c.takes d).flatMap (fun x => Tensor.slotsOf g l x.2 ((List.range x.2.total).filter (fun p => decide (32 * ch ≤ p))))
  (tagSlots s g l (c.takes d)).filter (fun k => !later.contains k)

/-- What the end of the descriptor changes (R280, R281, R301). -/
def vRun (s : State) (g l : Nat) (c : VCtx) (d : Bytes) : Run :=
  let used := if c.op = 0x55 then [1, 2, 3] else if c.op = 0x54 ∧ nbit (fld d 0x2F 1) 0 = false then [2] else []
  { Run.of c.op (c.outs.flatMap (fun x => Tensor.slots g l x.2)) (tagSlots s g l (c.takes d))
      ((c.ts.filter (fun x => used.contains x.1)).flatMap (fun x => Tensor.slots g l x.2)) (descFlag d) with draws := drawsOp c.op || c.mode == 2 }

/-- Run a checked, ready descriptor; `stop`: a ring read that skewed ends before the chunk given (R319). -/
def vExecute (s : State) (g l : Nat) (c : VCtx) (d : Bytes) (ring : RingVals) (stop : Option Nat) : State :=
  let run := vRun s g l c d
  let s := setSlots (vTables s g c d) g l (tagSlots s g l c.outs) false
  let (s, seed, seedPoi) := vSeed s g l c d
  let (p, outs, sat, q) := vResults (Port1.new s g l) c d seed seedPoi ring stop
  let s := vAccount p.settle g l c.op p sat q
  let s := if c.op = 0x54 && outs.any (·.poi) then
      let (w, s) := s.freshWords 2
      vRecord s g l St.poison 0 (w.getD 0 0).toNat (w.getD 1 0).toNat
    else s
  match stop with
  | none => s.updLan g l (fun y => { y with rv := some run })
  | some ch => flagDone (setSlots s g l (takenBefore s g l c d ch) false) g l (descFlag d)

/-- Start the descriptor at the head of the vector queue, where it is one of the command's: checks, then a skip, a wait or the whole effect. -/
def vStart (s : State) (g l : Nat) (test : Nat → Bool) : State :=
  match (s.lanAt g l).qv with
  | [] => s
  | d :: rest =>
    if !enginesRun s g || (s.lanAt g l).rv.isSome || !test (fld d 1 1) || nbit (fld d 3 1) 0 then s
    else
      let pop (s : State) : State := touch (headNow (s.updLan g l (fun y => { y with qv := rest })) g l 1) g
      match vCheck s g l d with
      | .error e => vSkip (pop s) g l d e
      | .ok c => if vReady s g l c d then vExecute (pop s) g l c d none none else s

/-! ## Ring reads -/

/-- The drains of a ring entry, newest first. -/
def entryDrains (y : Arr) (e : Nat) : List Drain := y.drains.filter (fun x => x.seq.toNat % 4 == e)

/-- The tag of a ring slot as it stands at the start of a beat (R82): valid, sequence number. -/
def ringTag (y : Arr) (e slot beat : Nat) : Bool × Nat :=
  match (entryDrains y e).filter (fun x => decide (x.at_ + 4 * slot + 1 ≤ beat)) with
  | [] => (false, 0)
  | x :: older =>
    if x.at_ + 4 * slot + 4 ≤ beat then (true, x.seq.toNat)
    else (false, match older with
      | [] => 0
      | o :: _ => o.seq.toNat)

/-- A chunk of a ring entry as it stands at the start of a beat (R82, R84): words and poison of its 4 granules. -/
def ringChunk (y : Arr) (e ch beat : Nat) : List (W32 × Bool) :=
  match (entryDrains y e).filter (fun x => decide (x.at_ + ch + 1 ≤ beat)) with
  | [] => List.replicate 32 (0, false)
  | x :: _ => (List.range 32).map (fun k => (x.data.getD (32 * ch + k) 0, x.poi.getD ((32 * ch + k) / 8) false))

/-- What a ring read that starts in a beat sees: its values, and the chunk and tag at which it stops (R84). -/
def ringRead (y : Arr) (hs start : Nat) : List (W32 × Bool) × Option (Nat × Bool × Nat) :=
  (List.range 32).foldl (fun acc ch =>
    match acc.2 with
    | some _ => acc
    | none =>
      let tag := ringTag y (hs % 4) (ch / 4) (start + ch)
      if tag = (true, hs) then (acc.1 ++ ringChunk y (hs % 4) ch (start + ch), none) else (acc.1, some (ch, tag))) ([], none)

/-- Is a drain of the number still queued? -/
def drainQueued (y : Lantern) (hs : Nat) : Bool := y.qa.any (fun e => match e with
  | .desc d q _ => fld d 1 1 == 3 && q.toNat == hs
  | .call _ _ _ _ _ => false)

/-- The first beat of a drain (R83): the newest with the number; none while it has not begun. DEDUCED (log 106): of the 65,536 numbers (R81) those up to 32,767 from the next drain's on are
of drains to come. -/
def drainBeat (y : Lantern) (hs : Nat) : Option Nat :=
  if (BitVec.ofNat 16 hs - y.drainSeq).toNat < 32768 ∨ drainQueued y hs = true then none else (y.arr.drains.find? (fun x => x.seq.toNat == hs)).map (·.at_)

/-- The beat in which a ring read starts (R83): the later of its drain's first beat plus `hs_delay` and the beat in which the engine is free for it. -/
def ringBeat (y : Lantern) (at_ b : Nat) (d : Bytes) : Nat := Nat.max (Nat.max at_ y.vecEnd) (b + fld d 6 1)

/-- A ring read of `n` beats is computed: the engine is free after them, and a drain of its entry changes nothing of it from 3 beats after its start on (R86). -/
def ringDone (hs at_ n : Nat) (y : Lantern) : Lantern := { y with vecEnd := at_ + n, ringUse := Tab.put 0 (hs % 4) (at_ + 3) y.ringUse }

/-- RING_READ_START (R83 to R85): the descriptor at the head of the vector queue reads the ring. The engine has come to it in beat `at_`: its push, and the end of the
descriptor before it, whose idle beats depend on elastic units (R47). It starts then, and not before its drain's delay has passed. -/
def ringStart (s : State) (g l at_ : Nat) : State :=
  match (s.lanAt g l).qv with
  | [] => s
  | d :: rest =>
    let y := s.lanAt g l
    if !enginesRun s g || y.rv.isSome || !nbit (fld d 3 1) 0 then s
    else
      let pop (s : State) : State := touch (headNow (s.updLan g l (fun y => { y with qv := rest })) g l 1) g
      let hs := fld d 4 2
      match vCheck s g l d with
      | .error e => vSkip (pop s) g l d e
      | .ok c =>
        match drainBeat y hs with
        | none => s
        | some b =>
          if !vReady s g l c d then s
          else
            let at_ := ringBeat y at_ b d
            let (vals, skew) := ringRead y.arr hs at_
            match skew with
            | none => vExecute ((pop s).updLan g l (ringDone hs at_ 32)) g l c d (some vals) none
            | some (ch, ok, seq) =>
              let s := vRecord ((pop s).updLan g l (ringDone hs at_ (ch + 1))) g l St.handoffSkew 1 (hs + 65536 * (ch / 4))
                (seq + (if ok then 65536 else 0))
              vExecute s g l c d (some vals) (some ch)

/-- RING_READ_START (R83). -/
def execRingReadStart (g : Gal) (l : Lan) (at_ : Nat) (s : State) : Result := .next (ringStart s g.val l.val at_)

/-- Is `op` reserved (R303)? The first row of the engine meets such descriptors. -/
def vReserved (op : Nat) : Bool := (vInfo op).isNone

/-- `fadd` (R303). -/
def execVeFadd (g : Gal) (l : Lan) (s : State) : Result := .next (vStart s g.val l.val (fun op => op == 1 || vReserved op))

/-- `fsub` (R303). -/
def execVeFsub (g : Gal) (l : Lan) (s : State) : Result := .next (vStart s g.val l.val (fun op => op == 0x02))

/-- `fmul` (R303). -/
def execVeFmul (g : Gal) (l : Lan) (s : State) : Result := .next (vStart s g.val l.val (fun op => op == 0x03))

/-- `fma` (R303). -/
def execVeFma (g : Gal) (l : Lan) (s : State) : Result := .next (vStart s g.val l.val (fun op => op == 0x04))

/-- `fms` (R303). -/
def execFms (g : Gal) (l : Lan) (s : State) : Result := .next (vStart s g.val l.val (fun op => op == 0x05))

/-- `fsm` (R303). -/
def execFsm (g : Gal) (l : Lan) (s : State) : Result := .next (vStart s g.val l.val (fun op => op == 0x06))

/-- `fmin` (R303). -/
def execVeFmin (g : Gal) (l : Lan) (s : State) : Result := .next (vStart s g.val l.val (fun op => op == 0x07))

/-- `fmax` (R303). -/
def execVeFmax (g : Gal) (l : Lan) (s : State) : Result := .next (vStart s g.val l.val (fun op => op == 0x08))

/-- `fabs` (R303). -/
def execVeFabs (g : Gal) (l : Lan) (s : State) : Result := .next (vStart s g.val l.val (fun op => op == 0x09))

/-- `fneg` (R303). -/
def execVeFneg (g : Gal) (l : Lan) (s : State) : Result := .next (vStart s g.val l.val (fun op => op == 0x0A))

/-- `fadds` (R303). -/
def execFadds (g : Gal) (l : Lan) (s : State) : Result := .next (vStart s g.val l.val (fun op => op == 0x0B))

/-- `fmuls` (R303). -/
def execFmuls (g : Gal) (l : Lan) (s : State) : Result := .next (vStart s g.val l.val (fun op => op == 0x0C))

/-- `iadd` (R303). -/
def execIadd (g : Gal) (l : Lan) (s : State) : Result := .next (vStart s g.val l.val (fun op => op == 0x10))

/-- `isub` (R303). -/
def execIsub (g : Gal) (l : Lan) (s : State) : Result := .next (vStart s g.val l.val (fun op => op == 0x11))

/-- `imul` (R303). -/
def execImul (g : Gal) (l : Lan) (s : State) : Result := .next (vStart s g.val l.val (fun op => op == 0x12))

/-- `and` (R303). -/
def execVeAnd (g : Gal) (l : Lan) (s : State) : Result := .next (vStart s g.val l.val (fun op => op == 0x13))

/-- `or` (R303). -/
def execVeOr (g : Gal) (l : Lan) (s : State) : Result := .next (vStart s g.val l.val (fun op => op == 0x14))

/-- `xor` (R303). -/
def execVeXor (g : Gal) (l : Lan) (s : State) : Result := .next (vStart s g.val l.val (fun op => op == 0x15))

/-- `shl` (R303). -/
def execVeShl (g : Gal) (l : Lan) (s : State) : Result := .next (vStart s g.val l.val (fun op => op == 0x16))

/-- `shr` (R303). -/
def execVeShr (g : Gal) (l : Lan) (s : State) : Result := .next (vStart s g.val l.val (fun op => op == 0x17))

/-- `sar` (R303). -/
def execVeSar (g : Gal) (l : Lan) (s : State) : Result := .next (vStart s g.val l.val (fun op => op == 0x18))

/-- `imin` (R303). -/
def execImin (g : Gal) (l : Lan) (s : State) : Result := .next (vStart s g.val l.val (fun op => op == 0x19))

/-- `imax` (R303). -/
def execImax (g : Gal) (l : Lan) (s : State) : Result := .next (vStart s g.val l.val (fun op => op == 0x1A))

/-- `cvt` (R303). -/
def execCvt (g : Gal) (l : Lan) (s : State) : Result := .next (vStart s g.val l.val (fun op => op == 0x20))

/-- `quantise` (R303). -/
def execQuantise (g : Gal) (l : Lan) (s : State) : Result := .next (vStart s g.val l.val (fun op => op == 0x21))

/-- `dequantise` (R303). -/
def execDequantise (g : Gal) (l : Lan) (s : State) : Result := .next (vStart s g.val l.val (fun op => op == 0x22))

/-- `copy` (R303). -/
def execVeCopy (g : Gal) (l : Lan) (s : State) : Result := .next (vStart s g.val l.val (fun op => op == 0x23))

/-- `rsum` (R309). -/
def execRsum (g : Gal) (l : Lan) (s : State) : Result := .next (vStart s g.val l.val (fun op => op == 0x30))

/-- `rmax` (R309). -/
def execRmax (g : Gal) (l : Lan) (s : State) : Result := .next (vStart s g.val l.val (fun op => op == 0x31))

/-- `rmin` (R309). -/
def execRmin (g : Gal) (l : Lan) (s : State) : Result := .next (vStart s g.val l.val (fun op => op == 0x32))

/-- `rabsmax` (R309). -/
def execRabsmax (g : Gal) (l : Lan) (s : State) : Result := .next (vStart s g.val l.val (fun op => op == 0x33))

/-- `rstat` (R310). -/
def execRstat (g : Gal) (l : Lan) (s : State) : Result := .next (vStart s g.val l.val (fun op => op == 0x34))

/-- `mred` (R188). -/
def execMred (g : Gal) (l : Lan) (s : State) : Result := .next (vStart s g.val l.val (fun op => op == 0x40))

/-- `madd` (R188). -/
def execMadd (g : Gal) (l : Lan) (s : State) : Result := .next (vStart s g.val l.val (fun op => op == 0x41))

/-- `msub` (R188). -/
def execMsub (g : Gal) (l : Lan) (s : State) : Result := .next (vStart s g.val l.val (fun op => op == 0x42))

/-- `mneg` (R188). -/
def execMneg (g : Gal) (l : Lan) (s : State) : Result := .next (vStart s g.val l.val (fun op => op == 0x43))

/-- `mmul` (R188). -/
def execMmul (g : Gal) (l : Lan) (s : State) : Result := .next (vStart s g.val l.val (fun op => op == 0x44))

/-- `mmac` (R188). -/
def execMmac (g : Gal) (l : Lan) (s : State) : Result := .next (vStart s g.val l.val (fun op => op == 0x45))

/-- `mmulp` (R188). -/
def execMmulp (g : Gal) (l : Lan) (s : State) : Result := .next (vStart s g.val l.val (fun op => op == 0x46))

/-- `s.add` (R279, R313). -/
def execSAdd (g : Gal) (l : Lan) (s : State) : Result := .next (vStart s g.val l.val (fun op => op == 0x50))

/-- `s.sub` (R279, R313). -/
def execSSub (g : Gal) (l : Lan) (s : State) : Result := .next (vStart s g.val l.val (fun op => op == 0x51))

/-- `s.addc` (R279, R313). -/
def execSAddc (g : Gal) (l : Lan) (s : State) : Result := .next (vStart s g.val l.val (fun op => op == 0x52))

/-- `s.mulc` (R279, R313). -/
def execSMulc (g : Gal) (l : Lan) (s : State) : Result := .next (vStart s g.val l.val (fun op => op == 0x53))

/-- `s.open` (R279, R313). -/
def execSOpen (g : Gal) (l : Lan) (s : State) : Result := .next (vStart s g.val l.val (fun op => op == 0x54))

/-- `s.beaver` (R279, R313). -/
def execSBeaver (g : Gal) (l : Lan) (s : State) : Result := .next (vStart s g.val l.val (fun op => op == 0x55))

/-- `s.sample` (R279, R313). -/
def execSSample (g : Gal) (l : Lan) (s : State) : Result := .next (vStart s g.val l.val (fun op => op == 0x56))

/-- `smp.u32` (R291, R313). -/
def execSmpU32 (g : Gal) (l : Lan) (s : State) : Result := .next (vStart s g.val l.val (fun op => op == 0x60))

/-- `smp.modq` (R291, R313). -/
def execSmpModq (g : Gal) (l : Lan) (s : State) : Result := .next (vStart s g.val l.val (fun op => op == 0x61))

/-- `smp.tern` (R291, R313). -/
def execSmpTern (g : Gal) (l : Lan) (s : State) : Result := .next (vStart s g.val l.val (fun op => op == 0x62))

/-- `smp.cbd` (R291, R313). -/
def execSmpCbd (g : Gal) (l : Lan) (s : State) : Result := .next (vStart s g.val l.val (fun op => op == 0x63))

/-- `smp.gauss` (R291, R313). -/
def execSmpGauss (g : Gal) (l : Lan) (s : State) : Result := .next (vStart s g.val l.val (fun op => op == 0x64))

end Sys2Proof.Machine
end

