-- ==== Sys2Proof/Machine/Macros.lean ====
section
/-! DEFINITION. Cipher calls as the gallery runs them (03 R129; 09 R251 to R273): their start, one command each, and their end. -/

namespace Sys2Proof.Machine
open Sys2Proof

/-! ## Start (R129, R212, R214, R255) -/

/-- Take the call from all 64 array queues. -/
def popCall (s : State) (g : Nat) : State :=
  (List.range 64).foldl (fun s l => headNow (s.updLan g l (fun y => { y with qa := y.qa.drop 1 })) g l 0) s

/-- Bytes that the spec leaves undefined are free (log 8): those of a range that the task's space lets it write. -/
def freeRange (s : State) (asid va n : Nat) : State :=
  (List.range (n / 32)).foldl (fun s (k : Nat) =>
    match xlate s asid ((va + 32 * k : Nat) : Int) true with
    | none => s
    | some pa =>
      let (v, s) := s.freshBytes 32
      s.dwrite pa v false) s

/-- The slice of the work area that a call starting now uses (R254): its address and its size. -/
def workSlice (s : State) (g : Nat) : Nat × Nat :=
  let wa := s.objBytes 0x6150 (((taskSess s g).map (·.part)).getD 0 + 1)
  (fld wa 0 8 + g * fld wa 8 8, fld wa 8 8)

/-- The slice's contents are undefined after any call (R254). -/
def freeWork (s : State) (g : Nat) (w : Nat × Nat) : State := freeRange s (asidOf s g) w.1 w.2

/-- The limbs of a destination that does not finish are undefined (R214). -/
def freeDst (s : State) (g n : Nat) (m : Member) : State :=
  m.dstHdr.foldl (fun s h => (List.range m.ncomp).foldl (fun s (c : Nat) => (List.range (m.level + 1)).foldl (fun s (i : Nat) =>
    freeRange s (asidOf s g) (hLimb h c i) (4 * n)) s) s) s

/-- The Notice of R260, before a limb is read. -/
def skewNotice (s : State) (g num : Nat) (m : Member) : State :=
  if num = 1 ∨ num = 2 ∨ num = 3 then
    let d : Int := (hScale (m.srcHdr.getD 0 []) : Int) - hScale (m.srcHdr.getD 1 [])
    if (s.obj 0x2140 2 : Int) < d.natAbs then
      let s := updCnt s g (fun c => { c with skew := satAdd 65535 c.skew 1 })
      macRecord s g St.ctScaleSkew 0 (65536 * num + 256 * m.idx + 3) (d % 2 ^ 32).toNat
    else s
  else s

/-- The levels of a member's sources of three polynomials, which are relinearised first (R261). -/
def relinLevels (m : Member) : List Nat := (m.srcHdr.filter (fun h => hComp h == 3)).map hLevel

/-- The level at which a member's own key switch runs (R251): of `mulr` the lower of its sources'. -/
def switchLevel (num : Nat) (m : Member) : Nat :=
  let l (k : Nat) : Nat := hLevel (m.srcHdr.getD k [])
  if num = 7 then Nat.min (l 0) (l 1) else l 0

/-- The streams of the call as (galois, level), in order (R236, R251, R261, R265): of g = 0 for relinearising sources, then its own; each read once, at the highest
level that a member needs. -/
def keyWanted (p : PSet) (num : Nat) (gals : List Nat) (ms : List Member) : List (Nat × Nat) :=
  let three := ms.flatMap relinLevels
  let first := if three.isEmpty then [] else [(0, three.foldl Nat.max 0)]
  let l := (ms.map (switchLevel num)).foldl Nat.max 0
  let own := if num = 7 then [0] else if num = 0xB ∨ num = 0xC ∨ num = 0xD then gals.eraseDups else if num = 0xE then [2 * p.n - 1] else []
  if num = 6 then first else if macSwitches num then first ++ (if num = 0xF then bootStreams p else own.map (fun g => (g, l))) else []

/-- Does the task's session flood its releases (R272)? -/
def floods (s : State) (g : Nat) : Bool := ((taskSess s g).map (fun e => e.flags.getLsbD 1)).getD false

/-- A `release` that cannot draw ends at once (R271, R272, R293). -/
def noNoise (s : State) (g addr : Nat) (flag : Option Nat) (ms : List Member) : State :=
  let s := taintAll s g St.rngHalted ms
  let (w, s) := s.freshWords 2
  let s := reportTask s { Rep.ofGal St.rngHalted 1 false 11 g 0 0 with d0 := w.getD 0 0, d1 := w.getD 1 0 }
  macroEnds s g addr flag (some St.rngHalted)

/-- Begin the work of the members that take part: headers aborted, limbs and work area open, streams requested (R214, R236). -/
def beginRun (s : State) (g num addr : Nat) (flag : Option Nat) (p : PSet) (gals : List Nat) (ms : List Member)
    (failed : Option Nat) : State :=
  let s := ms.foldl (fun s m => memberHeaders s g 4 St.macroAborted m) s
  let s := ms.foldl (fun s m => skewNotice s g num m) s
  let s := ms.foldl (fun s m => freeDst s g p.n m) (freeWork s g (workSlice s g))
  let r : MacroRun :=
    { num := num, addr := addr, flag := flag, members := ms, gals := gals, keys := [], keyPoison := false, wanted := keyWanted p num gals ms,
      ring := [], failed := failed, sigma := s.obj 0x6161 (taskPart s g + 1), work := workSlice s g }
  let s := s.updGalx g (fun y => { y with mac := some r })
  openNext (openNext s g) g

/-- A call starts: arguments (R255), members (R212, R256), the work. -/
def runCall (s : State) (g num addr : Nat) (block : Bytes) (flag : Option Nat) (t : Task) : State :=
  let p := taskPset s g
  match macArgs s g num block p with
  | .error (r, i) =>
    let s := updCnt s g (fun c => { c with args := satAdd 65535 c.args 1 })
    macroEnds (macRecord s g St.macroArgs 1 (65536 * num + r) i) g addr flag (some St.macroArgs)
  | .ok a =>
    match p with
    | none => s
    | some p =>
      let s := (a.dst ++ a.src0 ++ a.src1).foldl (fun s (va : Nat) => vsnoop s (asidOf s g) (va : Int) 128 false) s
      let (s, ms, failed) := checkMembers s g num t.item p a block
      if ms.isEmpty then macroEnds s g addr flag failed
      else if num = 0x10 ∧ floods s g = true ∧ rngHalted s g = true then noNoise s g addr flag ms
      else beginRun s g num addr flag p a.gals ms failed

/-- The call of number `num` at the head of the array queues starts (R129). -/
def callNow (s : State) (g num : Nat) : State :=
  match (s.lanAt g 0).qa.head?, taskOf s g with
  | some (.call n block addr flag marks), some t =>
    if n = num ∧ enginesRun s g = true ∧ callReady s g (.call n block addr flag marks) marks = true then
      runCall (touch (popCall s g) g) g num addr block flag t
    else s
  | _, _ => s

/-- It starts, and its first requests go out. -/
def startCall (s : State) (g num : Nat) : State := settle (callNow s g num)

/-- `add` (R251). -/
def execMacroAdd (g : Gal) (s : State) : Result := .next (awaited s (fun s => startCall s g.val 0x1))
/-- `sub` (R251). -/
def execMacroSub (g : Gal) (s : State) : Result := .next (awaited s (fun s => startCall s g.val 0x2))
/-- `addp` (R251, R257). -/
def execMacroAddp (g : Gal) (s : State) : Result := .next (awaited s (fun s => startCall s g.val 0x3))
/-- `mulp` (R251, R257). -/
def execMacroMulp (g : Gal) (s : State) : Result := .next (awaited s (fun s => startCall s g.val 0x4))
/-- `mul` (R251). -/
def execMacroMul (g : Gal) (s : State) : Result := .next (awaited s (fun s => startCall s g.val 0x5))
/-- `relin` (R251). -/
def execMacroRelin (g : Gal) (s : State) : Result := .next (awaited s (fun s => startCall s g.val 0x6))
/-- `mulr` (R251, R262). -/
def execMacroMulr (g : Gal) (s : State) : Result := .next (awaited s (fun s => startCall s g.val 0x7))
/-- `rescale` (R251, R263). -/
def execMacroRescale (g : Gal) (s : State) : Result := .next (awaited s (fun s => startCall s g.val 0x8))
/-- `rescale2` (R251, R263). -/
def execMacroRescale2 (g : Gal) (s : State) : Result := .next (awaited s (fun s => startCall s g.val 0x9))
/-- `modsw` (R251). -/
def execMacroModsw (g : Gal) (s : State) : Result := .next (awaited s (fun s => startCall s g.val 0xA))
/-- `kswitch` (R251, R262). -/
def execMacroKswitch (g : Gal) (s : State) : Result := .next (awaited s (fun s => startCall s g.val 0xB))
/-- `rotate` (R251, R263). -/
def execMacroRotate (g : Gal) (s : State) : Result := .next (awaited s (fun s => startCall s g.val 0xC))
/-- `hrotate` (R251, R253). -/
def execMacroHrotate (g : Gal) (s : State) : Result := .next (awaited s (fun s => startCall s g.val 0xD))
/-- `conj` (R251). -/
def execMacroConj (g : Gal) (s : State) : Result := .next (awaited s (fun s => startCall s g.val 0xE))
/-- `bootstrap` (R251, R266). -/
def execMacroBootstrap (g : Gal) (s : State) : Result := .next (awaited s (fun s => startCall s g.val 0xF))
/-- `release` (R251, R272). -/
def execMacroRelease (g : Gal) (s : State) : Result := .next (awaited s (fun s => startCall s g.val 0x10))
/-- `tocoeff` (R251). -/
def execMacroTocoeff (g : Gal) (s : State) : Result := .next (awaited s (fun s => startCall s g.val 0x11))

/-! ## The end (R214, R256, R270) -/

/-- Read limbs 0 to ℓ of a source: its polynomials, and whether any granule was poisoned or not readable. -/
def readCt (s : State) (asid n l : Nat) (h : Bytes) : List Poly × Bool :=
  let r := (List.range (hComp h)).map (fun c => (List.range (l + 1)).map (fun i => vgran s asid (hLimb h c i) (4 * n)))
  (r.map (fun x => x.map (fun v => (wordsOf v.1).map (·.toNat))), r.any (fun x => x.any (fun v => !v.2.isEmpty)))

/-- The level of a source above which the call reads no limb (R259, R266): a source that is relinearised first is read whole. -/
def readLevel (num : Nat) (m : Member) (k : Nat) : Nat :=
  let h := m.srcHdr.getD k []
  let l := hLevel h
  if num ≤ 5 ∨ num = 0xA ∨ num = 0x10 then Nat.min l m.level
  else if hComp h = 3 then l
  else if num = 7 then Nat.min l (switchLevel 7 m)
  else if num = 0xF then 0 else l

/-- A source's polynomials as the member reads them. -/
def readSrc (s : State) (asid n num : Nat) (m : Member) (k : Nat) : List Poly × Bool :=
  match m.srcHdr[k]? with
  | none => ([], false)
  | some h => readCt s asid n (readLevel num m k) h

/-- The member's noise (R272): one Gaussian value for each coefficient. -/
def drawNoise (s : State) (g n sigma : Nat) : State × List Int := drawSamples s g 0x64 sigma (List.replicate n 0)

/-- The results of every member, noise drawn for all before a limb is written (R272). -/
def computeAll (s : State) (g : Nat) (r : MacroRun) (p : PSet) : State × List (Member × List (List Poly) × Bool) :=
  let asid := asidOf s g
  r.members.foldl (fun (acc : State × List (Member × List (List Poly) × Bool)) m =>
    let (s, noise) := if r.num = 0x10 ∧ floods s g = true then drawNoise acc.1 g p.n r.sigma else (acc.1, [])
    let a := readSrc s asid p.n r.num m 0
    let b := readSrc s asid p.n r.num m 1
    let h (k : Nat) : Bytes := m.srcHdr.getD k []
    let x : MacIn := { a := a.1, b := b.1, fa := hForm (h 0), fb := hForm (h 1), la := hLevel (h 0), lb := hLevel (h 1) }
    (s, acc.2 ++ [(m, macResult p (storeVersion s) r.num r.gals r.keys m noise x, a.2 || b.2 || r.keyPoison)])) (s, [])

/-- Bursts that a call reads and writes in all: limbs of its sources and of its results (R208), and the set's tables (R439). -/
def macroBursts (p : PSet) (r : MacroRun) : Nat :=
  (r.members.map (fun m =>
    ((List.range m.srcHdr.length).map (fun k => hComp (m.srcHdr.getD k []) * (readLevel r.num m k + 1))).sum +
      m.dst.length * m.ncomp * (m.level + 1))).sum * ceilDiv (4 * p.n) 256 + 4 * p.kib

/-- Write 32-byte granules at a virtual address, dropped where no page grants it. -/
def vputs (s : State) (asid va : Nat) (v : Bytes) (bad : Bool) : State :=
  (List.range (v.length / 32)).foldl (fun s (k : Nat) =>
    match xlate s asid ((va + 32 * k : Nat) : Int) true with
    | none => s
    | some pa => (s.snoopRange pa 32).dwrite pa (slice v (32 * k) 32) bad) s

/-- Write the limbs of one result (R208). -/
def writeCt (s : State) (asid : Nat) (h : Bytes) (ct : List Poly) (bad : Bool) : State :=
  (List.range ct.length).foldl (fun s (c : Nat) => (List.range (ct.getD c []).length).foldl (fun s (i : Nat) =>
    vputs s asid (hLimb h c i) (((ct.getD c []).getD i []).flatMap (fun v => natLe 4 v)) bad) s) s

/-- Every limb of every member, then every final header (R270). -/
def finishRun (s : State) (g : Nat) (r : MacroRun) (p : PSet) : State :=
  let asid := asidOf s g
  let src := r.members.flatMap (fun m => m.srcHdr)
  let s := src.foldl (fun s h => vsnoop s asid (hLimb h 0 0 : Int) (4 * p.n) false) s
  let (s, outs) := computeAll s g r p
  let s := outs.foldl (fun s x => (List.range x.1.dstHdr.length).foldl (fun s (k : Nat) =>
    writeCt s asid (x.1.dstHdr.getD k []) (x.2.1.getD k []) x.2.2) s) s
  let s := freeWork s g r.work
  let fin := outs.map (fun x => { x.1 with poison := x.1.poison || x.2.2 })
  let s := fin.foldl (fun s m =>
    let s := memberHeaders s g 0 (if m.poison then St.poison else St.ok) m
    m.dst.foldl (fun s _ => updCnt (countHeader s g (if m.poison then 1 else 0)) g (fun c => { c with members := satAdd (2 ^ 32 - 1) c.members 1 })) s) s
  let st := r.failed.getD (if fin.any (·.poison) then St.poison else St.ok)
  let s := setSlots s g 0 (r.ring.flatMap (fun k => pairSlots s r.num k p.payload)) false
  macroEnds s g r.addr r.flag (some st)

/-- A call whose parameter tables have gone ends like a stopped stream (R596). DESIGN CHOICE (log 80): with `ST_PARAM_UNKNOWN`, the status of an absent set. -/
def tablesGone (s : State) (g : Nat) (r : MacroRun) : State :=
  macroEnds (taintAll s g St.paramUnknown r.members) g r.addr r.flag (some St.paramUnknown)

/-- MACRO_END (R270): every stream has been used; the last limb of the last member is visible. Its reads of limbs draw tokens (R439). -/
def macroEnd (s : State) (g : Nat) : State :=
  match (s.galxAt g).mac with
  | none => s
  | some r =>
    if !galRuns s g then s
    else match taskPset s g with
      | none => tablesGone s g r
      | some p =>
        if (s.galxAt g).streams.isEmpty && r.wanted.isEmpty then
          let x := askTokens s g unitMacro (macroBursts p r)
          if x.2 then finishRun x.1 g r p else x.1
        else openHeld s g

def execMacroEnd (g : Gal) (s : State) : Result := .next (settle (awaited s (fun s => macroEnd s g.val)))

end Sys2Proof.Machine
end

