-- ==== Sys2Proof/Machine/Modes.lean ====
section
/-! DEFINITION. The mode plan and gallery modes (01 R31 to R43, 21 R579), brown-outs (02 R52, R53), the timer's copies (R57, R58), pace monitors. -/

namespace Sys2Proof.Machine
open Sys2Proof

/-! ## The plan (R36, R37) -/

/-- Mode of a code; none for the reserved codes (R31). -/
def Mode.ofCode (n : Nat) : Option Mode :=
  match n with
  | 0 => some .dark
  | 1 => some .clear
  | 2 => some .cipher
  | 3 => some .share
  | 4 => some .quarantined
  | _ => none

/-- Does the mode take work (R31)? -/
def Mode.active (m : Mode) : Bool := m == .clear || m == .cipher || m == .share

/-- Entry `g` of a plan; reserved bits are ignored (R9). -/
def planEntry (v : Bytes) (g : Nat) : PlanEntry :=
  { mode := (Mode.ofCode (fld v (16 + 16 * g) 1)).getD .dark, gflags := BitVec.ofNat 8 (fld v (17 + 16 * g) 1 % 2),
    mask := w64 (fld v (24 + 16 * g) 8) }

/-- Is a plan's entry legal (R37)? -/
def planEntryOk (v : Bytes) (g : Nat) : Bool :=
  (Mode.ofCode (fld v (16 + 16 * g) 1)).isSome && ((planEntry v g).mode.active == ((planEntry v g).mask != 0))

/-- The plan's deadline in µs (R36). -/
def planDeadline (v : Bytes) : Nat := if fld v 4 4 = 0 then 5000 else fld v 4 4

/-- Is the plan refused (R37)? The length is checked before anything is read. -/
def planBad (s : State) (v : Bytes) : Bool :=
  v.length != 1040 || decide (fld v 0 4 ≤ s.plan.epoch) || decide (planDeadline v < 100 ∨ 1000000 < planDeadline v) ||
    !(List.range 64).all (planEntryOk v)

/-- What an accepted plan asks of gallery `g` (R34, R35, R39, R43). -/
def adoptPlan (s : State) (g : Nat) : State :=
  let e := PlanEntry.at_ s.plan g
  s.updGal g (fun y =>
    if y.qFault then { y with epoch := s.plan.epoch }
    else if y.entry = e ∧ y.changing = false then { y with epoch := s.plan.epoch }
    else { y with changing := true, powerWait := y.mode == .dark && e.mode != .dark })

/-- Take plan `v` as the target (R38). -/
def acceptPlan (s : State) (v : Bytes) : State :=
  let ents := (List.range 64).foldl (fun t g => Tab.put PlanEntry.zero g (planEntry v g) t) ([] : Tab PlanEntry)
  let s := { s with plan := { epoch := fld v 0 4, deadline := planDeadline v, entries := ents, at_ := s.clock.now } }
  (List.range 64).foldl adoptPlan s

/-- The 16 bytes of gallery `g`'s entry; reserved fields read as 0 (R9, R36). -/
def planEntryBytes (v : Bytes) (g : Nat) : Bytes :=
  natLe 1 (planEntry v g).mode.code ++ [(planEntry v g).gflags] ++ List.replicate 6 0 ++ slice v (24 + 16 * g) 8

/-- What 0x2100:01 reads after an accepted plan: the plan with its reserved fields 0 (R9, R36). -/
def planClean (v : Bytes) : Bytes := slice v 0 8 ++ List.replicate 8 0 ++ (List.range 64).flatMap (planEntryBytes v)

/-- Does an entry that the plan writes, or that it replaces, name a partition locked against this session (R511)? DEDUCED (log 108). -/
def planLocked (s : State) (w : Who) (v : Bytes) : Bool :=
  s.cxl.tsp.any (fun c => tspLocked s w (some c.1) && (List.range 64).any (fun g =>
    (planEntry v g).mask.getLsbD c.1 || (PlanEntry.at_ s.plan g).mask.getLsbD c.1))

/-- A plan within R37 that names no partition locked against the session (R511). -/
def planApply (v : Bytes) (s : State) (w : Who) : Applied :=
  if planLocked s w v then .error St.cxlTspLocked
  else if planBad s v then .error St.planRefused
  else .ok (acceptPlan (s.setObj 0x2100 1 (planClean v)) v, s.objBytes 0x2100 1, planClean v)

/-- A write of 0x2100:01. A wrong length is refused as R37 says, not as R525 says of other objects. -/
def modePlanWrite (s : State) (q : Req) (v : Bytes) : State :=
  request s q (fun s =>
    (fun (x : State × Nat) => answer x.1 q (if x.2 = St.objLength then St.planRefused else x.2)) (writeObj s q 0x2100 1 v none (planApply v)))

/-- MODE_PLAN_WRITE (R36 to R39, R43). -/
def execModePlanWrite (q : Req) (v : Bytes) (s : State) : Result := .next (modePlanWrite s q v)

/-! ## Changing mode (R33, R39, R40) -/

/-- A hall whose stages run: ready, neither halted nor held (R52, R594). -/
def hallRuns (s : State) (h : Nat) : Bool :=
  decide (s.boot.stage = .ready) && (s.hallAt h).halted.isNone && (s.hallAt h).heldSince.isNone

/-- The gallery wipes, enters the mode of its entry in the target plan, adopts the epoch and acknowledges (R33, R39, R92); a forced drain and a
release from quarantine reset it (R611). -/
def enterMode (s : State) (g : Nat) (forced : Bool) : State :=
  let e := PlanEntry.at_ s.plan g
  let s := if forced || (s.galAt g).qFault then resetGallery s g else dropCode (wipeGallery s g) g
  let s := s.updGal g (fun y => { y with
    entry := e, mode := e.mode, epoch := s.plan.epoch, changing := false, powerWait := false, forced := forced, qFault := false,
    qTestFail := false, last := none, lastKs := none, run := 0,
    gating := if y.mode = .dark then 16 else y.gating, overSince := none, overShare := false })
  s.updGalx g (fun y => { y with rep := { y.rep with
    banks := if e.mode = .dark then [] else if e.mode = .share then y.rep.banks else y.rep.banks.filter (fun b => match b with
      | .handoff _ _ => false
      | _ => true) } })

/-- May a changing gallery go over to its new mode: no task in flight, no power grant awaited, its hall running? -/
def mayEnter (s : State) (g : Nat) : Bool :=
  let y := s.galAt g
  hallRuns s (hallOf g) && y.changing && y.task.isNone && !y.powerWait && !y.qFault

/-- GALLERY_MODE_CHANGE (R33, R39). -/
def execGalleryModeChange (g : Gal) (s : State) : Result := .next (if mayEnter s g.val then enterMode s g.val false else s)

/-- Does the predicted package draw, the last one measured with 8 W for each power-up granted since, fit the budget with 8 W more (R579)? DEDUCED (log 110). -/
def grantFits (s : State) : Bool := decide (s.power.drawWin.headD 0 + 8000 * s.power.granting + 8000 ≤ 1000 * s.obj 0x4000 1)

/-- Is a hall below both thermal targets and in no trip state (R579, R582)? -/
def hallCool (s : State) (h : Nat) : Bool :=
  let y := s.hallAt h
  y.halted.isNone && y.railOn && !hotRow s h && !y.tripped && decide (y.junctionNow < junctionTarget s) &&
    (List.range 4).all (fun k => decide ((s.stackAt (4 * h + k)).hot < dramTarget s))

/-- May gallery `g` be granted power now (R579)? -/
def grantable (s : State) (g : Nat) : Bool := (s.galAt g).powerWait && hallRuns s (hallOf g) && hallCool s (hallOf g) && grantFits s

/-- GALLERY_POWER_GRANT (R34, R579): the lowest-numbered gallery that may be granted goes first. -/
def execGalleryPowerGrant (g : Gal) (s : State) : Result :=
  .next (if grantable s g.val && (List.range g.val).all (fun k => !grantable s k)
    then enterMode { s with power := { s.power with granting := s.power.granting + 1 } } g.val false else s)

/-- A forced drain (R40): its task completes with `ST_ABORTED_MODE`, then the gallery is reset (R611, R613) and changes. DESIGN CHOICE (log 68): the
`gflags` bit that exempts it (R41) is that of its entry in the target plan; (log 100): an undefined Clear or Share destination in DRAM keeps what was stored by then. -/
def forceDrain (s : State) (g : Nat) : State :=
  let y := s.galAt g
  if y.changing && y.task.isSome && !(PlanEntry.at_ s.plan g).gflags.getLsbD 0 && hallRuns s (hallOf g) && !y.qFault then
    let s := killNow s g St.abortedMode
    if (s.galAt g).qFault then s else enterMode s g true
  else s

/-- MODE_DEADLINE_EXPIRY (R40, R41, R53): in ascending gallery number. A gallery of a held hall is drained once its hall resumes. -/
def execModeDeadlineExpiry (s : State) : Result :=
  .next (if s.plan.at_ + 1000 * s.plan.deadline ≤ s.clock.now then (List.range 64).foldl forceDrain s else s)

/-- Does a gallery quarantined by fault await the test that releases it: a later plan gives it another mode (R35)? -/
def awaitsRelease (s : State) (g : Nat) : Bool :=
  let y := s.galAt g
  y.qFault && decide (y.qEpoch < s.plan.epoch) && (PlanEntry.at_ s.plan g).mode != .quarantined && hallRuns s (hallOf g)

/-- GALLERY_RELEASE_TEST (R35). -/
def execGalleryReleaseTest (g : Gal) (pass : Bool) (s : State) : Result :=
  .next (if awaitsRelease s g.val then
    (if pass then enterMode s g.val false else s.updGal g.val (fun y => { y with qTestFail := true })) else s)

/-! ## Brown-outs (R52, R53) -/

/-- BROWNOUT_TIMEOUT (R53, R594): below 0.55 V for more than 10 µs. -/
def execBrownoutTimeout (h : Hall) (s : State) : Result :=
  .next (match (s.hallAt h.val).heldSince with
    | none => s
    | some t => if t + 10000 < s.clock.now then raiseFree s (Rep.ofHall St.hallBrownout 2 true 21 h.val 0 0) none none else s)

/-! ## The reference timer (R56 to R58) -/

/-- One nanosecond of the reference timer (R56): the copies count on, and each multiple of 256 ns goes to the four halls and to I/O die East (R57). Without `PWRGOOD`
nothing counts. -/
def passNs (s : State) : State :=
  if s.boot.stage = .off then s
  else
    let t := s.clock.now + 1
    { s with clock := { s.clock with
        now := t, shadow := (List.range 5).foldl (fun c k => if t % 256 = 0 then Tab.put 0 k t c else Tab.upd 0 k (· + 1) c) s.clock.shadow } }

/-- The timer reaches its next multiple of 256 ns, which goes to the four halls and to I/O die East (R57, log 6). -/
def broadcast (s : State) : State :=
  let t := (s.clock.now / 256 + 1) * 256
  { s with clock := { s.clock with now := t, shadow := [(0, t), (1, t), (2, t), (3, t), (4, t)] } }

/-- REFTIME_BROADCAST. Without `PWRGOOD` nothing counts. -/
def execReftimeBroadcast (s : State) : Result := .next (if s.boot.stage = .off then s else broadcast s)

/-- Are the registers of BAR0 readable: the link is up (R488, R512)? -/
def barReads (s : State) : Bool := s.cxl.up && decide (s.boot.stage ≠ .off)

/-- REFTIME_LO_READ (R58). -/
def execReftimeLoRead (s : State) : Result :=
  .next (if barReads s then
    ({ s with clock := { s.clock with hiLatch := w32 (s.clock.now / 2 ^ 32) } }).emit (.mmio (w32 s.clock.now)) else s)

/-! ## Pace (R63 to R65) -/

/-- The pace that a ring count of 1 µs stands for, uncorrected: beats in 1 µs as Gbeat/s. -/
def rawPace (count : W32) : W32 := w32 (f32.enc true ((FVal.ofNat count.toNat).div (FVal.ofNat 1000)))

/-- The 64 paces of a hall from its ring counts (R63): converted with each monitor's reference; of a gallery without them uncorrected (R65). -/
def hallPaces (s : State) (h : Nat) (counts : Words) : Words :=
  (List.range 64).map (fun m =>
    let c := counts.getD m 0
    match paceRef s h m with
    | some r => Config.paceOf c r
    | none => rawPace c)

/-- A gallery's reading: the lowest of its four monitors, kept for the average over 1 ms (R64). -/
def paceSample (s : State) (h k : Nat) (ps : Words) : State :=
  s.updGalx (16 * h + k) (fun y => { y with paceWin := ((ps.drop (4 * k)).take 4 :: y.paceWin).take 1000 })

/-- The lowest of a sample's four paces. -/
def lowestPace (ws : Words) : FVal :=
  match ws.map (fun w => f32.dec w.toNat) with
  | [] => .fin false 0 0
  | x :: r => r.foldl (fun (a b : FVal) => if b.lt a then b else a) x

/-- The average over 1 ms that 0x5300 reports, in binary32. DESIGN CHOICE (log 84): the lowest of the four is taken of each sample, then averaged (R64). -/
def paceMean (win : List Words) : W32 :=
  match win with
  | [] => 0
  | _ => w32 (f32.enc true ((win.foldl (fun (a : FVal) w => a.add (lowestPace w)) (FVal.ofNat 0)).div (FVal.ofNat win.length)))

/-- The paces of a hall, gallery by gallery. -/
def paceHall (s : State) (h : Nat) (ps : Words) : State :=
  (List.range 16).foldl (fun s k =>
    (paceSample s h k ps).updGalx (16 * h + k) (fun y => { y with pace := paceMean y.paceWin })) s

/-- A hall converts its ring counts, every 1 µs of the reference timer (R63). -/
def paceMonitor (s : State) (h : Nat) (counts : Words) : State :=
  match (s.hallAt h).paceAt with
  | some t => if s.clock.now < t + 1000 then s else go
  | none => go
where go : State := paceHall (s.updHall h (fun y => { y with paceAt := some s.clock.now })) h (hallPaces s h counts)

/-- PACE_MONITOR_SAMPLE. -/
def execPaceMonitorSample (h : Hall) (counts : Words) (s : State) : Result := .next (if s.boot.stage = .off then s else paceMonitor s h.val counts)

end Sys2Proof.Machine
end

