-- ==== Sys2Proof/Machine/Trng.lean ====
section
/-! DEFINITION. A hall's entropy source (10 R285 to R288, R293): a health test that fails, what stops for it, recovery. -/

namespace Sys2Proof.Machine
open Sys2Proof

/-! ## The tests (R285) -/

/-- A sample meets the continuous tests: what they hold then, and the test that fails: 1 the repetition count, cutoff 81; 2 the adaptive proportion, window 1,024 and
cutoff 840. -/
def Trng.sample (t : Trng) (x : Bool) : Trng × Option Nat :=
  let run := if t.run ≠ 0 ∧ x = t.last then t.run + 1 else 1
  let first := if t.pos = 0 then x else t.first
  let same := if t.pos = 0 then 1 else if x = t.first then t.same + 1 else t.same
  ({ last := x, run := run, first := first, pos := (t.pos + 1) % 1024, same := same },
    if 81 ≤ run then some 1 else if 840 ≤ same then some 2 else none)

/-- Samples meet the tests until one fails. -/
def Trng.samples (t : Trng) : List Bool → Trng × Option Nat
  | [] => (t, none)
  | x :: r =>
    match t.sample x with
    | (t, some k) => (t, some k)
    | (t, none) => t.samples r

/-- The start-up test (R285): 4,096 samples without a failure. -/
def startTest (l : List Bool) : Bool := decide (4096 ≤ l.length) && (Trng.zero.samples (l.take 4096)).2.isNone

/-- A health failure (R286, R287): the record, the halted state; the third within 10 s of the first lasts until the next reset. -/
def rngFail (s : State) (h test : Nat) : State :=
  let s := (report s (Rep.ofHall St.rngHealth 1 true 13 h test h)).bootFailed St.rngHealth
  s.updHall h (fun y =>
    let fails := s.clock.now :: y.rngFails.filter (fun t => decide (s.clock.now ≤ t + 10000000000))
    { y with rng := if 3 ≤ fails.length then 2 else 1, rngFails := fails, rngCount := y.rngCount + 1 })

/-- A vector descriptor that draws stops: its slots stay empty, its flag counts (R293). -/
def stopSampler (s : State) (g l : Nat) : State :=
  match (s.lanAt g l).rv with
  | none => s
  | some r =>
    if !r.draws then s
    else
      let (w, s) := (headNow (s.updLan g l (fun y => { y with rv := none })) g l 1).freshWords 1
      touch (flagDone (vRecord s g l St.rngHalted 1 (r.op + 256 * 8) (w.getD 0 0).toNat) g l r.flag) g

/-- A `release` that floods stops (R271, R293). -/
def stopRelease (s : State) (g : Nat) : State :=
  match (s.galxAt g).mac with
  | none => s
  | some r => if r.num = 0x10 ∧ floods s g = true then noNoise s g r.addr r.flag r.members else s

/-- An update job that draws stops (R293, R417). -/
def stopUpdate (s : State) (g : Nat) : State :=
  match (s.galxAt g).upd with
  | none => s
  | some j => if jMode j.block = 2 then
      updEnd (updRecord s g St.rngHalted 1 none none) g j ((j.pass.map (fun p => p.next * rowBlocks j.block)).getD 0) (some St.rngHalted) else s

/-- Everything of a gallery that is drawing stops (RNG_HALT_STOP, R293). -/
def stopDraws (s : State) (g : Nat) : State :=
  atOnce s (fun s => stopUpdate (stopRelease ((List.range 64).foldl (fun s l => stopSampler s g l) s) g) g)

/-- Does a hall's entropy source run: from the steps of a start on, in a hall that has not halted (R285, R594)? -/
def trngOn (s : State) (h : Nat) : Bool :=
  (decide (s.boot.stage = .ready) || (decide (s.boot.stage = .boot) && s.boot.done)) && (s.hallAt h).halted.isNone

/-- TRNG_HEALTH_FAIL (R286): the source delivers samples, up to one that fails a continuous test; its test stops every draw of the hall. -/
def trngFail (s : State) (h : Nat) (l : List Bool) : State :=
  if !trngOn s h || rngHalted s (16 * h) then s
  else
    let x := (s.hallAt h).trng.samples l
    let s := s.updHall h (fun y => { y with trng := x.1 })
    match x.2 with
    | none => s
    | some k => (List.range 16).foldl (fun s i => stopDraws s (16 * h + i)) (rngFail s h k)

def execTrngHealthFail (h : Hall) (samples : List Bool) (s : State) : Result := .next (trngFail s h.val samples)

/-- Every DRBG of a hall reseeds (R287, R289). -/
def reseedHall (s : State) (h : Nat) : State :=
  (List.range 16).foldl (fun s k => s.updGalx (16 * h + k) (fun y => { y with drbg := { y.drbg with due := true } })) s

/-- TRNG_RETRY (R287): 1 ms after a failure the start-up test runs again, on new samples. -/
def trngRetry (s : State) (h : Nat) (l : List Bool) : State :=
  let y := s.hallAt h
  if !trngOn s h || y.rng != 1 || decide (s.clock.now < (y.rngFails.head?).getD 0 + 1000000) then s
  else if startTest l then
    let (w, s) := (reseedHall (s.updHall h (fun y => { y with rng := 0, trng := (Trng.zero.samples (l.take 4096)).1 })) h).freshWords 2
    report s (Rep.ofHall St.rngRecovered 0 false 13 h (w.getD 0 0).toNat (w.getD 1 0).toNat)
  else rngFail s h 3

def execTrngRetry (h : Hall) (samples : List Bool) (s : State) : Result := .next (trngRetry s h.val samples)

end Sys2Proof.Machine
end

