-- ==== Sys2Proof/Machine/Start.lean ====
section
/-! DEFINITION. Start-up and resets (23): the boot ROM's check of the image (20 R562 to R564), the calibration check (R620), cold and warm resets,
ready, power. -/

namespace Sys2Proof.Machine
open Sys2Proof

/-! ## The firmware image (R562, R563) -/

/-- Types 1 to 5 once each, inside the image, none overlapping. -/
def sectionsOk (b : Bytes) : Bool :=
  let l := imgSections b
  l.length == 5 && [1, 2, 3, 4, 5].all (fun (k : Nat) => l.any (fun c => c.1 == k)) &&
    l.all (fun c => decide (0x200 ≤ c.2.1 ∧ c.2.1 + c.2.2 ≤ fld b 0x10 4)) &&
    l.all (fun c => l.all (fun d => c == d || decide (c.2.1 + c.2.2 ≤ d.2.1 ∨ d.2.1 + d.2.2 ≤ c.2.1)))

/-- Check 1 of R563: magic, format, security version, reserved fields, lengths, section table. -/
def imgFormatOk (b : Bytes) : Bool :=
  decide (0x200 ≤ b.length) && slice b 0 4 == [0x4C, 0x46, 0x57, 0x31] && fld b 4 2 == 1 && zeros b 7 1 && decide (fld b 8 1 ≤ 64) && zeros b 9 3 && zeros b 0x14 12 &&
    zeros b 0xA0 224 && fld b 0x10 4 == b.length && b.length % 4096 == 0 && decide (b.length ≤ 33554432) &&
    (List.range 8).all (fun e => zeros b (0x21 + 16 * e) 3 && zeros b (0x2C + 16 * e) 4) && sectionsOk b

/-- Is a firmware key slot burned and not revoked? -/
def keySlotOk (u : Fuses) (k : Nat) : Bool := decide (k < 4) && (u.keyHash.getD k []).any (· != 0) && !nbit u.keyRevoked k

/-- The checks of R563 in their order: the first that fails. -/
def imgBad (u : Fuses) (o : Option Bytes) : Option Nat :=
  match o with
  | none => none
  | some b =>
    if !imgFormatOk b then some St.fwFormat
    else if !keySlotOk u (imgSlot o) || Crypto.sha256 (slice b 0x180 64) != u.keyHash.getD (imgSlot o) [] then some St.fwKeyRevoked
    else if imgSecVer o < u.secVer then some St.fwRollback
    else
      let e := beNat (Crypto.sha256 (b.take 0x1C0 ++ b.drop 0x200))
      let x := beNat (slice b 0x180 32)
      let y := beNat (slice b 0x1A0 32)
      if decide (x < Crypto.p256.p ∧ y < Crypto.p256.p) && Crypto.p256.on x y &&
        Crypto.p256.verify e (beNat (slice b 0x1C0 32)) (beNat (slice b 0x1E0 32)) x y then none else some St.fwSignature

/-- The boot ROM checks the image (R563, R564, R632): recovery, or the image is copied and the code lock set (R546). -/
def checkImage (s : State) : State :=
  let recover (s : State) (st : Nat) : State :=
    { s with boot := { s.boot with stage := .recovery, fail := st }, lamp := { s.lamp with st := 1, fwVersion := 0 } }
  if 64 ≤ s.pins.straps.toNat ∧ nbits s.pins.straps.toNat 7 6 ≠ 0 then recover s St.strap
  else
    match imgBad s.lamp.fuses s.lamp.fw.flash with
    | some st => recover { s with lamp := { s.lamp with fw := { s.lamp.fw with fail := st } } } st
    | none =>
      { s with lamp := { s.lamp with
          locked := true, fwVersion := imgVersion s.lamp.fw.flash, fw := { s.lamp.fw with running := s.lamp.fw.flash } } }

/-! ## The calibration set (R541, R544, R620) -/

/-- The defaults of R620: no offsets, gains 1.0; the rest is named by the model (log 19). -/
def calDefaults : List Bytes := [[], (List.range 192).flatMap (fun _ => natLe 4 0x3F800000)]

/-- What a reset finds of a calibration set: changes not committed are lost (R542); a commit in progress leaves it corrupt (R544). -/
def Calibration.afterReset (c : Calibration) : Calibration :=
  { c with items := c.flash, flashOk := c.flashOk && c.committing.isNone, changed := false, defaults := false, committing := none }

/-- State of the set, 0x3000:02 (R544). -/
def Calibration.code (c : Calibration) : Nat := if c.defaults then 2 else if c.changed then 3 else if c.factory then 0 else 1

/-- Firmware checks the set (R620); on the defaults the process index reads 0 (R65). -/
def checkCal (s : State) : State :=
  if s.hal.cal.flashOk then s
  else
    let s := s.bootFailed St.calDefault
    let old := s.hal.cal.code
    let s := { s with hal := { s.hal with cal := { s.hal.cal with items := calDefaults, defaults := true } }, lamp := { s.lamp with calDefault := true } }
    let s := journal s (JChange.dev 4 1 0x3000 2 (natLe 1 old) (natLe 1 2))
    let s := (List.range 4).foldl (fun s h => s.updHall h (fun y => { y with process := 0 })) s
    raiseFree s (Rep.dev St.calDefault 0 true 19 0 0) none none

/-! ## What the tests find (R622, R397, R398, R167) -/

/-- A failing line of a gallery store bank: spared; beyond 16 the gallery is quarantined (R398). -/
def bootLine (s : State) (c : Nat × Nat) : State :=
  if (s.galAt c.1).qFault then s
  else if Tab.get 0 c.2 (s.galxAt c.1).rep.spare < 16 then
    s.updGalx c.1 (fun y => { y with rep := { y.rep with spare := Tab.upd 0 c.2 (· + 1) y.rep.spare } })
  else quarantine (report (s.bootFailed St.storeRepair) (Rep.ofGal St.storeRepair 2 true 7 c.1 c.1 c.2)) c.1 St.storeRepair

/-- A small table of a gallery fails. -/
def bootGallery (s : State) (g : Nat) : State :=
  if (s.galAt g).qFault then s
  else
    let (w, s) := (s.bootFailed St.storeRepair).freshWords 1
    quarantine (report s { Rep.ofGal St.storeRepair 2 true 11 g g 0 with d1 := w.getD 0 0 }) g St.storeRepair

/-- A lantern that fails its test is mapped out (R398). -/
def bootLantern (s : State) (c : Nat × Nat) : State := (lanternDead s c.1 c.2).bootFailed St.lanternSpared

/-- A wick that fails: the spare of its sliver, or the lantern is dead (R166, R167). -/
def bootWick (s : State) (c : Nat × Nat) : State :=
  if Tab.get false c.2 (s.galxAt c.1).rep.wickUsed then bootLantern s c
  else s.updGalx c.1 (fun y => { y with rep := { y.rep with wickUsed := Tab.put false c.2 true y.rep.wickUsed } })

/-- A deep-retention bank, 0 to 7, or a small table of a hall fails (R398): the hall halts at once (R594, R598). -/
def bootHall (s : State) (c : Nat × Nat) : State :=
  if (s.hallAt c.1).halted.isSome then s
  else if c.2 < 8 then raise (s.bootFailed St.storeRepair) (Rep.ofHall St.storeRepair 2 true 12 c.1 c.1 c.2)
  else
    let (w, s) := (s.bootFailed St.storeRepair).freshWords 1
    raise s { Rep.ofHall St.storeRepair 2 true 12 c.1 c.1 0 with d1 := w.getD 0 0 }

/-- The tests of a cold start. -/
def bootTests (s : State) (b : BootReport) : State :=
  let s := b.lostChannels.foldl (fun s c => loseChannel s c.1 c.2) s
  let s := b.spareLines.foldl bootLine s
  let s := b.badGalleries.foldl bootGallery s
  let s := b.deadLanterns.foldl bootLantern s
  let s := b.badWicks.foldl bootWick s
  let s := b.badHalls.foldl bootHall s
  (List.range 4).foldl (fun s h => s.updHall h (fun y => { y with process := if s.lamp.calDefault then 0 else b.process.getD h y.process })) s

/-- Every flight begins to train, and ready does not wait for it (R615 step 8, R484). -/
def startFlights (s : State) : State := (List.range 36).foldl (fun s f => s.updFlight f (fun y => { y with st := 1, training := false })) s

/-- Hall `h`'s start-up test (R285, R622): its samples are the first that the continuous tests see. -/
def bootTrng (b : BootReport) (s : State) (h : Nat) : State :=
  if (s.hallAt h).rng ≠ 0 ∨ (s.hallAt h).halted.isSome then s
  else
    let l := ((b.trng.find? (fun c => c.1 == h)).map (·.2)).getD []
    if startTest l then s.updHall h (fun y => { y with trng := (Trng.zero.samples (l.take 4096)).1 }) else rngFail s h 3

/-- The reset's own entry (R621): what waits in SRAM is programmed first (R538). -/
def resetEntry (s : State) : State :=
  if s.boot.logged then s
  else
    let s := if s.hal.jram.isEmpty then s else journalFlush s
    let s := journal s (JChange.dev 4 7 0 0 [] [BitVec.ofNat 8 s.boot.cause, if s.hal.cal.flashOk then 0 else 1])
    { s with boot := { s.boot with logged := true } }

/-- Steps 2 to 9 of R615 as far as they change the state: the image, the calibration set, rails, tests. A warm start runs the TRNG tests only
(R619), unless no cold start has reached ready (R617). -/
def startSteps (s : State) (b : BootReport) : State :=
  let s := resetEntry (checkImage s)
  if s.boot.stage ≠ .boot then s
  else
    let s := checkCal { s with boot := { s.boot with done := true } }
    let mv := if s.lamp.calDefault then 680 else 720
    let s := (List.range 4).foldl (fun s h => s.updHall h (fun y => { y with railOn := true, setPoint := mv })) s
    let s := if s.boot.cold then bootTests s b else s
    let s := startFlights ((List.range 4).foldl (bootTrng b) s)
    if b.fatal then startFatal s else s

/-! ## Cold reset and power (R611, R613, R630) -/

/-- What power cannot take: flash and fuses (R613). An image or a set that is being programmed is lost (R544, R565). -/
def powerless (s : State) : State :=
  { State.reset with
    pending := s.pending, free := s.free, out := s.out,
    pins := { s.pins with pwrgood := false, thermtrip := false },
    boot := { State.reset.boot with stage := .off },
    hal := { Haldub.zero with
      jflash := s.hal.jflash, jlast := s.hal.jflash.getLast?, jgap := 1088, cal := s.hal.cal.afterReset },
    lamp := { Lamp.zero with
      fuses := s.lamp.fuses, firstClaim := s.lamp.firstClaim,
      fw := { FwState.zero with flash := if s.lamp.fw.st = 3 then some [] else s.lamp.fw.flash } } }

/-- PWRGOOD_FALL (R630): halls halt, every `HALL_EN` off, contents lost. -/
def execPwrgoodFall (s : State) : Result := .next (if s.pins.pwrgood then powerless s else s)

/-- PWRGOOD_RISE (R615, R632): the timer at 0, the straps sampled; with `PERST#` released the steps follow. -/
def pwrgoodRise (s : State) (straps : Byte) (b : BootReport) : State :=
  let s := { powerless s with pins := { s.pins with pwrgood := true, thermtrip := false, straps := straps }, boot := State.reset.boot }
  if s.pins.perst then s else startSteps s b

def execPwrgoodRise (straps : BitVec 8) (boot : BootReport) (s : State) : Result :=
  .next (if s.pins.pwrgood then s else pwrgoodRise s straps boot)

/-! ## Warm reset (R613, R617, R619) -/

/-- A hall after a warm reset: its counts since cold boot and its process index stay. -/
def HallState.warm (y : HallState) : HallState :=
  { HallState.zero with holds := y.holds, process := y.process, rngCount := y.rngCount, trips := y.trips, railOn := y.railOn }

/-- A gallery's spares, map and incarnations stay. -/
def GalleryX.warm (y : GalleryX) : GalleryX :=
  { GalleryX.zero with
    lmap := y.lmap, phys := y.phys.map (fun c => (c.1, { c.2 with testing := none, stale := false, spoke := none })),
    rep := { y.rep with dying := [], ecc := [], banks := [] }, refused := y.refused, pace := y.pace, paceWin := y.paceWin, junction := y.junction }

/-- A flight goes down; its counts since cold boot stay (R484, R486). -/
def FlightState.warm (y : FlightState) : FlightState :=
  { FlightState.zero with retrains := y.retrains, ctr := y.ctr }

/-- Before the first ready of a cold start every table of its tests is built again (R617). -/
def GalleryX.retest (y : GalleryX) : GalleryX :=
  { y with lmap := [], phys := [], rep := { Repair.zero with corrected := y.rep.corrected } }

def StackState.retest (y : StackState) : StackState := { StackState.zero with band := y.band, hot := y.hot, corrected := y.corrected }

/-- What a warm reset leaves: training, spares, the timer, the journal, flash and fuses. -/
def warmState (s : State) (cause : Nat) : State :=
  { State.reset with
    pending := s.pending, free := s.free, out := s.out, pins := s.pins,
    boot := { s.boot with stage := .boot, done := false, wiping := true, logged := false, cause := cause, causeAt := s.clock.now },
    clock := { s.clock with hiLatch := 0 },
    hall := s.hall.map (fun c => (c.1, c.2.warm)),
    galx := s.galx.map (fun c => (c.1, if s.boot.cold then c.2.warm.retest else c.2.warm)),
    dram := { Dram.zero with
      mem := s.dram.mem, poi := s.dram.poi, stk := if s.boot.cold then s.dram.stk.map (fun c => (c.1, c.2.retest)) else s.dram.stk },
    net := { Net.zero with
      fl := s.net.fl.map (fun c => (c.1, c.2.warm)), refusals := s.net.refusals, dropped := s.net.dropped, late := s.net.late },
    hal := { Haldub.zero with
      dict := Tab.keep (fun k => decide (k / 256 = 0x6182)) s.hal.dict, dropped := s.hal.dropped, accepted := s.hal.accepted, jram := s.hal.jram, jflash := s.hal.jflash, jlast := s.hal.jlast, jgap := s.hal.jgap,
      jbusy := s.hal.jbusy, cal := s.hal.cal.afterReset, offset := s.hal.offset, slewTo := s.hal.slewTo, slewAt := s.hal.slewAt },
    lamp := { Lamp.zero with
      fuses := s.lamp.fuses, firstClaim := s.lamp.firstClaim, wdTrips := s.lamp.wdTrips,
      fw := { FwState.zero with flash := if s.lamp.fw.st = 3 then some [] else s.lamp.fw.flash } },
    power := { Power.zero with dramT := s.power.dramT, iodT := s.power.iodT } }

/-- A warm reset with a cause (R621); code 6 from the held state. `THERMTRIP_N` keeps it away (R634). An earlier reset whose steps have not begun has its entry first. -/
def warmReset (s : State) (cause : Nat) : State :=
  if s.boot.stage = .off ∨ s.pins.thermtrip then s
  else warmState (resetEntry s) (if s.boot.stage = .held then 6 else cause)

/-- PERST_ASSERT (R611). -/
def execPerstAssert (s : State) : Result :=
  .next (if s.pins.perst then s
    else
      let s := { s with pins := { s.pins with perst := true } }
      if s.pins.pwrgood then warmReset s 2 else s)

/-- PERST_RELEASE (R619): the steps follow. -/
def execPerstRelease (boot : BootReport) (s : State) : Result :=
  .next (if !s.pins.perst then s
    else
      let s := { s with pins := { s.pins with perst := false } }
      if s.boot.stage = .boot ∧ s.boot.done = false then startSteps s boot else s)

/-- CXL_RESET (R611, R512): over configuration space, which answers in the held state too. -/
def execCxlReset (s : State) : Result := .next (if s.boot.stage ≠ .off ∧ s.cxl.up then warmReset s 3 else s)

/-! ## Ready (R615, R618, R621) -/

/-- HALL_STARTUP_TIMEOUT (R622): step 7 has not ended by 700 ms. -/
def hallLate (s : State) (h : Nat) : State :=
  if s.boot.stage = .boot ∧ s.boot.done ∧ s.boot.causeAt + 700000000 ≤ s.clock.now ∧ (s.hallAt h).halted.isNone then
    let s := s.bootFailed St.startupHall
    raiseFree (s.updHall h (fun y => { y with railOn := false })) (Rep.ofHall St.startupHall 2 true 21 h 0 0) none none
  else s

def execHallStartupTimeout (h : Hall) (s : State) : Result := .next (hallLate s h.val)

/-- Ready: the time since the cause, in µs (R621). -/
def becomeReady (s : State) : State :=
  { s with boot := { s.boot with stage := .ready, cold := false, readyUs := (s.clock.now - s.boot.causeAt) / 1000 }, lamp := { s.lamp with st := 2 } }

/-- STARTUP_READY: a start whose steps no command has carried out runs them now, with this report (log 3); ready comes once memory is wiped. -/
def startupReady (s : State) (boot : BootReport) : State :=
  if s.boot.stage ≠ .boot ∨ s.pins.perst then s
  else
    let s := if s.boot.done then s else startSteps s boot
    if s.boot.stage = .boot ∧ s.boot.wiping = false then becomeReady s else s

def execStartupReady (boot : BootReport) (s : State) : Result := .next (startupReady s boot)

end Sys2Proof.Machine
end

