-- ==== Sys2Proof/Machine/FaultObj.lean ====
section
/-! DEFINITION. Records after they are made (22): their consequences, copying, acknowledgement, the watchdog; dead lanterns that speak, readmission;
gallery resets (23 R612 to R614). -/

namespace Sys2Proof.Machine
open Sys2Proof

/-! ## Consequences (R592, R593, R598) -/

/-- Abort every task that runs on the unit of an escalated record (R592): a gallery's, or a hall's. -/
def abortUnit (s : State) (r : FRec) : State :=
  if r.ofGal then killTask s r.gallery r.status
  else if r.ofHall then (List.range 16).foldl (fun s k => killTask s (16 * r.hall + k) r.status) s
  else s

/-- A unit leaves service under Unit-lost (R593). -/
def unitLost (s : State) (r : FRec) : State :=
  if r.ofLan then lanternLost s r.gallery (lmapOf s r.gallery r.index).phys
  else if r.gallery < 64 ∧ galUnit r.unit then quarantine s r.gallery r.status
  else if r.ofHall then (if (s.hallAt r.hall).halted.isSome then s else haltHall s r.hall r.status)
  else if r.unit = 15 ∧ r.index < 36 then dropFlight s r.index 0
  else if r.unit = 16 then releaseWaits (portDown { s with cxl := { s.cxl with up := false } }) (waitsSnoop s)
  else s

/-- The consequence of a record by its class; nothing of one that is moot. -/
def consequence (s : State) (r : FRec) : State :=
  if r.moot s then s
  else if r.sev = 2 then unitLost s r
  else if r.sev = 1 ∧ nbit r.cls 2 then abortUnit s r else s

/-- FAULT_RECORD_HANDLE (R592, R598): the oldest record whose consequence waits. The held lamplighter handles none. -/
def execFaultRecordHandle (s : State) : Result :=
  .next (
    if s.boot.stage = .off ∨ s.boot.stage = .held then s
    else
      match s.fault.todo with
      | [] => s
      | r :: rest => consequence { s with fault := { s.fault with todo := rest } } r)

/-- FAULT_HANDLING_TIMEOUT (R600): the oldest waiting record has waited more than 1 ms. -/
def execFaultHandlingTimeout (s : State) : Result :=
  .next (match s.fault.todo with
    | [] => s
    | r :: _ => if s.boot.stage ≠ .off ∧ r.reftime + 1000000 < s.clock.now then faultPath s else s)

/-! ## The rings (R602 to R605) -/

/-- The oldest on-die record that has not been copied: its slot and itself. -/
def nextCopy (f : Faults) : Option (Nat × FRec) :=
  f.die.foldl (fun (acc : Option (Nat × FRec)) c =>
    match c.2 with
    | none => acc
    | some o =>
      if o.copied then acc
      else
        match acc with
        | none => some (c.1, o.r)
        | some (k, r) => if o.r.seq < r.seq then some (c.1, o.r) else some (k, r)) none

/-- The held record whose entry of the memory ring a new one takes (R604): of the lowest class below Device-fatal, the oldest. -/
def memVictim (f : Faults) : Option FRec :=
  let cand (c : Nat) := f.mem.find? (fun r => r.sev == c && r.status != St.errorsLost)
  ((cand 0).orElse (fun _ => cand 1)).orElse (fun _ => cand 2)

/-- Enter a record in the memory ring; the flag says that a record is lost. The list is in `seq` order. -/
def memEnter (f : Faults) (r : FRec) : Faults × Bool :=
  if f.mem.length < 4096 then ({ f with mem := f.mem ++ [r] }, false)
  else
    match memVictim f with
    | some x => ({ f with mem := f.mem.erase x ++ [r] }, true)
    | none => (f, true)

/-- Post an event to a CXL log of 64 records (R509); a full log counts what it cannot hold. -/
def postEvent (s : State) (r : FRec) : State :=
  if r.sev = 2 then
    if s.cxl.failLog.length < 64 then { s with cxl := { s.cxl with failLog := s.cxl.failLog ++ [r.bytes] } }
    else { s with cxl := { s.cxl with failLost := s.cxl.failLost + 1 } }
  else if r.sev = 3 then
    if s.cxl.fatalLog.length < 64 then { s with cxl := { s.cxl with fatalLog := s.cxl.fatalLog ++ [r.bytes] } }
    else { s with cxl := { s.cxl with fatalLost := s.cxl.fatalLost + 1 } }
  else s

/-- FAULT_RECORD_COPY (R602, R604, R605): a copy of an acknowledged record is free at once; vector 0 follows the copy, and not in the held state. -/
def copyRecord (s : State) : State :=
  match nextCopy s.fault with
  | none => s
  | some (k, r) =>
    let f := { s.fault with die := Tab.put none k (some { r := r, copied := true }) s.fault.die }
    let x := if r.seq < f.ack then (f, false) else memEnter f r
    let f := if x.2 then announceLost s x.1 1 else x.1
    let s := postEvent { s with fault := f } r
    if s.boot.stage ≠ .held ∧ s.obj 0x7000 6 ≤ r.sev then s.msix 0 else s

def execFaultRecordCopy (s : State) : Result := .next (if s.boot.stage = .off then s else copyRecord s)

/-- The acknowledged-through value rises (R603); refused below the value in force and above the newest number plus 1. -/
def ackTo (s : State) (n : Nat) : Option State :=
  if n < s.fault.ack ∨ s.fault.next < n then none
  else some { s with fault := { s.fault with
    ack := n, mem := s.fault.mem.filter (fun r => decide (n ≤ r.seq)), open_ := s.fault.open_.filter (fun r => decide (n ≤ r.seq)),
    lostSince := 0, lostRec := none } }

/-- FAULT_ACK: a write of 0x7000:02. -/
def ackApply (v : Bytes) (s : State) (_ : Who) : Applied :=
  match ackTo s (leNat v) with
  | none => .error St.planRefused
  | some t => .ok (t, natLe 8 s.fault.ack, v)

def execFaultAck (q : Req) (v : Bytes) (s : State) : Result := .next (reqWrite s q 0x7000 2 v none (ackApply v))

/-- The number of the newest record, 0 before the first. -/
def Faults.newest (f : Faults) : Nat := f.next - 1

/-- FAULT_SEQ_LO_READ: a read of `DEV_FAULT_SEQ_LO`, served in the held state too. -/
def execFaultSeqLoRead (s : State) : Result :=
  .next (if barReads s then
    ({ s with fault := { s.fault with seqHi := w32 (s.fault.newest / 2 ^ 32) } }).emit (.mmio (w32 s.fault.newest)) else s)

/-! ## The lamplighter's own failures (20 R546) -/

/-- WATCHDOG_EXPIRY (R546, R600). -/
def execWatchdogExpiry (s : State) : Result :=
  .next (if s.boot.stage = .off ∨ s.boot.stage = .held then s
    else raiseFree { s with lamp := { s.lamp with wdTrips := satAdd 255 s.lamp.wdTrips 1 } } (Rep.dev St.watchdog 3 true 17 0 0) none none)

/-- LAMP_SRAM_ERROR (R546): corrected, or fatal; while records wait for handling that is a fault in the error path too (R600). -/
def execLampSramError (fatal : Bool) (s : State) : Result :=
  .next (if s.boot.stage = .off ∨ s.boot.stage = .held then s
    else if fatal then
      raiseFree (if s.fault.todo.isEmpty then s else faultPath s) (Rep.dev St.lampEccUe 3 true 17 0 0) none none
    else raiseFree { s with lamp := { s.lamp with eccCount := s.lamp.eccCount + 1 } } (Rep.dev St.lampEccCe 0 true 17 0 0) none none)

/-! ## Fenced lanterns (R606 to R610) -/

/-- HEARTBEAT_MISS (R606): the control core of a mapped lantern has missed the heartbeat for 100 µs. -/
def execHeartbeatMiss (g : Gal) (phys : Fin 68) (s : State) : Result :=
  .next (if hallRuns s (hallOf g.val) && isMapped s g.val phys.val && (s.galAt g.val).mode != .dark then
    lanternLost s g.val phys.val else s)

/-- Does the gate of a gallery accept a sender (R607)? -/
def gateAccepts (s : State) (g p : Nat) (inc : W16) : Bool :=
  (List.range 64).any (fun l => let m := lmapOf s g l
    m.valid && m.phys == p && m.inc == inc)

/-- The logical index that a physical lantern serves or last served (R607); of a spare that never served, free (log 8). -/
def lastServed (s : State) (g p : Nat) : W32 × State :=
  match logicalOf s g p with
  | some l => (w32 l, s)
  | none =>
    if 64 ≤ p ∧ (physOf s g p).inc = 0 then
      let (w, s) := s.freshWords 1
      (w.getD 0 0, s)
    else (w32 (physOf s g p).lastLogical, s)

/-- A request refused at the gate (R607, R608). -/
def refuseStale (s : State) (g p : Nat) (inc : W16) : State :=
  let y := physOf s g p
  let s := s.updGalx g (fun x => { x with refused := satAdd (2 ^ 32 - 1) x.refused 1 })
  let s := updPhys s g p (fun y => { y with
    stale := true, gateOff := y.gateOff || (y.dead && y.reheld), spoke := if y.dead && !y.reheld then some (y.spoke.getD s.clock.now) else y.spoke })
  if y.stale then s
  else
    let (d, s) := lastServed s g p
    report s { Rep.ofGal St.staleLantern 0 true 0 g (p + 65536 * inc.toNat) 0 with d1 := d }

/-- STALE_LANTERN_REQUEST. -/
def execStaleLanternRequest (g : Gal) (phys : Fin 68) (inc : BitVec 16) (s : State) : Result :=
  .next (if s.boot.stage = .off ∨ gateAccepts s g.val phys.val inc then s else refuseStale s g.val phys.val inc)

/-- DEAD_LANTERN_REHOLD (R608). -/
def execDeadLanternRehold (g : Gal) (phys : Fin 68) (s : State) : Result :=
  .next (
    let y := physOf s g.val phys.val
    if y.dead && y.spoke.isSome && !y.reheld then updPhys s g.val phys.val (fun y => { y with reheld := true, spoke := none }) else s)

/-- A readmission names a dead lantern of a gallery that is not Dark (R610). DESIGN CHOICE (log 95): nor one that is under test. -/
def readmitAccept (q : Req) (v : Bytes) (s : State) (_ : Who) : Except Nat State :=
  let g := fld v 0 1
  let p := fld v 1 1
  if 63 < g ∨ 67 < p then .error St.planRefused
  else if (physOf s g p).dead = false ∨ (s.galAt g).mode = .dark ∨ (physOf s g p).testing.isSome then .error St.planRefused
  else .ok (updPhys s g p (fun y => { y with testing := some q }))

/-- LANTERN_READMIT: the answer waits for the test. -/
def execLanternReadmit (q : Req) (v : Bytes) (s : State) : Result :=
  .next (request s q (fun s =>
    let x := askObj s q 0x7123 0 v none (readmitAccept q v)
    if x.2 = St.ok then defer x.1 q else answer x.1 q x.2))

/-- READMIT_TEST_DONE (R610): a free spare, or dead still; journalled with origin Operator either way. -/
def readmitDone (s : State) (g p : Nat) (pass : Bool) : State :=
  match (physOf s g p).testing with
  | none => s
  | some q =>
    let v : Bytes := [BitVec.ofNat 8 g, BitVec.ofNat 8 p]
    let s := updPhys s g p (fun y =>
      if pass then { y with testing := none, dead := false, asSpare := true, gateOff := false, stale := false, spoke := none, reheld := false }
      else { y with testing := none })
    let s := journal s (laterEntry s q 2 0 0x7123 0 none [] v)
    answerLater s q (frameOf 0x7123) (if pass then St.ok else St.readmitFail)

def execReadmitTestDone (g : Gal) (phys : Fin 68) (pass : Bool) (s : State) : Result :=
  .next (if s.boot.stage = .ready then readmitDone s g.val phys.val pass else s)

/-! ## Gallery reset (23 R612 to R614) -/

/-- The reset of a gallery: its task completes, its state is cleared, its memories are wiped, its DRBG reseeds; mode, entry and epoch stay. -/
def galleryReset (s : State) (g : Nat) : State :=
  let s :=
    if (s.galAt g).task.isSome then
      let (w, s) := s.freshWords 2
      killNow (reportTask s { Rep.ofGal St.galleryReset 1 false 11 g 0 0 with d0 := w.getD 0 0, d1 := w.getD 1 0 }) g St.galleryReset
    else s
  resetGallery s g

/-- Who may name the gallery (R612). -/
def resetApply (v : Bytes) (s : State) (w : Who) : Applied :=
  if 63 < leNat v then .error St.planRefused
  else if w.role = 3 ∧ (s.galAt (leNat v)).entry.mask &&& ~~~w.mask ≠ 0 then .error St.objAccess
  else .ok (galleryReset s (leNat v), [], v)

/-- GALLERY_RESET_WRITE. -/
def execGalleryResetWrite (q : Req) (v : Bytes) (s : State) : Result := .next (reqWrite s q 0x2104 0 v none (resetApply v))

end Sys2Proof.Machine
end

