-- ==== Sys2Proof/Machine/Time.lean ====
section
/-! DEFINITION. Time (19 R532, R533), programming the journal (R537, R538), the calibration objects (R541 to R544). -/

namespace Sys2Proof.Machine
open Sys2Proof

/-! ## TIME64 -/

/-- TIME64 is to become a value now: more than 1 ms later is stepped to, anything else is slewed to at 500 ppm (R533). -/
def setTime (s : State) (v : Nat) : State :=
  let cur := s.offsetAt s.clock.now
  let want : Int := (v : Int) - (s.clock.now : Int)
  { s with hal := { s.hal with offset := if 1000000 < want - cur then want else cur, slewTo := want, slewAt := s.clock.now } }

/-- TIME_SET: a write of 0x8010:04, refused while a source is in use. -/
def timeApply (v : Bytes) (s : State) (w : Who) : Applied :=
  if s.timeSource ≠ 0 then .error St.planRefused else keepValue 0x8010 4 v (setTime s (leNat v)) w

def execTimeSet (q : Req) (v : Bytes) (s : State) : Result := .next (reqWrite s q 0x8010 4 v none (timeApply v))

/-- The code of a source (0x8010:02). -/
def TimeSource.code (t : TimeSource) : Nat := match t with
  | .ptp => 1
  | .ptm => 2

/-- Does firmware run? -/
def fwRuns (s : State) : Bool := decide (s.boot.stage = .ready)

/-- TIME_CORRECTION: the source in use says that TIME64 is `v`. -/
def execTimeCorrection (src : TimeSource) (v : BitVec 64) (s : State) : Result :=
  .next (if fwRuns s && s.timeSource == TimeSource.code src then setTime s v.toNat else s)

/-- TIME_SOURCE_LOCK_CHANGE: PTP locks over the field port; PTM is there while the link is up and the host enables it. -/
def sourceLock (s : State) (src : TimeSource) (on : Bool) : State :=
  match src with
  | .ptp => { s with hal := { s.hal with ptp := on && s.hal.fieldUp } }
  | .ptm => { s with hal := { s.hal with ptm := on && s.cxl.up } }

def execTimeSourceLockChange (src : TimeSource) (on : Bool) (s : State) : Result := .next (if fwRuns s then sourceLock s src on else s)

/-- FIELD_PORT_LINK_CHANGE (R515, R516): a link that comes up checks the port's address; without the port PTP has no lock. -/
def execFieldPortLinkChange (up : Bool) (s : State) : Result :=
  .next (if s.boot.stage = .off then s else { s with hal := { s.hal with
    fieldUp := up, dad := if up && !s.hal.fieldUp then .checking s.clock.now else s.hal.dad, ptp := s.hal.ptp && up } })

/-! ## The journal in flash -/

/-- JOURNAL_PROGRAM (R537, R538): the oldest buffered entry goes to flash. -/
def journalProgram (s : State) : State :=
  match s.hal.jram with
  | [] => s
  | e :: rest => { s with hal := { s.hal with jram := rest, jflash := heldEntries s.hal.jlast (s.hal.jflash ++ [e]) } }

def execJournalProgram (s : State) : Result := .next (if fwRuns s then journalProgram s else s)

/-! ## Calibration -/

/-- The items of a set as bytes (R541). -/
def calAll (l : List Bytes) : Bytes := (List.range 5).flatMap (calItem l)

/-- An item written (R542): in force at once, in SRAM. -/
def calApply (i : Nat) (v : Bytes) (s : State) (_ : Who) : Applied :=
  let c := s.hal.cal
  .ok ({ s with hal := { s.hal with cal := { c with
      items := (List.range 5).map (fun k => if k = i then v else calItem c.items k), changed := true } } }, calItem c.items i, v)

/-- CALIBRATION_WRITE. -/
def execCalibrationWrite (q : Req) (item : Fin 5) (v : Bytes) (s : State) : Result :=
  .next (reqWrite s q (0x3100 + item.val) 1 v none (calApply item.val v))

/-- A commit is accepted: only the value 1, and none while one runs. -/
def commitApply (q : Req) (v : Bytes) (s : State) (_ : Who) : Applied :=
  if leNat v ≠ 1 ∨ s.hal.cal.committing.isSome then .error St.planRefused
  else
    let c := s.hal.cal
    .ok ({ s with hal := { s.hal with cal := { c with committing := some (q, (List.range 5).map (calItem c.items)) } } },
      calAll c.flash, calAll c.items)

/-- CALIBRATION_COMMIT (R542): its journal entry of kind 3 is in flash before the set changes (R538); the answer waits. -/
def execCalibrationCommit (q : Req) (v : Bytes) (s : State) : Result :=
  .next (request s q (fun s =>
    let x := writeWith s q 0x3000 1 v none (fun j => { j with kind := 3 }) (commitApply q v)
    if x.2 = St.ok then defer (journalFlush x.1) q else answer x.1 q x.2))

/-- CALIBRATION_COMMIT_DONE (R542 to R544). -/
def commitDone (s : State) (ok : Bool) : State :=
  let c := s.hal.cal
  match c.committing with
  | none => s
  | some (q, items) =>
    if ok then
      answerLater { s with hal := { s.hal with cal := { c with
        flash := items, flashOk := true, factory := false, changed := (List.range 5).map (calItem c.items) != items, committing := none } } } q (frameOf 0x3000) St.ok
    else
      let s := { s with hal := { s.hal with cal := { c with flashOk := false, committing := none } } }
      answerLater (raiseFree s (Rep.dev St.calFlash 1 true 19 0 0) none none) q (frameOf 0x3000) St.calFlash

def execCalibrationCommitDone (ok : Bool) (s : State) : Result := .next (if fwRuns s then commitDone s ok else s)

end Sys2Proof.Machine
end

