-- ==== Sys2Proof/Machine/Lamp.lean ====
section
/-! DEFINITION. Fuses, credentials, firmware updates and the life cycle (20 R548 to R553, R564, R565, R568 to R570), attestation over SPDM (R566, R567). -/

namespace Sys2Proof.Machine
open Sys2Proof

/-! ## Credentials (R548 to R553) -/

/-- Anchor k as the fuses hold it. -/
def Fuses.anchor (u : Fuses) (k : Nat) : Bytes := fitBytes 80 (u.anchors.getD k [])

def Fuses.burned (u : Fuses) (k : Nat) : Bool := (u.anchor k).any (· != 0)

/-- Entry k of the credential table. -/
def credEntry (s : State) (k : Nat) : Bytes := if k < 4 then s.lamp.fuses.anchor k else fitBytes 80 (Tab.get [] k s.lamp.creds)

/-- Is a 64-byte key a point on P-256? -/
def keyOk (v : Bytes) : Bool :=
  let x := beNat (slice v 0 32)
  let y := beNat (slice v 32 32)
  decide (x < Crypto.p256.p ∧ y < Crypto.p256.p) && Crypto.p256.on x y

/-- An entry within R549 and R551; an empty one needs no key. -/
def credOk (v : Bytes) : Bool :=
  let role := fld v 0x40 1
  zeros v 0x41 7 && decide (role ≤ 3) && (role == 0 || ((role == 1) == (fld v 0x48 8 == 0) && keyOk v))

/-- A credential that opens sessions: in the table, not empty, not a revoked anchor. -/
def credUsable (s : State) (k : Nat) : Bool :=
  decide (k < 64) && decide (1 ≤ fld (credEntry s k) 0x40 1 ∧ fld (credEntry s k) 0x40 1 ≤ 3) && !(decide (k < 4) && nbit s.lamp.fuses.anchorRevoked k)

/-- Every session opened with a credential ends (R553). -/
def endCred (s : State) (k : Nat) : State :=
  { s with hal := { s.hal with
      sess := s.hal.sess.filter (fun c => match c.2 with
        | some y => y.cred != k
        | none => true)
      openings := s.hal.openings.filter (fun o => o.cred != k) } }

/-- Write a fuse anchor. -/
def putAnchor (s : State) (k : Nat) (v : Bytes) : State :=
  { s with lamp := { s.lamp with fuses := { s.lamp.fuses with
      anchors := (List.range 4).map (fun i => if i = k then v else s.lamp.fuses.anchor i) } } }

/-- Is this the first claim of R552: Provisioned, no anchor burned, anchor 0, over the mailbox without a session, once? -/
def isFirstClaim (s : State) (q : Req) (v : Bytes) : Bool :=
  q.port == .mailbox && q.sess == 0 && s.lamp.fuses.life == 1 && (List.range 4).all (fun k => !s.lamp.fuses.burned k) && fld v 0 1 == 0 &&
    !s.lamp.firstClaim

/-- A burn of an anchor (R551). `ok`: the fuses verify; bits that do not are whatever they became (log 8). -/
def burnApply (claim ok : Bool) (v : Bytes) (s : State) (_ : Who) : Applied :=
  let k := fld v 0 1
  let e := slice v 1 80
  let u := s.lamp.fuses
  if u.life ≠ 1 then .error St.objAccess
  else if 3 < k ∨ u.burned k ∨ nbit u.anchorRevoked k ∨ fld e 0x40 1 = 0 ∨ credOk e = false then .error St.credFormat
  else if ok then .ok ({ putAnchor s k e with lamp := { (putAnchor s k e).lamp with firstClaim := s.lamp.firstClaim || claim } }, u.anchor k, e)
  else .error St.fuse

/-- A burn that does not verify leaves bits burned that the spec does not give, and its record (R551). -/
def burnFailed (s : State) (k : Nat) : State :=
  let (b, s) := s.freshBytes 80
  raiseFree (putAnchor s k b) (Rep.dev St.fuse 1 true 17 0 0) none none

/-- CREDENTIAL_BURN: 0x9011:00; the first claim needs no session. -/
def credentialBurn (s : State) (q : Req) (v : Bytes) (ok : Bool) : State :=
  request s q (fun s =>
    let x :=
      if isFirstClaim s q v ∧ s.boot.stage = .ready then
        let w : Who := { role := 0, mask := 0, cred := 0xFFFF, sess := 0 }
        if v.length ≠ 81 then (s, St.objLength)
        else if s.journalFull then (journalRefused s, St.journalBusy)
        else
          match burnApply true ok v s w with
          | .error st => (s, st)
          | .ok (t, old, new) => (journal t (writeEntry w 0x9011 0 none old new), St.ok)
      else writeObj s q 0x9011 0 v none (burnApply false ok v)
    answer (if x.2 = St.fuse then burnFailed x.1 (fld v 0 1) else x.1) q x.2)

def execCredentialBurn (q : Req) (v : Bytes) (ok : Bool) (s : State) : Result := .next (credentialBurn s q v ok)

/-- A revocation of an anchor, not of the last (R551, R553). -/
def revokeApply (v : Bytes) (s : State) (_ : Who) : Applied :=
  let k := leNat v
  let u := s.lamp.fuses
  if (List.range 4).filter (fun i => u.burned i && !nbit u.anchorRevoked i) = [k] then .error St.planRefused
  else
    let m := if nbit u.anchorRevoked k then u.anchorRevoked else u.anchorRevoked + 2 ^ k
    .ok (endCred { s with lamp := { s.lamp with fuses := { u with anchorRevoked := m } } } k, natLe 1 u.anchorRevoked, natLe 1 m)

/-- ANCHOR_REVOKE: 0x9012:00. -/
def execAnchorRevoke (q : Req) (v : Bytes) (s : State) : Result := .next (reqWrite s q 0x9012 0 v none (revokeApply v))

/-- A volatile entry written; sessions of the old one end (R553). -/
def credApply (k : Nat) (v : Bytes) (s : State) (_ : Who) : Applied :=
  let old := credEntry s k
  if credOk v then
    let s := { s with lamp := { s.lamp with creds := Tab.put [] k v s.lamp.creds } }
    .ok (if fld old 0x40 1 = 0 then s else endCred s k, old, v)
  else .error St.credFormat

/-- CREDENTIAL_WRITE: 0x9020:(entry + 1). -/
def execCredentialWrite (q : Req) (entry : Nat) (v : Bytes) (s : State) : Result :=
  .next (reqWrite s q 0x9020 (entry + 1) v none (credApply entry v))

/-- A firmware key slot is revoked, not that of the running image (R551). -/
def fwKeyApply (v : Bytes) (s : State) (_ : Who) : Applied :=
  let k := leNat v
  let u := s.lamp.fuses
  if k = imgSlot s.lamp.fw.running then .error St.planRefused
  else
    let m := if nbit u.keyRevoked k then u.keyRevoked else u.keyRevoked + 2 ^ k
    .ok ({ s with lamp := { s.lamp with fuses := { u with keyRevoked := m } } }, natLe 1 u.keyRevoked, natLe 1 m)

/-- FW_KEY_REVOKE: 0x9041:00. -/
def execFwKeyRevoke (q : Req) (v : Bytes) (s : State) : Result := .next (reqWrite s q 0x9041 0 v none (fwKeyApply v))

/-! ## Firmware updates (R564, R565) -/

def setFw (s : State) (f : FwState → FwState) : State := { s with lamp := { s.lamp with fw := f s.lamp.fw } }

/-- Is an update under way that another's write must not touch: programming, or staging for a session that still stands? -/
def fwBusy (s : State) (q : Req) : Bool :=
  let f := s.lamp.fw
  f.st == 3 || (f.st == 1 && f.req != q && (s.boot.stage == .recovery || (liveSess s f.req).isSome))

/-- The image is whole: it is checked, then programmed (R563, R565). -/
def fwCheck (s : State) : Except Nat State :=
  match imgBad s.lamp.fuses (some s.lamp.fw.stage) with
  | some st => .error st
  | none => .ok (setFw s (fun f => { f with st := 3 }))

/-- A part of an image: offset, total, 8 reserved bytes, data. A wrong order discards what is staged (R565). -/
def fwApply (q : Req) (v : Bytes) (s : State) : Except Nat State :=
  let off := fld v 0 4
  let total := fld v 4 4
  let data := v.drop 16
  let f := s.lamp.fw
  let going := f.st = 1 ∧ f.req = q
  if v.length < 16 ∨ 65536 < v.length then .error St.objLength
  else if fwBusy s q then .error St.fwBusy
  else if ¬going ∧ (total = 0 ∨ 33554432 < total) then .error St.objLength
  else if off ≠ (if going then f.stage.length else 0) ∨ (going ∧ total ≠ f.total) ∨ total < off + data.length then .error St.objSegment
  else
    let s := setFw s (fun f => { f with stage := (if going then f.stage else []) ++ data, total := total, st := 1, req := q })
    if off + data.length = total then fwCheck s else .ok s

/-- What a refused part leaves: a wrong order discards the staging, a failed check ends the update (0x9111). -/
def fwRefused (s : State) (q : Req) (st : Nat) : State :=
  if st = St.objSegment ∧ s.lamp.fw.st = 1 ∧ s.lamp.fw.req = q then setFw s (fun f => { f with stage := [], total := 0, st := 0 })
  else if st = St.fwFormat ∨ st = St.fwKeyRevoked ∨ st = St.fwRollback ∨ st = St.fwSignature then
    setFw s (fun f => { f with stage := [], total := 0, st := 5, fail := st })
  else s

/-- The journal entry of kind 2 is in flash before the image changes (R538). -/
def fwJournal (s : State) (j : JChange) : State :=
  if s.lamp.fw.st = 3 then
    journalFlush (journal s { j with kind := 2, old := imgBytes s.lamp.fw.flash, new := s.lamp.fw.stage })
  else s

/-- A write of 0x9110:00 by an Operator session, or in recovery without one. -/
def firmwareWrite (s : State) (q : Req) (v : Bytes) : State :=
  request s q (fun s =>
    if s.boot.stage = .recovery ∧ q.sess = 0 then
      let w : Who := { role := 0, mask := 0, cred := 0xFFFF, sess := 0 }
      if s.journalFull then answer (journalRefused s) q St.journalBusy
      else
        match fwApply q v s with
        | .error st => answer (fwRefused s q st) q st
        | .ok s => answer (fwJournal (journal s (writeEntry w 0x9110 0 none [] v)) (writeEntry w 0x9110 0 none [] [])) q St.ok
    else
      let x := writeObj s q 0x9110 0 v none (fun s _ => match fwApply q v s with
        | .error st => .error st
        | .ok s => .ok (s, [], v))
      if x.2 = St.ok then answer (fwJournal x.1 (laterEntry x.1 q 2 2 0x9110 0 none [] [])) q St.ok
      else answer (fwRefused x.1 q x.2) q x.2)

/-- FIRMWARE_IMAGE_WRITE. -/
def execFirmwareImageWrite (q : Req) (v : Bytes) (s : State) : Result := .next (firmwareWrite s q v)

/-- FIRMWARE_PROGRAM_DONE (R564, R565): in recovery the device then resets; a failure leaves no image that verifies. -/
def programDone (s : State) (ok : Bool) : State :=
  if s.lamp.fw.st ≠ 3 ∨ s.boot.stage = .held then s
  else if ok then
    let s := setFw s (fun f => { f with flash := some f.stage, stage := [], total := 0, st := 4 })
    if s.boot.stage = .recovery then warmReset s 5 else s
  else
    raiseFree (setFw s (fun f => { f with flash := some [], stage := [], total := 0, st := 5, fail := St.fwFlash })) (Rep.dev St.fwFlash 1 true 19 0 0)
      none none

def execFirmwareProgramDone (ok : Bool) (s : State) : Result := .next (programDone s ok)

/-- The fused version rises to at most the running image's (R565). -/
def secApply (v : Bytes) (s : State) (_ : Who) : Applied :=
  let u := s.lamp.fuses
  if leNat v ≤ u.secVer ∨ imgSecVer s.lamp.fw.running < leNat v then .error St.planRefused
  else .ok ({ s with lamp := { s.lamp with fuses := { u with secVer := leNat v } } }, natLe 1 u.secVer, v)

/-- SECURITY_VERSION_ADVANCE: 0x9050:02. -/
def execSecurityVersionAdvance (q : Req) (v : Bytes) (s : State) : Result := .next (reqWrite s q 0x9050 2 v none (secApply v))

/-! ## Life cycle (R568 to R570) -/

/-- The allowed transitions (R569). -/
def lcAllowed (a b : Nat) : Bool := (a == 1 && (b == 2 || b == 3)) || (a == 2 && b == 3)

/-- Burn the life-cycle fuse; Returned burns the device certificate and the UDS away (R570). -/
def burnLife (s : State) (n : Nat) : State :=
  let u := s.lamp.fuses
  { s with lamp := { s.lamp with fuses := { u with
      life := n, cert := if n = 3 then List.replicate 1024 0xFF else u.cert, uds := if n = 3 then List.replicate 32 0xFF else u.uds } } }

/-- LIFE_CYCLE_TRANSITION (R570): its entry of kind 4 in flash, the answer, the fuse, the wipe and warm reset. -/
def lifeCycle (s : State) (q : Req) (v : Bytes) : State :=
  request s q (fun s =>
    let x := writeWith s q 0x9001 0 v none (fun j => { j with kind := 4 }) (fun s _ =>
      if lcAllowed s.lamp.fuses.life (leNat v) then .ok (s, natLe 1 s.lamp.fuses.life, v) else .error St.lcRefused)
    if x.2 = St.ok then warmReset (burnLife (answer (journalFlush x.1) q St.ok) (leNat v)) 4 else answer x.1 q x.2)

def execLifeCycleTransition (q : Req) (v : Bytes) (s : State) : Result := .next (lifeCycle s q v)

/-! ## Attestation (R566, R567) -/

/-- Is the identity key present (R568)? -/
def identityLives (s : State) : Bool := s.lamp.fuses.life == 1 || s.lamp.fuses.life == 2

/-- The section of a type in the running image, hashed; the factory's is not the spec's (log 118). -/
def sectionHash (s : State) (k : Nat) : Bytes :=
  if s.lamp.fw.running.isNone then fitBytes 32 (Config.standardBytes (0x900 + k)) else Crypto.sha256 (imgSection s k)

/-- The certificates of the vendor, section 5 of the running image (R562, R566); the factory's are not the spec's (log 118). -/
def vendorCerts (s : State) : Bytes :=
  if s.lamp.fw.running.isNone then Config.standardBytes 0x905 else imgSection s 5

/-- The newest journal entry's chain. -/
def chainNow (s : State) : Bytes := match s.hal.jlast with
  | some e => e.chain
  | none => List.replicate 32 0

/-- Value of a measurement (R567). -/
def measurement (s : State) (k : Nat) : Bytes :=
  let u := s.lamp.fuses
  match k with
  | 1 => fitBytes 32 u.rom
  | 2 => sectionHash s 1
  | 3 => sectionHash s 2
  | 4 => sectionHash s 3
  | 5 => sectionHash s 4
  | 6 => natLe 4 (imgVersion s.lamp.fw.running) ++ natLe 1 (imgSecVer s.lamp.fw.running) ++ natLe 1 (imgSlot s.lamp.fw.running) ++ natLe 2 u.secVer
  | 7 => Crypto.sha256 (calAll s.hal.cal.items) ++ [if s.lamp.calDefault then 1 else 0]
  | 8 => natLe 1 u.life ++ natLe 1 u.anchorRevoked ++ natLe 1 u.keyRevoked ++ [0]
  | 9 => natLe 8 ((s.hal.jlast.map (·.jseq)).getD 0) ++ chainNow s
  | _ => []

/-- Form of a measurement's value in its DMTF block (log 22): an immutable ROM's or a firmware's digest, else raw bytes of a kind. -/
def measurementKind (k : Nat) : Nat :=
  match k with
  | 1 => 0x00
  | 6 => 0x87
  | 7 => 0x83
  | 8 => 0x82
  | 9 => 0x83
  | _ => 0x01

/-- PRESUMED (log 22). A DMTF measurement block (R567): its index, the DMTF specification, its size, the value's kind and size, the value. -/
def measurementBlock (s : State) (k : Nat) : Bytes :=
  let v := measurement s k
  natLe 1 k ++ [1] ++ natLe 2 (3 + v.length) ++ natLe 1 (measurementKind k) ++ natLe 2 v.length ++ v

/-- PRESUMED (log 22). The capabilities of R567: CERT, CHAL, MEAS with signature, ENCRYPT, MAC, KEY_EX, HBEAT, KEY_UPD; sizes of the standard's form that the spec does not give. -/
def spdmCapabilities : Bytes := [0] ++ (Config.standardBytes 0x961).take 1 ++ [0, 0] ++ natLe 4 0x62D6 ++ ((Config.standardBytes 0x961).drop 1).take 8

/-- PRESUMED (log 22). The algorithms of R567 as the standard selects them: DMTF measurements, SHA-256, ECDSA P-256, SHA-256; then secp256r1, AES-256-GCM, the SPDM key schedule. -/
def spdmAlgorithms : Bytes :=
  natLe 2 48 ++ [1, 0] ++ natLe 4 2 ++ natLe 4 0x10 ++ natLe 4 1 ++ List.replicate 16 0 ++
    [2, 0x20] ++ natLe 2 8 ++ [3, 0x20] ++ natLe 2 2 ++ [5, 0x20] ++ natLe 2 1

/-- The chain of SPDM slot 0 (R566): the root and intermediate certificates, then the device's. -/
def certificates (s : State) : Bytes := vendorCerts s ++ s.lamp.fuses.cert

/-- PRESUMED (log 22). An SPDM ERROR response, and the responses' codes. -/
def spdmError (s : State) : State := s.emit (.doe 0x7F [])

/-- A signed response: its content, a nonce that the device chooses, the identity key's signature (R566); the digest of the standard's transcript, which takes in the
requester's messages, is free (log 22). -/
def spdmSigned (s : State) (code : Nat) (v : Bytes) : State :=
  if identityLives s then
    let (n, s) := s.freshBytes 32
    let (e, s) := s.freshBytes 32
    let g := Crypto.p256.sign (Crypto.identityScalar s.lamp.fuses.uds) (beNat e)
    s.emit (.doe code (v ++ n ++ natBe 32 g.1 ++ natBe 32 g.2))
  else spdmError s

/-- The lowest free session number (log 22). -/
def spdmNew (s : State) : Option Nat := [1, 2, 3, 4].find? (fun (k : Nat) => s.cxl.spdmSess.all (fun c => c.1 != k))

def setSpdm (s : State) (l : List (Nat × Bool)) : State := { s with cxl := { s.cxl with spdmSess := l } }

/-- A request to the responder: the order of the handshake, one slot, four sessions at most (R567). -/
def spdm (s : State) (m : Spdm) : State :=
  let l := s.cxl.spdmSess
  match m with
  | .getVersion => ({ s with cxl := { s.cxl with spdmOk := false, spdmSess := [] } }).emit (.doe 0x04 [0x13])
  | .getCapabilities => s.emit (.doe 0x61 spdmCapabilities)
  | .negotiateAlgorithms => ({ s with cxl := { s.cxl with spdmOk := true } }).emit (.doe 0x63 spdmAlgorithms)
  | .getDigests => if s.cxl.spdmOk then s.emit (.doe 0x01 (Crypto.sha256 (certificates s))) else spdmError s
  | .getCertificate slot => if s.cxl.spdmOk && slot == 0 then s.emit (.doe 0x02 (certificates s)) else spdmError s
  | .challenge slot => if s.cxl.spdmOk && slot == 0 then spdmSigned s 0x03 [] else spdmError s
  | .getMeasurements k sign =>
    if !s.cxl.spdmOk then spdmError s
    else
      let v := if k = 0xFF then (List.range 9).flatMap (fun i => measurementBlock s (i + 1)) else measurementBlock s k
      if 9 < k ∧ k ≠ 0xFF then spdmError s
      else if k = 0 then (if sign then spdmSigned s 0x60 [9] else s.emit (.doe 0x60 [9]))
      else if sign then spdmSigned s 0x60 v else s.emit (.doe 0x60 v)
  | .keyExchange slot =>
    match spdmNew s with
    | some k => if s.cxl.spdmOk && slot == 0 && identityLives s then spdmSigned (setSpdm s (l ++ [(k, false)])) 0x64 (natLe 2 k) else spdmError s
    | none => spdmError s
  | .finish k => if l.contains (k, false) then (setSpdm s (l.map (fun c => if c.1 = k then (k, true) else c))).emit (.doe 0x65 []) else spdmError s
  | .heartbeat k => if l.contains (k, true) then s.emit (.doe 0x68 []) else spdmError s
  | .keyUpdate k => if l.contains (k, true) then s.emit (.doe 0x69 []) else spdmError s
  | .endSession k => if l.contains (k, true) then (setSpdm s (l.filter (fun c => c.1 != k))).emit (.doe 0x6C []) else spdmError s
  | .other _ => spdmError s

/-- SPDM_REQUEST (R567), over DOE. -/
def execSpdmRequest (m : Spdm) (s : State) : Result := .next (if mbxReady s then spdm s m else s)

end Sys2Proof.Machine
end

