-- ==== Sys2Proof/Machine/Pke.lean ====
section
/-! DEFINITION. The P-256 engine as the host uses it (20 R554 to R561): submission, the operations, loading a curve, completion. -/

namespace Sys2Proof.Machine
open Sys2Proof

/-! ## Curves and ECDSA of any size (R556) -/

/-- Bits of a number. -/
def bitsOf (n : Nat) : Nat := if n = 0 then 0 else Nat.log2 n + 1

/-- Bytes of a field element and of a scalar (R556). -/
def Curve.wp (c : Curve) : Nat := (bitsOf c.p + 7) / 8
def Curve.wn (c : Curve) : Nat := (bitsOf c.n + 7) / 8

/-- Slot 0's curve. -/
def curve256 : Curve := { p := Crypto.p256.p, a := Crypto.p256.a, b := Crypto.p256.b, gx := Crypto.p256.gx, gy := Crypto.p256.gy, n := Crypto.p256.n }

def Curve.ops (c : Curve) : Crypto.CurveP := { p := c.p, a := c.a, b := c.b, gx := c.gx, gy := c.gy, n := c.n }

/-- The curve of a slot, none where it is empty (R557). -/
def slotCurve (s : State) (k : Nat) : Option Curve := if k = 0 then some curve256 else Tab.get none k s.lamp.curves

/-- The leftmost bits(n) bits of a byte string as a number. -/
def leftBits (n : Nat) (b : Bytes) : Nat := beNat b >>> (8 * b.length - bitsOf n)

/-- HMAC output blocks until they fill a scalar: the blocks, and the last. -/
def nonceBlocks (key : Bytes) : Nat → Bytes → Bytes → Bytes × Bytes
  | 0, v, t => (t, v)
  | k + 1, v, t => let v := Crypto.hmac key v
                   nonceBlocks key k v (t ++ v)

/-- The generation loop of RFC 6979; fuel for candidates out of range. -/
def nonceSearch (n : Nat) (ok : Nat → Bool) : Nat → Bytes → Bytes → Nat
  | 0, _, _ => 0
  | f + 1, k, v =>
    let x := nonceBlocks k ((bitsOf n + 255) / 256) v []
    let c := leftBits n x.1
    if 0 < c ∧ c < n ∧ ok c then c
    else
      let k := Crypto.hmac k (x.2 ++ [0])
      nonceSearch n ok f k (Crypto.hmac k x.2)

/-- The deterministic nonce of RFC 6979 with HMAC-SHA-256. -/
def nonceOf (c : Curve) (d e : Nat) (ok : Nat → Bool) : Nat :=
  let seed := natBe c.wn d ++ natBe c.wn (e % c.n)
  let v := List.replicate 32 (1 : Byte)
  let k := Crypto.hmac (List.replicate 32 (0 : Byte)) (v ++ [0] ++ seed)
  let v := Crypto.hmac k v
  let k := Crypto.hmac k (v ++ [1] ++ seed)
  nonceSearch c.n ok 64 k (Crypto.hmac k v)

/-- A signature (R556). -/
def signOf (c : Curve) (d e : Nat) : Nat × Nat :=
  (c.ops.signWith e d (nonceOf c d e (fun k => (c.ops.signWith e d k).isSome))).getD (0, 0)

/-- Is a point refused (R558)? -/
def pointBad (c : Curve) (x y : Nat) : Bool := decide (c.p ≤ x ∨ c.p ≤ y) || (x == 0 && y == 0) || !c.ops.on x y

/-! ## Descriptors (R555, R556, R558) -/

/-- Window bytes that the host has (R452, R505). -/
def windowSize (s : State) : Nat := if s.cxl.dec1.committed then s.cxl.dec1.size else 0

/-- Bytes of the operand block of an operation. -/
def operandBytes (op dlen : Nat) (c : Curve) : Nat :=
  match op with
  | 1 => 2 * c.wp + 2 * c.wn + dlen
  | 2 => c.wn + dlen
  | 3 => c.wn + 2 * c.wp
  | 4 => c.wn + 2 * c.wp
  | 5 => 2 * c.wp
  | _ => 0

/-- Bytes of the result. -/
def resultBytes (op : Nat) (c : Curve) : Nat :=
  match op with
  | 2 => 2 * c.wn
  | 3 => c.wp
  | 4 => 2 * c.wp
  | _ => 0

/-- Does a descriptor keep R555, whatever its operation? -/
def descShape (d : Bytes) : Bool :=
  let op := fld d 0 1
  let dl := fld d 2 1
  [1, 2, 3, 4, 5, 8].contains op && decide (fld d 1 1 ≤ 7) && (op != 8 || fld d 1 1 != 0) &&
    (if op == 1 || op == 2 then decide (20 ≤ dl ∧ dl ≤ 66) else dl == 0) && zeros d 3 5 && fld d 8 8 % 64 == 0 && zeros d 0x14 4 &&
    fld d 0x18 8 % 64 == 0 && zeros d 0x20 32 && ((op == 2 || op == 3 || op == 4) || fld d 0x18 8 == 0)

/-- The curve that a descriptor's job takes; none where the descriptor is refused with `ST_PKE_FORMAT` (R555 to R559): a window of size 0 fails every job. -/
def descCurve (s : State) (d : Bytes) : Option Curve :=
  let op := fld d 0 1
  match slotCurve s (fld d 1 1) with
  | none => none
  | some c =>
    let r := resultBytes op c
    if descShape d && fld d 0x10 4 == operandBytes op (fld d 2 1) c && windowSize s != 0 && (r == 0 || decide (fld d 0x18 8 + r ≤ windowSize s)) then some c else none

/-- An outcome: status and result. -/
abbrev Pke := Nat × Bytes

/-- The head of the queue, where it waits for the engine. -/
def pkeHead (s : State) : Option PkeJob := match s.lamp.jobs with
  | j :: _ => if j.done.isNone then some j else none
  | [] => none

/-- The engine has finished with its job; the completion comes with PKE_JOB_COMPLETE. -/
def pkeSet (s : State) (o : Pke) (off : Nat) (curve : Option (Nat × Curve)) : State :=
  { s with lamp := { s.lamp with jobs := match s.lamp.jobs with
      | j :: r => { j with done := some (o.1, o.2, off), curve := curve } :: r
      | [] => [] } }

/-- The head of the queue meets the engine: its descriptor and its operands are read; a read that faults, meets poison or lies outside a readable mapping ends it with
`ST_PKE_DMA` (R559). `mine`: the operations that the command carries out; a descriptor of another one is another command's. -/
def pkeReads (s : State) (mine : Nat → Bool) (desc operands : Dma) (f : Bytes → Dma → State) : State :=
  if (pkeHead s).isNone ∨ s.boot.stage ≠ .ready then s
  else
    match desc with
    | .failed => pkeSet s (St.pkeDma, []) 0 none
    | .bytes d => if mine (fld d 0 1) then f d operands else s

/-- A job of operation `op`: its descriptor is checked, its operands are read, the operation computes with the digest's length (R557 to R560). -/
def pkeRun (s : State) (op : Nat) (desc operands : Dma) (f : Nat → Curve → Bytes → Pke) : State :=
  pkeReads s (fun k => k == op || !([1, 2, 3, 4, 5, 8] : List Nat).contains k) desc operands (fun d x =>
    match descCurve s d with
    | none => pkeSet s (St.pkeFormat, []) 0 none
    | some c =>
      match x with
      | .failed => pkeSet s (St.pkeDma, []) 0 none
      | .bytes v => pkeSet s (f (fld d 2 1) c (fitBytes (fld d 0x10 4) v)) (fld d 0x18 8) none)

/-- A big-endian number of a block. -/
def beAt (v : Bytes) (off n : Nat) : Nat := beNat (slice v off n)

/-! ## The operations (R556, R558, R560) -/

/-- Verify: Qx, Qy, r, s, digest. -/
def pkeVerify (dlen : Nat) (c : Curve) (v : Bytes) : Pke :=
  let qx := beAt v 0 c.wp
  let qy := beAt v c.wp c.wp
  let r := beAt v (2 * c.wp) c.wn
  let t := beAt v (2 * c.wp + c.wn) c.wn
  if pointBad c qx qy ∨ r = 0 ∨ c.n ≤ r ∨ t = 0 ∨ c.n ≤ t then (St.pkeRefused, [])
  else if c.ops.verify (leftBits c.n (slice v (2 * c.wp + 2 * c.wn) dlen)) r t qx qy then (St.ok, []) else (St.pkeBadSig, [])

/-- VERIFY. -/
def execVerify (desc operands : Dma) (s : State) : Result := .next (pkeRun s 1 desc operands pkeVerify)

/-- Sign: d, digest; r, s. -/
def pkeSign (dlen : Nat) (c : Curve) (v : Bytes) : Pke :=
  let d := beAt v 0 c.wn
  if d ≤ 1 ∨ c.n ≤ d then (St.pkeRefused, [])
  else
    let g := signOf c d (leftBits c.n (slice v c.wn dlen))
    (St.ok, natBe c.wn g.1 ++ natBe c.wn g.2)

/-- SIGN. -/
def execSign (desc operands : Dma) (s : State) : Result := .next (pkeRun s 2 desc operands pkeSign)

/-- k·P of a block k, Px, Py: the point, where the operands pass. -/
def pkeMul (low : Nat) (c : Curve) (v : Bytes) : Option Crypto.Point :=
  let k := beAt v 0 c.wn
  let x := beAt v c.wn c.wp
  let y := beAt v (c.wn + c.wp) c.wp
  if k ≤ low ∨ c.n ≤ k ∨ pointBad c x y then none else some (c.ops.mul k (some (x, y)))

/-- ECDH: x of d·Q, no cofactor. -/
def pkeEcdh (c : Curve) (v : Bytes) : Pke :=
  match pkeMul 1 c v with
  | none => (St.pkeRefused, [])
  | some none => (St.pkeInfinity, [])
  | some (some p) => (St.ok, natBe c.wp p.1)

/-- ECDH. -/
def execEcdh (desc operands : Dma) (s : State) : Result := .next (pkeRun s 3 desc operands (fun _ => pkeEcdh))

/-- Scalar multiply: x, y of k·P. -/
def pkeScalar (c : Curve) (v : Bytes) : Pke :=
  match pkeMul 0 c v with
  | none => (St.pkeRefused, [])
  | some none => (St.pkeInfinity, [])
  | some (some p) => (St.ok, natBe c.wp p.1 ++ natBe c.wp p.2)

/-- SCALAR_MULTIPLY. -/
def execScalarMultiply (desc operands : Dma) (s : State) : Result := .next (pkeRun s 4 desc operands (fun _ => pkeScalar))

/-- Point check. -/
def pkePoint (c : Curve) (v : Bytes) : Pke := if pointBad c (beAt v 0 c.wp) (beAt v c.wp c.wp) then (St.pkeRefused, []) else (St.ok, [])

/-- POINT_CHECK. -/
def execPointCheck (desc operands : Dma) (s : State) : Result := .next (pkeRun s 5 desc operands (fun _ => pkePoint))

/-! ## Loading a curve (R557) -/

/-- Miller-Rabin of 64 rounds, their bases between 2 and n - 2 drawn from the SHA-256 of the operand block (R557; how they are drawn: log 117). -/
def probablePrime (v : Bytes) (n : Nat) : Bool :=
  n == 2 || n == 3 || (n % 2 == 1 && decide (3 < n) &&
    (List.range 64).all (fun i => Crypto.mrBase n (2 + Config.curveBase (Crypto.sha256 v) i % (n - 3))))

/-- The curve of an operand block. -/
def blockCurve (v : Bytes) : Curve :=
  let w := (fld v 0 2 + 7) / 8
  { p := beAt v 8 w, a := beAt v (8 + w) w, b := beAt v (8 + 2 * w) w, gx := beAt v (8 + 3 * w) w, gy := beAt v (8 + 4 * w) w,
    n := beAt v (8 + 5 * w) ((fld v 2 2 + 7) / 8) }

/-- The first check of the table that a block fails, by its reason. The reserved bytes are ignored (R9). -/
def curveBad (v : Bytes) (len : Nat) : Option Nat :=
  let pb := fld v 0 2
  let nb := fld v 2 2
  let c := blockCurve v
  if pb < 128 ∨ 521 < pb ∨ bitsOf c.p ≠ pb ∨ bitsOf c.n ≠ nb ∨ pb + 1 < nb ∨ len ≠ 8 + 5 * ((pb + 7) / 8) + (nb + 7) / 8 then some 1
  else if c.p % 2 = 0 ∨ probablePrime v c.p = false then some 2
  else if c.p ≤ c.a ∨ c.p ≤ c.b then some 3
  else if (4 * c.a ^ 3 + 27 * c.b ^ 2) % c.p = 0 then some 4
  else if c.p ≤ c.gx ∨ c.p ≤ c.gy ∨ c.ops.on c.gx c.gy = false then some 5
  else if probablePrime v c.n = false then some 6
  else if (c.ops.mul c.n c.ops.base).isSome then some 7 else none

/-- A load-curve job. A refused load leaves the slot and keeps its reason. -/
def loadCurve (s : State) (desc operands : Dma) : State :=
  pkeReads s (fun k => k == 8 || !([1, 2, 3, 4, 5] : List Nat).contains k) desc operands (fun d x =>
    if !descShape d || windowSize s == 0 then pkeSet s (St.pkeFormat, []) 0 none
    else
      match x with
      | .failed => pkeSet s (St.pkeDma, []) 0 none
      | .bytes v =>
        let v := fitBytes (fld d 0x10 4) v
        match curveBad v (fld d 0x10 4) with
        | some r => pkeSet { s with lamp := { s.lamp with pkeReason := r } } (St.pkeCurve, []) 0 none
        | none => pkeSet s (St.ok, []) 0 (some (fld d 1 1, blockCurve v)))

/-- LOAD_CURVE. -/
def execLoadCurve (desc operands : Dma) (s : State) : Result := .next (loadCurve s desc operands)

/-! ## The queue (R554, R561) -/

/-- Jobs queued, running or completed but unread. -/
def pkeHeld (s : State) : Nat := s.lamp.jobs.length + s.lamp.done.length

/-- PKE_SUBMIT: a write of `DEV_PKE_SUBMIT_HI`; the seventeenth is dropped. -/
def pkeSubmit (s : State) (hi : W32) : State :=
  if 16 ≤ pkeHeld s then { s with lamp := { s.lamp with overrun := true } }
  else
    { s with lamp := { s.lamp with
        jobs := s.lamp.jobs ++ [{ seq := s.lamp.nextSeq, addr := s.lamp.submitLo.toNat / 64 * 64 + 2 ^ 32 * hi.toNat, done := none, curve := none }],
        nextSeq := s.lamp.nextSeq + 1 } }

def execPkeSubmit (hi : BitVec 32) (s : State) : Result := .next (if barReads s && decide (s.boot.stage = .ready) then pkeSubmit s hi else s)

/-- Refusals are counted apart from jobs that complete (R561). -/
def pkeCount (s : State) (st : Nat) : State :=
  if st = St.pkeRefused ∨ st = St.pkeFormat ∨ st = St.pkeCurve then { s with lamp := { s.lamp with pkeRefused := s.lamp.pkeRefused + 1 } }
  else { s with lamp := { s.lamp with pkeDone := s.lamp.pkeDone + 1 } }

/-- PKE_JOB_COMPLETE: the result goes to the window, an accepted curve to its slot, then the completion is posted. -/
def pkeComplete (s : State) : State :=
  match s.lamp.jobs with
  | [] => s
  | j :: rest =>
    match j.done with
    | none => s
    | some (st, v, off) =>
      let s := if v.isEmpty then s else (s.snoopRange (s.cxl.hdmBase + off) v.length).dwrite (s.cxl.hdmBase + off) v false
      let s := match j.curve with
        | some (k, c) => { s with lamp := { s.lamp with curves := Tab.put none k (some c) s.lamp.curves } }
        | none => s
      pkeCount { s with lamp := { s.lamp with jobs := rest, done := s.lamp.done ++ [(BitVec.ofNat 16 st, j.seq)] } } st

def execPkeJobComplete (s : State) : Result := .next (awaited s (fun s => if s.boot.stage = .ready then pkeComplete s else s))

/-- `DEV_PKE_DONE`: the oldest unread completion. -/
def pkeDoneWord (s : State) : W32 :=
  match s.lamp.done with
  | [] => 0
  | (st, q) :: _ => w32 (st.toNat + 65536 * q.toNat + 2 ^ 31)

/-- PKE_DONE_READ: the oldest unread completion leaves the queue. -/
def pkeDoneRead (s : State) : State := ({ s with lamp := { s.lamp with done := s.lamp.done.drop 1 } }).emit (.mmio (pkeDoneWord s))

def execPkeDoneRead (s : State) : Result := .next (if barReads s then pkeDoneRead s else s)

end Sys2Proof.Machine
end

