-- ==== Sys2Proof/Machine/Map.lean ====
section
/-! DEFINITION. The map of device virtual memory (13 R356 to R360, R638) and the DRAM allotments (19 R530). -/

namespace Sys2Proof.Machine
open Sys2Proof

/-! ## Requests (R357) -/

/-- An entry of a request: map a page, or unmap the page of a size at an address. -/
inductive MapEntry where
  | map (p : Page)
  | unmap (va size : Nat)
  deriving DecidableEq, Repr

/-- Read entry `e`; none for a reserved field, a reserved size or a misaligned address (R357, R358). -/
def readEntry (v : Bytes) (e : Nat) : Option MapEntry :=
  let va := fld v (8 + 16 * e) 8
  let w := fld v (16 + 16 * e) 8
  let size := w % 4
  let pa := 65536 * nbits w 40 16
  if va % 65536 ≠ 0 ∨ 2 ^ 57 ≤ va ∨ size = 3 ∨ nbits w 15 5 ≠ 0 ∨ nbits w 63 41 ≠ 0 ∨ va % pageBytes size ≠ 0 then none
  else if nbit w 4 then (if pa ≠ 0 ∨ nbits w 3 2 ≠ 0 then none else some (.unmap va size))
  else if pa % pageBytes size ≠ 0 then none
  else some (.map { va := va, pa := pa, size := size, rd := nbit w 2, wr := nbit w 3 })

/-- The entries of a request; none for `ST_MAP_FORMAT`. -/
def readMaps (v : Bytes) : Option (List MapEntry) :=
  let n := fld v 2 2
  let es := (List.range n).map (readEntry v)
  if v.length < 8 ∨ v.length ≠ 8 + 16 * n ∨ n = 0 ∨ 256 < n ∨ 4095 < fld v 0 2 ∨ fld v 4 4 ≠ 0 then none
  else if es.all (·.isSome) then some (es.filterMap id) else none

/-- Does a partition's allotment hold a page (R530)? Its units never take in a hardware-managed gigabyte. -/
def allotted (s : State) (p pa : Nat) : Bool :=
  let u := pa / 1073741824
  decide (u < 1280) && nbit (fld (s.objBytes 0x6001 (p + 1)) (u / 8) 1) (u % 8)

/-- Are all pages that a request maps within the partition's allotment? -/
def pagesAllotted (s : State) (p : Nat) (es : List MapEntry) : Bool :=
  es.all (fun e => match e with
    | .map g => allotted s p g.pa
    | .unmap _ _ => true)

/-- Do two pages share an address? -/
def Page.meets (a b : Page) : Bool := decide (a.va < b.va + pageBytes b.size ∧ b.va < a.va + pageBytes a.size)

/-- Apply an entry to the pages left by the earlier ones (R358); none for `ST_MAP_CONFLICT`. -/
def applyMap (ps : List Page) (e : MapEntry) : Option (List Page) :=
  match e with
  | .map g => if ps.any (fun x => x.meets g) then none else some (ps ++ [g])
  | .unmap va size =>
    match ps.find? (fun x => x.va == va && x.size == size) with
    | none => none
    | some x => some (ps.erase x)

/-- Apply entries in order. -/
def applyMaps : List MapEntry → List Page → Option (List Page)
  | [], ps => some ps
  | e :: es, ps =>
    match applyMap ps e with
    | none => none
    | some ps => applyMaps es ps

/-- Bytes of the tables of an address space (R638). -/
def tableBytes (ps : List Page) : Nat :=
  let n (f : Page → Bool) (sh : Nat) : Nat := ((ps.filter f).map (fun p => p.va / 2 ^ sh)).eraseDups.length
  (if ps.isEmpty then 0 else 65536) + 131072 * n (fun _ => true) 44 + 4096 * n (fun p => p.size != 2) 30 + 256 * n (fun p => p.size == 0) 21

/-- Bytes of every space's tables. -/
def allTables (t : Tab (Option Space)) : Nat := (t.map (fun c => tableBytes ((c.2.map (·.pages)).getD []))).sum

/-- The partition that a request is made for (R357): the space's owner where the session may act for it, else (log 28) the lowest partition
that the session may act for whose allotment holds the pages, else the lowest of those. An operator acts for every partition (R520). -/
def mapPart (s : State) (q : Req) (v : Bytes) : Option Nat :=
  match whoOf s q with
  | .error _ => none
  | .ok w =>
    let mine := (List.range 64).filter (fun p => w.role == 1 || w.mask.getLsbD p)
    match Tab.get none (fld v 0 2) s.dram.spaces with
    | some sp => if mine.contains sp.owner then some sp.owner else mine.head?
    | none => (mine.find? (fun p => pagesAllotted s p ((readMaps v).getD []))).orElse (fun _ => mine.head?)

/-- The ranges that a request changes, for the caches to drop (R359). -/
def mapRanges (asid : Nat) (es : List MapEntry) : List (Nat × Nat × Nat) :=
  es.map (fun e => match e with
    | .map g => (asid, g.va, pageBytes g.size)
    | .unmap va size => (asid, va, pageBytes size))

/-- Apply a request (R358): all of it or none of it. -/
def mapApply (q : Req) (v : Bytes) (part : Option Nat) (s : State) (_ : Who) : Applied :=
  match readMaps v with
  | none => .error St.mapFormat
  | some es =>
    let p := part.getD 64
    let asid := fld v 0 2
    let sp := (Tab.get none asid s.dram.spaces).getD { owner := p, pages := [] }
    if sp.owner ≠ p ∨ pagesAllotted s p es = false then .error St.mapOwner
    else
      match applyMaps es sp.pages with
      | none => .error St.mapConflict
      | some ps =>
        let t := Tab.put none asid (some { sp with pages := ps }) s.dram.spaces
        if 2 ^ 30 < allTables t then .error St.mapFull
        else .ok ({ s with dram := { s.dram with spaces := t, mapWait := s.dram.mapWait ++ [(q, mapRanges asid es)] } }, [], Crypto.sha256 v)

/-- MAP_REQUEST (R357, R358): journalled with origin Host driver; its answer waits for MAP_ACK. -/
def mapRequest (s : State) (q : Req) (v : Bytes) : State :=
  request s q (fun s =>
    let part := mapPart s q v
    let x := writeWith s q 0x6170 1 v part (fun j => { j with origin := 3 }) (mapApply q v part)
    if x.2 = St.ok then defer x.1 q else answer x.1 q x.2)

def execMapRequest (q : Req) (v : Bytes) (s : State) : Result := .next (mapRequest s q v)

/-- Does an entry of a translation cache lie in a changed range? -/
def tlbHit (r : Nat × Nat × Nat) (e : TlbEntry) : Bool :=
  e.asid == r.1 && decide (e.va < r.2.1 + r.2.2 ∧ r.2.1 < e.va + pageBytes e.size)

/-- What a translation cache keeps once the ranges have changed. -/
def tlbKeep (rs : List (Nat × Nat × Nat)) (es : List TlbEntry) : List TlbEntry := es.filter (fun e => !rs.any (fun r => tlbHit r e))

/-- MAP_ACK (R359): every translation cache, the agents' too (R472), has dropped what the oldest waiting request changed; the request is acknowledged. -/
def mapAck (s : State) : State :=
  match s.dram.mapWait with
  | [] => s
  | (q, rs) :: rest =>
    let s := { s with dram := { s.dram with mapWait := rest } }
    let s := { s with galx := s.galx.map (fun c => (c.1, { c.2 with tlb := tlbKeep rs c.2.tlb })),
                      net := { s.net with tlb := s.net.tlb.map (fun c => (c.1, tlbKeep rs c.2)) } }
    answerLater s q (frameOf 0x6170) St.ok

def execMapAck (s : State) : Result := .next (mapAck s)

/-- TRANSLATION_WALK (R360): the page of a virtual address enters the gallery's translation cache, which holds 1,024 entries (log 14). -/
def walk (s : State) (g asid va : Nat) : State :=
  match (pagesOf s asid).find? (fun p => p.holds va) with
  | none => s
  | some p =>
    s.updGalx g (fun y => { y with tlb := tlbPut 1024 (p.entry asid) y.tlb })

def execTranslationWalk (g : Gal) (asid : Nat) (va : Nat) (s : State) : Result := .next (walk s g.val asid va)

/-! ## Allotments (R530) -/

/-- The units of an allotment. -/
def unitsOf (b : Bytes) : List Nat := (List.range 1280).filter (fun u => nbit (fld b (u / 8) 1) (u % 8))

/-- Units of the mapped pages of a partition's spaces. -/
def mappedUnits (s : State) (p : Nat) : List Nat :=
  s.dram.spaces.flatMap (fun c => match c.2 with
    | some sp => if sp.owner = p then sp.pages.map (fun g => g.pa / 1073741824) else []
    | none => [])

def allotApply (p : Nat) (v : Bytes) (s : State) (w : Who) : Applied :=
  let us := unitsOf v
  if us.any (fun u => u % 80 == 79) ||
      (List.range 64).any (fun k => k != p && (unitsOf (s.objBytes 0x6001 (k + 1))).any (fun u => us.contains u)) then .error St.planRefused
  else if (mappedUnits s p).any (fun u => !us.contains u) then .error St.mapConflict
  else keepValue 0x6001 (p + 1) v s w

/-- ALLOTMENT_WRITE. -/
def execAllotmentWrite (q : Req) (p : Part) (v : Bytes) (s : State) : Result :=
  .next (reqWrite s q 0x6001 (p.val + 1) v (some p.val) (allotApply p.val v))

end Sys2Proof.Machine
end

