-- ==== Sys2Proof/Machine/Rings.lean ====
section
/-! DEFINITION. Work rings (18 R494 to R497, R503) and the session roll (01 R20 to R25). -/

namespace Sys2Proof.Machine
open Sys2Proof

/-! ## Rings -/

/-- A ring takes a state and the status that put it there (R491). -/
def setRing (s : State) (r st err : Nat) : State := (windowUpdate s (ringLine r)).updRing r (fun y => { y with st := st, err := err })

/-- A ring starts at item 0 (R495); `err` keeps the status that last disabled or halted it (R491). -/
def startRing (s : State) (r : Nat) : State :=
  (windowUpdate s (ringLine r)).updRing r (fun y => { y with st := 1, head := 0, tail := 0, gen := if y.items.isEmpty then 0 else y.gen + 1 })

/-- DESIGN CHOICE (log 107). The model's number of the item at a ring's head: its index, told apart from those read before the ring last started. -/
def Ring.nextIdx (y : Ring) : Nat := 2 ^ 32 * y.gen + y.head.toNat

/-- A doorbell on any ring of a hall wakes its 8 deep-retention banks at once (R393). -/
def wakeDeep (s : State) (h : Nat) : State := s.updHall h (fun y => { y with deepRet := [] })

/-- DOORBELL_WRITE (R496, R601): bits [31:0] are the new tail. -/
def doorbell (s : State) (r : Nat) (tail : W32) : State :=
  let y := s.ringAt r
  let s := wakeDeep s y.hall
  if y.st ≠ 1 then { s with cxl := { s.cxl with doorbells := s.cxl.doorbells + 1 } }
  else if 2 ^ y.logLen < (tail - y.head).toNat then setRing s r 2 St.ringDoorbell
  else s.updRing r (fun y => { y with tail := tail })

def execDoorbellWrite (r : RingNo) (tail : BitVec 32) (s : State) : Result :=
  .next (if barReads s && decide (s.boot.stage ≠ .held) then doorbell s r.val tail else s)

/-- Items admitted and not completed: waiting with the dispatchers, or running. -/
def inFlight (s : State) : List (Nat × Item) :=
  (List.range 4).flatMap (fun h => ((s.hallAt h).pend ++ (s.hallAt h).ctl).map (fun i => (h, i))) ++
    (List.range 64).flatMap (fun g => match (s.galAt g).task with
      | some t => [(hallOf g, t.item)]
      | none => [])

/-- Has a partition its item limit of items in flight in a hall (R25)? -/
def atLimit (s : State) (h p : Nat) : Bool :=
  let lim := s.obj 0x6190 (p + 1)
  lim != 0 && decide (lim ≤ ((inFlight s).filter (fun c => c.1 == h && c.2.sess.part == p)).length)

/-- Where item n of a ring lies (R496). -/
def itemAddr (y : Ring) : Nat := y.base + 64 * (y.head.toNat % 2 ^ y.logLen)

/-- The 64 bytes of a ring's next item: a location-1 ring's from DRAM, a location-0 ring's as the host answered (R497). -/
def itemBytes (s : State) (y : Ring) (v : Bytes) (poison : Bool) : Bytes × Bool :=
  if y.loc = 1 then s.dget (itemAddr y) 64 else (fitBytes 64 v, poison)

/-- May the dispatcher read the ring's next item: the port up with its CXL protocols (R488), the ring running, posted, nothing of it waits unadmitted, no item limit
(R24, R25, R497)? -/
def mayRead (s : State) (y : Ring) : Bool :=
  cxlUp s && y.st == 1 && y.head != y.tail && y.read.isEmpty && hallRuns s y.hall && !atLimit s y.hall (y.part.getD 64)

/-- RING_ITEM_READ (R497): `head` passes the item, or poison halts the ring. -/
def ringItemRead (s : State) (r : Nat) (v : Bytes) (poison : Bool) : State :=
  let y := s.ringAt r
  if !mayRead s y then s
  else
    let s := if y.loc = 1 then s.snoopRange (itemAddr y) 64 else s
    let x := itemBytes s y v poison
    if x.2 then setRing s r 2 St.ringRead
    else (windowUpdate s (ringLine r)).updRing r (fun y => { y with
      head := y.head + 1, read := [{ hall := y.hall, idx := y.nextIdx, bytes := x.1 }], items := y.items ++ [y.nextIdx] })

def execRingItemRead (r : RingNo) (v : Bytes) (poison : Bool) (s : State) : Result := .next (awaited s (fun s => ringItemRead s r.val v poison))

/-- The object of a ring (R494). -/
def Ring.bytes (y : Ring) : Bytes :=
  natLe 8 y.base ++ natLe 1 y.logLen ++ natLe 1 y.loc ++ natLe 1 y.hall ++ (if y.enable then [1] else [0]) ++ natLe 2 y.msix ++
    natLe 1 (y.part.getD 0) ++ List.replicate 17 0

/-- Do all units of a range lie in a partition's allotment (R495)? -/
def rangeAllotted (s : State) (p a n : Nat) : Bool :=
  (List.range ((a + n - 1) / 1073741824 + 1 - a / 1073741824)).all (fun k => allotted s p ((a / 1073741824 + k) * 1073741824))

/-- Is the value refused with `ST_RING_CONFIG` (R495)? -/
def ringBad (s : State) (y : Ring) (p : Option Nat) (v : Bytes) : Bool :=
  decide (fld v 0 8 % 4096 ≠ 0 ∨ fld v 8 1 < 6 ∨ 16 < fld v 8 1 ∨ 1 < fld v 9 1 ∨ 3 < fld v 10 1 ∨ 1 < fld v 11 1 ∨ 2047 < fld v 12 2) ||
    !zeros v 15 17 || p.isNone || (y.part.isSome && y.part != p) ||
    (y.enable && (slice v 0 11 != slice y.bytes 0 11 || slice v 12 2 != slice y.bytes 12 2)) ||
    (fld v 9 1 == 1 && !rangeAllotted s (p.getD 64) (fld v 0 8) (64 * 2 ^ fld v 8 1))

/-- The partition that a request without one of its own is judged for: the lowest of the session's mask. -/
def lowestPart (s : State) (q : Req) : Option Nat :=
  match whoOf s q with
  | .error _ => none
  | .ok w => (List.range 64).find? (fun p => w.mask.getLsbD p)

/-- The partition for which a session writes a ring: the ring's own where the session may, else the lowest of its mask (R494). -/
def ringPart (s : State) (q : Req) (y : Ring) : Option Nat :=
  match whoOf s q, y.part with
  | .ok w, some p => if w.role = 1 ∨ w.mask.getLsbD p then some p else lowestPart s q
  | .ok _, none => lowestPart s q
  | .error _, _ => none

/-- A ring's configuration changes (R495): enabling starts it at 0, disabling stops its reads. -/
def ringApply (r : Nat) (p : Option Nat) (v : Bytes) (s : State) (_ : Who) : Applied :=
  let y := s.ringAt r
  let on := fld v 11 1 = 1
  if on ∧ s.cxl.cxl = false then .error St.cxlMode
  else if ringBad s y p v then .error St.ringConfig
  else
    let s1 := s.updRing r (fun y => { y with
      base := fld v 0 8, logLen := fld v 8 1, loc := fld v 9 1, hall := fld v 10 1, enable := decide (fld v 11 1 = 1), msix := fld v 12 2,
      part := if on then p else y.part })
    let s2 :=
      if on ∧ (y.enable = false ∨ y.st ≠ 1) then startRing s1 r
      else if ¬on ∧ y.enable then setRing s1 r 0 0 else s1
    .ok (s2, y.bytes, (s2.ringAt r).bytes)

/-- RING_CONFIG_WRITE. -/
def execRingConfigWrite (q : Req) (r : RingNo) (v : Bytes) (s : State) : Result :=
  .next (
    let p := ringPart s q (s.ringAt r.val)
    reqWrite s q (0xB100 + r.val / 128) (r.val % 128 + 1) v p (ringApply r.val p v))

/-- Does an allotment of completion slots pass slot 3071 or meet another's (R503)? -/
def slotsBad (s : State) (p : Nat) (v : Bytes) : Bool :=
  let f := fld v 0 2
  let n := fld v 2 2
  n != 0 && (decide (3072 < f + n) || (List.range 64).any (fun k =>
    let a := slotAllot s k
    k != p && a.2 != 0 && decide (f < a.1 + a.2 ∧ a.1 < f + n)))

/-- COMPLETION_SLOT_ALLOT (R503). -/
def execCompletionSlotAllot (q : Req) (p : Part) (v : Bytes) (s : State) : Result :=
  .next (reqWrite s q 0xB120 (p.val + 1) v (some p.val) (fun s w =>
    if slotsBad s p.val v then .error St.ringConfig else keepValue 0xB120 (p.val + 1) v s w))

/-! ## The session roll (R20 to R23) -/

/-- The 64 bytes of a session entry (R22). -/
def sessBytes (sid : Nat) (e : SessEntry) : Bytes :=
  natLe 4 sid ++ natLe 1 e.part ++ natLe 1 e.modeCode ++ natLe 2 e.flags.toNat ++ natLe 8 e.fp ++ natLe 2 e.paramSet ++ natLe 2 e.asid ++
    natLe 1 e.keyHome ++ [0] ++ natLe 2 e.maxOut ++ natLe 1 e.maxGal ++ natLe 1 e.priority ++ [0, 0] ++ natLe 2 e.keyPeer ++ [0, 0] ++
    natLe 8 e.itemsDone.toNat ++ natLe 8 e.beatsUsed.toNat ++ List.replicate 16 0

/-- The entry that 64 bytes describe; reserved bits are ignored (R9). A replaced entry keeps its hardware-maintained counts. -/
def readSess (v : Bytes) (old : Option SessEntry) : SessEntry :=
  { part := fld v 4 1, modeCode := fld v 5 1, flags := BitVec.ofNat 16 (fld v 6 2 % 4), fp := fld v 8 8, paramSet := fld v 0x10 2,
    asid := fld v 0x12 2, keyHome := fld v 0x14 1 % 16, maxOut := fld v 0x16 2, maxGal := fld v 0x18 1, priority := fld v 0x19 1,
    keyPeer := fld v 0x1C 2, itemsDone := (old.map (·.itemsDone)).getD 0, beatsUsed := (old.map (·.beatsUsed)).getD 0 }

/-- A valid entry (R22). -/
def SessEntry.valid (e : SessEntry) : Bool := e.flags.getLsbD 0 && decide (1 ≤ e.modeCode ∧ e.modeCode ≤ 3)

/-- The entry of a session, where it is present and valid (R23); one that reads poisoned is absent (R596). -/
def sessionOf (s : State) (sid : Nat) : Option SessEntry :=
  match s.sessAt sid with
  | some e => if e.valid && !hwGone s 0 sid 64 then some e else none
  | none => none

/-- The entry that a write will meet: a change under way, else the roll's. -/
def sessNow (s : State) (sid : Nat) : Option SessEntry :=
  match (s.changes.filter (fun c => c.sid == sid)).getLast? with
  | some c => c.entry
  | none => s.sessAt sid

/-- The refusals of R21, R22, R205, R223 and R358 for a new entry. DESIGN CHOICE (log 69): the 64 bytes always cover the hardware-maintained
fields, so a write counts as one to them where their bytes are not 0. R358 holds for a write that deletes too. -/
def sessBad (s : State) (v : Bytes) : Option Nat :=
  let e := readSess v none
  if !zeros v 0x20 16 ∨ 63 < e.part ∨ 4096 < e.maxOut ∨ 16 < e.maxGal ∨ 7 < e.priority then some St.planRefused
  else if (match Tab.get none e.asid s.dram.spaces with
    | some sp => sp.owner != e.part
    | none => false) then some St.mapOwner
  else if e.flags.getLsbD 0 = false then none
  else sessionKeyBad s e

/-- A session write is accepted: it waits until the four hall caches have dropped the entry (R21). -/
def sessApply (q : Req) (v : Bytes) (s : State) (w : Who) : Applied :=
  let sid := fld v 0 4 % 2 ^ 18
  let old := sessNow s sid
  match old with
  | some o => if !roleAllows w 0x6010 false (some o.part) then .error St.objAccess
              else if tspLocked s w (some o.part) then .error St.cxlTspLocked else fin sid old
  | none => fin sid old
where fin (sid : Nat) (old : Option SessEntry) : Applied :=
  match sessBad s v with
  | some st => .error st
  | none =>
    let e := if nbit (fld v 6 2) 0 then some (readSess v old) else none
    .ok ({ s with changes := s.changes ++ [{ sid := sid, entry := e, req := q }] }, (old.map (sessBytes sid)).getD [],
      sessBytes sid (readSess v none))

/-- SESSION_ENTRY_WRITE (R21, R530). -/
def execSessionEntryWrite (q : Req) (v : Bytes) (s : State) : Result :=
  .next (reqWriteLater s q 0x6010 0 v (bytePart v 4) (sessApply q v))

/-- An item that waits under its session's old entry goes over to the new one, or completes (R21, R23). -/
def rebind (e : Option SessEntry) (it : Item) : Option Item :=
  match e with
  | some x => if x.valid && x.part == it.sess.part then some { it with sess := x } else none
  | none => none

/-- What a hall does when a session's entry has changed. -/
def rebindHall (s : State) (h sid : Nat) (e : Option SessEntry) : State :=
  let y := s.hallAt h
  let hit (it : Item) : Bool := it.sid == sid
  let gone := (y.pend ++ y.ctl).filter (fun it => hit it && (rebind e it).isNone)
  let go (l : List Item) : List Item := l.filterMap (fun it => if hit it then rebind e it else some it)
  let s := s.updHall h (fun y => { y with roll := y.roll.filter (fun c => c.1 != sid), pend := go y.pend, ctl := go y.ctl })
  gone.foldl (fun s it => completeItem s it St.sessionUnknown 0xFF 0) s

/-- SESSION_CHANGE_ACK (R21): the change takes hold in the roll and in every hall, and is acknowledged. -/
def sessionAck (s : State) (sid : Nat) : State :=
  match s.changes.find? (fun c => c.sid == sid) with
  | none => s
  | some c =>
    let keep (o : Option SessEntry) : Option SessEntry := c.entry.map (fun e => match o with
      | some x => { e with itemsDone := x.itemsDone, beatsUsed := x.beatsUsed }
      | none => e)
    let s := hwWritten { s with changes := s.changes.erase c, roll := Tab.upd none sid keep s.roll } 0 sid 64
    let e := s.sessAt sid
    answerLater ((List.range 4).foldl (fun s h => rebindHall s h sid e) s) c.req
      (fun f => frameOf 0x6010 f && fld f 0x20 4 % 2 ^ 18 == sid) St.ok

def execSessionChangeAck (sid : Nat) (s : State) : Result := .next (if s.boot.stage = .ready then sessionAck s sid else s)

/-! ## Limits and parameters (R25, R27) -/

/-- ITEM_LIMIT_WRITE (R25). -/
def execItemLimitWrite (q : Req) (p : Part) (v : Bytes) (s : State) : Result :=
  .next (reqWrite s q 0x6190 (p.val + 1) v (some p.val) (keepValue 0x6190 (p.val + 1) v))

/-- The batch minimum must not exceed the batch cap (R27). -/
def paramApply (sub : Nat) (v : Bytes) (s : State) (w : Who) : Applied :=
  let lo := if sub = 2 then leNat v else s.obj 0x2110 2
  let hi := if sub = 3 then leNat v else s.obj 0x2110 3
  if hi < lo then .error St.planRefused else keepValue 0x2110 sub v s w

/-- DISPATCH_PARAM_WRITE (R26, R27). -/
def execDispatchParamWrite (q : Req) (sub : Nat) (v : Bytes) (s : State) : Result :=
  .next (reqWrite s q 0x2110 sub v none (paramApply sub v))

end Sys2Proof.Machine
end

