-- ==== Sys2Proof/Machine/Objects.lean ====
section
/-! DEFINITION. What a read of an object returns (19 R524, R526, R540; every chapter's read-only objects). -/

namespace Sys2Proof.Machine
open Sys2Proof

/-! ## Numbers as F32 -/

/-- a / b in binary32. -/
def ratioBytes (a : Int) (b : Nat) : Bytes := natLe 4 (F32.ofVal ((FVal.ofZ a).div (FVal.ofNat b))).toNat

/-- The mean of readings in thousandths, over 1 ms; 0 before the first. -/
def meanBytes (l : List Nat) : Bytes := if l.isEmpty then natLe 4 0 else ratioBytes l.sum (1000 * l.length)

/-- A temperature of 1/64 °C. -/
def tempBytes (t : Int) : Bytes := ratioBytes t 64

/-- A sensor's object: its reading, NaN once it is excluded (R588). -/
def sensorBytes (s : State) (sn : Sensor) (t : Int) : Bytes := if s.power.excluded.contains sn then natLe 4 0x7FC00000 else tempBytes t

/-! ## Groups 0x1000 to 0x3000 -/

/-- The ordering code (R1, R3): AKL-4096-HX or AKL-4096-MX. -/
def orderCode (hx : Bool) : Bytes := [0x41, 0x4B, 0x4C, 0x2D, 0x34, 0x30, 0x39, 0x36, 0x2D, if hx then 0x48 else 0x4D, 0x58]

/-- Numbers in the store, ascending: those of R251 (R250). -/
def storeNumbers : List Nat := (List.range 17).map (· + 1)

/-- Is the device in the mixed state (R42)? -/
def mixed (s : State) : Bool := (List.range 64).any (fun g => (s.galAt g).epoch != s.plan.epoch)

/-- A value that the spec does not give but that no run changes (log 118). -/
def fixedBytes (n k : Nat) : Bytes := fitBytes n (Config.standardBytes k)

/-- The same for a string, of 1 to 256 bytes (R525). -/
def fixedStr (k : Nat) : Bytes := (Config.standardBytes k).headD 0 :: ((Config.standardBytes k).drop 1).take 255

def read1000 (s : State) (i sub : Nat) : Option Bytes :=
  match i, sub with
  | 0x1000, 1 => some (fixedStr 0x10001)
  | 0x1000, 2 => some (orderCode s.lamp.fuses.hx)
  | 0x1000, 3 => some s.lamp.fuses.serial
  | 0x1000, 4 => some (fixedBytes 2 0x10004)
  | 0x1000, 5 => some (natLe 4 s.lamp.fwVersion)
  | 0x1000, 6 => some (fitBytes 6 s.lamp.fuses.eui48)
  | 0x1030, k => some (natLe 4 (Config.tableVersion k (imgSection s 4)).toNat)
  | 0x2101, _ => some (natLe 1 (if mixed s then 1 else 0))
  | 0x2102, k => some (natLe 4 (s.galAt (k - 1)).epoch)
  | 0x2103, k => some (natLe 2 ((s.galAt (k - 1)).word (PlanEntry.at_ s.plan (k - 1))))
  | 0x2140, 1 => some (storeNumbers.flatMap (natLe 2))
  | 0x2140, 3 => some (natLe 4 (storeVersion s).toNat)
  | 0x2200, 3 => some (natLe 1 (if s.hal.fieldUp then 1 else 0))
  | 0x2200, 4 => some (natLe 8 s.hal.dropped)
  | 0x2200, 5 => some (natLe 8 s.hal.accepted)
  | 0x3000, 2 => some (natLe 1 s.hal.cal.code)
  | 0x3000, 3 => some (Crypto.sha256 (calAll s.hal.cal.flash))
  | 0x3000, 4 => some (fitBytes 32 s.lamp.fuses.calHash)
  | i, 1 => if 0x3100 ≤ i ∧ i ≤ 0x3104 then some (calItem s.hal.cal.items (i - 0x3100)) else none
  | _, _ => none

/-! ## Groups 0x4000 and 0x5000 -/

def read4000 (s : State) (i sub : Nat) : Option Bytes :=
  let k := sub - 1
  match i, sub with
  | 0x4000, 2 => some (meanBytes s.power.drawWin)
  | 0x4000, 3 => some (ratioBytes s.power.allowance 1000)
  | 0x4001, _ => some (natLe 2 (s.hallAt k).setPoint)
  | 0x4002, _ => some (ratioBytes (s.hallAt k).grant 1000)
  | 0x4003, _ => some (natLe 1 (s.galAt k).gating)
  | 0x4011, _ => some (meanBytes (s.hallAt k).curWin)
  | 0x4030, _ => some (natLe 4 (s.hallAt k).trips)
  | 0x5110, _ => some (sensorBytes s (.dram (Fin.ofNat 16 (k / 12)) (Fin.ofNat 12 (k % 12))) (Tab.get 0 k s.power.dramT))
  | 0x5120, _ => some (sensorBytes s (.iod (Fin.ofNat 64 k)) (Tab.get 0 k s.power.iodT))
  | 0x5300, _ => some (natLe 4 (s.galxAt k).pace.toNat)
  | 0x5301, _ => some (natLe 4 (s.hallAt k).process.toNat)
  | 0x5302, _ => some (natLe 4 (s.hallAt k).holds)
  | 0x5310, _ => some (natLe 1 (s.hallAt k).rng)
  | 0x5311, _ => some (natLe 4 (s.hallAt k).rngCount)
  | i, _ =>
    let g := 16 * (i - 0x5100) + k / 4
    if 0x5100 ≤ i ∧ i ≤ 0x5103 then
      some (sensorBytes s (.junction (Fin.ofNat 64 g) (Fin.ofNat 4 (k % 4))) (Tab.get 0 (k % 4) (s.galxAt g).junction))
    else none

/-! ## Group 0x6000 -/

/-- The objects of the selected parameter set (R206). -/
def readPset (p : PSet) (sub : Nat) : Bytes :=
  match sub with
  | 1 => natLe 1 (if p.below then 2 else 1)
  | 2 => natLe 1 p.part
  | 3 => Crypto.sha256 p.enc
  | 4 => natLe 2 p.margin
  | 5 => natLe 4 (p.LQ (p.nq + p.np - 1))
  | 6 => (List.range p.nq).flatMap (fun l => natLe 4 (p.LQ l))
  | _ => natLe 4 p.kib

/-- Those objects where no set is selected: zeros. -/
def noPset (sub : Nat) : Bytes := List.replicate ([1, 1, 32, 2, 4, 0, 4].getD (sub - 1) 0) 0

/-- The objects of a key set (R224). -/
def readKset (s : State) (k : KSet) (sub : Nat) : Bytes :=
  match sub with
  | 1 => natLe 1 (if k.seeded then 1 else 2)
  | 2 => natLe 2 k.ps
  | 3 => natLe 4 ((s.roll.filterMap (·.2)).filter (namesKset k.part k.fp)).length
  | 4 => natLe 8 k.opened
  | _ => natLe 4 k.stopped

def noKset (sub : Nat) : Bytes := List.replicate ([1, 2, 4, 8, 4].getD (sub - 1) 0) 0

def read6000 (s : State) (i sub : Nat) : Option Bytes :=
  match i, sub with
  | 0x6012, _ =>
    let sid := s.obj 0x6011 0
    some (match (if sid < 2 ^ 18 then s.sessAt sid else none) with
      | some e => sessBytes sid e
      | none => List.replicate 64 0)
  | 0x6100, 2 => some (natLe 1 s.dram.psFail)
  | 0x6103, k => some (match psetOf s (s.obj 0x6102 0) with
      | some p => readPset p k
      | none => noPset k)
  | 0x6143, k =>
    let v := s.objBytes 0x6142 0
    some (match ksetOf s (fld v 8 1) (fld v 0 8) with
      | some x => readKset s x k
      | none => noKset k)
  | _, _ => none

/-! ## Groups 0x7000 to 0x9000 -/

/-- Logical lanterns that a spare stands in for: one of the four, or a lantern readmitted as a spare (R95, R610). -/
def sparesUsed (s : State) (g : Nat) : Nat :=
  ((List.range 64).filter (fun l => (lmapOf s g l).valid && (decide (64 ≤ (lmapOf s g l).phys) || (physOf s g (lmapOf s g l).phys).asSpare))).length

/-- Bitmap of the dead physical lanterns (R609). -/
def deadMap (s : State) (g : Nat) : Bytes :=
  natLe 9 (((List.range 68).filter (fun p => (physOf s g p).dead)).map (fun p => 2 ^ p)).sum

/-- The entries held, oldest first (R537, R538). -/
def heldJournal (s : State) : List JEntry := heldEntries s.hal.jlast (s.hal.jflash ++ s.hal.jram)

def read7000 (s : State) (i sub : Nat) : Option Bytes :=
  match i, sub with
  | 0x7000, 1 => some (natLe 8 s.fault.newest)
  | 0x7000, 2 => some (natLe 8 s.fault.ack)
  | 0x7000, 3 => some (natLe 8 s.fault.lost)
  | 0x7001, k => some (natLe 4 (Tab.get (0 : Nat) (k - 1) s.fault.counts))
  | 0x7110, k => some (fitBytes 132 (s.galAt (k - 1)).graph)
  | 0x7120, k => some (natLe 1 (sparesUsed s (k - 1)))
  | 0x7121, k => some (natLe 1 (freeSpares s (k - 1)).length)
  | 0x7122, k => some (deadMap s (k - 1))
  | 0x7124, k => some (natLe 4 (s.galxAt (k - 1)).refused)
  | 0x8000, 1 => some (natLe 8 ((s.hal.jlast.map (·.jseq)).getD 0))
  | 0x8000, 2 => some (natLe 8 (((heldJournal s).head?.map (·.jseq)).getD 0))
  | 0x8000, 3 => some (chainNow s)
  | 0x8000, 4 => some (natLe 8 s.hal.jbusy)
  | 0x8010, 1 => some (natLe 8 s.time64)
  | 0x8010, 2 => some (natLe 1 s.timeSource)
  | 0x9000, _ => some (natLe 1 s.lamp.fuses.life)
  | 0x9002, 1 => some (natLe 1 s.boot.cause)
  | 0x9002, 2 => some (natLe 4 s.boot.readyUs)
  | 0x9002, 3 => some (natLe 2 s.boot.fail)
  | _, _ => none

/-- The public identity key (R566); zeros once it is destroyed (R568). -/
def identityKey (s : State) : Bytes :=
  if identityLives s then
    match Crypto.p256.mul (Crypto.identityScalar s.lamp.fuses.uds) Crypto.p256.base with
    | some (x, y) => natBe 32 x ++ natBe 32 y
    | none => List.replicate 64 0
  else List.replicate 64 0

def read9000 (s : State) (i sub : Nat) : Option Bytes :=
  let u := s.lamp.fuses
  match i, sub with
  | 0x9010, 5 => some (natLe 1 u.anchorRevoked)
  | 0x9010, k => some (u.anchor (k - 1))
  | 0x9020, k => some (credEntry s (k - 1))
  | 0x9030, 1 => some (identityKey s)
  | 0x9030, _ => some u.cert
  | 0x9040, 5 => some (natLe 1 u.keyRevoked)
  | 0x9040, k => some (fitBytes 32 (u.keyHash.getD (k - 1) []))
  | 0x9050, 1 => some (natLe 1 u.secVer)
  | 0x9060, 1 => some (natLe 1 s.lamp.pkeReason)
  | 0x9060, 2 => some (natLe 8 s.lamp.pkeRefused)
  | 0x9060, _ => some (natLe 8 s.lamp.pkeDone)
  | 0x9111, 1 => some (natLe 1 s.lamp.fw.st)
  | 0x9111, 2 => some (natLe 4 (imgVersion s.lamp.fw.flash))
  | 0x9111, 3 => some (natLe 1 (imgSecVer s.lamp.fw.flash))
  | 0x9111, _ => some (natLe 2 s.lamp.fw.fail)
  | _, _ => none

/-! ## Groups 0xA000 to 0xC000 -/

def readA000 (s : State) (i sub : Nat) : Option Bytes :=
  let k := sub - 1
  let rep := (s.galxAt k).rep
  match i, sub with
  | 0xA002, _ => some (natLe 2 (s.flightAt k).neighbour.toNat)
  | 0xB110, _ => some (natLe 8 s.cxl.doorbells)
  | 0xC200, _ => some (natLe 2 (rep.spare.map (·.2)).sum)
  | 0xC201, _ => some (natLe 4 rep.corrected)
  | 0xC202, _ => some (natLe 2 rep.noSpare.length)
  | 0xC300, _ => some (natLe 1 (s.stackAt k).band)
  | 0xC301, _ => some (ratioBytes (s.stackAt k).hot 64)
  | 0xC302, _ => some (natLe 4 (s.stackAt k).corrected)
  | 0xC303, _ => some (natLe 4 (s.stackAt k).bad)
  | 0xC304, _ => some (natLe 4 (s.stackAt k).lost.toNat)
  | 0xC305, _ => some (natLe 2 (s.stackAt k).spare)
  | i, _ =>
    if 0xA030 ≤ i ∧ i ≤ 0xA034 then some (natLe 8 (Tab.get (0 : Nat) (i - 0xA030) (s.flightAt k).ctr))
    else if 0xB100 ≤ i ∧ i < 0xB108 then some (s.ringAt (128 * (i - 0xB100) + k)).bytes else none

/-- The value that the device keeps elsewhere than among the stored objects. -/
def liveObj (s : State) (i sub : Nat) : Option Bytes :=
  if i < 0x4000 then read1000 s i sub
  else if i < 0x6000 then read4000 s i sub
  else if i < 0x7000 then read6000 s i sub
  else if i < 0x9000 ∨ i / 256 = 0x90 ∧ i < 0x9010 then read7000 s i sub
  else if i < 0xA000 then read9000 s i sub
  else readA000 s i sub

/-! ## Reads with an effect, and reads as a whole -/

/-- Records held with `seq` at or above the cursor, at most 16, oldest first; the cursor moves past the last (R605). -/
def readRecords (s : State) : Bytes × State :=
  let l := (s.fault.mem.filter (fun r => decide (s.obj 0x7000 4 ≤ r.seq))).take 16
  match l.getLast? with
  | none => ([], s)
  | some r => (l.flatMap FRec.bytes, s.setObj 0x7000 4 (natLe 8 (r.seq + 1)))

/-- Entries held at or above the cursor, at most 8; the cursor moves past the last (R540). -/
def readJournal (s : State) : Except Nat (Bytes × State) :=
  let c := s.obj 0x8002 0
  let held := heldJournal s
  match held with
  | [] => .ok ([], s)
  | e :: _ =>
    if c < e.jseq then .error St.journalGone
    else
      let l := (held.filter (fun e => decide (c ≤ e.jseq))).take 8
      match l.getLast? with
      | none => .ok ([], s)
      | some y => .ok (l.flatMap JEntry.bytes, s.setObj 0x8002 0 (natLe 8 (y.jseq + 1)))

/-- The reading of voltage monitor k: what it measures, a free value, times its gain (R541, R587). -/
def railVolts (s : State) (k : Nat) : Bytes × State :=
  let (w, t) := s.freshWords 1
  (natLe 4 (F32.mul (w.getD 0 0) (w32 (fld (calItem s.hal.cal.items 1) (4 * k) 4))).toNat, t)

/-- Read an object: WO refuses (R526), and in Returned all but RO (R570); sub-index 0 of a numbered index reads how many subs it has (R524). What no reading of the spec fixes
is free: what rail voltages are measured, and the estimated error while a source is in use (log 8). -/
def readObj (s : State) (i sub : Nat) : Except Nat (Bytes × State) :=
  match Dict.info i sub with
  | none => .error St.objUnknown
  | some o =>
    if o.wo || (s.lamp.fuses.life == 3 && o.right != .ro) then .error St.objAccess
    else if sub = 0 ∧ Dict.count i ≠ some 0 then .ok (o.dflt, s)
    else if i = 0x7000 ∧ sub = 5 then .ok (readRecords s)
    else if i = 0x8003 then readJournal s
    else if i = 0x5200 then .ok (railVolts s (sub - 1))
    else if i = 0x8010 ∧ sub = 5 then (if s.timeSource = 0 then .ok (natLe 4 0xFFFFFFFF, s) else .ok (s.freshBytes 4))
    else .ok ((liveObj s i sub).getD (s.objBytes i sub), s)

/-- A read for a row of its own: its value, or the status that refuses it. -/
def reqRead (s : State) (q : Req) (i sub : Nat) : State :=
  request s q (fun s =>
    match whoOf s q with
    | .error st => s.emit (.status q st)
    | .ok _ =>
      match readObj (touchSess s q) i sub with
      | .error st => (touchSess s q).emit (.status q st)
      | .ok (v, s) => s.emit (.value q v))

/-- FAULT_RECORD_READ: 0x7000:05. -/
def execFaultRecordRead (q : Req) (s : State) : Result := .next (reqRead s q 0x7000 5)

/-- JOURNAL_READ: 0x8003:00. -/
def execJournalRead (q : Req) (s : State) : Result := .next (reqRead s q 0x8003 0)

end Sys2Proof.Machine
end

