-- ==== Sys2Proof/Machine/Frames.lean ====
section
/-! DEFINITION. Haldub frames as they arrive, discovery, sessions, reads (19 R514 to R523, R531). -/

namespace Sys2Proof.Machine
open Sys2Proof

/-! ## A frame arrives (R517, R518) -/

/-- Has the field port an address? PRESUMED (log 109): RFC 4862's retransmission timer of 1 s without a conflict ends the check that a link-up begins (R515). -/
def addressed (s : State) : Bool :=
  match s.hal.dad with
  | .unique => true
  | .checking t => decide (t + 1000000000 ≤ s.clock.now)
  | .duplicate => false

/-- Does the field port answer: its link is up, its address is its own (R515), and the boot ROM or firmware runs (R601)? -/
def fieldOn (s : State) : Bool := decide (s.boot.stage ≠ .off ∧ s.boot.stage ≠ .held) && s.hal.fieldUp && addressed s

/-- Does the mailbox answer? -/
def mailboxOn (s : State) : Bool := decide (s.boot.stage ≠ .off ∧ s.boot.stage ≠ .held) && s.cxl.up

/-- A frame that R518 does not drop before its tag is looked at. -/
def frameOk (p : Port) (f : Bytes) : Bool :=
  let n := fld f 0x18 2
  decide (32 ≤ f.length) && slice f 0 3 == [0x48, 0x44, 1] && decide (1 ≤ fld f 3 1 ∧ fld f 3 1 ≤ 9) && fld f 0x13 1 / 2 == 0 &&
    decide (n ≤ maxData p) && f.length == 32 + n + (if fld f 4 4 = 0 then 0 else 16)

/-- A dropped frame: counted on the field port, Invalid Input on the mailbox (R518, R531). -/
def dropFrame (s : State) (p : Port) : State :=
  match p with
  | .field => { s with hal := { s.hal with dropped := s.hal.dropped + 1 } }
  | .mailbox => s.emit (.mailbox mbxInvalid [])

/-- The nodes of the segment that the port coordinates, where its PLCA node ID is 0 (R514); the beacons that follow from it are the segment's (log 115). -/
def State.plcaNodes (s : State) : Option Nat := if s.obj 0x2200 1 = 0 then some (s.obj 0x2200 2) else none

/-- A frame that is taken is counted on the field port (0x2200:05). -/
def takeFrame (s : State) (p : Port) : State :=
  match p with
  | .field => { s with hal := { s.hal with accepted := s.hal.accepted + 1 } }
  | .mailbox => s

/-- The opcode that carries a frame type (R531). -/
def mbxOpcode (ty : Nat) : Nat := if ty = 3 ∨ ty = 5 then 0xC000 else if ty = 9 then 0xC001 else if ty = 6 then 0xC002 else if ty = 7 then 0xC003 else 0

/-- A frame of a type reaches the device by a port. Another type that the port, or the mailbox's opcode, carries is another row's (log 2). -/
def arrive (s : State) (p : Port) (ty : Nat) (f : Bytes) (k : State → State) : State :=
  match p with
  | .field =>
    if fieldOn s = false then s
    else if frameOk .field f = false then dropFrame s .field
    else if fld f 3 1 = ty then k s else s
  | .mailbox =>
    if mailboxOn s = false then s
    else if s.dram.translating.isSome then s.emit (.mailbox mbxBusy [])
    else if frameOk .mailbox f = false ∨ mbxOpcode (fld f 3 1) ≠ mbxOpcode ty then dropFrame s .mailbox
    else if fld f 3 1 = ty then k s else s

/-- A response in plain form: session 0, no tag. -/
def plainReply (s : State) (p : Port) (f : Bytes) (st : Nat) : State :=
  (takeFrame s p).emit (.frame p (frameBytes 8 0 (fld f 8 8) (fld f 0x10 2) (fld f 0x12 1) 1 (fld f 0x14 4) st 0 []))

/-- The bytes of a frame that its tag covers. -/
def untagged (f : Bytes) : Bytes := f.take (f.length - 16)

/-- The tag that ends a frame. -/
def tagOf (f : Bytes) : Bytes := f.drop (f.length - 16)

/-- A request within a session (R518, R522): its tag, then its number; a new number is the latest from here on. -/
def inSession (s : State) (p : Port) (f : Bytes) (k : State → HSess → State) : State :=
  let q : Req := { port := p, sess := fld f 4 4 }
  match liveSess s q with
  | none => plainReply s p f St.sessionGone
  | some y =>
    if tagOf f ≠ tag16 y.c2d (untagged f) then dropFrame s p
    else if fld f 8 8 < y.seq then (match p with
      | .field => s
      | .mailbox => dropFrame s .mailbox)
    else if fld f 8 8 = y.seq then
      (if !y.kept.isEmpty then (takeFrame s p).emit (.frame p y.kept) else
        match p with
        | .field => s
        | .mailbox => dropFrame s .mailbox)
    else
      let y := { y with seq := fld f 8 8, last := s.clock.now, kept := [] }
      k (takeFrame { s with hal := { s.hal with sess := Tab.put none q.sess (some y) s.hal.sess } } p) y

/-! ## Discovery and ICMPv6 (R515, R523) -/

/-- DISCOVER: the reply waits for its random delay. -/
def execDiscover (f : Bytes) (s : State) : Result :=
  .next (arrive s .field 1 f (fun s =>
    let s := takeFrame s .field
    { s with hal := { s.hal with discover := s.hal.discover ++ [fld f 8 8] } }))

/-- What a discover reply carries: ordering code, serial number, device identifier, node ID. -/
def discoverData (s : State) : Bytes := orderCode s.lamp.fuses.hx ++ s.lamp.fuses.serial ++ s.objBytes 0xA000 1 ++ s.objBytes 0x2200 1

/-- DISCOVER_REPLY: the delay of the oldest is over. -/
def discoverReply (s : State) : State :=
  match s.hal.discover with
  | [] => s
  | n :: rest =>
    if fieldOn s then
      let d := discoverData s
      ({ s with hal := { s.hal with discover := rest } }).emit (.frame .field (frameBytes 2 0 n 0 0 1 0 0 d.length d))
    else s

def execDiscoverReply (s : State) : Result := .next (discoverReply s)

/-- The link-local address by modified EUI-64 (R515). -/
def linkLocal (s : State) : Bytes :=
  let e := fitBytes 6 s.lamp.fuses.eui48
  [0xFE, 0x80, 0, 0, 0, 0, 0, 0] ++ [e.getD 0 0 ^^^ 2, e.getD 1 0, e.getD 2 0, 0xFF, 0xFE] ++ e.drop 3

/-- ICMPV6_REQUEST: neighbour discovery answers with the port's address, an echo with its data; anything else is dropped and counted. A node that claims the address while it is being
checked keeps the port from using it; later the port defends it (R515, log 109). -/
def icmp (s : State) (m : Icmp) : State :=
  if fieldOn s = false then
    (match m, s.hal.dad with
     | .conflict, .checking _ => { s with hal := { s.hal with dad := .duplicate } }
     | _, _ => s)
  else
    match m with
    | .neighbourSolicitation => s.emit (.icmp (linkLocal s))
    | .conflict => s.emit (.icmp (linkLocal s))
    | .echo d => s.emit (.icmp d)
    | .other => dropFrame s .field

def execIcmpv6Request (m : Icmp) (s : State) : Result := .next (icmp s m)

/-! ## Opening a session (R521, R522) -/

/-- Live sessions of a port. -/
def sessCount (s : State) (p : Port) : Nat := (s.hal.sess.filter (fun c => (liveSess s { port := p, sess := c.1 }).isSome)).length

/-- A key as a point. -/
def keyPoint (v : Bytes) : Crypto.Point := some (beNat (slice v 0 32), beNat (slice v 32 32))

/-- A point's coordinates, big-endian. -/
def pointBytes (p : Crypto.Point) : Bytes :=
  match p with
  | some (x, y) => natBe 32 x ++ natBe 32 y
  | none => List.replicate 64 0

/-- The bytes of "haldub v1". -/
def haldubV1 : Bytes := [0x68, 0x61, 0x6C, 0x64, 0x75, 0x62, 0x20, 0x76, 0x31]

/-- Why an open 1 is refused. -/
def openBad (s : State) (p : Port) (f : Bytes) : Option Nat :=
  let d := f.drop 32
  if s.boot.stage ≠ .ready then some St.objAccess
  else if fld f 4 4 ≠ 0 ∨ fld f 0x18 2 ≠ 82 ∨ credUsable s (fld d 0 2) = false ∨ keyOk (slice d 2 64) = false ∨ identityLives s = false then
    some St.sessionAuth
  else if 8 ≤ sessCount s p then some St.sessionFull else none

/-- Open 2: the device's key and nonce, the session's number, the signature over open 1 and what precedes it with the key derived from the UDS. -/
def openTwo (uds f : Bytes) (eph : Nat) (nonce : Bytes) (sid : Nat) : Bytes :=
  let body := pointBytes (Crypto.p256.mul eph Crypto.p256.base) ++ nonce ++ natLe 4 sid
  let pre := (frameBytes 4 0 (fld f 8 8) (fld f 0x10 2) (fld f 0x12 1) 1 0 0 148 (body ++ List.replicate 64 0)).take (32 + body.length)
  let g := Crypto.p256.sign (Crypto.identityScalar uds) (beNat (Crypto.sha256 (f ++ pre)))
  pre ++ natBe 32 g.1 ++ natBe 32 g.2

/-- The two keys of a session, 64 bytes. -/
def sessionKeys (open1 open2 nonce : Bytes) (eph : Nat) (cred : Bytes) : Bytes :=
  let d := open1.drop 32
  let z1 := (pointBytes (Crypto.p256.mul eph (keyPoint (slice d 2 64)))).take 32
  let z2 := (pointBytes (Crypto.p256.mul eph (keyPoint cred))).take 32
  Crypto.hkdf64 (slice d 66 16 ++ nonce) (z1 ++ z2) (haldubV1 ++ Crypto.sha256 (open1 ++ open2))

/-- OPEN_1: answered by open 2; its key and nonce are draws of the device (log 10). -/
def openOne (s : State) (p : Port) (f : Bytes) : State :=
  match openBad s p f with
  | some st => plainReply s p f st
  | none =>
    let (e, s) := s.freshBytes 32
    let (nonce, s) := s.freshBytes 16
    let eph := 1 + beNat e % (Crypto.p256.n - 1)
    let sid := s.hal.nextSess
    let cred := fld f 32 2
    let two := openTwo s.lamp.fuses.uds f eph nonce sid
    let k := sessionKeys f two nonce eph (credEntry s cred)
    let o : Opening := { port := p, sid := sid, cred := cred, open1 := f, open2 := two, c2d := k.take 32, d2c := k.drop 32 }
    let s := takeFrame s p
    ({ s with hal := { s.hal with openings := s.hal.openings ++ [o], nextSess := if sid = 2 ^ 32 - 1 then 1 else sid + 1 } }).emit (.frame p two)

def execOpen1 (port : Port) (v : Bytes) (s : State) : Result := .next (arrive s port 3 v (fun s => openOne s port v))

/-- The session that an open leads to. -/
def newSession (s : State) (o : Opening) : HSess :=
  let e := credEntry s o.cred
  { port := o.port, cred := o.cred, role := fld e 0x40 1, mask := BitVec.ofNat 64 (fld e 0x48 8), c2d := o.c2d, d2c := o.d2c, seq := 0, kept := [],
    stage := none, snap := none, last := s.clock.now }

/-- OPEN_3: the tag over the three frames opens the session; a refusal ends the open. -/
def openThree (s : State) (p : Port) (f : Bytes) : State :=
  if s.boot.stage ≠ .ready then plainReply s p f St.objAccess
  else
    match s.hal.openings.find? (fun o => o.port == p && o.sid == fld f 4 4) with
    | none => plainReply s p f St.sessionGone
    | some o =>
      let s := { s with hal := { s.hal with openings := s.hal.openings.erase o } }
      if tagOf f ≠ tag16 o.c2d (o.open1 ++ o.open2 ++ untagged f) ∨ credUsable s o.cred = false then plainReply s p f St.sessionAuth
      else if 8 ≤ sessCount s p then plainReply s p f St.sessionFull
      else
        let s := { s with hal := { s.hal with sess := Tab.put none o.sid (some (newSession s o)) s.hal.sess } }
        respondFrame (takeFrame s p) { port := p, sess := o.sid } o.d2c f St.ok [] 1 0 0

def execOpen3 (port : Port) (v : Bytes) (s : State) : Result := .next (arrive s port 5 v (fun s => openThree s port v))

/-- CLOSE (R522): answered under the session's key, which is then gone. -/
def closeFrame (s : State) (p : Port) (f : Bytes) : State :=
  if fld f 4 4 = 0 ∨ s.boot.stage ≠ .ready then plainReply s p f St.objAccess
  else inSession s p f (fun s y =>
    let q : Req := { port := p, sess := fld f 4 4 }
    let s := respondFrame s q y.d2c f St.ok [] 1 0 0
    { s with hal := { s.hal with sess := Tab.put none q.sess none s.hal.sess } })

def execClose (port : Port) (v : Bytes) (s : State) : Result := .next (arrive s port 9 v (fun s => closeFrame s port v))

/-- SESSION_IDLE_TIMEOUT (R522): 60 s without a valid request. -/
def idleTimeout (s : State) (sid : Nat) : State :=
  match Tab.get none sid s.hal.sess with
  | none => s
  | some y => if y.last + 60000000000 ≤ s.clock.now then { s with hal := { s.hal with sess := Tab.put none sid none s.hal.sess } } else s

def execSessionIdleTimeout (sess : Nat) (s : State) : Result := .next (idleTimeout s sess)

/-! ## Reading (R519) -/

/-- A segment's answer: status, data, last, offset, length of the whole value. -/
structure Served where
  st : Nat
  data : Bytes
  last : Bool
  total : Nat
  deriving DecidableEq, Repr

/-- Serve a segment of a read: segment 0 takes the snapshot, later ones come from it. -/
def serveRead (s : State) (p : Port) (snap : Option (Nat × Bytes)) (f : Bytes) : State × Option (Nat × Bytes) × Served :=
  let i := fld f 0x10 2
  let sub := fld f 0x12 1
  let off := fld f 0x14 4
  let bad (st : Nat) : Served := { st := st, data := [], last := true, total := 0 }
  let cut (v : Bytes) : Served :=
    { st := St.ok, data := (v.drop off).take (maxData p), last := decide (v.length ≤ off + maxData p), total := v.length }
  if off = 0 then
    match readObj s i sub with
    | .error st => (s, snap, bad st)
    | .ok (v, s) => (s, some (Dict.key i sub, v), cut v)
  else
    match snap with
    | none => (s, snap, bad St.objSegment)
    | some (k, v) => if k = Dict.key i sub ∧ off < v.length then (s, snap, cut v) else (s, snap, bad St.objSegment)

/-- Respond with a segment. -/
def sendServed (s : State) (q : Req) (key f : Bytes) (r : Served) : State :=
  respondFrame s q key f r.st r.data (if r.last then 1 else 0) (fld f 0x14 4) r.total

/-- What a read without a session may name (R523, R526, R564, R616). DEDUCED (log 112): recovery too shows 0x9002, where R632 has `ST_STRAP` reported. -/
def plainReadOk (s : State) (p : Port) (i : Nat) : Bool :=
  match s.boot.stage with
  | .ready => i / 4096 == 1 || p == .mailbox
  | .boot => i / 4096 == 1 || i == 0x9002
  | .recovery => i / 4096 == 1 || i == 0x9002 || i == 0x9111
  | _ => false

/-- What a port's read without a session goes on from. -/
def anonSnap (s : State) (p : Port) : Option (Nat × Bytes) := (s.hal.anonSnap.find? (fun c => c.1 == p)).map (·.2)

def setAnonSnap (s : State) (p : Port) (x : Option (Nat × Bytes)) : State :=
  { s with hal := { s.hal with anonSnap := s.hal.anonSnap.filter (fun c => c.1 != p) ++ (x.map (fun y => (p, y))).toList } }

/-- READ. -/
def readFrame (s : State) (p : Port) (f : Bytes) : State :=
  let q : Req := { port := p, sess := fld f 4 4 }
  if q.sess = 0 then
    if plainReadOk s p (fld f 0x10 2) then
      let r := serveRead (takeFrame s p) p (anonSnap s p) f
      sendServed (setAnonSnap r.1 p r.2.1) q [] f r.2.2
    else plainReply s p f St.objAccess
  else if s.boot.stage ≠ .ready then plainReply s p f St.objAccess
  else inSession s p f (fun s y =>
    let r := serveRead s p y.snap f
    let s := { r.1 with hal := { r.1.hal with sess := Tab.upd none q.sess (fun o => o.map (fun y => { y with snap := r.2.1 })) r.1.hal.sess } }
    sendServed s q y.d2c f r.2.2)

def execRead (port : Port) (v : Bytes) (s : State) : Result := .next (arrive s port 6 v (fun s => readFrame s port v))

end Sys2Proof.Machine
end

