-- ==== Sys2Proof/Machine/Items.lean ====
section
/-! DEFINITION. The hall dispatchers (01 R19 to R30, 18 R498 to R502): admission, batching, hand-off, the start of a task (03 R70, 04 R105). -/

namespace Sys2Proof.Machine
open Sys2Proof

/-! ## Items (R498, R499, R502) -/

def itemKind (b : Bytes) : Nat := fld b 0 1
def itemSid (b : Bytes) : Nat := fld b 4 4 % 2 ^ 18

/-- A reserved kind, a reserved field that is not 0 or a field out of range (R502). -/
def itemBad (b : Bytes) : Bool :=
  decide (4 ≤ fld b 1 1 ∨ 2 ^ 18 ≤ fld b 4 4) ||
    (match itemKind b with
     | 1 => !zeros b 0x24 4 || (List.range 8).any (fun k => decide (512 < fld b (0x30 + 2 * k) 2))
     | 2 => !zeros b 0x20 32
     | 3 => decide (4095 < fld b 0x18 2 ∨ 63 < fld b 0x1A 1 ∨ 15 < fld b 0x1B 1) || !zeros b 0x20 32
     | 4 => decide (4095 < fld b 0x18 2 ∨ 15 < fld b 0x1A 1 ∨ 0 < fld b 0x1B 1 ∨ fld b 0x20 2 < 2 ∨ 4096 < fld b 0x20 2) || !zeros b 0x22 30
     | _ => true)

/-- The module that a task item names in a partition (R100). -/
def moduleOf (s : State) (part : Nat) (b : Bytes) : Option Module := s.dram.modules.find? (fun m => m.handle == fld b 0x18 4 && m.part == part)

/-! ## Admission (R19, R23 to R25, R500) -/

/-- Must the item wait: its gate, its session's items in flight, its partition's limit (R24, R25, R500)? -/
def mustWait (s : State) (h : Nat) (b : Bytes) (e : SessEntry) : Bool :=
  let gate := fld b 0x10 8
  let cap := if e.maxOut = 0 then 4096 else e.maxOut
  (nbit (fld b 1 1) 1 && decide ((Tab.get (0 : W64) (ctrKey e.part (gate / 2 ^ 60)) s.net.sig).toNat < gate % 2 ^ 60)) ||
    decide (cap ≤ ((inFlight s).filter (fun c => c.2.sid == itemSid b)).length) || atLimit s h e.part

/-- The status with which an admissible item completes instead, where the spec refuses it (R100, R413, R502). -/
def refusedItem (s : State) (b : Bytes) (e : SessEntry) : Option Nat :=
  if itemKind b = 1 ∧ (moduleOf s e.part b).isNone then some St.utierNoModule
  else if itemKind b = 2 ∧ e.modeCode ≠ 1 then some St.updMode else none

/-- Admit a ring's item under a session entry (R19). -/
def admitItem (s : State) (h r n : Nat) (b : Bytes) (e : SessEntry) : State :=
  match refusedItem s b e with
  | some st => completeRead s r n b st
  | none =>
    let it : Item := { ring := r, idx := n, bytes := b, sid := itemSid b, sess := e, at_ := s.clock.now }
    let s := s.updRing r (fun y => { y with read := y.read.filter (fun c => c.idx != n) })
    s.updHall h (fun y => if itemKind b ≤ 2 then { y with pend := y.pend ++ [it] } else { y with ctl := y.ctl ++ [it] })

/-- Judge a read item whose session's entry is at hand (R23, R24). -/
def judge (s : State) (h r n : Nat) (b : Bytes) (e : SessEntry) : State :=
  if some e.part ≠ (s.ringAt r).part then completeRead s r n b St.sessionUnknown
  else if mustWait s h b e then s else admitItem s h r n b e

/-- The entry comes to the front of the hall's cache of 4,096, least recently used last (R20). -/
def cacheUse (s : State) (h sid : Nat) (e : SessEntry) : State :=
  s.updHall h (fun y => { y with roll := ((sid, e) :: y.roll.filter (fun c => c.1 != sid)).take 4096 })

/-- The dispatcher of the hall that read a ring's oldest waiting item looks at it; the ring may have passed to another hall since (R18, R495). -/
def itemAdmit (s : State) (r : Nat) : State :=
  match (s.ringAt r).read with
  | [] => s
  | ⟨h, n, b⟩ :: _ =>
    if !hallRuns s h then s
    else if itemBad b then completeRead s r n b St.itemFormat
    else
      match (s.hallAt h).roll.find? (fun c => c.1 == itemSid b) with
      | some c => judge (cacheUse s h c.1 c.2) h r n b c.2
      | none => s.updHall h (fun z => { z with miss := if z.miss.contains (r, itemSid b) then z.miss else z.miss ++ [(r, itemSid b)] })

/-- ITEM_ADMIT. -/
def execItemAdmit (r : RingNo) (s : State) : Result := .next (itemAdmit s r.val)

/-- SESSION_CACHE_FILL (R20, R23): the read of the roll answers, and the admissions that waited for it go on. -/
def cacheFill (s : State) (h sid : Nat) : State :=
  let waits := (s.hallAt h).miss.filter (fun c => c.2 == sid)
  if waits.isEmpty ∨ hallRuns s h = false then s
  else
    let s := s.updHall h (fun y => { y with miss := y.miss.filter (fun c => c.2 != sid) })
    match sessionOf s sid with
    | some e => waits.foldl (fun s c => itemAdmit s c.1) (cacheUse s h sid e)
    | none =>
      waits.foldl (fun s c => match (s.ringAt c.1).read with
        | [] => s
        | x :: _ => if itemSid x.bytes = sid then completeRead s c.1 x.idx x.bytes St.sessionUnknown else s) s

def execSessionCacheFill (h : Hall) (sid : Nat) (s : State) : Result := .next (cacheFill s h.val sid)

/-- NO_GALLERY_TIMEOUT (R26): since admission. -/
def noGalleryTimeout (s : State) (h r idx : Nat) : State :=
  match (s.hallAt h).pend.find? (fun it => it.ring == r && it.idx == idx) with
  | none => s
  | some it =>
    if hallRuns s h ∧ it.at_ + 1000 * s.obj 0x2110 4 ≤ s.clock.now then
      completeItem (s.updHall h (fun y => { y with pend := y.pend.erase it })) it St.noGallery 0xFF 0
    else s

def execNoGalleryTimeout (h : Hall) (r : RingNo) (idx : Nat) (s : State) : Result := .next (noGalleryTimeout s h.val r.val idx)

/-! ## Which item a gallery takes (R19, R26 to R30) -/

/-- Is the gallery free to take items (R19, R38, R39)? -/
def galFree (s : State) (g : Nat) : Bool :=
  let y := s.galAt g
  hallRuns s (hallOf g) && y.task.isNone && y.mode.active && !y.changing && !y.qFault && y.epoch == s.plan.epoch

/-- The pending items of its mode and its partitions, oldest first (R19). -/
def candidates (s : State) (g : Nat) : List Item :=
  let y := s.galAt g
  (s.hallAt (hallOf g)).pend.filter (fun it => it.sess.modeCode == y.mode.code && y.entry.mask.getLsbD it.sess.part)

/-- The items that run, each on one gallery. -/
def runningItems (s : State) : List Item := (List.range 64).filterMap (fun g => ((s.galAt g).task).map (·.item))

/-- Most galleries that serve a session (R22). -/
def SessEntry.galleries (e : SessEntry) : Nat := if e.maxGal = 0 then 16 else e.maxGal

/-- May one more gallery serve the item's session (R30)? -/
def mayServe (s : State) (it : Item) : Bool :=
  decide (((runningItems s).filter (fun x => x.sid == it.sid)).length < it.sess.galleries)

/-- The oldest of a list of items. -/
def oldest (l : List Item) : Option Item :=
  match l with
  | [] => none
  | x :: r => some (r.foldl (fun a b => if b.at_ < a.at_ then b else a) x)

/-- Older than the age limit (R28). DESIGN CHOICE (log 66): an item exactly at the limit is not yet older, as the text has it; the pseudocode
says at or above. -/
def aged (s : State) (it : Item) : Bool := decide (it.at_ + 1000 * s.obj 0x2110 5 < s.clock.now)

/-- The pick of a Clear or Share gallery: the age limit, then priority, then age (R26). -/
def pickPlain (s : State) (g : Nat) : Option Item :=
  let c := (candidates s g).filter (mayServe s)
  match oldest (c.filter (aged s)) with
  | some it => some it
  | none =>
    let top := c.foldl (fun (n : Nat) it => Nat.max n it.sess.priority) 0
    oldest (c.filter (fun it => it.sess.priority == top))

/-- A key set's name: partition and fingerprint (R30). -/
def Item.keyset (it : Item) : Nat × Nat := (it.sess.part, it.sess.fp)

/-- What the dispatcher knows of a key set: the item that may go first, its oldest item, whether it is eligible, its priority. -/
structure KeyList where
  ks : Nat × Nat
  first : Item
  old : Item
  eligible : Bool
  priority : Nat
  deriving DecidableEq, Repr

/-- Has an item waited for the batching window (R28)? -/
def windowOver (s : State) (it : Item) : Bool := decide (it.at_ + 1000 * s.obj 0x2110 1 ≤ s.clock.now)

/-- The list of a key set, where a gallery may serve it now (R28, R30). DESIGN CHOICE (log 67): the galleries that serve the key set are those of
the whole device, the pending sessions of the cap those of the hall. -/
def keyList (s : State) (cands : List Item) (ks : Nat × Nat) : Option KeyList :=
  let mine := cands.filter (fun it => it.keyset == ks)
  let run := (runningItems s).filter (fun it => it.sess.modeCode == 2 && it.keyset == ks)
  let cap := (mine ++ run).foldl (fun (n : Nat) it => Nat.max n it.sess.galleries) 0
  match mine.find? (mayServe s), oldest mine with
  | some f, some o =>
    if run.length < cap then
      some { ks := ks, first := f, old := o, eligible := decide (s.obj 0x2110 2 ≤ mine.length) || windowOver s o,
             priority := mine.foldl (fun (n : Nat) it => Nat.max n it.sess.priority) 0 }
    else none
  | _, _ => none

/-- The list whose oldest item is oldest. -/
def oldestList (l : List KeyList) : Option KeyList :=
  match l with
  | [] => none
  | x :: r => some (r.foldl (fun a b => if b.old.at_ < a.old.at_ then b else a) x)

/-- `next_keyset` of R28. -/
def nextKeyset (s : State) (g : Nat) : Option KeyList :=
  let c := candidates s g
  let ls := ((c.map Item.keyset).eraseDups).filterMap (keyList s c)
  match oldestList (ls.filter (fun k => aged s k.old)) with
  | some k => some k
  | none =>
    match ls.find? (fun k => some k.ks == (s.galAt g).lastKs && k.eligible) with
    | some k =>
      if (s.galAt g).run < s.obj 0x2110 3 then some k else best ls
    | none => best ls
where best (ls : List KeyList) : Option KeyList :=
  let e := ls.filter (·.eligible)
  let top := e.foldl (fun (n : Nat) k => Nat.max n k.priority) 0
  oldestList (e.filter (fun k => k.priority == top))

/-- The item that a free gallery takes next. -/
def nextItem (s : State) (g : Nat) : Option Item :=
  if (s.galAt g).mode = .cipher then (nextKeyset s g).map (·.first) else pickPlain s g

/-! ## The start of a task (R32, R70, R105) -/

/-- The entry point of a module: its offset in the code section (R97). -/
def Module.entry (m : Module) (k : Nat) : Nat := fld m.container (fld m.container 0x10 4 + 8 * k) 4
def Module.codeSize (m : Module) : Nat := fld m.container 0x0C 4
def Module.entries (m : Module) : Nat := fld m.container 0x14 2

/-- The threads that an item names, with their entry index (R499). -/
def namedThreads (b : Bytes) : List (Nat × Nat) :=
  ((List.range 8).map (fun t => (t, fld b (0x1C + t) 1))).filter (fun c => c.2 != 0xFF)

/-- A lantern at task start (R70, R133, R137, R163): `th` its threads. -/
def Lantern.begin (y : Lantern) (th : Tab Thread) : Lantern :=
  { y.stopped with th := th, flags := [], drainSeq := 0, arr := Arr.zero, ca := LanCntA.zero, cb := LanCntB.zero }

/-- A thread at its entry point (R105). -/
def startThread (g l t part : Nat) (m : Mode) (arg : W64) (pc : Nat) : Thread :=
  ({ Thread.zero with st := .ready, pc := pc }.setX 1 arg).setX 2 (ctxWord g l t part m)

/-- The threads of lantern `l`. -/
def startThreads (g l : Nat) (m : Mode) (it : Item) (md : Option Module) : Tab Thread :=
  match md with
  | none => []
  | some md =>
    (namedThreads it.bytes).map (fun c => (c.1, startThread g l c.1 it.sess.part m (w64 (fld it.bytes 0x28 8)) (md.entry c.2)))

/-- The gallery of another partition than the task before wipes, and drops its code (R32, R92). -/
def changePartition (s : State) (g part : Nat) : State :=
  match (s.galAt g).last with
  | some (p, _) => if p = part then s else dropCode (wipeMemories s g) g
  | none => s

/-- The status that ends a task at once: its module or an entry index is missing (R100). -/
def startBad (md : Option Module) (it : Item) : Option Nat :=
  if itemKind it.bytes = 2 then none
  else match md with
    | none => some St.utierNoModule
    | some m => if (namedThreads it.bytes).any (fun c => decide (m.entries ≤ c.2)) then some St.utierNoEntry else none

/-- The gallery takes an item: partition wipe, tag, task start (R32, R38, R70). -/
def startTask (s : State) (g : Nat) (it : Item) : State :=
  let m := (s.galAt g).mode
  let md := if itemKind it.bytes = 1 then moduleOf s it.sess.part it.bytes else none
  let bad := startBad md it
  let s := changePartition s g it.sess.part
  let task : Task :=
    { item := it, epoch := s.plan.epoch, update := itemKind it.bytes == 2, codeSize := (md.map Module.codeSize).getD 0,
      codeBase := (md.map (·.base)).getD 0, named := if itemKind it.bytes = 1 then namedThreads it.bytes else [],
      counts := if itemKind it.bytes = 1 then (List.range 8).map (fun b => fld it.bytes (0x30 + 2 * b) 2) else [], first := none,
      abort := none, recs := 0, at_ := s.clock.now }
  let s := s.updGal g (fun y => { y with
    task := some task, progress := s.clock.now, taskSeq := y.taskSeq + 1, arrivals := [],
    lastKs := if m = .cipher then some it.keyset else none,
    run := if m = .cipher then (if y.lastKs = some it.keyset then y.run + 1 else 1) else 0,
    lan := (List.range 64).foldl (fun t l =>
      Tab.upd .zero l (fun y => y.begin (if bad.isSome then [] else startThreads g l m it md)) t) y.lan })
  let s := s.updGalx g (fun y => { y with
    streams := [], mac := none, upd := none, cnt := GalCnt.zero, phys := y.phys.map (fun c => (c.1, { c.2.rehold with stale := false })) })
  match bad with
  | some st => taskBoundary (endTask s g st) g
  | none => if itemKind it.bytes = 2 then updStart s g (fld it.bytes 0x18 8) else s

/-- A free gallery takes its next item, where there is one. -/
def takeItem (s : State) (g : Nat) : State :=
  if galFree s g then
    match nextItem s g with
    | none => s
    | some it => startTask (s.updHall (hallOf g) (fun y => { y with pend := y.pend.erase it })) g it
  else s

/-- GALLERY_TAKE_ITEM (R19, R28, R38). -/
def execGalleryTakeItem (g : Gal) (s : State) : Result := .next (awaited s (fun s => takeItem s g.val))

/-- BATCH_WINDOW_EXPIRY (R28 rule 4): the window of a key set is over, and the waiting Cipher galleries recheck. -/
def batchExpiry (s : State) (h p fp : Nat) : State :=
  if (s.hallAt h).pend.any (fun it => it.sess.modeCode == 2 && it.keyset == (p, fp) && windowOver s it) then
    (List.range 16).foldl (fun s k => if (s.galAt (16 * h + k)).mode = .cipher then takeItem s (16 * h + k) else s) s
  else s

def execBatchWindowExpiry (h : Hall) (p : Part) (fp : Nat) (s : State) : Result := .next (batchExpiry s h.val p.val fp)

/-! ## Signal and barrier items (R501) -/

/-- The message of a signal or barrier item (R474, R481, R482): a barrier item names no partition, its session's is taken (log 27). -/
def itemMsg (s : State) (it : Item) : Msg :=
  let b := it.bytes
  let sig := itemKind b = 3
  { mtype := if sig then 9 else 0x0A, hops := 0, dstDev := BitVec.ofNat 16 (fld b 0x18 2), srcDev := BitVec.ofNat 16 (s.obj 0xA000 1),
    srcGal := 0xFF, mflags := 0, tag := 0, status := 0, srcPart := BitVec.ofNat 8 it.sess.part,
    dstPart := BitVec.ofNat 8 (if sig then fld b 0x1A 1 else it.sess.part), length := BitVec.ofNat 16 (if sig then 0 else fld b 0x20 2),
    addr := 0, arg := w64 ((if sig then fld b 0x1B 1 else fld b 0x1A 1) + 2 ^ 32 * fld b 0x1C 4), pmap := 0, data := [] }

/-- Does the message of the item wait to leave? -/
def leaving (s : State) (note : Nat × Nat × Nat) : Bool := s.net.fl.any (fun c => c.2.waiting.any (fun t => t.note == some note))

/-- The dispatcher sends a signal or barrier item once every earlier item of its ring has completed (R501). -/
def sendItem (s : State) (h r idx kind : Nat) : State :=
  match (s.hallAt h).ctl.find? (fun it => it.ring == r && it.idx == idx) with
  | none => s
  | some it =>
    if itemKind it.bytes ≠ kind ∨ (s.ringAt r).items.head? ≠ some idx ∨ hallRuns s h = false ∨ leaving s (h, r, idx) then s
    else
      let m := itemMsg s it
      let done (s : State) (st : Nat) : State := completeItem (s.updHall h (fun y => { y with ctl := y.ctl.erase it })) it st 0xFF 0
      if s.devId = some m.dstDev.toNat then done (if kind = 3 then signalIn s none m else arriveIn s none m) St.ok
      else
        let x := sendMsg s m (some (h, r, idx))
        if x.2 then x.1 else done x.1 St.fltUnreachable

/-- SIGNAL_ITEM. -/
def execSignalItem (h : Hall) (r : RingNo) (idx : Nat) (s : State) : Result := .next (sendItem s h.val r.val idx 3)

/-- BARRIER_ARRIVE_ITEM. -/
def execBarrierArriveItem (h : Hall) (r : RingNo) (idx : Nat) (s : State) : Result := .next (sendItem s h.val r.val idx 4)

end Sys2Proof.Machine
end

