-- ==== Sys2Proof/Machine/Modules.lean ====
section
/-! DEFINITION. Loading and unloading Utier modules (04 R97 to R103, 03 R92, 18 R509). -/

namespace Sys2Proof.Machine
open Sys2Proof

/-! ## The container (R97, R100) -/

/-- Every layout rule of R97 but the magic, the version and the sizes that have statuses of their own, and the container's length. -/
def containerLayout (v : Bytes) : Bool :=
  let c := fld v 8 4
  let n := fld v 0xC 4
  let e := fld v 0x10 4
  let m := 8 * fld v 0x14 2
  decide (64 ≤ c ∧ c % 64 = 0 ∧ 4 ≤ n ∧ n % 4 = 0 ∧ 64 ≤ e ∧ e % 8 = 0 ∧ (c + n ≤ e ∨ e + m ≤ c) ∧ c + n ≤ v.length ∧ e + m ≤ v.length) &&
    (List.range (fld v 0x14 2)).all (fun k => decide (fld v (e + 8 * k) 4 < n ∧ fld v (e + 8 * k) 4 % 4 = 0))

/-- The first check of R100 that a container fails. DESIGN CHOICE (log 101): fields of the header that a short container does not hold read as 0. -/
def containerBad (v : Bytes) : Option Nat :=
  if slice v 0 4 ≠ [0x55, 0x54, 0x49, 0x52] then some St.utierModule
  else if fld v 4 2 ≠ 1 then some St.utierVersion
  else if 4194304 < fld v 0xC 4 ∨ fld v 0x14 2 = 0 ∨ 64 < fld v 0x14 2 then some St.utierTooLarge
  else if containerLayout v = false then some St.utierModule else none

/-- Has a partition room for one more module (R100)? -/
def hasRoom (s : State) (part : Nat) (v : Bytes) : Bool :=
  let mine := s.dram.modules.filter (fun m => m.part == part)
  decide (mine.length < 256 ∧ (mine.map (fun m => Config.nativeSize m.container)).sum + Config.nativeSize v ≤ 67108864)

/-- SHA-256 of a module's native code (R102). -/
def nativeOf (v : Bytes) : Bytes := fitBytes 32 (Config.nativeHash v)

/-! ## Requests (R99) -/

/-- The output payload: status, handle, hash, and the tag under a key (empty: zeros). -/
def moduleOut (key : Bytes) (st handle : Nat) (hash : Bytes) : Bytes :=
  let b := natLe 2 st ++ [0, 0] ++ natLe 4 handle ++ fitBytes 32 hash
  b ++ (if key.isEmpty then List.replicate 16 0 else tag16 key b)

/-- The answer to a request of a session, kept for a repeat of it. -/
def moduleReply (s : State) (sid seq : Nat) (st handle : Nat) (hash : Bytes) : State :=
  let key := ((Tab.get none sid s.hal.sess).map (·.d2c)).getD []
  let out := moduleOut key st handle hash
  let keep (y : HSess) : HSess := if y.seq = seq then { y with kept := out } else y
  ({ s with hal := { s.hal with sess := Tab.upd none sid (fun o => o.map keep) s.hal.sess } }).emit (.mailbox 0 out)

/-- Checks 1 to 3 of R99: the session, its tag, the number. `handle`: that which an unload names. -/
def moduleRequest (s : State) (v : Bytes) (handle : Nat) (k : State → HSess → State) : State :=
  if mailboxOn s = false then s
  else if s.dram.translating.isSome then s.emit (.mailbox mbxBusy [])
  else if v.length ≠ 48 then s.emit (.mailbox mbxLength [])
  else
    let q : Req := { port := .mailbox, sess := fld v 0 4 }
    match liveSess s q with
    | none => s.emit (.mailbox 0 (moduleOut [] St.sessionGone handle []))
    | some y =>
      if slice v 0x20 16 ≠ tag16 y.c2d (v.take 0x20) then s.emit (.mailbox 0 (moduleOut [] St.sessionAuth handle []))
      else if fld v 8 8 < y.seq then s.emit (.mailbox mbxInvalid [])
      else if fld v 8 8 = y.seq then (if y.kept.isEmpty then s.emit (.mailbox mbxInvalid []) else s.emit (.mailbox 0 y.kept))
      else
        let y := { y with seq := fld v 8 8, last := s.clock.now, kept := [] }
        k { s with hal := { s.hal with sess := Tab.put none q.sess (some y) s.hal.sess } } y

/-- Who a session speaks for. -/
def HSess.who (y : HSess) (sid : Nat) : Who := { role := y.role, mask := y.mask, cred := y.cred, sess := sid }

/-- Check 5: a partition above 63, a role that does not allow it. DESIGN CHOICE (log 102): the lock of R511 comes after them and before check 6. -/
def moduleRole (s : State) (w : Who) (part : Nat) : Option Nat :=
  if 63 < part ∨ roleAllows w 0x6000 false (some part) = false then some St.objAccess
  else if tspLocked s w (some part) then some St.cxlTspLocked else none

/-- Does an address space belong to another partition, or to none that there is (check 6)? -/
def asidForeign (s : State) (asid part : Nat) : Bool :=
  decide (4095 < asid) || (match Tab.get none asid s.dram.spaces with
    | some sp => sp.owner != part
    | none => false)

/-- Checks 4 to 9 of a load, up to the container that is to be translated: the status and handle of an answer at once, or the container. -/
def loadCheck (s : State) (w : Who) (v : Bytes) : Except (Nat × Nat × Bytes) Bytes :=
  let part := fld v 4 1
  let asid := fld v 6 2
  let no (st : Nat) : Except (Nat × Nat × Bytes) Bytes := .error (st, 0, [])
  if fld v 5 1 ≠ 0 ∨ fld v 0x1C 4 ≠ 0 ∨ fld v 0x10 8 % 64 ≠ 0 then no St.utierModule
  else
    match moduleRole s w part with
    | some st => no st
    | none =>
      if asidForeign s asid part then no St.mapOwner
      else
        match vread s asid (fld v 0x10 8) (fld v 0x18 4) with
        | none => no St.utierModule
        | some (c, poison) =>
          if poison then no St.utierModule
          else
            match containerBad c with
            | some st => no st
            | none =>
              match s.dram.modules.find? (fun m => m.part == part && m.container == c) with
              | some m => .error (St.ok, m.handle, nativeOf c)
              | none => if hasRoom s part c = false then no St.utierNoRoom else if s.journalFull then no St.journalBusy else .ok c

/-- A full journal counts what it refuses (0x8000:04). -/
def countBusy (s : State) (st : Nat) : State := if st = St.journalBusy then { s with hal := { s.hal with jbusy := s.hal.jbusy + 1 } } else s

/-- MODULE_LOAD (R99 to R101): a new container is translated in the background; the answer waits. -/
def moduleLoad (s : State) (v : Bytes) : State :=
  moduleRequest s v 0 (fun s y =>
    let sid := fld v 0 4
    match loadCheck s (y.who sid) v with
    | .error (st, h, hash) => moduleReply (countBusy s st) sid y.seq st h hash
    | .ok c =>
      let s := vsnoop s (fld v 6 2) (fld v 0x10 8) (fld v 0x18 4) false
      let m : Module := { handle := s.dram.nextHandle, part := fld v 4 1, container := c, base := s.dram.nextBase }
      let t : Translation := { mod := m, sess := sid, seq := y.seq, at_ := s.clock.now }
      { s with dram := { s.dram with
          translating := some t, nextHandle := (s.dram.nextHandle + 1) % 2 ^ 32, nextBase := s.dram.nextBase + ceilDiv c.length 256 * 256 } })

def execModuleLoad (payload : Bytes) (s : State) : Result := .next (awaited s (fun s => moduleLoad s payload))

/-- The journal entry of a load or an unload (R102). -/
def moduleEntry (s : State) (sid kind part handle : Nat) (old new : Bytes) : JChange :=
  { laterEntry s { port := .mailbox, sess := sid } 3 kind 0 0 (some part) old new with aux := handle, hashes := if kind = 5 then 3 else 0 }

/-- The partition whose code a gallery's instruction caches hold: of the task that runs, else of the last one (R92). -/
def codePart (s : State) (g : Nat) : Option Nat :=
  match (s.galAt g).task with
  | some t => some t.item.sess.part
  | none => (s.galAt g).last.map (·.1)

/-- Instruction caches drop what they hold of a partition whose translations change (R92). -/
def dropPartCode (s : State) (part : Nat) : State :=
  (List.range 64).foldl (fun s g => if codePart s g = some part then dropCode s g else s) s

/-- MODULE_TRANSLATION_DONE (R101, R102): the module can be named; the load is journalled and answered. The partition's code changes, so
the caches drop it (R92). -/
def translationDone (s : State) : State :=
  match s.dram.translating with
  | none => s
  | some t =>
    let s := { s with dram := { s.dram with translating := none, modules := s.dram.modules ++ [t.mod] } }
    let s := dropPartCode s t.mod.part
    let h := nativeOf t.mod.container
    let s := journal s (moduleEntry s t.sess 5 t.mod.part t.mod.handle h (Crypto.sha256 t.mod.container))
    moduleReply s t.sess t.seq St.ok t.mod.handle h

def execModuleTranslationDone (s : State) : Result := .next (if fwRuns s then translationDone s else s)

/-- Does a pending or running task use a module (R100)? -/
def moduleInUse (s : State) (m : Module) : Bool :=
  (inFlight s).any (fun c => itemKind c.2.bytes == 1 && c.2.sess.part == m.part && fld c.2.bytes 0x18 4 == m.handle)

/-- The checks of an unload: fields, role, handle, use, journal. -/
def unloadCheck (s : State) (w : Who) (v : Bytes) : Except Nat Module :=
  let part := fld v 4 1
  if fld v 5 1 ≠ 0 ∨ fld v 6 2 ≠ 0 ∨ fld v 0x14 4 ≠ 0 ∨ fld v 0x18 4 ≠ 0 ∨ fld v 0x1C 4 ≠ 0 then .error St.utierModule
  else
    match moduleRole s w part with
    | some st => .error st
    | none =>
      match s.dram.modules.find? (fun m => m.handle == fld v 0x10 4 && m.part == part) with
      | none => .error St.utierNoModule
      | some m => if moduleInUse s m then .error St.utierBusy else if s.journalFull then .error St.journalBusy else .ok m

/-- MODULE_UNLOAD. -/
def moduleUnload (s : State) (v : Bytes) : State :=
  moduleRequest s v (fld v 0x10 4) (fun s y =>
    let sid := fld v 0 4
    let h := fld v 0x10 4
    match unloadCheck s (y.who sid) v with
    | .error st => moduleReply (countBusy s st) sid y.seq st h []
    | .ok m =>
      let s := dropPartCode { s with dram := { s.dram with modules := s.dram.modules.erase m } } m.part
      moduleReply (journal s (moduleEntry s sid 6 m.part h [] [])) sid y.seq St.ok h [])

def execModuleUnload (payload : Bytes) (s : State) : Result := .next (moduleUnload s payload)

end Sys2Proof.Machine
end

