-- ==== Sys2Proof/Machine/Bar.lean ====
section
/-! DEFINITION. The registers of BAR0 (00 R10, 18 R489): what each reads, and the writes without a row of their own. -/

namespace Sys2Proof.Machine
open Sys2Proof

/-- DEDUCED (log 42). `DEV_PKE_DONE` and `DEV_PKE_QUEUE` follow `DEV_PKE_SUBMIT_HI`. -/
def pkeQueueOff : Nat := 0x4010C

/-! ## Reading (R10) -/

/-- `DEV_LAMP_STATUS` (R547). -/
def lampWord (s : State) : W32 :=
  w32 (s.lamp.st % 4 + (if s.lamp.locked then 4 else 0) + (if s.lamp.calDefault then 8 else 0) + 256 * (s.lamp.wdTrips % 256) + 65536 * (s.lamp.fwVersion % 65536))

/-- `DEV_PKE_QUEUE` (R554). -/
def pkeQueueWord (s : State) : W32 := w32 (pkeHeld s % 32 + 256 * s.lamp.nextSeq.toNat + (if s.lamp.overrun then 65536 else 0))

/-- Word k of the on-die ring's entry that `DEV_FAULT_IDX` names (R605); of an entry never used 0. -/
def faultWord (s : State) (k : Nat) : W32 :=
  match Tab.get none s.fault.idx.toNat s.fault.die with
  | some o => w32 (fld o.r.bytes (4 * k) 4)
  | none => 0

/-- A `DEV_` register by its offset in the page of R489; write-only registers and reserved offsets read 0. -/
def devWord (s : State) (off : Nat) : W32 :=
  match off with
  | 0x000 => w32 s.clock.now
  | 0x004 => s.clock.hiLatch
  | 0x008 => lampWord s
  | 0x108 => pkeDoneWord s
  | 0x10C => pkeQueueWord s
  | 0x200 => w32 s.fault.newest
  | 0x204 => s.fault.seqHi
  | 0x208 => w32 s.fault.ack
  | 0x210 => s.fault.idx.setWidth 32
  | _ => if 0x240 ≤ off ∧ off < 0x280 ∧ off % 4 = 0 then faultWord s ((off - 0x240) / 4) else 0

/-- Word k of the pending-bit array (R489). -/
def pendWord (s : State) (k : Nat) : W32 :=
  w32 ((List.range 32).foldl (fun a i => if Tab.get false (32 * k + i) s.cxl.msixPend then a + 2 ^ i else a) 0)

/-- What the model holds of the port that its registers show: stages, decoders, keys (log 86). -/
def portFacts (s : State) : List Nat :=
  let bit (b : Bool) : Nat := if b then 1 else 0
  [bit s.cxl.up, bit s.cxl.cxl, bit (decide (s.boot.stage = .ready)), bit (decide (s.boot.stage = .held)), s.cxl.dec0.base, s.cxl.dec0.size, bit s.cxl.dec0.committed,
   s.cxl.dec1.base, s.cxl.dec1.size, bit s.cxl.dec1.committed, bit s.cxl.ideIo, bit s.cxl.ideMem.isSome]

/-- What the aligned 32-bit word of BAR0 at an offset reads (R10, R489). Doorbells are write-only. -/
def barValue (s : State) (off : Nat) : W32 :=
  if off % 4 ≠ 0 then 0
  else if off < 0x11000 then Config.cxlRead off (portFacts s) (Tab.get none (off / 4) s.cxl.regs)
  else if 0x30000 ≤ off ∧ off < 0x38000 then s.msixWord ((off - 0x30000) / 4)
  else if 0x38000 ≤ off ∧ off < 0x38100 then pendWord s ((off - 0x38000) / 4)
  else if 0x40000 ≤ off ∧ off < 0x41000 then devWord s (off - 0x40000)
  else 0

/-! ## Writing (R10) -/

/-- `DEV_FAULT_ACK`: bits [63:32] are those of the newest `seq`; a value that is refused is ignored (R603, R605). -/
def barAck (s : State) (v : W32) : State := (ackTo s (s.fault.newest / 2 ^ 32 * 2 ^ 32 + v.toNat)).getD s

/-- A word of the MSI-X table is written: of a vector's control the mask alone. A vector that is unmasked while it is pending is sent (log 85). -/
def msixWrite (s : State) (k : Nat) (v : W32) : State :=
  let s := { s with cxl := { s.cxl with msixTab := Tab.put none k (some (if k % 4 = 3 then v &&& 1 else v)) s.cxl.msixTab } }
  if Tab.get false (k / 4) s.cxl.msixPend && !s.msixMasked (k / 4) then
    ({ s with cxl := { s.cxl with msixPend := Tab.put false (k / 4) false s.cxl.msixPend } }).emit (.msix (k / 4))
  else s

/-- REGISTER_WRITE: by access code. Read-only registers and reserved offsets ignore it. -/
def registerWrite (s : State) (off : Nat) (v : W32) : State :=
  if off % 4 ≠ 0 then s
  else if off < 0x11000 then
    { s with cxl := { s.cxl with regs := Tab.put none (off / 4) (some (Config.cxlWrite off (Tab.get none (off / 4) s.cxl.regs) v)) s.cxl.regs } }
  else if 0x30000 ≤ off ∧ off < 0x38000 then msixWrite s ((off - 0x30000) / 4) v
  else if off = 0x40100 then { s with lamp := { s.lamp with submitLo := v } }
  else if off = pkeQueueOff then { s with lamp := { s.lamp with overrun := s.lamp.overrun && !v.getLsbD 16 } }
  else if off = 0x40208 then barAck s v
  else if off = 0x40210 then { s with fault := { s.fault with idx := v.setWidth 6 } }
  else s

def execRegisterWrite (off : Nat) (v : BitVec 32) (s : State) : Result := .next (if barReads s then registerWrite s off v else s)

end Sys2Proof.Machine
end

