-- ==== Sys2Proof/Machine/FlightRx.lean ====
section
/-! DEFINITION. What a received tread completes (17 R459, R473, R474): the message goes to the unit that its type names. -/

namespace Sys2Proof.Machine
open Sys2Proof

/-- A whole message for this device (R474), with the slots that it holds until it is taken (R61, R464). -/
def deliver (s : State) (f : Nat) (b : Bytes) (held : List (Nat × Bool)) : State :=
  let m := parseMsg b
  let m := { m with data := m.data.take (msgData m.mtype.toNat m.length.toNat) }
  landMsg s (some f) held m

/-- What forward error correction found while a tread came in is counted (R457, R486). -/
def countFec (s : State) (f corrected bad : Nat) : State :=
  s.updFlight f (fun y => { y with ctr := Tab.upd 0 1 (· + bad) (Tab.upd 0 0 (· + corrected) y.ctr) })

/-- TREAD_RECEIVE (R459): an acknowledgement, a nack, or data in sequence; with the symbols that FEC corrected and the codewords that it could not correct (R457). In the held state
nothing takes a message (R601). -/
def treadReceive (s : State) (f : Nat) (v : RxTread) : State :=
  let r := treadIn (if s.boot.stage = .off then s else countFec s f v.corrected v.bad) f v.bytes
  match r.msg with
  | none => r.s
  | some b => if s.boot.stage = .held then r.s else settle (deliver r.s f b r.held)

def execTreadReceive (f : Flight) (v : RxTread) (s : State) : Result := .next (treadReceive s f.val v)

end Sys2Proof.Machine
end

