-- ==== Sys2Proof/Machine/Layout.lean ====
section
/-! DEFINITION. The layout-and-move engine (13 R365 to R380). -/

namespace Sys2Proof.Machine
open Sys2Proof

/-- Fields that an operation uses (R365, R366): source, index and `gdim`, `perm`, `galois`, modulus fields; none for a reserved code. -/
structure LInfo where
  src : Bool
  idx : Bool
  perm : Bool
  gal : Bool
  mods : Bool
  deriving DecidableEq, Repr

def lmInfo (op : Nat) : Option LInfo :=
  match op with
  | 1 => some { src := true, idx := false, perm := true, gal := false, mods := false }
  | 2 => some { src := false, idx := false, perm := false, gal := false, mods := false }
  | 3 => some { src := true, idx := true, perm := false, gal := false, mods := false }
  | 4 => some { src := true, idx := true, perm := false, gal := false, mods := false }
  | 5 => some { src := true, idx := true, perm := false, gal := false, mods := false }
  | 6 => some { src := true, idx := false, perm := false, gal := true, mods := false }
  | 7 => some { src := true, idx := false, perm := false, gal := true, mods := true }
  | _ => none

/-- A checked layout descriptor. -/
structure LCtx where
  op : Nat
  dst : Tensor
  src : Tensor
  idx : Tensor
  gdim : Nat
  perm : List Nat
  galois : Nat
  mdim : Nat
  mods : List Nat
  same : Bool
  deriving DecidableEq, Repr

/-- Check 1 of R377: reserved or unused fields. -/
def lmBadOp (d : Bytes) (i : LInfo) : Bool :=
  let lf := fld d 0x20 1
  headerBad d || nbit (fld d 3 1) 0 || !zeros d 0x29 23 || nbit lf 2 || 16 ≤ lf || 8 ≤ fld d 0x21 1 || nbit (fld d 0x22 2) 15 ||
    (!i.src && (fld d 0x14 4 != 0 || nbit lf 0)) || (!i.idx && (fld d 0x18 4 != 0 || nbit lf 1 || fld d 0x21 1 != 0)) ||
    (!i.perm && fld d 0x22 2 != 0) || (!i.gal && fld d 0x24 4 != 0) || (!i.mods && (fld d 0x1C 4 != 0 || fld d 0x28 1 != 0))

/-- Check 2 of R377: the operand of a wrong type, by field offset. -/
def lmBadType (op : Nat) (dt st it : Option Tensor) : Option Nat :=
  let ty (t : Option Tensor) : Option (Nat × Bool) := t.map (·.ty)
  let bad (t : Option Tensor) (p : Nat × Bool → Bool) : Bool := match ty t with
    | none => false
    | some x => p x
  if bad it (fun x => x != (16, false)) then some 0x18
  else if st.isSome && dt.isSome && ty st != ty dt then some 0x14
  else if op = 5 ∧ bad dt (fun x => !([(1, false), (16, false), (17, false)].contains x)) then some 0x10
  else if 6 ≤ op ∧ bad dt (fun x => x != (17, false)) then some 0x10
  else if op = 5 ∧ bad st (fun x => !([(1, false), (16, false), (17, false)].contains x)) then some 0x14
  else if 6 ≤ op ∧ bad st (fun x => x != (17, false)) then some 0x14 else none

/-- The shape rules of R367 to R370 and R372: the failing operand's field offset, 0 for none. -/
def lmBadShape (op : Nat) (dt st it : Tensor) (gdim : Nat) (perm : List Nat) (galois mdim : Nat) : Option Nat :=
  if op = 1 then
    let n := st.ndim
    let okPerm := (List.range n).all (fun k => ((perm.take n).filter (· == k)).length == 1) &&
      (List.range 5).all (fun k => decide (k < n) || perm.getD k 0 == k)
    if !okPerm then some 0
    else if (List.range 5).any (fun k => st.extD (perm.getD k 0) != dt.extD k) || (dt.bits < 8 && perm.getD 0 0 != 0) then some 0x10 else none
  else if 3 ≤ op ∧ op ≤ 5 then
    let tab := if op = 3 then st else dt
    let other := if op = 3 then dt else st
    if tab.ndim ≤ gdim then some 0
    else if it.ext ≠ other.ext then some 0x18
    else if (List.range 5).any (fun k => k != gdim && tab.extD k != other.extD k) then some (if op = 3 then 0x14 else 0x10)
    else if op = 5 ∧ dt.space = 2 then some 0x10 else none
  else if 6 ≤ op then
    let n := dt.extD 0
    if n < 2 ∨ 65536 < n ∨ 2 ^ Nat.log2 n ≠ n ∨ st.ext ≠ dt.ext ∨ dt.orgD 0 ≠ 0 ∨ dt.limD 0 ≠ n then some 0x10
    else if st.orgD 0 ≠ 0 ∨ st.limD 0 ≠ n then some 0x14
    else if galois % 2 = 0 ∨ 2 * n ≤ galois then some 0
    else if op = 7 ∧ mdim = 0 then some 0 else none
  else none

/-- The overlaps of R376: order number and failing operand, and whether source and destination coincide. -/
def lmOverlap (op : Nat) (dt st it : Tensor) : Except (Nat × Nat × Nat) Bool :=
  let ov := Tensor.overlap dt st
  if op = 2 then .ok false
  else if 3 ≤ op ∧ op ≤ 5 then
    if ov ≠ 0 then .error (St.overlap, 4, 0x14)
    else if Tensor.overlap dt it ≠ 0 ∨ Tensor.overlap st it ≠ 0 then .error (St.overlap, 4, 0x18) else .ok false
  else if ov = 2 then .error (St.overlap, 4, 0x14)
  else if ov = 1 then
    match dt.footprint with
    | some (lo, hi) => if 65536 < hi - lo then .error (St.inplaceSize, 5, 0x14) else .ok true
    | none => .ok true
  else .ok false

/-- The checks of R377, in order: status, order number, detail word 1. -/
def lmCheck (s : State) (g l : Nat) (d : Bytes) : Except (Nat × Nat × Nat) LCtx :=
  let op := fld d 1 1
  match lmInfo op with
  | none => .error (St.lmOp, 1, 0)
  | some i =>
    let opt (b : Bool) (o : Nat) : Option Tensor := if b then tensorAt s g l (fld d o 4) else none
    let gdim := fld d 0x21 1
    let tab (b : Bool) (t : Option Tensor) : Option Tensor := if b then t.map (fun t => t.table gdim) else t
    let dt? := tab (op == 4 || op == 5) (tensorAt s g l (fld d 0x10 4))
    let st? := tab (op == 3) (opt i.src 0x14)
    let it? := opt i.idx 0x18
    let perm := (List.range 5).map (fun k => nbits (fld d 0x22 2) (3 * k + 2) (3 * k))
    let galois := fld d 0x24 4
    let mdim := fld d 0x28 1
    let word (o : Nat) : Nat := if o = 0 then 0 else fld d o 4
    if lmBadOp d i then .error (St.lmOp, 1, 0)
    else
      match lmBadType op dt? st? it? with
      | some o => .error (St.lmType, 2, word o)
      | none =>
        let bad (t : Option Tensor) : Bool := match t with
          | none => true
          | some t => !Tensor.good s g t
        if bad dt? then .error (St.lmShape, 3, word 0x10)
        else if i.src && bad st? then .error (St.lmShape, 3, word 0x14)
        else if i.idx && bad it? then .error (St.lmShape, 3, word 0x18)
        else
          let dt := dt?.getD (parseTensor 0 [])
          let st := st?.getD dt
          let it := it?.getD dt
          match lmBadShape op dt st it gdim perm galois mdim with
          | some o => .error (St.lmShape, 3, word o)
          | none =>
            match lmOverlap op dt st it with
            | .error e => .error (e.1, e.2.1, word e.2.2)
            | .ok same =>
              if Tensor.touchesSeal s g dt then .error (St.shareSealed, 6, word 0x10)
              else if i.src && Tensor.touchesSeal s g st then .error (St.shareSealed, 6, word 0x14)
              else if i.idx && Tensor.touchesSeal s g it then .error (St.shareSealed, 6, word 0x18)
              else
                let tab : Except Nat (List (Nat × Nat)) :=
                  if op ≠ 7 then .ok []
                  else if 4 < mdim ∧ mdim ≠ 7 then .error (7 * 65536)
                  else modTable s g l (fld d 0x1C 4) (if mdim = 7 then 1 else dt.extD mdim) true
                match tab with
                | .error w => .error (St.modModulus, 7, w)
                | .ok ms =>
                  .ok { op := op, dst := dt, src := st, idx := it, gdim := gdim, perm := perm, galois := galois, mdim := mdim,
                        mods := ms.map (·.1), same := same }

/-! ## Moving elements -/

/-- A write: destination view index, value, poison, position. -/
structure LPut where
  i : List Nat
  v : Nat
  poi : Bool
  pos : Nat
  deriving DecidableEq, Repr

/-- Storage index of a table element for an index value (R368): idx + org along `gdim`. -/
def tableJ (t : Tensor) (i : List Nat) (gdim : Nat) (x : Int) : List Int :=
  (t.toJ i).set gdim (x + t.orgD gdim)

/-- Index tensor element at a position: none where it lies out of bounds in `idx` (R368, R369). -/
def lmIndex (p : Port1) (t : Tensor) (i : List Nat) : Port1 × Option (Int × Bool) :=
  if t.inb (t.toJ i) then
    let (p, v, b) := p.get t i
    (p, some (sgn32 v, b))
  else (p, none)

/-- One position of `copy`, `fill`, `gather` or a Galois operation, in the iteration order of the destination (R354): what it writes. `galois.coef` (R372) finds the source
of destination index j as j times the inverse of g modulo 2N, which is g to the power N - 1. -/
def lmValue (p : Port1) (c : LCtx) (n : Nat) : Port1 × Option LPut :=
  let p := { p with pos := n }
  let put (i : List Nat) (r : Port1 × Nat × Bool) : Port1 × Option LPut := (r.1, some { i := i, v := r.2.1, poi := r.2.2, pos := n })
  let N := c.dst.extD 0
  match c.op with
  | 1 =>
    let i := viewAt c.dst.ext n
    let k := (List.range 5).map (fun e => ((List.range 5).find? (fun d => c.perm.getD d 0 == e)).elim 0 (fun d => i.getD d 0))
    put i (p.get c.src k)
  | 2 =>
    let i := viewAt c.dst.ext n
    if c.dst.inb (c.dst.toJ i) then (p, some { i := i, v := c.dst.fill, poi := false, pos := n }) else (p, none)
  | 3 =>
    let i := viewAt c.dst.ext n
    match lmIndex p c.idx i with
    | (p, none) => put i (p.oob c.idx false, c.src.fill, false)
    | (p, some (x, bad)) =>
      if bad then put i (p, c.src.fill, true)
      else if x < 0 then put i (p.oob c.src false, c.src.fill, false)
      else put i (p.getJ c.src (tableJ c.src i c.gdim x))
  | 6 =>
    let i := viewAt c.dst.ext n
    put i (p.get c.src (i.set 0 ((c.galois * (2 * i.getD 0 0 + 1) % (2 * N) - 1) / 2)))
  | _ =>
    let i := viewAt c.dst.ext n
    let u := i.getD 0 0 * Crypto.powMod c.galois (N - 1) (2 * N) % (2 * N)
    let (p, v, b) := p.get c.src (i.set 0 (u % N))
    let q := c.mods.getD (if c.mdim = 7 then 0 else i.getD c.mdim 0) 1
    put i (p, (if u < N then v else (q - v % q) % q), b)

/-- Write what a position gives. -/
def lmPut (p : Port1) (c : LCtx) (w : Option LPut) : Port1 :=
  match w with
  | none => p
  | some x => ({ p with pos := x.pos } : Port1).put c.dst x.i x.v x.poi

/-- `copy`, `fill`, `gather` and the Galois operations: in place, the whole source first (R376). -/
def lmMove (p : Port1) (c : LCtx) : Port1 :=
  let ns := List.range c.dst.total
  if c.same then
    let (p, ws) := ns.foldl (fun (acc : Port1 × List (Option LPut)) n =>
      let (p, w) := lmValue acc.1 c n
      (p, acc.2 ++ [w])) (p, [])
    ws.foldl (fun p w => lmPut p c w) p
  else
    ns.foldl (fun p n =>
      let (p, w) := lmValue p c n
      lmPut p c w) p

/-- An addition of `scatter.add` (R370). -/
def lmAdd (etype a b : Nat) : Nat := if etype = 1 then (F32.add (w32 a) (w32 b)).toNat else (a + b) % 2 ^ 32

/-- `scatter` and `scatter.add`: positions applied in ascending order (R369, R370); the count of poisoned indices. -/
def lmScatter (p : Port1) (c : LCtx) : Port1 × Nat :=
  (List.range c.src.total).foldl (fun (acc : Port1 × Nat) n =>
    let (p, poi) := acc
    let p := { p with pos := n }
    let i := viewAt c.src.ext n
    match lmIndex p c.idx i with
    | (p, none) => (p.oob c.idx true, poi)
    | (p, some (x, bad)) =>
      if bad then ({ p with ev := if poi = 0 then p.ev ++ [.poison n] else p.ev }, poi + 1)
      else
        let j := tableJ c.dst i c.gdim x
        if x < 0 || !c.dst.inb j then (p.oob c.dst true, poi)
        else
          let (p, v, b) := p.get c.src i
          if c.op = 5 then
            let (p, o, ob) := p.getJ c.dst j
            (p.putJ c.dst j (lmAdd c.dst.etype o v) (b || ob), poi)
          else (p.putJ c.dst j v b, poi)) (p, 0)

/-! ## Starting -/

def lmBump (g l : Nat) (s : State) : State := s.updLan g l (fun y => { y with cb := { y.cb with lmRec := y.cb.lmRec + 1 } })

/-- A record of the layout engine, within its limit (R378). -/
def lmRecord (s : State) (g l st cls d0 d1 : Nat) : State :=
  limited s (s.lanAt g l).cb.lmRec (lmBump g l) (Rep.ofLan st cls false 5 g l d0 d1)

/-- A skip (R377, R378). -/
def lmSkip (s : State) (g l : Nat) (d : Bytes) (e : Nat × Nat × Nat) : State :=
  let s := s.updLan g l (fun y => { y with cb := { y.cb with lmSkips := add16 y.cb.lmSkips 1 } })
  flagDone (lmRecord s g l e.1 1 (fld d 1 1 + 256 * e.2.1) e.2.2) g l (descFlag d)

/-- The record of an event (R361, R364, R369). -/
def lmEvent (g l op : Nat) (s : State) (e : PortEvent) : State :=
  match e with
  | .oob n => lmRecord s g l St.oobCounted 0 (op + 768) (n % 2 ^ 32)
  | .fault va wr => lmRecord s g l St.xlate 1 (faultWords va wr).1 (faultWords va wr).2
  | .poison n => lmRecord s g l St.poison 1 (op + 768) (n % 2 ^ 32)

/-- Operands awaited full and taken: not the table of a gather (R373). -/
def LCtx.ins (c : LCtx) (d : Bytes) (take : Bool) : List Tensor :=
  let lf := fld d 0x20 1
  (if c.op ≠ 2 ∧ c.op ≠ 3 ∧ (!take || nbit lf 0) then [c.src] else []) ++ (if 3 ≤ c.op ∧ c.op ≤ 5 ∧ (!take || nbit lf 1) then [c.idx] else [])

/-- The destination, where it obeys the tag rules: not the table of a scatter (R373). -/
def LCtx.outs (c : LCtx) : List Tensor := if c.op = 4 ∨ c.op = 5 then [] else [c.dst]

/-- Run a checked, ready descriptor. -/
def lmExecute (s : State) (g l : Nat) (c : LCtx) (d : Bytes) : State :=
  let slots (ts : List Tensor) : List Slot := ts.flatMap (Tensor.slots g l)
  let run := Run.of c.op (slots c.outs) (slots (c.ins d true)) [] (descFlag d)
  let s := setSlots s g l (slots c.outs) false
  let p := Port1.new s g l
  let (p, poi) := if c.op = 4 ∨ c.op = 5 then lmScatter p c else (lmMove p c, 0)
  let s := p.settle.updLan g l (fun y => { y with cb := { y.cb with
    lmOobR := add16 y.cb.lmOobR p.oobR, lmOobW := add16 y.cb.lmOobW p.oobW, lmXlate := add16 y.cb.lmXlate p.faults,
    lmPoi := add16 y.cb.lmPoi (p.dirtied + poi) } })
  let s := p.ev.foldl (lmEvent g l c.op) s
  s.updLan g l (fun y => { y with rl := some run })

/-- DRAM bursts of 256 bytes that the descriptor touches (R374, R439): of each operand in space 2, and of a table the elements that the indices name. -/
def lmBursts (s : State) (g l : Nat) (c : LCtx) : Nat :=
  let p := Port1.new s g l
  let all (t : Tensor) : List (List Int) := (List.range t.total).map (fun n => t.toJ (viewAt t.ext n))
  let named (t : Tensor) : List (List Int) := (List.range c.idx.total).filterMap (fun n =>
    let i := viewAt c.idx.ext n
    (lmIndex p c.idx i).2.map (fun x => tableJ t i c.gdim x.1))
  let bursts (t : Tensor) (js : List (List Int)) : Nat :=
    ((js.filter t.inb).foldl (fun (a : Tab Bool) j => Tab.put false (t.bitAddr j / 2048).toNat true a) []).length
  let cost (t : Tensor) (table : Bool) : Nat := if t.space ≠ 2 then 0 else bursts t (if table then named t else all t)
  cost c.dst (c.op == 4 || c.op == 5) + (if c.op = 2 then 0 else cost c.src (c.op == 3)) + (if 3 ≤ c.op ∧ c.op ≤ 5 then cost c.idx false else 0)

/-- Start the descriptor at the head of the layout queue, where it is one of the command's. -/
def lmStart (s : State) (g l : Nat) (test : Nat → Bool) : State :=
  match (s.lanAt g l).ql with
  | [] => s
  | d :: rest =>
    if !enginesRun s g || (s.lanAt g l).rl.isSome || !test (fld d 1 1) then s
    else
      let pop (s : State) : State := touch (headNow (s.updLan g l (fun y => { y with ql := rest })) g l 3) g
      match lmCheck s g l d with
      | .error e => lmSkip (pop s) g l d e
      | .ok c =>
        let slots (ts : List Tensor) : List Slot := ts.flatMap (Tensor.slots g l)
        if slotsFull s g l (slots (c.ins d false)) && (nbit (fld d 0x20 1) 3 || slotsEmpty s g l (slots c.outs)) then
          let x := askTokens s g (unitLayout l) (lmBursts s g l c)
          if x.2 then lmExecute (pop x.1) g l c d else x.1
        else s

/-- `copy` (R367). -/
def execLmCopy (g : Gal) (l : Lan) (s : State) : Result := .next (awaited s (fun s => lmStart s g.val l.val (fun op => op == 1 || (lmInfo op).isNone)))

/-- `fill` (R366). -/
def execFill (g : Gal) (l : Lan) (s : State) : Result := .next (awaited s (fun s => lmStart s g.val l.val (fun op => op == 2)))

/-- `gather` (R368). -/
def execGather (g : Gal) (l : Lan) (s : State) : Result := .next (awaited s (fun s => lmStart s g.val l.val (fun op => op == 3)))

/-- `scatter` (R369). -/
def execScatter (g : Gal) (l : Lan) (s : State) : Result := .next (awaited s (fun s => lmStart s g.val l.val (fun op => op == 4)))

/-- `scatter.add` (R370). -/
def execScatterAdd (g : Gal) (l : Lan) (s : State) : Result := .next (awaited s (fun s => lmStart s g.val l.val (fun op => op == 5)))

/-- `galois.eval` (R372). -/
def execGaloisEval (g : Gal) (l : Lan) (s : State) : Result := .next (awaited s (fun s => lmStart s g.val l.val (fun op => op == 6)))

/-- `galois.coef` (R372). -/
def execGaloisCoef (g : Gal) (l : Lan) (s : State) : Result := .next (awaited s (fun s => lmStart s g.val l.val (fun op => op == 7)))

end Sys2Proof.Machine
end

