-- ==== Sys2Proof/Machine/SfuMath.lean ====
section
/-! DEFINITION. The tables of the special-function unit (12 R321 to R324, R340): reduction, quadratic segments, the bounds and the monotonicity that the spec promises. -/

namespace Sys2Proof.Machine
open Sys2Proof

/-! ## Exact values, to 200 fraction bits -/

/-- Fraction bits with which exact values are known here: the bounds of R323 and R340 are taken around them. -/
def fracBits : Nat := 200

/-- z + z^3/3 + z^5/5 + ..., `n` terms from the k-th on, of which `t` is z^(2k+1). -/
def atanhFrom (num den : Nat) : Nat → Nat → Nat → Nat
  | 0, _, _ => 0
  | n + 1, k, t => t / (2 * k + 1) + atanhFrom num den n (k + 1) (t * num * num / (den * den))

/-- Twice the inverse hyperbolic tangent of a quotient of at most 1/3: the logarithm of (den + num) / (den - num). -/
def lnRatio (num den : Nat) : Nat := 2 * atanhFrom num den 64 0 (num * 2 ^ fracBits / den)

def ln2 : Nat := lnRatio 1 3

/-- 1 + r + r^2/2 + ..., `n` terms from the k-th on, of which `t` is r^k / k!. -/
def expFrom (r : Nat) : Nat → Nat → Nat → Nat
  | 0, _, _ => 0
  | n + 1, k, t => t + expFrom r n (k + 1) (t * r / 2 ^ fracBits / (k + 1))

/-- t_k - t_(k+2) + ...: the cosine (k = 0, t = 1) or the sine (k = 1, t = x) of x, whose square is `x2`. -/
def trigFrom (x2 : Nat) : Nat → Nat → Nat → Int
  | 0, _, _ => 0
  | n + 1, k, t => t - trigFrom x2 n (k + 2) (t * x2 / 2 ^ fracBits / ((k + 1) * (k + 2)))

/-- floor(2^480 / (2 pi)). -/
def invTwoPi : Nat :=
  0x28be60db9391054a7f09d5f47d4d377036d8a5664f10e4107f9458eaf7aef1586dc91b8e909374b801924bba827464873f877ac72c4a69cfba208d7d

/-- A value of so many fraction bits. -/
def fixVal (v : Int) (bits : Nat) : FVal := .fin (decide (v < 0)) v.natAbs (-(bits : Int))

/-! ## Bounds and order -/

/-- Limit an FP32 value to a range, a NaN to its lower end. -/
def clampF (lo hi v : W32) : W32 := F32.min (F32.max v lo) hi

/-- Neighbours of a finite FP32 value. -/
def F32.up (w : W32) : W32 := if w = 0x80000000 then 1 else if w.msb then w - 1 else w + 1
def F32.down (w : W32) : W32 := if w = 0 then 0x80000001 else if w.msb then w + 1 else w - 1

/-- The least FP32 value not below a value, and the greatest not above it. -/
def F32.ceil (v : FVal) : W32 := if (F32.val (F32.ofVal v)).lt v then F32.up (F32.ofVal v) else F32.ofVal v
def F32.floor (v : FVal) : W32 := if v.lt (F32.val (F32.ofVal v)) then F32.down (F32.ofVal v) else F32.ofVal v

/-- Confine a result to a distance from the exact value. -/
def confine (exact dist : FVal) (raw : W32) : W32 := clampF (F32.ceil (exact.sub dist)) (F32.floor (exact.add dist)) raw

/-- `k` spacings of binary32 at a value (R323). -/
def ulps (k : Nat) : FVal → FVal
  | .fin _ m e => .fin false k (max (e + (Nat.log2 m : Int)) (-126) - 23)
  | v => v

/-- The highest, or lowest, of the values at the first n + 1 points: a step that never steps backward (R324, R340). -/
def runMax (f : Nat → W32) : Nat → W32
  | 0 => f 0
  | n + 1 => F32.max (runMax f n) (f (n + 1))
def runMin (f : Nat → W32) : Nat → W32
  | 0 => f 0
  | n + 1 => F32.min (runMin f n) (f (n + 1))

/-! ## Segments (R321, R322) -/

/-- c0 + c1 t + c2 t^2 on segment `j` of a table, in units of 2^-34; t is the offset of `b` bits. -/
def curve (table j t b : Nat) : Int :=
  let c := Config.sfuCoef table j
  (c 0 * 2 ^ (2 * b) + c 1 * t * 2 ^ b + c 2 * t * t) / 2 ^ (2 * b)

/-- The same, limited to the range that the table covers. -/
def curveIn (lo hi table j t b : Nat) : Nat := Nat.min hi (Nat.max lo (curve table j t b).toNat)

/-- Exponent and 23-bit mantissa of a finite non-zero magnitude, subnormals normalised. -/
def normParts (x : W32) : Int × Nat :=
  match F32.val x with
  | .fin _ m e => (e + (Nat.log2 m : Int), m * 2 ^ 23 / 2 ^ Nat.log2 m - 2 ^ 23)
  | _ => (0, 0)

def fOne : W32 := 0x3F800000
def fInf : W32 := 0x7F800000
def fNegInf : W32 := 0xFF800000

/-- Is a finite FP32 value a power of two, and which? -/
def powerOfTwo (x : W32) : Option Int :=
  match F32.val x with
  | .fin _ m e => if m ≠ 0 ∧ m = 2 ^ Nat.log2 m then some (e + (Nat.log2 m : Int)) else none
  | _ => none

/-! ## exp -/

/-- A finite FP32 value in units of 2^-200; exact. -/
def fixOf (x : W32) : Int :=
  match F32.val x with
  | .fin neg m e => if neg then -(m * 2 ^ ((fracBits : Int) + e).toNat : Int) else (m * 2 ^ ((fracBits : Int) + e).toNat : Int)
  | _ => 0

/-- e^x. -/
def expExact (x : W32) : FVal :=
  let v := fixOf x
  let n := v / (ln2 : Int)
  .fin false (expFrom (v - n * ln2).toNat 60 0 (2 ^ fracBits)) (n - fracBits)

/-- The table of `exp`: x log2(e) to 30 fraction bits, its integer and fraction (R322). -/
def expTable (x : W32) : W32 :=
  let y := fixOf x * 2 ^ 30 / (ln2 : Int)
  let f := (y % 2 ^ 30).toNat
  F32.ofVal (.fin false (curveIn (2 ^ 34) (2 ^ 35) 6 (f / 2 ^ 24) (f % 2 ^ 24) 24) (y / 2 ^ 30 - 34))

/-- `exp` at a point, within its bounds: exp(0) = 1 lies between the two sides. -/
def expAt (x : W32) : W32 :=
  if F32.eq x 0 then fOne
  else if F32.le x 0xC2D15499 then 0
  else
    let v := confine (expExact x) (ulps 2 (expExact x)) (expTable x)
    if F32.lt x 0 then clampF 0 fOne v else F32.max v fOne

/-- `exp` (R321 to R324). 0x42B17218 is the first input with n of 128; 0xC2D15499 the first with n below -151. -/
def tExp (x : W32) : W32 :=
  if F32.isNan x then F32.qnan
  else if F32.eq x 0 then fOne
  else if F32.le 0x42B17218 x then fInf
  else if F32.le x 0xC2D15499 then 0
  else if F32.lt x 0 then runMax (fun k => expAt (0xC2D15499 - BitVec.ofNat 32 k)) (0xC2D15499 - x.toNat)
  else runMax (fun k => expAt (BitVec.ofNat 32 k)) x.toNat

/-! ## log -/

/-- ln x, of a positive finite x. -/
def logExact (x : W32) : FVal :=
  let p := normParts x
  fixVal (p.1 * ln2 + lnRatio p.2 (2 ^ 24 + p.2)) fracBits

/-- The tables of `log`: near 1 the second set, multiplied by x - 1 (R322). -/
def logTable (x : W32) : W32 :=
  let p := normParts x
  let j := p.2 / 2 ^ 17
  let t := p.2 % 2 ^ 17
  if F32.lt 0x3F700000 x && F32.lt x 0x3F880000 then
    F32.ofVal (((fixVal (curve (if p.1 < 0 then 4 else 5) j t 17) 34).mul ((F32.val x).sub FVal.one)).mul (fixVal ln2 fracBits))
  else F32.ofVal ((fixVal (p.1 * 2 ^ 34 + curve 3 j t 17) 34).mul (fixVal ln2 fracBits))

/-- `log` at a positive finite point, within its bounds. -/
def logAt (x : W32) : W32 :=
  if x = fOne then 0
  else
    let v := confine (logExact x) (ulps 2 (logExact x)) (logTable x)
    if F32.lt x fOne then F32.min v 0 else F32.max v 0

/-- `log` (R321 to R324). -/
def tLog (x : W32) : W32 :=
  if F32.isNan x || F32.lt x 0 then F32.qnan
  else if F32.eq x 0 then fNegInf
  else if F32.eq x fInf then fInf
  else if F32.eq x fOne then 0
  else if F32.lt x fOne then runMin (fun k => logAt (fOne - BitVec.ofNat 32 k)) (fOne.toNat - x.toNat)
  else runMax (fun k => logAt (fOne + BitVec.ofNat 32 k)) (x.toNat - fOne.toNat)

/-! ## recip -/

/-- The table of `recip` (R322). -/
def recipTable (a : W32) : W32 :=
  let p := normParts a
  F32.ofVal (.fin false (curveIn (2 ^ 33) (2 ^ 34) 0 (p.2 / 2 ^ 17) (p.2 % 2 ^ 17) 17) (-34 - p.1))

/-- `recip` at a positive finite point: powers of two exact; infinite where the exact reciprocal rounds so; below 2^-126 the bound is taken from the rounded reciprocal (R323). -/
def recipAt (a : W32) : W32 :=
  let r := F32.div fOne a
  if F32.le a 0x00200000 then fInf
  else if (powerOfTwo a).isSome || r == fInf then r
  else
    let x : FVal := match F32.val a with
      | .fin _ m e => if a.toNat < 0x00800000 then F32.val r else .fin false (2 ^ fracBits / m) (-(fracBits : Int) - e)
      | v => v
    confine x (ulps 1 x) (recipTable a)

/-- `recip` (R321 to R324): one domain for each sign. -/
def tRecip (x : W32) : W32 :=
  let sg := x &&& 0x80000000
  let a := F32.abs x
  if F32.isNan x then F32.qnan
  else if F32.eq a fInf then sg
  else if F32.le a 0x00200000 then sg ||| fInf
  else if (powerOfTwo x).isSome then sg ||| F32.div fOne a
  else sg ||| runMin (fun k => recipAt (0x00200000 + BitVec.ofNat 32 k)) (a.toNat - 0x00200000)

/-! ## rsqrt -/

/-- The tables of `rsqrt`, one for each parity of the exponent (R322). -/
def rsqrtTable (x : W32) : W32 :=
  let p := normParts x
  F32.ofVal (.fin false (curveIn (2 ^ 33) (2 ^ 34) (1 + (p.1 % 2).toNat) (p.2 / 2 ^ 17) (p.2 % 2 ^ 17) 17) (-34 - p.1 / 2))

/-- 1 / sqrt(x), of a positive finite x. -/
def rsqrtExact (x : W32) : FVal :=
  match F32.val x with
  | .fin _ m e => let m := if e % 2 = 0 then m else 2 * m; .fin false (FVal.isqrt (2 ^ (2 * fracBits) / m)) (-(fracBits : Int) - e / 2)
  | v => v

/-- `rsqrt` at a point that is +0 or positive and finite: powers of four exact. -/
def rsqrtAt (x : W32) : W32 :=
  if x = 0 then fInf
  else match powerOfTwo x with
    | some k => if k % 2 = 0 then F32.div fOne (F32.sqrt x) else confine (rsqrtExact x) (ulps 1 (rsqrtExact x)) (rsqrtTable x)
    | none => confine (rsqrtExact x) (ulps 1 (rsqrtExact x)) (rsqrtTable x)

/-- `rsqrt` (R321 to R324). -/
def tRsqrt (x : W32) : W32 :=
  if F32.eq x 0 then (x &&& 0x80000000) ||| fInf
  else if F32.isNan x || F32.lt x 0 then F32.qnan
  else if F32.eq x fInf then 0
  else match powerOfTwo x with
    | some k => if k % 2 = 0 then F32.div fOne (F32.sqrt x) else runMin (fun k => rsqrtAt (BitVec.ofNat 32 k)) x.toNat
    | none => runMin (fun k => rsqrtAt (BitVec.ofNat 32 k)) x.toNat

/-! ## The bounds of the programs (R326) -/

/-- e^-a of a magnitude, both in units of 2^-200. -/
def expDown (a : Nat) : Nat :=
  let n := (a + ln2 - 1) / ln2
  if 1000 < n then 0 else expFrom (n * ln2 - a) 60 0 (2 ^ fracBits) / 2 ^ n

/-- The logistic function, in the same units. -/
def sigmoidFix (v : Int) : Nat :=
  let e := expDown v.natAbs
  (if v < 0 then e else 2 ^ fracBits) * 2 ^ fracBits / (2 ^ fracBits + e)

/-- ln (1 + e^v). -/
def softplusFix (v : Int) : Nat :=
  let e := expDown v.natAbs
  v.toNat + lnRatio e (2 * 2 ^ fracBits + e)

/-- Confine a result to `k` spacings of a positive exact value; a lower end that keeps rising where the spacing grows keeps a chain in order. -/
def confineUp (exact : FVal) (k : Nat) (raw : W32) : W32 :=
  let below : FVal := match exact with
    | .fin _ m e => let t := e + (Nat.log2 m : Int); (FVal.fin false 1 t).sub (ulps k (.fin false 1 (t - 1)))
    | v => v
  let lo := exact.sub (ulps k exact)
  clampF (F32.ceil (if lo.lt below then below else lo)) (F32.floor (exact.add (ulps k exact))) raw

/-! ## cos and sin of a turn fraction (R340) -/

/-- The value at the edge with which quadrant `q` begins: cos, or sin. -/
def trigEdge (sine : Bool) (q : Nat) : W32 :=
  match (if sine then q + 3 else q) % 4 with
  | 0 => fOne
  | 2 => 0xBF800000
  | _ => 0

/-- cos or sin at v / 2^62 of quadrant `q`. -/
def trigExact (sine : Bool) (q v : Nat) : FVal :=
  let x := v * (2 ^ (478 + fracBits) / invTwoPi) / 2 ^ 62
  let x2 := x * x / 2 ^ fracBits
  let c := trigFrom x2 40 0 (2 ^ fracBits)
  let s := trigFrom x2 40 1 x
  fixVal (match (if sine then q + 3 else q) % 4 with
    | 0 => c
    | 1 => -s
    | 2 => -c
    | _ => s) fracBits

/-- The table's value, within 2^-24 of the exact one and between the quadrant's edges. -/
def trigAt (sine : Bool) (q v : Nat) : W32 :=
  if v = 0 then trigEdge sine q
  else
    let a := trigEdge sine q
    let b := trigEdge sine (q + 1)
    let raw := F32.ofVal (fixVal (curve (16 + 2 * q + (if sine then 1 else 0)) (v / 2 ^ 54) (v % 2 ^ 54) 54) 34)
    clampF (F32.min a b) (F32.max a b) (confine (trigExact sine q v) (.fin false 1 (-24)) raw)

/-- cos or sin of a turn fraction, monotone within its quadrant. -/
def trigOf (sine : Bool) (u : W64) : W32 :=
  let q := (u >>> 62).toNat
  let v := u.toNat % 2 ^ 62
  if v = 0 then trigEdge sine q
  else if F32.lt (trigEdge sine q) (trigEdge sine (q + 1)) then runMax (trigAt sine q) v else runMin (trigAt sine q) v

def cosSin (u : W64) : W32 × W32 := (trigOf false u, trigOf true u)

end Sys2Proof.Machine
end

