-- ==== Sys2Proof/Machine/Special.lean ====
section
/-! DEFINITION. The special-function unit (12): table steps, small programs of steps, online softmax, rotary positions. -/

namespace Sys2Proof.Machine
open Sys2Proof

/-! ## Programs of steps (R326) -/

def isFin (w : W32) : Bool := !F32.isNan w && !(F32.val w).isInf

/-- The steps give `raw`, and on a finite input the bound of R326 holds; but where `exp`, of value `e`, has overflowed, R323 states what the steps give (DEDUCED, log 119). -/
def bounded (x e raw : W32) (f : W32 → W32) : W32 := if isFin x && e != fInf then f raw else raw

def tSigmoid (x : W32) : W32 :=
  let e := tExp (F32.neg x)
  bounded x e (tRecip (F32.add fOne e)) (confineUp (fixVal (sigmoidFix (fixOf x)) fracBits) 4)

def tTanh (x : W32) : W32 :=
  let y := F32.mul 0x40000000 x
  bounded x 0 (F32.add (F32.mul 0x40000000 (tSigmoid y)) 0xBF800000)
    (confine (fixVal (2 * sigmoidFix (2 * fixOf x) - 2 ^ fracBits) fracBits) (.fin false 1 (-22)))

def tSoftplus (x : W32) : W32 :=
  let e := tExp x
  let exact := fixVal (softplusFix (fixOf x)) fracBits
  bounded x e (tLog (F32.add fOne e)) (if F32.lt 0 x then confineUp exact 4 else confine exact (.fin false 1 (-22)))

/-- The square root of a positive finite x. -/
def sqrtExact (x : W32) : FVal :=
  match F32.val x with
  | .fin _ m e => let m := if e % 2 = 0 then m else 2 * m; .fin false (FVal.isqrt (m * 2 ^ (2 * fracBits))) (e / 2 - fracBits)
  | v => v

def tSqrt (x : W32) : W32 :=
  if F32.eq x 0 || F32.eq x fInf then x
  else
    let raw := F32.mul x (tRsqrt x)
    if F32.lt 0 x then confine (sqrtExact x) (ulps 2 (sqrtExact x)) raw else raw

/-- a / b of finite values, b not 0. -/
def quotExact (a b : W32) : FVal :=
  match F32.val a, F32.val b with
  | .fin s m e, .fin t n k => .fin (s != t) (m * 2 ^ fracBits / n) (e - k - fracBits)
  | v, _ => v

/-- a recip(b); within 2 ulp for |b| from 2^-126 to 2^126 and a normal quotient. -/
def tDiv (a b : W32) : W32 :=
  let raw := F32.mul a (tRecip b)
  let q := quotExact a b
  let n := F32.abs (F32.ofVal q)
  if isFin a && F32.le 0x00800000 (F32.abs b) && F32.le (F32.abs b) 0x7E800000 && F32.le 0x00800000 n && F32.lt n fInf then
    confine q (ulps 2 q) raw else raw

def tSilu (x : W32) : W32 :=
  let exact := fixVal (fixOf x * sigmoidFix (fixOf x)) (2 * fracBits)
  bounded x (tExp (F32.neg x)) (F32.mul x (tSigmoid x)) (confine exact (ulps 5 exact))

/-- 0.5x (1 + tanh(0.797885 (x + 0.044715 x^3))): each addition and multiplication rounds once (R326), a power before its factor. -/
def tGelu (x : W32) : W32 :=
  let u := F32.mul 0x3F4C4231 (F32.add x (F32.mul 0x3D372713 (F32.mul (F32.mul x x) x)))
  let v := fixOf x
  let w := fixOf 0x3F4C4231 * (v + fixOf 0x3D372713 * (v * v * v) / 2 ^ (3 * fracBits)) / 2 ^ fracBits
  let far : FVal := (if F32.lt fOne (F32.abs x) then F32.val (F32.abs x) else FVal.one).mul (.fin false 1 (-21))
  bounded x 0 (F32.mul (F32.mul 0x3F000000 x) (F32.add fOne (tTanh u))) (confine (fixVal (v * sigmoidFix (2 * w)) (2 * fracBits)) far)

/-- An element-wise operation of the unit. -/
def sfuOp (op : Nat) (a b : W32) : W32 :=
  match op with
  | 0x01 => tExp a | 0x02 => tLog a | 0x03 => tRecip a | 0x04 => tRsqrt a | 0x10 => tSigmoid a | 0x11 => tTanh a | 0x12 => tSoftplus a
  | 0x13 => tSqrt a | 0x14 => tDiv a b | 0x15 => tSilu a | _ => tGelu a

/-! ## Rotary angles (R339) -/

/-- F of R339 for a finite FP32 frequency in radians. -/
def turnsOf (w : W32) : W64 :=
  match F32.val w with
  | .fin neg m e =>
    let p := m * invTwoPi
    let sh : Int := e + 64 - 480
    let k := if 0 ≤ sh then p <<< sh.toNat else FFmt.rneShift p (-sh).toNat
    if neg then -(w64 k) else w64 k
  | _ => 0

/-! ## Checks (R343) -/

/-- The operands besides `dst` that an operation names (R327): 1 `src_a`, 2 `src_b`, 3 to 5 `aux0` to `aux2`; none for a reserved code. -/
def sfuOperands (op : Nat) : Option (List Nat) :=
  if [0x01, 0x02, 0x03, 0x04, 0x10, 0x11, 0x12, 0x13, 0x15, 0x16].contains op then some [1]
  else if op = 0x14 ∨ op = 0x21 then some [1, 2]
  else if op = 0x20 then some [1, 3, 4, 5]
  else if op = 0x30 then some [1, 2, 3] else none

/-- Check 1: reserved or unused fields. -/
def sfuBadOp (d : Bytes) (op : Nat) (ops : List Nat) : Bool :=
  let tf := fld d 0x28 1
  let sm := op == 0x20
  headerBad d || !zeros d 0x2A 2 || !zeros d 0x38 8 || nbit tf 2 || 16 ≤ tf || (nbit tf 1 && !ops.contains 2) ||
    [1, 2, 3, 4, 5].any (fun k => !ops.contains k && vField d k != 0) ||
    (if sm || op == 0x30 then 4 ≤ fld d 0x29 1 else fld d 0x29 1 != 0) ||
    (if sm then 2 ^ 22 ≤ fld d 0x2C 4 || 2 ^ 22 ≤ fld d 0x30 4 else fld d 0x2C 4 != 0 || fld d 0x30 4 != 0 || fld d 0x34 4 != 0)

/-- The type that an operand must have. -/
def sfuType (op octl k : Nat) : Nat :=
  if op = 0x30 ∧ k = 2 then 16 else if op = 0x30 ∧ k = 3 ∧ nbit octl 1 = false then 18 else 1

/-- Does an operand's shape fit the destination's (R297, R330, R332, R338; DEDUCED, log 25)? -/
def sfuShapeOk (op k : Nat) (dt t : Tensor) : Bool :=
  let e := t.ext
  let rows := dt.extD 1
  let flat := [dt.ext.getD 2 1, dt.ext.getD 3 1, dt.ext.getD 4 1] == [1, 1, 1]
  match op, k with
  | 0x20, 0 => flat
  | 0x20, 1 => e == dt.ext
  | 0x20, _ => e == [rows, 1, 1, 1, 1]
  | 0x21, 0 => flat
  | 0x21, 1 => e == dt.ext
  | 0x21, _ => e == [rows, 1, 1, 1, 1]
  | 0x30, 0 => flat && dt.extD 0 % 2 == 0
  | 0x30, 1 => e == dt.ext
  | 0x30, 2 => e == [rows, 1, 1, 1, 1]
  | 0x30, _ => e == [dt.extD 0 / 2, 1, 1, 1, 1] || e == [dt.extD 0 / 2, rows, 1, 1, 1]
  | _, _ => e == dt.ext

/-- Is an overlap of two operands refused (R302, R337)? `x`, `y`: operand numbers. -/
def sfuClash (op : Nat) (x y : Nat × Tensor) : Bool :=
  Tensor.overlap x.2 y.2 != 0 &&
    (if op = 0x20 then !(x.1 == 0 && y.1 == 1 && sameTensor x.2 y.2) && !(x.1 == 3 && y.1 == 4)
    else x.1 == 0 && !(decide (y.1 ≤ 2) && sameTensor x.2 y.2))

/-- A checked descriptor. -/
structure SCtx where
  op : Nat
  octl : Nat
  ts : List (Nat × Tensor)
  deriving DecidableEq, Repr

def SCtx.t (c : SCtx) (k : Nat) : Tensor := ((c.ts.find? (fun x => x.1 == k)).map (·.2)).getD (parseTensor 0 [])

/-- The checks of R343, in order: status, order number, detail word 1. -/
def sfuCheck (s : State) (g l : Nat) (d : Bytes) : Except (Nat × Nat × Nat) SCtx :=
  let op := fld d 1 1
  match sfuOperands op with
  | none => .error (St.sfuOp, 1, 0)
  | some ops =>
    let octl := fld d 0x29 1
    let keys := 0 :: ops
    let ts := keys.filterMap (fun k => (tensorAt s g l (vField d k)).map (fun t => (k, t)))
    if sfuBadOp d op ops then .error (St.sfuOp, 1, 0)
    else
      match ts.find? (fun x => x.2.ty != (sfuType op octl x.1, false)) with
      | some x => .error (St.sfuType, 2, vField d x.1)
      | none =>
        match keys.find? (fun k => match ts.find? (fun x => x.1 == k) with
          | none => true
          | some x => !Tensor.good s g x.2 || x.2.space == 2) with
        | some k => .error (St.sfuShape, 3, vField d k)
        | none =>
          let dt := ((ts.find? (fun x => x.1 == 0)).map (·.2)).getD (parseTensor 0 [])
          match ts.find? (fun x => !sfuShapeOk op x.1 dt x.2) with
          | some x => .error (St.sfuShape, 3, vField d x.1)
          | none =>
            match ts.find? (fun y => ts.any (fun x => decide (x.1 < y.1) && sfuClash op x y)) with
            | some y => .error (St.sfuOverlap, 4, vField d y.1)
            | none =>
              match ts.find? (fun x => Tensor.touchesSeal s g x.2) with
              | some x => .error (St.shareSealed, 5, vField d x.1)
              | none =>
                if op = 0x20 ∧ (2 ^ 22 < fld d 0x2C 4 + dt.extD 1 ∨ 2 ^ 22 < fld d 0x30 4 + dt.extD 0) then .error (St.sfuPosition, 6, 0)
                else .ok { op := op, octl := octl, ts := ts }

/-! ## Results -/

/-- An output: operand, storage index, code, poison, position for R364. -/
structure SOut where
  k : Nat
  j : List Int
  v : W32
  poi : Bool
  pos : Nat
  deriving DecidableEq, Repr

/-- Counts of R345, and the first row of R341: its index and its position. -/
structure SCnt where
  ovf : Nat
  nan : Nat
  empty : Nat
  pos : Nat
  first : Option (Nat × Nat)
  deriving DecidableEq, Repr

def SCnt.zero : SCnt := { ovf := 0, nan := 0, empty := 0, pos := 0, first := none }

/-- A result that is infinite though its inputs are finite (R345). -/
def ovfOf (ins : List W32) (r : W32) : Nat := if ins.all isFin && (F32.val r).isInf then 1 else 0

/-- Read elements that follow one another in an operand, the first at position `pos` of its logical order (R364): values and whether any was poisoned. -/
def sRead (p : Port1) (t : Tensor) (pos : Nat) (is : List (List Nat)) : Port1 × List Nat × Bool :=
  is.foldl (fun (acc : Port1 × List Nat × Bool) i =>
    let (p, vs, bad) := acc
    let (p, v, b) := ({ p with pos := pos + vs.length } : Port1).get t i
    (p, vs ++ [v], bad || b)) (p, [], false)

/-- The unary operations and `div`, element by element. -/
def sfuElems (p : Port1) (c : SCtx) : Port1 × List SOut × SCnt :=
  let dt := c.t 0
  (List.range dt.total).foldl (fun (acc : Port1 × List SOut × SCnt) n =>
    let (p, outs, q) := acc
    let i := viewAt dt.ext n
    let (p, a, ba) := sRead p (c.t 1) n [i]
    let (p, b, bb) := if c.op = 0x14 then sRead p (c.t 2) n [i] else (p, [], false)
    let r := sfuOp c.op (w32 (a.getD 0 0)) (w32 (b.getD 0 0))
    (p, outs ++ [{ k := 0, j := dt.toJ i, v := r, poi := ba || bb, pos := n }], { q with ovf := q.ovf + ovfOf ((a ++ b).map w32) r }))
    (p, [], SCnt.zero)

/-- The view indices of a row of `n` elements. -/
def rowIdx (n row : Nat) : List (List Nat) := (List.range n).map (fun k => [k, row])

/-- The maximum of the running maximum and a row's, a NaN in either giving NaN (R334). -/
def nanMax (a b : W32) : W32 := if F32.isNan a || F32.isNan b then F32.qnan else F32.max a b

/-- One row of `sm.block` (R330, R334): probabilities, correction, new maximum and sum. -/
def smRow (scores : List W32) (mold lold : W32) : List W32 × W32 × W32 × W32 :=
  let mn := nanMax mold (reduceLine 0x31 scores)
  if mn = fNegInf then
    let ps := scores.map (fun _ => (0 : W32))
    (ps, fOne, mn, F32.fma fOne lold (reduceLine 0x30 ps))
  else
    let ds := scores.map (fun x => F32.sub x mn)
    if F32.isNan mn || ds.any F32.isNan then (scores.map (fun _ => F32.qnan), F32.qnan, F32.qnan, F32.qnan)
    else
      let ps := ds.map tExp
      let al := tExp (F32.sub mold mn)
      (ps, al, mn, F32.fma al lold (reduceLine 0x30 ps))

/-- Does the causal mask take element `k` of a row (R330)? -/
def smMasked (d : Bytes) (octl row k : Nat) : Bool := nbit octl 0 && decide (fld d 0x2C 4 + row < fld d 0x30 4 + k)

/-- The scaled and masked scores of a row (R330). -/
def smScores (d : Bytes) (octl row : Nat) (xs : List Nat) : List W32 :=
  (List.range xs.length).map (fun k =>
    if smMasked d octl row k then fNegInf else F32.mul (w32 (xs.getD k 0)) (w32 (fld d 0x34 4)))

/-- `sm.block` (R330, R334, R342). DESIGN CHOICE (log 113): its infinite results count in `ovf` where the elements that the mask leaves, the scale and the pair read are finite. -/
def sfuBlock (p : Port1) (c : SCtx) (d : Bytes) : Port1 × List SOut × SCnt :=
  let dt := c.t 0
  let e0 := dt.extD 0
  let first := nbit c.octl 1
  (List.range (dt.extD 1)).foldl (fun (acc : Port1 × List SOut × SCnt) row =>
    let (p, outs, q) := acc
    let (p, xs, b1) := sRead p (c.t 1) (row * e0) (rowIdx e0 row)
    let (p, m, b2) := if first then (p, [], false) else sRead p (c.t 3) row [[row]]
    let (p, l, b3) := if first then (p, [], false) else sRead p (c.t 4) row [[row]]
    let bad := b1 || b2 || b3
    let mold := if first then fNegInf else w32 (m.getD 0 0)
    let (ps, al, mn, ln) := smRow (smScores d c.octl row xs) mold (if first then 0 else w32 (l.getD 0 0))
    let out (k : Nat) (i : List Nat) (v : W32) (pos : Nat) : SOut := { k := k, j := (c.t k).toJ i, v := v, poi := bad, pos := pos }
    let els := (List.range e0).map (fun k => out 0 [k, row] (ps.getD k 0) (row * e0 + k))
    let live := ((List.range e0).filter (fun k => !smMasked d c.octl row k)).map (fun k => w32 (xs.getD k 0))
    let ins := live ++ [w32 (fld d 0x34 4)] ++ (m ++ l).map w32
    (p, outs ++ els ++ [out 5 [row] al row, out 3 [row] mn row, out 4 [row] ln row],
      { q with
          ovf := if live.isEmpty then q.ovf else (ps ++ [al, mn, ln]).foldl (fun n r => n + ovfOf ins r) q.ovf,
          nan := q.nan + (if F32.isNan mn && !F32.isNan mold then 1 else 0) })) (p, [], SCnt.zero)

/-- `sm.final` (R332, R342). -/
def sfuFinal (p : Port1) (c : SCtx) : Port1 × List SOut × SCnt :=
  let dt := c.t 0
  let e0 := dt.extD 0
  (List.range (dt.extD 1)).foldl (fun (acc : Port1 × List SOut × SCnt) row =>
    let (p, outs, q) := acc
    let (p, xs, b1) := sRead p (c.t 1) (row * e0) (rowIdx e0 row)
    let (p, l, b2) := sRead p (c.t 2) row [[row]]
    let lv := w32 (l.getD 0 0)
    let rs := xs.map (fun x => if lv = 0 then (0 : W32) else F32.mul (w32 x) (tRecip lv))
    let els := (List.range e0).map (fun k =>
      ({ k := 0, j := dt.toJ [k, row], v := rs.getD k 0, poi := b1 || b2, pos := row * e0 + k } : SOut))
    (p, outs ++ els,
      { q with
          ovf := (List.range e0).foldl (fun n k => n + ovfOf [w32 (xs.getD k 0), lv] (rs.getD k 0)) q.ovf,
          empty := q.empty + (if lv = 0 then 1 else 0) })) (p, [], SCnt.zero)

/-- `rope` (R338 to R341): a row's results are written in column order (R354). -/
def sfuRope (p : Port1) (c : SCtx) : Port1 × List SOut × SCnt :=
  let dt := c.t 0
  let e0 := dt.extD 0
  let h := e0 / 2
  let rad := nbit c.octl 1
  let ft := c.t 3
  (List.range (dt.extD 1)).foldl (fun (acc : Port1 × List SOut × SCnt) row =>
    let (p, outs, q) := acc
    let (p, pv, bp) := sRead p (c.t 2) row [[row]]
    let pos := w32 (pv.getD 0 0)
    let frow := if ft.extD 1 = 1 then 0 else row
    let fs := (List.range h).map (fun i => [i, frow])
    let (p, freqs, _) := sRead p ft (frow * h) fs
    let badRow := decide (2 ^ 22 ≤ pos.toNat) || (rad && freqs.any (fun f => !isFin (w32 f)))
    let first := if badRow && q.first.isNone then some (row, pos.toNat) else q.first
    let (p, ys, q) := (List.range h).foldl (fun (acc : Port1 × List (SOut × SOut) × SCnt) i =>
      let (p, ys, q) := acc
      let ka := if nbit c.octl 0 then i else 2 * i
      let kb := if nbit c.octl 0 then i + h else 2 * i + 1
      let (p, xa, b1) := sRead p (c.t 1) (row * e0 + ka) [[ka, row]]
      let (p, xb, b2) := sRead p (c.t 1) (row * e0 + kb) [[kb, row]]
      let bf := (sRead p ft (frow * h + i) [[i, frow]]).2.2
      let a := w32 (xa.getD 0 0)
      let b := w32 (xb.getD 0 0)
      let f := if rad then turnsOf (w32 (freqs.getD i 0)) else w64 (freqs.getD i 0)
      let (co, si) := cosSin (pos.setWidth 64 * f)
      let ya := if badRow then F32.qnan else F32.fma a co (F32.neg (F32.mul b si))
      let yb := if badRow then F32.qnan else F32.fma a si (F32.mul b co)
      let bad := bp || bf || b1 || b2
      let out (k : Nat) (v : W32) : SOut := { k := 0, j := dt.toJ [k, row], v := v, poi := bad, pos := row * e0 + k }
      (p, ys ++ [(out ka ya, out kb yb)], { q with ovf := q.ovf + ovfOf [a, b] ya + ovfOf [a, b] yb }))
      (p, [], { q with pos := q.pos + (if badRow then 1 else 0), first := first })
    (p, outs ++ (if nbit c.octl 0 then ys.map (·.1) ++ ys.map (·.2) else ys.flatMap (fun y => [y.1, y.2])), q)) (p, [], SCnt.zero)

/-! ## Starting -/

def sBump (g l : Nat) (s : State) : State := s.updLan g l (fun y => { y with cb := { y.cb with sfuRec := y.cb.sfuRec + 1 } })

/-- A record of the special-function unit, within its limit (R344). -/
def sRecord (s : State) (g l st cls d0 d1 : Nat) : State :=
  limited s (s.lanAt g l).cb.sfuRec (sBump g l) (Rep.ofLan st cls false 4 g l d0 d1)

/-- A skip (R343, R344). -/
def sSkip (s : State) (g l : Nat) (d : Bytes) (e : Nat × Nat × Nat) : State :=
  let s := s.updLan g l (fun y => { y with cb := { y.cb with sfuSkips := add16 y.cb.sfuSkips 1 } })
  flagDone (sRecord s g l e.1 1 (fld d 1 1 + 256 * e.2.1) e.2.2) g l (descFlag d)

/-- Operands read and awaited full; the running pair of a first block is not read (R330, R337). -/
def SCtx.ins (c : SCtx) : List (Nat × Tensor) :=
  c.ts.filter (fun x => x.1 == 1 || (if c.op = 0x20 then (x.1 == 3 || x.1 == 4) && !nbit c.octl 1 else decide (1 ≤ x.1)))

/-- Operands written. -/
def SCtx.outs (c : SCtx) : List (Nat × Tensor) := c.ts.filter (fun x => x.1 == 0 || (c.op == 0x20 && decide (3 ≤ x.1)))

/-- Operands awaited empty: not the running pair (R337). -/
def SCtx.fresh (c : SCtx) : List (Nat × Tensor) := c.ts.filter (fun x => x.1 == 0 || (c.op == 0x20 && x.1 == 5))

def slotsOf (g l : Nat) (ts : List (Nat × Tensor)) : List Slot := ts.flatMap (fun x => Tensor.slots g l x.2)

/-- Every result of a descriptor. -/
def sfuResults (p : Port1) (c : SCtx) (d : Bytes) : Port1 × List SOut × SCnt :=
  if c.op = 0x20 then sfuBlock p c d else if c.op = 0x21 then sfuFinal p c else if c.op = 0x30 then sfuRope p c else sfuElems p c

/-- Run a checked, ready descriptor. -/
def sfuExecute (s : State) (g l : Nat) (c : SCtx) (d : Bytes) : State :=
  let tf := fld d 0x28 1
  let takes := c.ts.filter (fun x => (x.1 == 1 && nbit tf 0) || (x.1 == 2 && nbit tf 1))
  let run := Run.of c.op (slotsOf g l c.outs) (slotsOf g l takes) [] (descFlag d)
  let s := setSlots s g l (slotsOf g l c.outs) false
  let (p, outs, q) := sfuResults (Port1.new s g l) c d
  let p := outs.foldl (fun p o => ({ p with pos := o.pos } : Port1).putJ (c.t o.k) o.j o.v.toNat o.poi) p
  let s := p.settle.updLan g l (fun y => { y with cb := { y.cb with
    sfuOvf := add16 y.cb.sfuOvf q.ovf, sfuNan := add16 y.cb.sfuNan q.nan, sfuEmpty := add16 y.cb.sfuEmpty q.empty,
    sfuPos := add16 y.cb.sfuPos q.pos, sfuPoi := add16 y.cb.sfuPoi p.dirtied } })
  let s := match q.first with
    | none => s
    | some (row, pos) => sRecord s g l St.sfuPosition 1 row pos
  let s := (oobPositions p.ev).foldl (fun s n => sRecord s g l St.oobCounted 0 (c.op + 512) (n % 2 ^ 32)) s
  s.updLan g l (fun y => { y with rs := some run })

/-- Start the descriptor at the head of the special queue, where it is one of the command's. -/
def sfuStart (s : State) (g l : Nat) (test : Nat → Bool) : State :=
  match (s.lanAt g l).qs with
  | [] => s
  | d :: rest =>
    if !enginesRun s g || (s.lanAt g l).rs.isSome || !test (fld d 1 1) then s
    else
      let pop (s : State) : State := touch (headNow (s.updLan g l (fun y => { y with qs := rest })) g l 2) g
      match sfuCheck s g l d with
      | .error e => sSkip (pop s) g l d e
      | .ok c =>
        if slotsFull s g l (slotsOf g l c.ins) && (nbit (fld d 0x28 1) 3 || slotsEmpty s g l (slotsOf g l c.fresh)) then
          sfuExecute (pop s) g l c d
        else s

/-- `exp` (R322). -/
def execExp (g : Gal) (l : Lan) (s : State) : Result := .next (sfuStart s g.val l.val (fun op => op == 0x01 || (sfuOperands op).isNone))

/-- `log` (R322). -/
def execLog (g : Gal) (l : Lan) (s : State) : Result := .next (sfuStart s g.val l.val (fun op => op == 0x02))

/-- `recip` (R322). -/
def execRecip (g : Gal) (l : Lan) (s : State) : Result := .next (sfuStart s g.val l.val (fun op => op == 0x03))

/-- `rsqrt` (R322). -/
def execRsqrt (g : Gal) (l : Lan) (s : State) : Result := .next (sfuStart s g.val l.val (fun op => op == 0x04))

/-- `sigmoid` (R326). -/
def execSigmoid (g : Gal) (l : Lan) (s : State) : Result := .next (sfuStart s g.val l.val (fun op => op == 0x10))

/-- `tanh` (R326). -/
def execTanh (g : Gal) (l : Lan) (s : State) : Result := .next (sfuStart s g.val l.val (fun op => op == 0x11))

/-- `softplus` (R326). -/
def execSoftplus (g : Gal) (l : Lan) (s : State) : Result := .next (sfuStart s g.val l.val (fun op => op == 0x12))

/-- `sqrt` (R326). -/
def execSqrt (g : Gal) (l : Lan) (s : State) : Result := .next (sfuStart s g.val l.val (fun op => op == 0x13))

/-- `div` (R326). -/
def execSfuDiv (g : Gal) (l : Lan) (s : State) : Result := .next (sfuStart s g.val l.val (fun op => op == 0x14))

/-- `silu` (R326). -/
def execSilu (g : Gal) (l : Lan) (s : State) : Result := .next (sfuStart s g.val l.val (fun op => op == 0x15))

/-- `gelu_t` (R326). -/
def execGeluT (g : Gal) (l : Lan) (s : State) : Result := .next (sfuStart s g.val l.val (fun op => op == 0x16))

/-- `sm.block` (R330). -/
def execSmBlock (g : Gal) (l : Lan) (s : State) : Result := .next (sfuStart s g.val l.val (fun op => op == 0x20))

/-- `sm.final` (R332). -/
def execSmFinal (g : Gal) (l : Lan) (s : State) : Result := .next (sfuStart s g.val l.val (fun op => op == 0x21))

/-- `rope` (R340). -/
def execRope (g : Gal) (l : Lan) (s : State) : Result := .next (sfuStart s g.val l.val (fun op => op == 0x30))

end Sys2Proof.Machine
end

