-- ==== Sys2Proof/Machine/UtierSync.lean ====
section
/-! DEFINITION. Utier class 0x9: flags, barriers, fence (03 R76 to R79; 04 R117, R124 to R126). -/

namespace Sys2Proof.Machine
open Sys2Proof

/-- Unused fields of the sync instructions: `d`, `a`, `b` or `e` where the operation does not name it (R107, R124). -/
def syncUnused (f : Fields) (d a b e : Bool) : Bool := (d && f.d != 0) || (a && f.a != 0) || (b && f.b != 0) || (e && f.e != 0)

/-- `flag.add` and `flag.addi`: a flag of any lantern of the gallery (R124, R125). -/
def flagAddAct (w : Site) (f : Fields) (v : State → Nat) (s : State) : Act :=
  let l := (xr s w f.b).toNat
  if 63 < l then .skip 5
  else if (v s = 0 ∨ 65535 < v s) ∧ !cutOff s w f then .skip 9
  else .ok (Sys2Proof.Machine.flagAdd s w.g.val l f.e.toNat (v s))

/-- `flag.wait` and `flag.waiti` (R76, R124). -/
def flagWaitAct (w : Site) (f : Fields) (v : W32) (s : State) : Act :=
  if v.toNat ≤ (flagOf s w.g.val w.l.val f.e.toNat).toNat then .ok s else .block (.flag f.e.toNat v)

/-- `flag.set` (R124). -/
def execFlagSet (w : Site) (f : Fields) (s : State) : Result :=
  .next (issue1 s w 9 0 f (static .short f false (syncUnused f true false true false)) (fun s =>
    .ok (flagPut s w.g.val w.l.val f.e.toNat ((xr s w f.a).setWidth 32))))

/-- `flag.seti` (R124). -/
def execFlagSeti (w : Site) (f : Fields) (s : State) : Result :=
  .next (issue1 s w 9 1 f (static .long f false (syncUnused f true true true false)) (fun s =>
    .ok (flagPut s w.g.val w.l.val f.e.toNat f.imm)))

/-- `flag.add` (R124, R125). -/
def execFlagAdd (w : Site) (f : Fields) (s : State) : Result :=
  .next (issue1 s w 9 2 f (static .short f false (syncUnused f true false false false)) (flagAddAct w f (fun s => (xr s w f.a).toNat)))

/-- `flag.addi` (R124, R125). -/
def execFlagAddi (w : Site) (f : Fields) (s : State) : Result :=
  .next (issue1 s w 9 3 f (static .long f false (syncUnused f true true false false)) (flagAddAct w f (fun _ => f.imm.toNat)))

/-- `flag.wait` (R124). -/
def execFlagWait (w : Site) (f : Fields) (s : State) : Result :=
  .next (issue1 s w 9 4 f (static .short f false (syncUnused f true false true false)) (fun s =>
    flagWaitAct w f ((xr s w f.a).setWidth 32) s))

/-- `flag.waiti` (R124). -/
def execFlagWaiti (w : Site) (f : Fields) (s : State) : Result :=
  .next (issue1 s w 9 5 f (static .long f false (syncUnused f true true true false)) (fun s =>
    if cutOff s w f then .ok s else flagWaitAct w f f.imm s))

/-- `flag.read` (R124). -/
def execFlagRead (w : Site) (f : Fields) (s : State) : Result :=
  .next (issue1 s w 9 6 f (static .short f false (syncUnused f false true true false)) (fun s =>
    .ok (setX s w f.d ((flagOf s w.g.val w.l.val f.e.toNat).setWidth 64))))

/-- Participants of barrier `b` that the task set (R19, R79). -/
def barrierCount (s : State) (g b : Nat) : Nat := ((taskOf s g).map (fun t => t.counts.getD b 0)).getD 0

/-- Threads that wait at barrier `b` of a gallery. -/
def arrivalsOf (s : State) (g b : Nat) : List (Nat × Nat) := Tab.get [] b (s.galAt g).arrivals

/-- Release the participants of a generation (R79). -/
def barRelease (s : State) (g : Nat) (ps : List (Nat × Nat)) : State :=
  ps.foldl (fun s p => s.updTh g p.1 p.2 (fun t => { t with st := .ready })) s

/-- `bar.arrive`: the arrival that reaches the count releases every participant and starts a new generation at zero (R79, R126). -/
def execBarArrive (w : Site) (f : Fields) (s : State) : Result :=
  .next (issue1 s w 9 8 f (static .short f false (syncUnused f true true true false || decide (8 ≤ f.e.toNat))) (fun s =>
    let g := w.g.val
    let b := f.e.toNat % 8
    let n := barrierCount s g b
    let ps := arrivalsOf s g b
    if n = 0 then .skip 14
    else if n ≤ ps.length + 1 then .ok (barRelease (s.updGal g (fun y => { y with arrivals := Tab.put [] b [] y.arrivals })) g ps)
    else .hold (s.updGal g (fun y => { y with arrivals := Tab.put [] b (ps ++ [(w.l.val, w.t.val)]) y.arrivals })) (.barrier b)))

/-- `fence`: every earlier store of the thread is already visible, stores being made at once (R117, log 12). -/
def execFence (w : Site) (f : Fields) (s : State) : Result :=
  .next (issue1 s w 9 9 f (static .short f false (syncUnused f true true true true)) (fun s => .ok s))

end Sys2Proof.Machine
end

