-- ==== Sys2Proof/Machine/Tasks.lean ====
section
/-! DEFINITION. Running tasks (03 R67 to R71, R87 to R93): blocked threads, the instruction cache, the stall census, the end of a task. -/

namespace Sys2Proof.Machine
open Sys2Proof

/-! ## Blocked threads (R68) -/

/-- Has the condition that a thread of lantern `l` waits for come about (R68)? -/
def waitOver (s : State) (g l t : Nat) (v : Wait) : Bool :=
  match v with
  | .flag n x => decide (x.toNat ≤ (flagOf s g l n).toNat)
  | .barrier b => !(arrivalsOf s g b).contains (l, t)
  | .slotFull a => (match locate g l a with
    | some (m, off) => s.full1 m off
    | none => true)
  | .slotEmpty a => (match locate g l a with
    | some (m, off) => !s.full1 m off
    | none => true)
  | .queue q => !pushFull s g l (q % 8) (decide (8 ≤ q))
  | .line n => (s.lanAt g l).icache.contains n
  | .fence => true

/-- THREAD_RESUME (R68). -/
def threadResume (s : State) (g l t : Nat) : State :=
  match (s.thAt g l t).st with
  | .blocked v => if galRuns s g && waitOver s g l t v then touch (s.updTh g l t (fun y => { y with st := .ready })) g else s
  | _ => s

def execThreadResume (w : Site) (s : State) : Result := .next (threadResume s w.g.val w.l.val w.t.val)

/-! ## The end of a task (R70) -/

/-- Has every named thread of every lantern ended (R70)? -/
def threadsEnded (s : State) (g : Nat) (t : Task) : Bool :=
  t.named.all (fun c => (List.range 64).all (fun l => (s.thAt g l c.1).st == .ended))

/-- Are the queues of a lantern empty and its engines idle? -/
def Lantern.quiet (y : Lantern) : Bool :=
  y.qa.isEmpty && y.qv.isEmpty && y.qs.isEmpty && y.ql.isEmpty && y.qt.isEmpty && y.ra.isEmpty && y.rv.isNone && y.rs.isNone && y.rl.isNone &&
    y.str.isNone

/-- Are a task's threads, queues and transfers done (R70)? -/
def taskDone (s : State) (g : Nat) (t : Task) : Bool :=
  let x := s.galxAt g
  threadsEnded s g t && (List.range 64).all (fun l => (s.lanAt g l).quiet) && x.mac.isNone && x.upd.isNone && x.txs.isEmpty && x.streams.isEmpty

/-- TASK_COMPLETE (R70, R71, R503). -/
def taskComplete (s : State) (g : Nat) : State :=
  match (s.galAt g).task with
  | none => s
  | some t => if hallRuns s (hallOf g) && taskDone s g t then finishTask s g else s

def execTaskComplete (g : Gal) (s : State) : Result := .next (taskComplete s g.val)

/-! ## The instruction cache (R91 to R93) -/

/-- A record that the task of gallery `p.gal` raised, with detail words that the spec does not give (log 8). -/
def reportTaskFree (s : State) (p : Rep) : State :=
  let (w, s) := s.freshWords 2
  reportTask s { p with d0 := w.getD 0 0, d1 := w.getD 1 0 }

/-- A line enters a cache of 128 lines (R91); the line longest there leaves (log 14). -/
def Lantern.fill (y : Lantern) (line : Nat) : Lantern :=
  { y with icache := (line :: y.icache.filter (· != line)).take 128, fetching := y.fetching.filter (· != line) }

/-- The lanterns that asked for a line. -/
def askers (s : State) (g line : Nat) : List Nat := (List.range 64).filter (fun l => (s.lanAt g l).fetching.contains line)

/-- ICACHE_MISS_FILL (R91, R93): the line goes to every lantern that asked, in one burst, which draws tokens (R439); a poisoned one aborts the task. -/
def icacheFill (s : State) (g line : Nat) (poisoned : Bool) : State :=
  match askers s g line with
  | [] => s
  | l :: ls =>
    if !hallRuns s (hallOf g) then s
    else
      let x := askTokens s g unitCache 1
      if !x.2 then x.1
      else if poisoned then
        let s := (l :: ls).foldl (fun s k => s.updLan g k (fun y => { y with fetching := y.fetching.filter (· != line) })) x.1
        killNow (reportTaskFree s (Rep.ofLan St.codePoison 1 false 1 g l 0 0)) g St.codePoison
      else touch ((l :: ls).foldl (fun s k => s.updLan g k (fun y => y.fill line)) x.1) g

def execIcacheMissFill (g : Gal) (line : Nat) (poisoned : Bool) (s : State) : Result := .next (icacheFill s g.val line poisoned)

/-- ICACHE_PARITY_ERROR (R93): the line is dropped, fetched again and recorded. -/
def icacheParity (s : State) (g l line : Nat) : State :=
  if (s.lanAt g l).icache.contains line && hallRuns s (hallOf g) then
    let s := s.updLan g l (fun y => { y with icache := y.icache.filter (· != line),
                                             fetching := if y.fetching.contains line then y.fetching else line :: y.fetching })
    reportTaskFree s (Rep.ofLan St.icacheParity 0 true 1 g l 0 0)
  else s

def execIcacheParityError (g : Gal) (l : Lan) (line : Nat) (s : State) : Result := .next (icacheParity s g.val l.val line)

/-! ## The stall census (R87 to R89) -/

/-- A wait of the graph (R89), and since when. -/
structure Waiter where
  lantern : Nat
  unit : Nat
  kind : Nat
  target : Nat
  value : Nat
  since : Nat
  deriving DecidableEq, Repr

/-- What an engine or a thread does. -/
inductive Activity where
  | idle
  | busy
  | waits (kind target value : Nat)
  deriving DecidableEq, Repr

/-- The wait of a list of slots of which one stands in the way. -/
def slotWait (s : State) (g l : Nat) (full empty : List Slot) : Activity :=
  match full.find? (fun k => !Slot.isFull s g l k) with
  | some k => .waits 3 0 ((Slot.mem g l k).word k.byte)
  | none =>
    match empty.find? (fun k => Slot.isFull s g l k) with
    | some k => .waits 4 0 ((Slot.mem g l k).word k.byte)
    | none => .busy

/-- The vector engine's activity (R83, R301). -/
def vActivity (s : State) (g l : Nat) : Activity :=
  let y := s.lanAt g l
  match y.rv, y.qv with
  | some _, _ => .busy
  | none, [] => .idle
  | none, d :: _ =>
    match vCheck s g l d with
    | .error _ => .busy
    | .ok c =>
      if nbit (fld d 3 1) 0 && (drainBeat y (fld d 4 2)).isNone then .waits 6 0 (fld d 4 2)
      else slotWait s g l (tagSlots s g l c.ins) (if nbit (fld d 0x2C 1) 3 then [] else tagSlots s g l c.outs)

/-- The special-function unit's activity. -/
def sActivity (s : State) (g l : Nat) : Activity :=
  let y := s.lanAt g l
  match y.rs, y.qs with
  | some _, _ => .busy
  | none, [] => .idle
  | none, d :: _ =>
    match sfuCheck s g l d with
    | .error _ => .busy
    | .ok c => slotWait s g l (slotsOf g l c.ins) (if nbit (fld d 0x28 1) 3 then [] else slotsOf g l c.fresh)

/-- The layout engine's activity. -/
def lActivity (s : State) (g l : Nat) : Activity :=
  let y := s.lanAt g l
  match y.rl, y.ql with
  | some _, _ => .busy
  | none, [] => .idle
  | none, d :: _ =>
    match lmCheck s g l d with
    | .error _ => .busy
    | .ok c =>
      let slots (ts : List Tensor) : List Slot := ts.flatMap (Tensor.slots g l)
      slotWait s g l (slots (c.ins d false)) (if nbit (fld d 0x20 1) 3 then [] else slots c.outs)

/-- The stream unit's activity for a lantern (R404, R405). -/
def tActivity (s : State) (g l : Nat) : Activity :=
  let y := s.lanAt g l
  match y.str with
  | none => if y.qt.isEmpty then .idle else .busy
  | some r =>
    if r.bursts.any (fun b => b.st == .issued || b.st == .held || b.st == .waits) then .busy
    else
      match r.bursts.find? (fun b => b.st == .credit) with
      | none => .busy
      | some b =>
        let ks : List Slot := (b.slots.filter (fun n => !r.seen.contains n)).map (fun n => { store := r.store, n := n })
        if r.write then slotWait s g l ks [] else slotWait s g l [] (if r.overwrite then [] else ks)

/-- Do ganged entries head all 64 array queues (R74)? Each has its own lantern's drain number (R123). -/
def gangHeads (s : State) (g : Nat) : Bool :=
  (List.range 64).all (fun k => match (s.lanAt g k).qa with
    | .desc _ _ true :: _ => true
    | _ => false)

/-- The array's activity (R74, R129, R151): a macro call that is not ready, or a ganged entry that is not at the head of all 64 queues, runs nothing. -/
def aActivity (s : State) (g l : Nat) : Activity :=
  let y := s.lanAt g l
  if !y.ra.isEmpty then .busy
  else match y.qa with
    | [] => .idle
    | .call n b a fl marks :: _ => if callReady s g (.call n b a fl marks) marks then .busy else .idle
    | .desc _ _ false :: _ => .busy
    | .desc _ _ true :: _ => if gangHeads s g then .busy else .idle

/-- A thread's activity. DESIGN CHOICE (log 92): the value of a wait on a full queue, for which R89 gives none, is 0. -/
def thActivity (s : State) (g l t : Nat) : Activity :=
  match (s.thAt g l t).st with
  | .idle => .idle
  | .ended => .idle
  | .ready => .busy
  | .blocked v =>
    if waitOver s g l t v then .busy
    else match v with
      | .flag n x => .waits 1 n x.toNat
      | .barrier b => .waits 2 b (arrivalsOf s g b).length
      | .slotFull a => .waits 3 0 a
      | .slotEmpty a => .waits 4 0 a
      | .queue q => .waits 5 (q % 8) 0
      | .line _ => .busy
      | .fence => .busy

/-- The units of lantern `l` with their activities and since when; the engines of a gallery that a macro owns run nothing of their queues (R129). -/
def unitsAt (s : State) (g l : Nat) : List (Nat × Activity × Nat) :=
  let y := s.lanAt g l
  let head (q : Nat) : Nat := Tab.get 0 q y.heads
  (List.range 8).map (fun t => (t, thActivity s g l t, (s.thAt g l t).since)) ++
    (if (s.galxAt g).mac.isSome then []
     else [(8, aActivity s g l, head 0), (9, vActivity s g l, head 1), (10, sActivity s g l, head 2), (11, lActivity s g l, head 3),
           (12, tActivity s g l, head 4)])

/-- Every unit of a gallery. -/
def allUnits (s : State) (g : Nat) : List (Nat × Nat × Activity × Nat) :=
  (List.range 64).flatMap (fun l => (unitsAt s g l).map (fun c => (l, c)))

/-- Insert a wait in order of age. -/
def insertWait (w : Waiter) : List Waiter → List Waiter
  | [] => [w]
  | x :: r => if x.since ≤ w.since then x :: insertWait w r else w :: x :: r

/-- The waits of a gallery, oldest first (R89). -/
def waitsOf (us : List (Nat × Nat × Activity × Nat)) : List Waiter :=
  us.foldl (fun acc c => match c.2.2.1 with
    | .waits k t v => insertWait { lantern := c.1, unit := c.2.1, kind := k, target := t, value := v, since := c.2.2.2 } acc
    | _ => acc) []

/-- May the macro that owns the gallery go on by itself: every stream of it has been used (R270)? -/
def macroGoes (x : GalleryX) : Bool := match x.mac with
  | none => false
  | some r => x.streams.isEmpty && r.wanted.isEmpty

/-- Is a transfer of the task outstanding (R87): a get or put, a code line, a burst that the regulator holds back (R441), a request of a key stream (R245)? -/
def transfers (s : State) (g : Nat) : Bool :=
  let x := s.galxAt g
  !x.txs.isEmpty || !x.heldBy.isEmpty || (List.range 64).any (fun l => !(s.lanAt g l).fetching.isEmpty) || snoopWaits s g ||
    (List.range x.streams.length).any (fun k => match x.streams[k]? with
      | some t => streamWaits s g k t
      | none => false)

/-- Is the gallery's task stalled (R87): nothing runs, nothing is outstanding, and it has not ended? -/
def stalled (s : State) (g : Nat) (us : List (Nat × Nat × Activity × Nat)) : Bool :=
  let x := s.galxAt g
  galRuns s g && us.all (fun c => c.2.2.1 != .busy) && !macroGoes x && x.upd.isNone && !transfers s g &&
    (match (s.galAt g).task with
     | some t => !taskDone s g t
     | none => false)

/-- The 8 bytes of a wait (R89). -/
def Waiter.bytes (w : Waiter) : Bytes := natLe 1 w.lantern ++ natLe 1 w.unit ++ natLe 1 w.kind ++ natLe 1 w.target ++ natLe 4 w.value

/-- The census raises `ST_FLAG_DEADLOCK`, writes the graph and aborts (R87, R89, R90). -/
def censusAbort (s : State) (g : Nat) (ws : List Waiter) : State :=
  let top := ws.take 16
  let s := s.updGal g (fun y => { y with graph := fitBytes 132 (natLe 4 top.length ++ top.flatMap Waiter.bytes) })
  let first := match (s.galAt g).task with
    | some t => t.first.getD 0
    | none => 0
  killNow (reportTask s (Rep.ofGal St.flagDeadlock 1 false 11 g ws.length first)) g St.flagDeadlock

/-- STALL_CENSUS_ABORT (R87, R88): stalled for the watch window. -/
def census (s : State) (g : Nat) : State :=
  let us := allUnits s g
  if stalled s g us && decide ((s.galAt g).progress + 1000 * s.obj 0x2120 1 ≤ s.clock.now) then censusAbort s g (waitsOf us) else s

def execStallCensusAbort (g : Gal) (s : State) : Result := .next (census s g.val)

end Sys2Proof.Machine
end

