-- ==== Sys2Proof/Machine/UtierInt.lean ====
section
/-! DEFINITION. Utier classes 0x0 and 0x1: integer arithmetic (04 R109, R110). -/

namespace Sys2Proof.Machine
open Sys2Proof


/-- 0 or 1 as an integer register holds it. -/
def bit64 (b : Bool) : W64 := if b then 1 else 0

/-- Shift amounts use their low 6 bits (R110). -/
def shiftAmount (v : W64) : Nat := v.toNat % 64

/-- The high half of the signed product. -/
def mulhS (a b : W64) : W64 := BitVec.ofInt 64 (a.toInt * b.toInt / 2 ^ 64)
/-- The high half of the unsigned product. -/
def mulhU (a b : W64) : W64 := BitVec.ofNat 64 (a.toNat * b.toNat / 2 ^ 64)

/-- Signed division toward zero; by zero all ones; -2^63 by -1 gives -2^63 (R110). -/
def divS (a b : W64) : W64 := if b = 0 then BitVec.allOnes 64 else BitVec.ofInt 64 (a.toInt.tdiv b.toInt)
/-- Unsigned division; by zero all ones (R110). -/
def divU (a b : W64) : W64 := if b = 0 then BitVec.allOnes 64 else BitVec.ofNat 64 (a.toNat / b.toNat)
/-- Signed remainder; by zero the dividend; -2^63 by -1 gives 0 (R110). -/
def remS (a b : W64) : W64 := if b = 0 then a else BitVec.ofInt 64 (a.toInt.tmod b.toInt)
/-- Unsigned remainder; by zero the dividend (R110). -/
def remU (a b : W64) : W64 := if b = 0 then a else BitVec.ofNat 64 (a.toNat % b.toNat)

/-- An operation of class 0x0: `d` takes a function of `a` and `b` (A form). -/
def intOp (op : Nat) (h : W64 → W64 → W64) (w : Site) (f : Fields) (s : State) : State :=
  issue1 s w 0 op f (static .short f false (f.e != 0)) (fun s => .ok (setX s w f.d (h (xr s w f.a) (xr s w f.b))))

/-- An operation of class 0x1: `d` takes a function of `a` and the immediate (I or L form). -/
def immOp (op : Nat) (h : W64 → W64 → W64) (w : Site) (f : Fields) (s : State) : State :=
  issue1 s w 1 op f (static .both f false f.immTail) (fun s => .ok (setX s w f.d (h (xr s w f.a) f.immV)))

/-- `add` (R109, R110). -/
def execAdd (w : Site) (f : Fields) (s : State) : Result := .next (intOp 0 (fun a b => a + b) w f s)

/-- `sub` (R109, R110). -/
def execSub (w : Site) (f : Fields) (s : State) : Result := .next (intOp 1 (fun a b => a - b) w f s)

/-- `and` (R109, R110). -/
def execAnd (w : Site) (f : Fields) (s : State) : Result := .next (intOp 2 (fun a b => a &&& b) w f s)

/-- `or` (R109, R110). -/
def execOr (w : Site) (f : Fields) (s : State) : Result := .next (intOp 3 (fun a b => a ||| b) w f s)

/-- `xor` (R109, R110). -/
def execXor (w : Site) (f : Fields) (s : State) : Result := .next (intOp 4 (fun a b => a ^^^ b) w f s)

/-- `shl` (R109, R110). -/
def execShl (w : Site) (f : Fields) (s : State) : Result := .next (intOp 5 (fun a b => a <<< shiftAmount b) w f s)

/-- `shr` (R109, R110). -/
def execShr (w : Site) (f : Fields) (s : State) : Result := .next (intOp 6 (fun a b => a >>> shiftAmount b) w f s)

/-- `sar` (R109, R110). -/
def execSar (w : Site) (f : Fields) (s : State) : Result := .next (intOp 7 (fun a b => a.sshiftRight (shiftAmount b)) w f s)

/-- `mul` (R109, R110). -/
def execMul (w : Site) (f : Fields) (s : State) : Result := .next (intOp 8 (fun a b => a * b) w f s)

/-- `mulh` (R109, R110). -/
def execMulh (w : Site) (f : Fields) (s : State) : Result := .next (intOp 9 (mulhS) w f s)

/-- `mulhu` (R109, R110). -/
def execMulhu (w : Site) (f : Fields) (s : State) : Result := .next (intOp 10 (mulhU) w f s)

/-- `div` (R109, R110). -/
def execDiv (w : Site) (f : Fields) (s : State) : Result := .next (intOp 11 (divS) w f s)

/-- `divu` (R109, R110). -/
def execDivu (w : Site) (f : Fields) (s : State) : Result := .next (intOp 12 (divU) w f s)

/-- `rem` (R109, R110). -/
def execRem (w : Site) (f : Fields) (s : State) : Result := .next (intOp 13 (remS) w f s)

/-- `remu` (R109, R110). -/
def execRemu (w : Site) (f : Fields) (s : State) : Result := .next (intOp 14 (remU) w f s)

/-- `min` (R109, R110). -/
def execMin (w : Site) (f : Fields) (s : State) : Result := .next (intOp 15 (fun a b => if a.slt b then a else b) w f s)

/-- `max` (R109, R110). -/
def execMax (w : Site) (f : Fields) (s : State) : Result := .next (intOp 16 (fun a b => if a.slt b then b else a) w f s)

/-- `minu` (R109, R110). -/
def execMinu (w : Site) (f : Fields) (s : State) : Result := .next (intOp 17 (fun a b => if a.ult b then a else b) w f s)

/-- `maxu` (R109, R110). -/
def execMaxu (w : Site) (f : Fields) (s : State) : Result := .next (intOp 18 (fun a b => if a.ult b then b else a) w f s)

/-- `slt` (R109, R110). -/
def execSlt (w : Site) (f : Fields) (s : State) : Result := .next (intOp 19 (fun a b => bit64 (a.slt b)) w f s)

/-- `sltu` (R109, R110). -/
def execSltu (w : Site) (f : Fields) (s : State) : Result := .next (intOp 20 (fun a b => bit64 (a.ult b)) w f s)

/-- `seq` (R109, R110). -/
def execSeq (w : Site) (f : Fields) (s : State) : Result := .next (intOp 21 (fun a b => bit64 (a == b)) w f s)

/-- `addi` (R109, R110). -/
def execAddi (w : Site) (f : Fields) (s : State) : Result := .next (immOp 0 (fun a b => a + b) w f s)

/-- `andi` (R109, R110). -/
def execAndi (w : Site) (f : Fields) (s : State) : Result := .next (immOp 2 (fun a b => a &&& b) w f s)

/-- `ori` (R109, R110). -/
def execOri (w : Site) (f : Fields) (s : State) : Result := .next (immOp 3 (fun a b => a ||| b) w f s)

/-- `xori` (R109, R110). -/
def execXori (w : Site) (f : Fields) (s : State) : Result := .next (immOp 4 (fun a b => a ^^^ b) w f s)

/-- `shli` (R109, R110). -/
def execShli (w : Site) (f : Fields) (s : State) : Result := .next (immOp 5 (fun a b => a <<< shiftAmount b) w f s)

/-- `shri` (R109, R110). -/
def execShri (w : Site) (f : Fields) (s : State) : Result := .next (immOp 6 (fun a b => a >>> shiftAmount b) w f s)

/-- `sari` (R109, R110). -/
def execSari (w : Site) (f : Fields) (s : State) : Result := .next (immOp 7 (fun a b => a.sshiftRight (shiftAmount b)) w f s)

/-- `slti` (R109, R110). -/
def execSlti (w : Site) (f : Fields) (s : State) : Result := .next (immOp 19 (fun a b => bit64 (a.slt b)) w f s)

/-- `sltiu` (R109, R110). -/
def execSltiu (w : Site) (f : Fields) (s : State) : Result := .next (immOp 20 (fun a b => bit64 (a.ult b)) w f s)

/-- `li`: `d` takes `imm32`, sign-extended (R108, R109). L form only. -/
def execLi (w : Site) (f : Fields) (s : State) : Result :=
  .next (issue1 s w 1 32 f (static .long f false (f.a != 0 || f.b != 0 || f.e != 0)) (fun s => .ok (setX s w f.d (f.imm.signExtend 64))))

/-- `lui`: `imm32` goes to bits [63:32] of `d`, bits [31:0] are kept (R109). L form only. -/
def execLui (w : Site) (f : Fields) (s : State) : Result :=
  .next (issue1 s w 1 33 f (static .long f false (f.a != 0 || f.b != 0 || f.e != 0)) (fun s =>
    .ok (setX s w f.d (f.imm ++ (xr s w f.d).setWidth 32))))

end Sys2Proof.Machine
end

