-- ==== Sys2Proof/Machine/UtierFloat.lean ====
section
/-! DEFINITION. Utier class 0x2: FP32 (04 R109, R111, R112). -/

namespace Sys2Proof.Machine
open Sys2Proof


/-- An FP32 operation of two `f` registers into `f d` (A form). -/
def fpOp (op : Nat) (h : W32 → W32 → W32) (w : Site) (f : Fields) (s : State) : State :=
  issue1 s w 2 op f (static .short f false (f.e != 0)) (fun s => .ok (setF s w f.d (h (fr s w f.a) (fr s w f.b))))

/-- An FP32 operation of one `f` register into `f d`; `b` is unused (R112). -/
def fpOp1 (op : Nat) (h : W32 → W32) (w : Site) (f : Fields) (s : State) : State :=
  issue1 s w 2 op f (static .short f false (f.b != 0 || f.e != 0)) (fun s => .ok (setF s w f.d (h (fr s w f.a))))

/-- A comparison of two `f` registers into `x d` (R112). -/
def fpCmp (op : Nat) (h : W32 → W32 → Bool) (w : Site) (f : Fields) (s : State) : State :=
  issue1 s w 2 op f (static .short f false (f.e != 0)) (fun s => .ok (setX s w f.d (bit64 (h (fr s w f.a) (fr s w f.b)))))

/-- `fadd` (R111). -/
def execFadd (w : Site) (f : Fields) (s : State) : Result := .next (fpOp 0 F32.add w f s)

/-- `fsub` (R111). -/
def execFsub (w : Site) (f : Fields) (s : State) : Result := .next (fpOp 1 F32.sub w f s)

/-- `fmul` (R111). -/
def execFmul (w : Site) (f : Fields) (s : State) : Result := .next (fpOp 2 F32.mul w f s)

/-- `fmin` (R111). -/
def execFmin (w : Site) (f : Fields) (s : State) : Result := .next (fpOp 4 F32.min w f s)

/-- `fmax` (R111). -/
def execFmax (w : Site) (f : Fields) (s : State) : Result := .next (fpOp 5 F32.max w f s)

/-- `fma`: `d` takes `a` x `b` + `d` with one rounding (R109, R111). -/
def execFma (w : Site) (f : Fields) (s : State) : Result :=
  .next (issue1 s w 2 3 f (static .short f false (f.e != 0)) (fun s => .ok (setF s w f.d (F32.fma (fr s w f.a) (fr s w f.b) (fr s w f.d)))))

/-- `fneg`; a NaN operand gives the quiet NaN (R111, R112; DEDUCED, log 11). -/
def execFneg (w : Site) (f : Fields) (s : State) : Result := .next (fpOp1 6 F32.neg w f s)

/-- `fabs`; a NaN operand gives the quiet NaN (R111, R112; DEDUCED, log 11). -/
def execFabs (w : Site) (f : Fields) (s : State) : Result := .next (fpOp1 7 F32.abs w f s)

/-- `flt` (R109, R112). -/
def execFlt (w : Site) (f : Fields) (s : State) : Result := .next (fpCmp 8 F32.lt w f s)

/-- `fle` (R109, R112). -/
def execFle (w : Site) (f : Fields) (s : State) : Result := .next (fpCmp 9 F32.le w f s)

/-- `feq` (R109, R112). -/
def execFeq (w : Site) (f : Fields) (s : State) : Result := .next (fpCmp 10 F32.eq w f s)

/-- `fcvt.i`: truncates `f a` to a signed 64-bit integer in `x d`, saturating (R111, R112). -/
def execFcvtI (w : Site) (f : Fields) (s : State) : Result :=
  .next (issue1 s w 2 16 f (static .short f false (f.b != 0 || f.e != 0)) (fun s => .ok (setX s w f.d (F32.toI64 (fr s w f.a)))))

/-- `fcvt.f`: the signed value of `x a` rounded to FP32 (R112). -/
def execFcvtF (w : Site) (f : Fields) (s : State) : Result :=
  .next (issue1 s w 2 17 f (static .short f false (f.b != 0 || f.e != 0)) (fun s => .ok (setF s w f.d (F32.ofI64 (xr s w f.a)))))

/-- `fmv.x`: the bits of `f a` unchanged into `x d`[31:0], zeros above (R112). -/
def execFmvX (w : Site) (f : Fields) (s : State) : Result :=
  .next (issue1 s w 2 18 f (static .short f false (f.b != 0 || f.e != 0)) (fun s => .ok (setX s w f.d ((fr s w f.a).setWidth 64))))

/-- `fmv.f`: `x a`[31:0] unchanged into `f d` (R112). -/
def execFmvF (w : Site) (f : Fields) (s : State) : Result :=
  .next (issue1 s w 2 19 f (static .short f false (f.b != 0 || f.e != 0)) (fun s => .ok (setF s w f.d ((xr s w f.a).setWidth 32))))

end Sys2Proof.Machine
end

