-- ==== Sys2Proof/Machine/UtierFlow.lean ====
section
/-! DEFINITION. Utier classes 0x4 and 0xB: branches, jumps, system (04 R106, R108, R109, R113, R127, R133). -/

namespace Sys2Proof.Machine
open Sys2Proof


/-- A branch or jump target: `imm` 4-byte units from the instruction (R108); none outside the code section (reason 12). -/
def relTarget (s : State) (w : Site) (imm : W64) : Option Nat :=
  let t : Int := ((thOf s w).pc : Int) + 4 * imm.toInt
  if 0 ≤ t ∧ t < (codeSize s w.g.val : Int) then some t.toNat else none

/-- A conditional branch: compares `x d` with `x a` (R109). A target outside the code section is illegal, taken or not (R131). -/
def branch (op : Nat) (h : W64 → W64 → Bool) (w : Site) (f : Fields) (s : State) : State :=
  issue1 s w 4 op f (static .both f false f.immTail) (fun s =>
    match relTarget s w f.immV with
    | none => if cutOff s w f then .ok s else .skip 12
    | some t => if h (xr s w f.d) (xr s w f.a) then .jump s t else .ok s)

/-- The context word (R106). -/
def contextWord (s : State) (w : Site) : W64 :=
  let part := ((taskOf s w.g.val).map (·.item.sess.part)).getD 0
  ctxWord w.g.val w.l.val w.t.val part (s.galAt w.g.val).mode

/-- `LNT_SKIP_CNT` (R133). -/
def skipCount (s : State) (g l : Nat) : Nat := (s.lanAt g l).ca.skips + 2 ^ 24 * (s.lanAt g l).ca.skipRec

/-- A system operation that writes `x d` and uses no other field. -/
def sysOp (op : Nat) (h : State → W64) (w : Site) (f : Fields) (s : State) : State :=
  issue1 s w 11 op f (static .short f false (f.a != 0 || f.b != 0 || f.e != 0)) (fun s => .ok (setX s w f.d (h s)))

/-- Does a system operation without operands leave every field 0 (R107)? -/
def anyField (f : Fields) : Bool := f.d != 0 || f.a != 0 || f.b != 0 || f.e != 0

/-- `beq` (R109). -/
def execBeq (w : Site) (f : Fields) (s : State) : Result := .next (branch 0 (fun a b => a == b) w f s)

/-- `bne` (R109). -/
def execBne (w : Site) (f : Fields) (s : State) : Result := .next (branch 1 (fun a b => a != b) w f s)

/-- `blt` (R109). -/
def execBlt (w : Site) (f : Fields) (s : State) : Result := .next (branch 2 (fun a b => a.slt b) w f s)

/-- `bge` (R109). -/
def execBge (w : Site) (f : Fields) (s : State) : Result := .next (branch 3 (fun a b => !a.slt b) w f s)

/-- `bltu` (R109). -/
def execBltu (w : Site) (f : Fields) (s : State) : Result := .next (branch 4 (fun a b => a.ult b) w f s)

/-- `bgeu` (R109). -/
def execBgeu (w : Site) (f : Fields) (s : State) : Result := .next (branch 5 (fun a b => !a.ult b) w f s)

/-- `jal` (L form): `d` takes the return offset (R109). DESIGN CHOICE (log 91): the operation has no I form, which is skipped with reason 2. -/
def execJal (w : Site) (f : Fields) (s : State) : Result :=
  .next (issue1 s w 4 16 f (static .long f false (f.a != 0 || f.b != 0 || f.e != 0)) (fun s =>
    match relTarget s w f.immV with
    | none => if cutOff s w f then .ok s else .skip 12
    | some t => .jump (setX s w f.d (w64 ((thOf s w).pc + 8))) t))

/-- `jr` (A form): the target offset is in `a`, `d` takes the return offset (R109). -/
def execJr (w : Site) (f : Fields) (s : State) : Result :=
  .next (issue1 s w 4 17 f (static .short f false (f.b != 0 || f.e != 0)) (fun s =>
    let t := (xr s w f.a).toNat
    if t % 4 != 0 || decide (codeSize s w.g.val ≤ t) then .skip 12 else .jump (setX s w f.d (w64 ((thOf s w).pc + 4))) t))

/-- The word of a thread's code that is `nop`, or no instruction: a reserved class (reason 1) or an operation that is not listed (reason 2) is skipped (R109, R130, R132). -/
def nopWord (w : Site) (v : W64) (s : State) : State :=
  let f := Fields.ofWord v
  let run (st : Option Nat) : State := issue1 s w (wordClass v) (wordOp v) f st (fun s => .ok s)
  if 12 ≤ wordClass v then run (some 1)
  else match decodeUtier w v with
    | none => run (some 2)
    | some (.nop _ _) => run (static .short f false (anyField f))
    | some _ => s

/-- `nop`, and words that spell no instruction. A word of another instruction is that one's command, and changes nothing here. -/
def execNop (w : Site) (f : W64) (s : State) : Result := .next (nopWord w f s)

/-- `end`: the thread ends and waits for nothing (R127). -/
def execEndThread (w : Site) (f : Fields) (s : State) : Result :=
  .next (issue1 s w 11 1 f (static .short f false (anyField f)) (fun s => .ends s))

/-- `rdtime`: the hall's shadow of the reference timer (R113). -/
def execRdtime (w : Site) (f : Fields) (s : State) : Result := .next (sysOp 2 (fun s => w64 (s.shadow (hallOf w.g.val))) w f s)

/-- `rdctx` (R106). -/
def execRdctx (w : Site) (f : Fields) (s : State) : Result := .next (sysOp 3 (fun s => contextWord s w) w f s)

/-- `rdskip` (R133). -/
def execRdskip (w : Site) (f : Fields) (s : State) : Result := .next (sysOp 4 (fun s => w64 (skipCount s w.g.val w.l.val)) w f s)

end Sys2Proof.Machine
end

