-- ==== Sys2Proof/Machine/UtierMem.lean ====
section
/-! DEFINITION. Utier classes 0x3 and 0x6: memory, atomics, short vector memory (04 R114 to R118; 14 R388, R389, R394 to R396). -/

namespace Sys2Proof.Machine
open Sys2Proof


/-- How an access treats its slot's tag (R115). -/
inductive TagUse where
  | keep
  | take
  | store
  | fill
  | raw
  deriving DecidableEq, Repr

/-- Does the access wait, and on what (R68, R115)? -/
def tagWait (s : State) (m : Space1) (off word : Nat) (u : TagUse) : Option Wait :=
  match u with
  | .keep => if s.full1 m off then none else some (.slotFull word)
  | .take => if s.full1 m off then none else some (.slotFull word)
  | .store => if s.full1 m off then some (.slotEmpty word) else none
  | .fill => if s.full1 m off then some (.slotEmpty word) else none
  | .raw => none

/-- The tag afterwards (R115). -/
def tagAfter (s : State) (m : Space1) (off : Nat) (u : TagUse) : State :=
  match u with
  | .take => s.setFull1 m off false
  | .fill => s.setFull1 m off true
  | .keep => s
  | .store => s
  | .raw => s

/-- A load of `n` words into a register by `put` (R115, R389): window words are illegal (R395). -/
def loadAct (s : State) (w : Site) (f : Fields) (n : Nat) (u : TagUse) (put : State → Nat → State) : Act :=
  let a := wordAddr s w f
  match badAddr s w.g.val a n false with
  | some r => .skip r
  | none =>
    match locate w.g.val w.l.val a with
      | none => .skip 5
      | some (m, off) =>
        match tagWait s m off a u with
        | some v => .block v
        | none =>
          if s.poisoned1 m off then .poison a
          else .ok (put (tagAfter s m off u) (s.num1 m off (4 * n)))

/-- A store to a window word: a bit operation on the ordinary word behind it; no tag is awaited or changed (R394, R395). -/
def windowStore (s : State) (w : Site) (a : Nat) (vals : List W32) : State :=
  let m : Space1 := { g := w.g.val, l := w.l.val, store := true }
  (List.range vals.length).foldl (fun s i =>
    let k := a + i
    let clear := decide (0x803E0000 ≤ k)
    let off := 4 * (k - (if clear then 0x803E0000 else 0x803C0000))
    let old := w32 (s.num1 m off 4)
    let v := vals.getD i 0
    s.store1 m off (natLe 4 (if clear then old &&& ~~~v else old ||| v).toNat)) s

/-- A store of `n` words (R115, R388); `win`: may it name window words (R395)? -/
def storeAct (s : State) (w : Site) (f : Fields) (n : Nat) (u : TagUse) (win : Bool) (v : Nat) : Act :=
  let a := wordAddr s w f
  match badAddr s w.g.val a n win with
  | some r => .skip r
  | none =>
    if isWindow s w.g.val a then .ok (windowStore s w a ((List.range n).map (fun i => w32 (v >>> (32 * i)))))
    else match locate w.g.val w.l.val a with
      | none => .skip 5
      | some (m, off) =>
        match tagWait s m off a u with
        | some q => .block q
        | none => .ok (tagAfter (s.store1 m off (natLe (4 * n) v)) m off u)

/-- An atomic on the 32-bit word at the address in `x a` (R116, R396): the old value goes to `x d`, zero-extended (DEDUCED, log 11). -/
def amoAct (s : State) (w : Site) (f : Fields) (h : W32 → W32 → W32) : Act :=
  let a := (xr s w f.a).toNat
  match badAddr s w.g.val a 1 false with
  | some r => .skip r
  | none =>
    match locate w.g.val w.l.val a with
      | none => .skip 5
      | some (m, off) =>
        if s.poisoned1 m off then .poison a
        else
          let old := w32 (s.num1 m off 4)
          let new := h old ((xr s w f.b).setWidth 32)
          .ok (setX (s.store1 m off (natLe 4 new.toNat)) w f.d (old.setWidth 64))

/-- A load of class 0x3 into `x d`; a 32-bit load is zero-extended (DEDUCED, log 11). -/
def ldX (op n : Nat) (u : TagUse) (w : Site) (f : Fields) (s : State) : State :=
  issue1 s w 3 op f (static .short f false false) (fun s => loadAct s w f n u (fun s v => setX s w f.d (w64 v)))

/-- A store of class 0x3 from `x d` (R114). -/
def stX (op n : Nat) (u : TagUse) (win : Bool) (w : Site) (f : Fields) (s : State) : State :=
  issue1 s w 3 op f (static .short f false false) (fun s => storeAct s w f n u win (xr s w f.d).toNat)

/-- A short vector load (class 0x6, R114): 8 words, an address that is a multiple of 8. -/
def ldV (op : Nat) (u : TagUse) (w : Site) (f : Fields) (s : State) : State :=
  issue1 s w 6 op f (static .short f (badV f.d) false) (fun s => loadAct s w f 8 u (fun s v => setV s w f.d (BitVec.ofNat 256 v)))

/-- A short vector store (class 0x6, R114); windows are illegal (R395). -/
def stV (op : Nat) (u : TagUse) (w : Site) (f : Fields) (s : State) : State :=
  issue1 s w 6 op f (static .short f (badV f.d) false) (fun s => storeAct s w f 8 u false (vr s w f.d).toNat)

/-- Load 1 word(s) into `x d` (R114, R115). -/
def execLdW (w : Site) (f : Fields) (s : State) : Result := .next (ldX 0 1 .keep w f s)

/-- Load 2 word(s) into `x d` (R114, R115). -/
def execLdD (w : Site) (f : Fields) (s : State) : Result := .next (ldX 1 2 .keep w f s)

/-- Load 1 word(s) into `x d` (R114, R115). -/
def execLdTakeW (w : Site) (f : Fields) (s : State) : Result := .next (ldX 3 1 .take w f s)

/-- Load 2 word(s) into `x d` (R114, R115). -/
def execLdTakeD (w : Site) (f : Fields) (s : State) : Result := .next (ldX 4 2 .take w f s)

/-- Load 1 word(s) into `x d` (R114, R115). -/
def execLdRawW (w : Site) (f : Fields) (s : State) : Result := .next (ldX 16 1 .raw w f s)

/-- Load 2 word(s) into `x d` (R114, R115). -/
def execLdRawD (w : Site) (f : Fields) (s : State) : Result := .next (ldX 17 2 .raw w f s)

/-- Store 1 word(s) of `x d` (R114, R115, R394). -/
def execStW (w : Site) (f : Fields) (s : State) : Result := .next (stX 8 1 .store true w f s)

/-- Store 2 word(s) of `x d` (R114, R115, R394). -/
def execStD (w : Site) (f : Fields) (s : State) : Result := .next (stX 9 2 .store true w f s)

/-- Store 1 word(s) of `x d` (R114, R115, R394). -/
def execStFillW (w : Site) (f : Fields) (s : State) : Result := .next (stX 11 1 .fill false w f s)

/-- Store 2 word(s) of `x d` (R114, R115, R394). -/
def execStFillD (w : Site) (f : Fields) (s : State) : Result := .next (stX 12 2 .fill false w f s)

/-- Store 1 word(s) of `x d` (R114, R115, R394). -/
def execStRawW (w : Site) (f : Fields) (s : State) : Result := .next (stX 24 1 .raw true w f s)

/-- Store 2 word(s) of `x d` (R114, R115, R394). -/
def execStRawD (w : Site) (f : Fields) (s : State) : Result := .next (stX 25 2 .raw true w f s)

/-- `ld.f` (R114, R115). -/
def execLdF (w : Site) (f : Fields) (s : State) : Result :=
  .next (issue1 s w 3 2 f (static .short f false false) (fun s => loadAct s w f 1 .keep (fun s v => setF s w f.d (w32 v))))

/-- `st.f` (R114, R115); on a window word it acts as `st.w` does (DEDUCED, log 11). -/
def execStF (w : Site) (f : Fields) (s : State) : Result :=
  .next (issue1 s w 3 10 f (static .short f false false) (fun s => storeAct s w f 1 .store true (fr s w f.d).toNat))

/-- `amo.add` (R116). -/
def execAmoAdd (w : Site) (f : Fields) (s : State) : Result :=
  .next (issue1 s w 3 32 f (static .short f false (f.e != 0)) (fun s => amoAct s w f (fun old b => old + b)))

/-- `amo.swap` (R116). -/
def execAmoSwap (w : Site) (f : Fields) (s : State) : Result :=
  .next (issue1 s w 3 33 f (static .short f false (f.e != 0)) (fun s => amoAct s w f (fun _ b => b)))

/-- Short vector memory (R109, R114, R115). -/
def execVld (w : Site) (f : Fields) (s : State) : Result := .next (ldV 0 .keep w f s)

/-- Short vector memory (R109, R114, R115). -/
def execVst (w : Site) (f : Fields) (s : State) : Result := .next (stV 1 .store w f s)

/-- Short vector memory (R109, R114, R115). -/
def execVldRaw (w : Site) (f : Fields) (s : State) : Result := .next (ldV 2 .raw w f s)

/-- Short vector memory (R109, R114, R115). -/
def execVstRaw (w : Site) (f : Fields) (s : State) : Result := .next (stV 3 .raw w f s)

/-- Short vector memory (R109, R114, R115). -/
def execVstFill (w : Site) (f : Fields) (s : State) : Result := .next (stV 4 .fill w f s)

end Sys2Proof.Machine
end

