-- ==== Sys2Proof/Machine/UtierVec.lean ====
section
/-! DEFINITION. Utier class 0x5: short vectors (04 R109, R112). -/

namespace Sys2Proof.Machine
open Sys2Proof


/-- A lane-wise operation of two `v` registers into `v d`. -/
def vecOp (op : Nat) (h : W32 → W32 → W32) (w : Site) (f : Fields) (s : State) : State :=
  issue1 s w 5 op f (static .short f (badV f.d || badV f.a || badV f.b) (f.e != 0)) (fun s =>
    let a := vr s w f.a
    let b := vr s w f.b
    .ok (setV s w f.d (vmake (fun i => h (vlane a i) (vlane b i)))))

/-- A lane-wise shift of `v a` by `e`; a shift of the whole width or more leaves 0 (DEDUCED, log 11). -/
def vecShift (op : Nat) (h : W32 → Nat → W32) (w : Site) (f : Fields) (s : State) : State :=
  issue1 s w 5 op f (static .short f (badV f.d || badV f.a) (f.b != 0)) (fun s =>
    let a := vr s w f.a
    .ok (setV s w f.d (vmake (fun i => h (vlane a i) f.e.toNat))))

/-- The lane that `e`[2:0] names; `e`[5:3] must be 0 (R112). -/
def laneOf (f : Fields) : Nat := f.e.toNat % 8
def laneHigh (f : Fields) : Bool := decide (8 ≤ f.e.toNat)

/-- `vadd` (R109). -/
def execVadd (w : Site) (f : Fields) (s : State) : Result := .next (vecOp 0 (fun a b => a + b) w f s)

/-- `vsub` (R109). -/
def execVsub (w : Site) (f : Fields) (s : State) : Result := .next (vecOp 1 (fun a b => a - b) w f s)

/-- `vmul` (R109). -/
def execVmul (w : Site) (f : Fields) (s : State) : Result := .next (vecOp 2 (fun a b => a * b) w f s)

/-- `vand` (R109). -/
def execVand (w : Site) (f : Fields) (s : State) : Result := .next (vecOp 3 (fun a b => a &&& b) w f s)

/-- `vor` (R109). -/
def execVor (w : Site) (f : Fields) (s : State) : Result := .next (vecOp 4 (fun a b => a ||| b) w f s)

/-- `vxor` (R109). -/
def execVxor (w : Site) (f : Fields) (s : State) : Result := .next (vecOp 5 (fun a b => a ^^^ b) w f s)

/-- `vfadd` (R109). -/
def execVfadd (w : Site) (f : Fields) (s : State) : Result := .next (vecOp 8 (F32.add) w f s)

/-- `vfmul` (R109). -/
def execVfmul (w : Site) (f : Fields) (s : State) : Result := .next (vecOp 9 (F32.mul) w f s)

/-- `vshl` (R109). -/
def execVshl (w : Site) (f : Fields) (s : State) : Result := .next (vecShift 6 (fun a k => a <<< k) w f s)

/-- `vshr` (R109). -/
def execVshr (w : Site) (f : Fields) (s : State) : Result := .next (vecShift 7 (fun a k => a >>> k) w f s)

/-- `vfma`: each lane of `v d` takes `a` x `b` + `d` with one rounding (R109, R111). -/
def execVfma (w : Site) (f : Fields) (s : State) : Result :=
  .next (issue1 s w 5 10 f (static .short f (badV f.d || badV f.a || badV f.b) (f.e != 0)) (fun s =>
    let a := vr s w f.a
    let b := vr s w f.b
    let d := vr s w f.d
    .ok (setV s w f.d (vmake (fun i => F32.fma (vlane a i) (vlane b i) (vlane d i))))))

/-- `vins`: lane `e`[2:0] of `v d` takes `x a`[31:0] (R109). -/
def execVins (w : Site) (f : Fields) (s : State) : Result :=
  .next (issue1 s w 5 16 f (static .short f (badV f.d) (f.b != 0 || laneHigh f)) (fun s =>
    let d := vr s w f.d
    .ok (setV s w f.d (vmake (fun i => if i = laneOf f then (xr s w f.a).setWidth 32 else vlane d i)))))

/-- `vext`: `x d` takes lane `e`[2:0] of `v a`, zero-extended (R109). -/
def execVext (w : Site) (f : Fields) (s : State) : Result :=
  .next (issue1 s w 5 17 f (static .short f (badV f.a) (f.b != 0 || laneHigh f)) (fun s =>
    .ok (setX s w f.d ((vlane (vr s w f.a) (laneOf f)).setWidth 64))))

/-- `vsplat`: `x a`[31:0] goes to each lane of `v d` (R112). -/
def execVsplat (w : Site) (f : Fields) (s : State) : Result :=
  .next (issue1 s w 5 18 f (static .short f (badV f.d) (f.b != 0 || f.e != 0)) (fun s =>
    .ok (setV s w f.d (vmake (fun _ => (xr s w f.a).setWidth 32)))))

/-- `vinsd`: lanes `e` and `e` + 1 of `v d` take `x a`, low half first; an odd lane is illegal (R109, R112). -/
def execVinsd (w : Site) (f : Fields) (s : State) : Result :=
  .next (issue1 s w 5 19 f (static .short f (badV f.d || decide (laneOf f % 2 = 1)) (f.b != 0 || laneHigh f)) (fun s =>
    let d := vr s w f.d
    let x := xr s w f.a
    .ok (setV s w f.d (vmake (fun i =>
      if i = laneOf f then x.setWidth 32 else if i = laneOf f + 1 then (x >>> 32).setWidth 32 else vlane d i)))))

end Sys2Proof.Machine
end

