-- ==== Sys2Proof/Machine/Writes.lean ====
section
/-! DEFINITION. Write frames (19 R519, R525 to R529, R531): staging, and the value as a whole carried to its object. -/

namespace Sys2Proof.Machine
open Sys2Proof

/-! ## Staging (R519) -/

/-- May a first segment announce this length: at most 65,536, at most the object's longest value, and a fixed length where it has one? -/
def totalOk (i sub n : Nat) : Bool :=
  match Dict.info i sub with
  | none => decide (n ≤ 65536)
  | some o =>
    if o.ty.lengthOk n = false then false
    else
      match i with
      | 0x6100 => sub != 1 || decide (n ≤ 1056)
      | 0x6140 => n == 64
      | 0x6141 => n == 9
      | 0x6170 => decide (n ≤ 8 + 16 * 256)
      | 0xA010 => n == 16384
      | 0xA200 => decide (n ≤ 68)
      | _ => true

/-- What a segment makes of the staging. -/
inductive Staged where
  | refused (st : Nat)
  | more (x : Nat × Nat × Bytes)
  | whole (v : Bytes)
  deriving DecidableEq, Repr

/-- A segment arrives: `x` is the object's key, the length announced and the bytes so far. -/
def stageSegment (x : Option (Nat × Nat × Bytes)) (f : Bytes) : Staged :=
  let i := fld f 0x10 2
  let sub := fld f 0x12 1
  let off := fld f 0x14 4
  let total := fld f 0x1C 4
  let start (x : Nat × Nat × Bytes) : Staged :=
    let b := x.2.2 ++ slice f 32 (fld f 0x18 2)
    if x.1 ≠ Dict.key i sub ∨ x.2.1 ≠ total ∨ x.2.2.length ≠ off ∨ total < b.length then .refused St.objSegment
    else if nbit (fld f 0x13 1) 0 then (if b.length = total then .whole b else .refused St.objSegment)
    else if b.length = total then .refused St.objSegment else .more (x.1, x.2.1, b)
  if off = 0 then
    if totalOk i sub total then start (Dict.key i sub, total, []) else .refused St.objLength
  else
    match x with
    | none => .refused St.objSegment
    | some x => start x

/-! ## The value reaches its object -/

/-- The state that a meaning leaves. -/
def after (s : State) (r : Result) : State :=
  match r with
  | .next t => t
  | _ => s

/-- A numbered place, where the number is one. -/
def atFin (n k : Nat) (d : State) (f : Fin n → State) : State := if h : k < n then f ⟨k, h⟩ else d

/-- The partition that an object's sub-index names. -/
def subPart (i sub : Nat) : Option Nat :=
  if i = 0x6150 ∨ i = 0x6160 then some (sub - 1) else none

/-- A value that its object cannot take though its type can (R254). -/
def valueBad (i : Nat) (v : Bytes) : Bool := i == 0x6150 && decide (fld v 0 8 % 65536 ≠ 0 ∨ fld v 8 8 % 65536 ≠ 0)

/-- The value that an object takes: reserved bits of a written value are ignored and read as 0 (R9). -/
def cleanValue (i sub : Nat) (v : Bytes) : Bytes := if i = 0x8010 ∧ sub = 3 then v.map (· &&& 3) else v

/-- An object without a row of its own: the value is kept; a new threshold of the store repair is compared at once (R399). -/
def plainWrite (s : State) (q : Req) (i sub : Nat) (v : Bytes) : State :=
  reqWrite s q i sub v (subPart i sub) (fun s w =>
    if valueBad i v then .error St.planRefused
    else
      match keepValue i sub (cleanValue i sub v) s w with
      | .error e => .error e
      | .ok (s, old, new) => .ok (if i = 0x2150 then (List.range 64).foldl checkLines s else s, old, new))

/-- Objects of groups 0x2000 to 0x4000 with a row of their own. -/
def writeLow (s : State) (q : Req) (i sub : Nat) (v : Bytes) : Option State :=
  match i with
  | 0x2100 => if sub = 1 then some (after s (execModePlanWrite q v s)) else none
  | 0x2104 => if sub = 0 then some (after s (execGalleryResetWrite q v s)) else none
  | 0x2110 => some (after s (execDispatchParamWrite q sub v s))
  | 0x3000 => if sub = 1 then some (after s (execCalibrationCommit q v s)) else none
  | 0x4000 => if sub = 1 then some (after s (execPackageBudgetWrite q v s)) else none
  | i => if 0x3100 ≤ i ∧ i ≤ 0x3104 ∧ sub = 1 then some (atFin 5 (i - 0x3100) s (fun k => after s (execCalibrationWrite q k v s))) else none

/-- Objects of group 0x6000 with a row of their own. -/
def writePart (s : State) (q : Req) (i sub : Nat) (v : Bytes) : Option State :=
  let byPart (f : Part → Result) : Option State := if sub = 0 ∨ 64 < sub then none else some (atFin 64 (sub - 1) s (fun p => after s (f p)))
  match i with
  | 0x6001 => byPart (fun p => execAllotmentWrite q p v s)
  | 0x6010 => if sub = 0 then some (after s (execSessionEntryWrite q v s)) else none
  | 0x6100 => if sub = 1 then some (after s (execParamSetRegister q v s)) else none
  | 0x6101 => if sub = 0 then some (after s (execParamSetUnregister q v s)) else none
  | 0x6103 => if sub = 4 then some (after s (execMarginWrite q v s)) else none
  | 0x6120 => byPart (fun p => execSecurityOverrideWrite q p v s)
  | 0x6140 => if sub = 1 then some (after s (execKeysetRegister q v s)) else none
  | 0x6141 => if sub = 0 then some (after s (execKeysetUnregister q v s)) else none
  | 0x6161 => byPart (fun p => execFloodingSigmaWrite q p v s)
  | 0x6170 => if sub = 1 then some (after s (execMapRequest q v s)) else none
  | 0x6180 => byPart (fun p => execRegulatorWrite q false p v s)
  | 0x6181 => byPart (fun p => execRegulatorWrite q true p v s)
  | 0x6190 => byPart (fun p => execItemLimitWrite q p v s)
  | _ => none

/-- Objects of groups 0x7000 to 0x9000 with a row of their own. The fuses of a burn by frame verify (log 43). -/
def writeLamp (s : State) (q : Req) (i sub : Nat) (v : Bytes) : Option State :=
  match i with
  | 0x7000 => if sub = 2 then some (after s (execFaultAck q v s)) else none
  | 0x7123 => if sub = 0 then some (after s (execLanternReadmit q v s)) else none
  | 0x8010 => if sub = 4 then some (after s (execTimeSet q v s)) else none
  | 0x9001 => if sub = 0 then some (after s (execLifeCycleTransition q v s)) else none
  | 0x9011 => if sub = 0 then some (after s (execCredentialBurn q v true s)) else none
  | 0x9012 => if sub = 0 then some (after s (execAnchorRevoke q v s)) else none
  | 0x9020 => if 4 < sub ∧ sub ≤ 64 then some (after s (execCredentialWrite q (sub - 1) v s)) else none
  | 0x9041 => if sub = 0 then some (after s (execFwKeyRevoke q v s)) else none
  | 0x9050 => if sub = 2 then some (after s (execSecurityVersionAdvance q v s)) else none
  | 0x9110 => if sub = 0 then some (after s (execFirmwareImageWrite q v s)) else none
  | _ => none

/-- Objects of groups 0xA000 to 0xC000 with a row of their own. -/
def writeHigh (s : State) (q : Req) (i sub : Nat) (v : Bytes) : Option State :=
  let place (n : Nat) (k : Nat) (f : Fin n → Result) : Option State := if sub = 0 ∨ n ≤ k then none else some (atFin n k s (fun p => after s (f p)))
  match i with
  | 0xA000 => if sub = 1 then some (after s (execDeviceIdWrite q v s)) else none
  | 0xA001 => place 36 (sub - 1) (fun f => execFlightEnableWrite q f v s)
  | 0xA010 => if sub = 0 then some (after s (execRouteTableWrite q v s)) else none
  | 0xA200 => place 64 (sub - 1) (fun p => execAdmissionWrite q p v s)
  | 0xB120 => place 64 (sub - 1) (fun p => execCompletionSlotAllot q p v s)
  | 0xC100 => if sub = 1 ∨ sub = 2 then some (after s (execHdmWindowWrite q sub v s)) else none
  | i =>
    if 0xB100 ≤ i ∧ i < 0xB108 ∧ sub ≤ 128 then place 1024 (128 * (i - 0xB100) + sub - 1) (fun r => execRingConfigWrite q r v s) else none

/-- Carry a value to its object: the meaning of its row, or the plain write. -/
def writeValue (s : State) (q : Req) (i sub : Nat) (v : Bytes) : State :=
  let own :=
    if i < 0x6000 then writeLow s q i sub v
    else if i < 0x7000 then writePart s q i sub v
    else if i < 0xA000 then writeLamp s q i sub v
    else writeHigh s q i sub v
  match own with
  | some t => t
  | none => plainWrite s q i sub v

/-- A whole value in a frame: the frame is answered as its write answers. -/
def serveValue (s : State) (q : Req) (key f v : Bytes) : State :=
  let s := { s with hal := { s.hal with serving := some (f, key) } }
  let s := writeValue s q (fld f 0x10 2) (fld f 0x12 1) v
  { s with hal := { s.hal with serving := none } }

/-! ## WRITE -/

/-- The staging of a session, or of a port's requests without one. -/
def stageOf (s : State) (q : Req) : Option (Nat × Nat × Bytes) :=
  if q.sess = 0 then (s.hal.anonStage.find? (fun c => c.1 == q.port)).map (·.2)
  else
    match Tab.get none q.sess s.hal.sess with
    | some y => y.stage
    | none => none

def setStage (s : State) (q : Req) (x : Option (Nat × Nat × Bytes)) : State :=
  if q.sess = 0 then
    { s with hal := { s.hal with anonStage := s.hal.anonStage.filter (fun c => c.1 != q.port) ++ (x.map (fun y => (q.port, y))).toList } }
  else { s with hal := { s.hal with sess := Tab.upd none q.sess (fun o => o.map (fun y => { y with stage := x })) s.hal.sess } }

/-- A segment within the rights of R520 and R526: staged, refused, or the last one of its value. -/
def segment (s : State) (q : Req) (key f : Bytes) : State :=
  let reply (s : State) (st : Nat) : State := respondFrame s q key f st [] 1 (fld f 0x14 4) 0
  match stageSegment (stageOf s q) f with
  | .refused st => reply (setStage s q none) st
  | .more x => reply (setStage s q (some x)) St.ok
  | .whole v => serveValue (setStage s q none) q key f v

/-- What a write without a session may do: the mailbox where R526 lets it, and the image of a device in recovery (R564). -/
def plainWriteOk (s : State) (p : Port) (i sub : Nat) : Bool :=
  match s.boot.stage with
  | .ready => p == .mailbox
  | .recovery => i == 0x9110 && sub == 0
  | _ => false

def writeFrame (s : State) (p : Port) (f : Bytes) : State :=
  let q : Req := { port := p, sess := fld f 4 4 }
  if q.sess = 0 then
    if plainWriteOk s p (fld f 0x10 2) (fld f 0x12 1) then segment (takeFrame s p) q [] f else plainReply s p f St.objAccess
  else if s.boot.stage ≠ .ready then plainReply s p f St.objAccess
  else inSession s p f (fun s y => segment s q y.d2c f)

/-- WRITE. -/
def execWrite (port : Port) (v : Bytes) (s : State) : Result := .next (arrive s port 7 v (fun s => writeFrame s port v))

end Sys2Proof.Machine
end

