-- ==== Sys2Proof/Machine/Dispatch.lean ====
section
/-! DEFINITION. The dispatch: one arm per command. -/

namespace Sys2Proof.Machine
open Sys2Proof

def exec (i : Instr) (s : State) : Host.Outcome State Fault Refusal :=
  match i with
  | .itemAdmit r => Sys2Proof.Machine.execItemAdmit r s
  | .sessionCacheFill h sid => Sys2Proof.Machine.execSessionCacheFill h sid s
  | .galleryTakeItem g => Sys2Proof.Machine.execGalleryTakeItem g s
  | .batchWindowExpiry h p fp => Sys2Proof.Machine.execBatchWindowExpiry h p fp s
  | .noGalleryTimeout h r idx => Sys2Proof.Machine.execNoGalleryTimeout h r idx s
  | .sessionEntryWrite q v => Sys2Proof.Machine.execSessionEntryWrite q v s
  | .sessionChangeAck sid => Sys2Proof.Machine.execSessionChangeAck sid s
  | .itemLimitWrite q p v => Sys2Proof.Machine.execItemLimitWrite q p v s
  | .dispatchParamWrite q sub v => Sys2Proof.Machine.execDispatchParamWrite q sub v s
  | .modePlanWrite q v => Sys2Proof.Machine.execModePlanWrite q v s
  | .galleryModeChange g => Sys2Proof.Machine.execGalleryModeChange g s
  | .galleryPowerGrant g => Sys2Proof.Machine.execGalleryPowerGrant g s
  | .modeDeadlineExpiry => Sys2Proof.Machine.execModeDeadlineExpiry s
  | .galleryReleaseTest g pass => Sys2Proof.Machine.execGalleryReleaseTest g pass s
  | .brownoutDetect h => Sys2Proof.Machine.execBrownoutDetect h s
  | .brownoutRecover h => Sys2Proof.Machine.execBrownoutRecover h s
  | .brownoutTimeout h => Sys2Proof.Machine.execBrownoutTimeout h s
  | .reftimeBroadcast => Sys2Proof.Machine.execReftimeBroadcast s
  | .reftimeLoRead => Sys2Proof.Machine.execReftimeLoRead s
  | .paceMonitorSample h counts => Sys2Proof.Machine.execPaceMonitorSample h counts s
  | .taskComplete g => Sys2Proof.Machine.execTaskComplete g s
  | .threadResume w => Sys2Proof.Machine.execThreadResume w s
  | .icacheMissFill g line poisoned => Sys2Proof.Machine.execIcacheMissFill g line poisoned s
  | .icacheParityError g l line => Sys2Proof.Machine.execIcacheParityError g l line s
  | .stallCensusAbort g => Sys2Proof.Machine.execStallCensusAbort g s
  | .moduleLoad payload => Sys2Proof.Machine.execModuleLoad payload s
  | .moduleTranslationDone => Sys2Proof.Machine.execModuleTranslationDone s
  | .moduleUnload payload => Sys2Proof.Machine.execModuleUnload payload s
  | .add w f => Sys2Proof.Machine.execAdd w f s
  | .sub w f => Sys2Proof.Machine.execSub w f s
  | .and w f => Sys2Proof.Machine.execAnd w f s
  | .or w f => Sys2Proof.Machine.execOr w f s
  | .xor w f => Sys2Proof.Machine.execXor w f s
  | .shl w f => Sys2Proof.Machine.execShl w f s
  | .shr w f => Sys2Proof.Machine.execShr w f s
  | .sar w f => Sys2Proof.Machine.execSar w f s
  | .mul w f => Sys2Proof.Machine.execMul w f s
  | .mulh w f => Sys2Proof.Machine.execMulh w f s
  | .mulhu w f => Sys2Proof.Machine.execMulhu w f s
  | .div w f => Sys2Proof.Machine.execDiv w f s
  | .divu w f => Sys2Proof.Machine.execDivu w f s
  | .rem w f => Sys2Proof.Machine.execRem w f s
  | .remu w f => Sys2Proof.Machine.execRemu w f s
  | .min w f => Sys2Proof.Machine.execMin w f s
  | .max w f => Sys2Proof.Machine.execMax w f s
  | .minu w f => Sys2Proof.Machine.execMinu w f s
  | .maxu w f => Sys2Proof.Machine.execMaxu w f s
  | .slt w f => Sys2Proof.Machine.execSlt w f s
  | .sltu w f => Sys2Proof.Machine.execSltu w f s
  | .seq w f => Sys2Proof.Machine.execSeq w f s
  | .addi w f => Sys2Proof.Machine.execAddi w f s
  | .andi w f => Sys2Proof.Machine.execAndi w f s
  | .ori w f => Sys2Proof.Machine.execOri w f s
  | .xori w f => Sys2Proof.Machine.execXori w f s
  | .shli w f => Sys2Proof.Machine.execShli w f s
  | .shri w f => Sys2Proof.Machine.execShri w f s
  | .sari w f => Sys2Proof.Machine.execSari w f s
  | .slti w f => Sys2Proof.Machine.execSlti w f s
  | .sltiu w f => Sys2Proof.Machine.execSltiu w f s
  | .li w f => Sys2Proof.Machine.execLi w f s
  | .lui w f => Sys2Proof.Machine.execLui w f s
  | .fadd w f => Sys2Proof.Machine.execFadd w f s
  | .fsub w f => Sys2Proof.Machine.execFsub w f s
  | .fmul w f => Sys2Proof.Machine.execFmul w f s
  | .fma w f => Sys2Proof.Machine.execFma w f s
  | .fmin w f => Sys2Proof.Machine.execFmin w f s
  | .fmax w f => Sys2Proof.Machine.execFmax w f s
  | .fneg w f => Sys2Proof.Machine.execFneg w f s
  | .fabs w f => Sys2Proof.Machine.execFabs w f s
  | .flt w f => Sys2Proof.Machine.execFlt w f s
  | .fle w f => Sys2Proof.Machine.execFle w f s
  | .feq w f => Sys2Proof.Machine.execFeq w f s
  | .fcvtI w f => Sys2Proof.Machine.execFcvtI w f s
  | .fcvtF w f => Sys2Proof.Machine.execFcvtF w f s
  | .fmvX w f => Sys2Proof.Machine.execFmvX w f s
  | .fmvF w f => Sys2Proof.Machine.execFmvF w f s
  | .ldW w f => Sys2Proof.Machine.execLdW w f s
  | .ldD w f => Sys2Proof.Machine.execLdD w f s
  | .ldF w f => Sys2Proof.Machine.execLdF w f s
  | .ldTakeW w f => Sys2Proof.Machine.execLdTakeW w f s
  | .ldTakeD w f => Sys2Proof.Machine.execLdTakeD w f s
  | .stW w f => Sys2Proof.Machine.execStW w f s
  | .stD w f => Sys2Proof.Machine.execStD w f s
  | .stF w f => Sys2Proof.Machine.execStF w f s
  | .stFillW w f => Sys2Proof.Machine.execStFillW w f s
  | .stFillD w f => Sys2Proof.Machine.execStFillD w f s
  | .ldRawW w f => Sys2Proof.Machine.execLdRawW w f s
  | .ldRawD w f => Sys2Proof.Machine.execLdRawD w f s
  | .stRawW w f => Sys2Proof.Machine.execStRawW w f s
  | .stRawD w f => Sys2Proof.Machine.execStRawD w f s
  | .amoAdd w f => Sys2Proof.Machine.execAmoAdd w f s
  | .amoSwap w f => Sys2Proof.Machine.execAmoSwap w f s
  | .beq w f => Sys2Proof.Machine.execBeq w f s
  | .bne w f => Sys2Proof.Machine.execBne w f s
  | .blt w f => Sys2Proof.Machine.execBlt w f s
  | .bge w f => Sys2Proof.Machine.execBge w f s
  | .bltu w f => Sys2Proof.Machine.execBltu w f s
  | .bgeu w f => Sys2Proof.Machine.execBgeu w f s
  | .jal w f => Sys2Proof.Machine.execJal w f s
  | .jr w f => Sys2Proof.Machine.execJr w f s
  | .vadd w f => Sys2Proof.Machine.execVadd w f s
  | .vsub w f => Sys2Proof.Machine.execVsub w f s
  | .vmul w f => Sys2Proof.Machine.execVmul w f s
  | .vand w f => Sys2Proof.Machine.execVand w f s
  | .vor w f => Sys2Proof.Machine.execVor w f s
  | .vxor w f => Sys2Proof.Machine.execVxor w f s
  | .vshl w f => Sys2Proof.Machine.execVshl w f s
  | .vshr w f => Sys2Proof.Machine.execVshr w f s
  | .vfadd w f => Sys2Proof.Machine.execVfadd w f s
  | .vfmul w f => Sys2Proof.Machine.execVfmul w f s
  | .vfma w f => Sys2Proof.Machine.execVfma w f s
  | .vins w f => Sys2Proof.Machine.execVins w f s
  | .vext w f => Sys2Proof.Machine.execVext w f s
  | .vsplat w f => Sys2Proof.Machine.execVsplat w f s
  | .vinsd w f => Sys2Proof.Machine.execVinsd w f s
  | .vld w f => Sys2Proof.Machine.execVld w f s
  | .vst w f => Sys2Proof.Machine.execVst w f s
  | .vldRaw w f => Sys2Proof.Machine.execVldRaw w f s
  | .vstRaw w f => Sys2Proof.Machine.execVstRaw w f s
  | .vstFill w f => Sys2Proof.Machine.execVstFill w f s
  | .mxLdw w f => Sys2Proof.Machine.execMxLdw w f s
  | .mxRun w f => Sys2Proof.Machine.execMxRun w f s
  | .mxDrain w f => Sys2Proof.Machine.execMxDrain w f s
  | .qpush w qn f => Sys2Proof.Machine.execQpush w qn f s
  | .qpushFromScratchpad w qn f => Sys2Proof.Machine.execQpushFromScratchpad w qn f s
  | .flagSet w f => Sys2Proof.Machine.execFlagSet w f s
  | .flagSeti w f => Sys2Proof.Machine.execFlagSeti w f s
  | .flagAdd w f => Sys2Proof.Machine.execFlagAdd w f s
  | .flagAddi w f => Sys2Proof.Machine.execFlagAddi w f s
  | .flagWait w f => Sys2Proof.Machine.execFlagWait w f s
  | .flagWaiti w f => Sys2Proof.Machine.execFlagWaiti w f s
  | .flagRead w f => Sys2Proof.Machine.execFlagRead w f s
  | .barArrive w f => Sys2Proof.Machine.execBarArrive w f s
  | .fence w f => Sys2Proof.Machine.execFence w f s
  | .mcall w f => Sys2Proof.Machine.execMcall w f s
  | .nop w f => Sys2Proof.Machine.execNop w f s
  | .endThread w f => Sys2Proof.Machine.execEndThread w f s
  | .rdtime w f => Sys2Proof.Machine.execRdtime w f s
  | .rdctx w f => Sys2Proof.Machine.execRdctx w f s
  | .rdskip w f => Sys2Proof.Machine.execRdskip w f s
  | .loadWeights g l at_ => Sys2Proof.Machine.execLoadWeights g l at_ s
  | .arrayRun g l at_ => Sys2Proof.Machine.execArrayRun g l at_ s
  | .arrayDrain g l at_ => Sys2Proof.Machine.execArrayDrain g l at_ s
  | .modularLoad g l at_ => Sys2Proof.Machine.execModularLoad g l at_ s
  | .modularRun g l at_ => Sys2Proof.Machine.execModularRun g l at_ s
  | .arrayResidueMismatch g l => Sys2Proof.Machine.execArrayResidueMismatch g l s
  | .paramSetRegister q v => Sys2Proof.Machine.execParamSetRegister q v s
  | .paramSetUnregister q v => Sys2Proof.Machine.execParamSetUnregister q v s
  | .marginWrite q v => Sys2Proof.Machine.execMarginWrite q v s
  | .securityOverrideWrite q p v => Sys2Proof.Machine.execSecurityOverrideWrite q p v s
  | .keysetRegister q v => Sys2Proof.Machine.execKeysetRegister q v s
  | .keysetUnregister q v => Sys2Proof.Machine.execKeysetUnregister q v s
  | .blockHeaderRead g k => Sys2Proof.Machine.execBlockHeaderRead g k s
  | .taperPayloadLand g k => Sys2Proof.Machine.execTaperPayloadLand g k s
  | .keyStreamTimeout g k => Sys2Proof.Machine.execKeyStreamTimeout g k s
  | .macroAdd g => Sys2Proof.Machine.execMacroAdd g s
  | .macroSub g => Sys2Proof.Machine.execMacroSub g s
  | .macroAddp g => Sys2Proof.Machine.execMacroAddp g s
  | .macroMulp g => Sys2Proof.Machine.execMacroMulp g s
  | .macroMul g => Sys2Proof.Machine.execMacroMul g s
  | .macroRelin g => Sys2Proof.Machine.execMacroRelin g s
  | .macroMulr g => Sys2Proof.Machine.execMacroMulr g s
  | .macroRescale g => Sys2Proof.Machine.execMacroRescale g s
  | .macroRescale2 g => Sys2Proof.Machine.execMacroRescale2 g s
  | .macroModsw g => Sys2Proof.Machine.execMacroModsw g s
  | .macroKswitch g => Sys2Proof.Machine.execMacroKswitch g s
  | .macroRotate g => Sys2Proof.Machine.execMacroRotate g s
  | .macroHrotate g => Sys2Proof.Machine.execMacroHrotate g s
  | .macroConj g => Sys2Proof.Machine.execMacroConj g s
  | .macroBootstrap g => Sys2Proof.Machine.execMacroBootstrap g s
  | .macroRelease g => Sys2Proof.Machine.execMacroRelease g s
  | .macroTocoeff g => Sys2Proof.Machine.execMacroTocoeff g s
  | .macroEnd g => Sys2Proof.Machine.execMacroEnd g s
  | .trngHealthFail h samples => Sys2Proof.Machine.execTrngHealthFail h samples s
  | .trngRetry h samples => Sys2Proof.Machine.execTrngRetry h samples s
  | .floodingSigmaWrite q p v => Sys2Proof.Machine.execFloodingSigmaWrite q p v s
  | .veFadd g l => Sys2Proof.Machine.execVeFadd g l s
  | .veFsub g l => Sys2Proof.Machine.execVeFsub g l s
  | .veFmul g l => Sys2Proof.Machine.execVeFmul g l s
  | .veFma g l => Sys2Proof.Machine.execVeFma g l s
  | .fms g l => Sys2Proof.Machine.execFms g l s
  | .fsm g l => Sys2Proof.Machine.execFsm g l s
  | .veFmin g l => Sys2Proof.Machine.execVeFmin g l s
  | .veFmax g l => Sys2Proof.Machine.execVeFmax g l s
  | .veFabs g l => Sys2Proof.Machine.execVeFabs g l s
  | .veFneg g l => Sys2Proof.Machine.execVeFneg g l s
  | .fadds g l => Sys2Proof.Machine.execFadds g l s
  | .fmuls g l => Sys2Proof.Machine.execFmuls g l s
  | .iadd g l => Sys2Proof.Machine.execIadd g l s
  | .isub g l => Sys2Proof.Machine.execIsub g l s
  | .imul g l => Sys2Proof.Machine.execImul g l s
  | .veAnd g l => Sys2Proof.Machine.execVeAnd g l s
  | .veOr g l => Sys2Proof.Machine.execVeOr g l s
  | .veXor g l => Sys2Proof.Machine.execVeXor g l s
  | .veShl g l => Sys2Proof.Machine.execVeShl g l s
  | .veShr g l => Sys2Proof.Machine.execVeShr g l s
  | .veSar g l => Sys2Proof.Machine.execVeSar g l s
  | .imin g l => Sys2Proof.Machine.execImin g l s
  | .imax g l => Sys2Proof.Machine.execImax g l s
  | .cvt g l => Sys2Proof.Machine.execCvt g l s
  | .quantise g l => Sys2Proof.Machine.execQuantise g l s
  | .dequantise g l => Sys2Proof.Machine.execDequantise g l s
  | .veCopy g l => Sys2Proof.Machine.execVeCopy g l s
  | .rsum g l => Sys2Proof.Machine.execRsum g l s
  | .rmax g l => Sys2Proof.Machine.execRmax g l s
  | .rmin g l => Sys2Proof.Machine.execRmin g l s
  | .rabsmax g l => Sys2Proof.Machine.execRabsmax g l s
  | .rstat g l => Sys2Proof.Machine.execRstat g l s
  | .mred g l => Sys2Proof.Machine.execMred g l s
  | .madd g l => Sys2Proof.Machine.execMadd g l s
  | .msub g l => Sys2Proof.Machine.execMsub g l s
  | .mneg g l => Sys2Proof.Machine.execMneg g l s
  | .mmul g l => Sys2Proof.Machine.execMmul g l s
  | .mmac g l => Sys2Proof.Machine.execMmac g l s
  | .mmulp g l => Sys2Proof.Machine.execMmulp g l s
  | .sAdd g l => Sys2Proof.Machine.execSAdd g l s
  | .sSub g l => Sys2Proof.Machine.execSSub g l s
  | .sAddc g l => Sys2Proof.Machine.execSAddc g l s
  | .sMulc g l => Sys2Proof.Machine.execSMulc g l s
  | .sOpen g l => Sys2Proof.Machine.execSOpen g l s
  | .sBeaver g l => Sys2Proof.Machine.execSBeaver g l s
  | .sSample g l => Sys2Proof.Machine.execSSample g l s
  | .smpU32 g l => Sys2Proof.Machine.execSmpU32 g l s
  | .smpModq g l => Sys2Proof.Machine.execSmpModq g l s
  | .smpTern g l => Sys2Proof.Machine.execSmpTern g l s
  | .smpCbd g l => Sys2Proof.Machine.execSmpCbd g l s
  | .smpGauss g l => Sys2Proof.Machine.execSmpGauss g l s
  | .ringReadStart g l at_ => Sys2Proof.Machine.execRingReadStart g l at_ s
  | .exp g l => Sys2Proof.Machine.execExp g l s
  | .log g l => Sys2Proof.Machine.execLog g l s
  | .recip g l => Sys2Proof.Machine.execRecip g l s
  | .rsqrt g l => Sys2Proof.Machine.execRsqrt g l s
  | .sigmoid g l => Sys2Proof.Machine.execSigmoid g l s
  | .tanh g l => Sys2Proof.Machine.execTanh g l s
  | .softplus g l => Sys2Proof.Machine.execSoftplus g l s
  | .sqrt g l => Sys2Proof.Machine.execSqrt g l s
  | .sfuDiv g l => Sys2Proof.Machine.execSfuDiv g l s
  | .silu g l => Sys2Proof.Machine.execSilu g l s
  | .geluT g l => Sys2Proof.Machine.execGeluT g l s
  | .smBlock g l => Sys2Proof.Machine.execSmBlock g l s
  | .smFinal g l => Sys2Proof.Machine.execSmFinal g l s
  | .rope g l => Sys2Proof.Machine.execRope g l s
  | .lmCopy g l => Sys2Proof.Machine.execLmCopy g l s
  | .fill g l => Sys2Proof.Machine.execFill g l s
  | .gather g l => Sys2Proof.Machine.execGather g l s
  | .scatter g l => Sys2Proof.Machine.execScatter g l s
  | .scatterAdd g l => Sys2Proof.Machine.execScatterAdd g l s
  | .galoisEval g l => Sys2Proof.Machine.execGaloisEval g l s
  | .galoisCoef g l => Sys2Proof.Machine.execGaloisCoef g l s
  | .translationWalk g asid va => Sys2Proof.Machine.execTranslationWalk g asid va s
  | .mapRequest q v => Sys2Proof.Machine.execMapRequest q v s
  | .mapAck => Sys2Proof.Machine.execMapAck s
  | .fetch g l => Sys2Proof.Machine.execFetch g l s
  | .store g l => Sys2Proof.Machine.execStore g l s
  | .burstLand g l bno => Sys2Proof.Machine.execBurstLand g l bno s
  | .burstWriteAck g l bno => Sys2Proof.Machine.execBurstWriteAck g l bno s
  | .burstRelease g l bno => Sys2Proof.Machine.execBurstRelease g l bno s
  | .storeEccError g l word => Sys2Proof.Machine.execStoreEccError g l word s
  | .storeCorrectedError g l word vote => Sys2Proof.Machine.execStoreCorrectedError g l word vote s
  | .bankRetentionEntry bk => Sys2Proof.Machine.execBankRetentionEntry bk s
  | .bankWake bk => Sys2Proof.Machine.execBankWake bk s
  | .deepRetentionError h bank sid => Sys2Proof.Machine.execDeepRetentionError h bank sid s
  | .normPassDone g => Sys2Proof.Machine.execNormPassDone g s
  | .dramSensorRead st reading => Sys2Proof.Machine.execDramSensorRead st reading s
  | .dramUncorrectable addr => Sys2Proof.Machine.execDramUncorrectable addr s
  | .bondCrcFail addr => Sys2Proof.Machine.execBondCrcFail addr s
  | .dramScrub addr found => Sys2Proof.Machine.execDramScrub addr found s
  | .regulatorWrite q depth p v => Sys2Proof.Machine.execRegulatorWrite q depth p v s
  | .dramWipeDone => Sys2Proof.Machine.execDramWipeDone s
  | .hdmWindowWrite q sub v => Sys2Proof.Machine.execHdmWindowWrite q sub v s
  | .hostWindowWrite off v poison => Sys2Proof.Machine.execHostWindowWrite off v poison s
  | .hostWindowRead off hold => Sys2Proof.Machine.execHostWindowRead off hold s
  | .flightTrainingDone f lanes neighbour => Sys2Proof.Machine.execFlightTrainingDone f lanes neighbour s
  | .treadReceive f v => Sys2Proof.Machine.execTreadReceive f v s
  | .nackReceive f sq => Sys2Proof.Machine.execNackReceive f sq s
  | .retryTimeout f => Sys2Proof.Machine.execRetryTimeout f s
  | .idleTreadDue f => Sys2Proof.Machine.execIdleTreadDue f s
  | .retrainDone f ok => Sys2Proof.Machine.execRetrainDone f ok s
  | .creditStall f vc => Sys2Proof.Machine.execCreditStall f vc s
  | .deviceIdWrite q v => Sys2Proof.Machine.execDeviceIdWrite q v s
  | .routeTableWrite q v => Sys2Proof.Machine.execRouteTableWrite q v s
  | .admissionWrite q p v => Sys2Proof.Machine.execAdmissionWrite q p v s
  | .flightEnableWrite q f v => Sys2Proof.Machine.execFlightEnableWrite q f v s
  | .put m => Sys2Proof.Machine.execPut m s
  | .putAck m => Sys2Proof.Machine.execPutAck m s
  | .get m => Sys2Proof.Machine.execGet m s
  | .getResponse m => Sys2Proof.Machine.execGetResponse m s
  | .keyRequest m => Sys2Proof.Machine.execKeyRequest m s
  | .keyHeader m => Sys2Proof.Machine.execKeyHeader m s
  | .keyPayload m => Sys2Proof.Machine.execKeyPayload m s
  | .keyRefusal m => Sys2Proof.Machine.execKeyRefusal m s
  | .signal m => Sys2Proof.Machine.execSignal m s
  | .barrierArrive m => Sys2Proof.Machine.execBarrierArrive m s
  | .barrierRelease m => Sys2Proof.Machine.execBarrierRelease m s
  | .messageTimeout g tag => Sys2Proof.Machine.execMessageTimeout g tag s
  | .doorbellWrite r tail => Sys2Proof.Machine.execDoorbellWrite r tail s
  | .ringItemRead r v poison => Sys2Proof.Machine.execRingItemRead r v poison s
  | .ringConfigWrite q r v => Sys2Proof.Machine.execRingConfigWrite q r v s
  | .completionSlotAllot q p v => Sys2Proof.Machine.execCompletionSlotAllot q p v s
  | .signalItem h r idx => Sys2Proof.Machine.execSignalItem h r idx s
  | .barrierArriveItem h r idx => Sys2Proof.Machine.execBarrierArriveItem h r idx s
  | .decoderCommit dec base size => Sys2Proof.Machine.execDecoderCommit dec base size s
  | .biSnoopResponse line => Sys2Proof.Machine.execBiSnoopResponse line s
  | .biTimeout line => Sys2Proof.Machine.execBiTimeout line s
  | .statusWindowRead off hold => Sys2Proof.Machine.execStatusWindowRead off hold s
  | .linkDown => Sys2Proof.Machine.execLinkDown s
  | .hotReset => Sys2Proof.Machine.execHotReset s
  | .ideFailure => Sys2Proof.Machine.execIdeFailure s
  | .cxlReset => Sys2Proof.Machine.execCxlReset s
  | .tspBind mask sess => Sys2Proof.Machine.execTspBind mask sess s
  | .getEventRecords log => Sys2Proof.Machine.execGetEventRecords log s
  | .clearEventRecords log n => Sys2Proof.Machine.execClearEventRecords log n s
  | .getSupportedLogs => Sys2Proof.Machine.execGetSupportedLogs s
  | .getLog => Sys2Proof.Machine.execGetLog s
  | .identifyMemoryDevice => Sys2Proof.Machine.execIdentifyMemoryDevice s
  | .doeDiscovery => Sys2Proof.Machine.execDoeDiscovery s
  | .cdatTableAccess => Sys2Proof.Machine.execCdatTableAccess s
  | .spdmRequest m => Sys2Proof.Machine.execSpdmRequest m s
  | .ideKm sess keys => Sys2Proof.Machine.execIdeKm sess keys s
  | .discover q => Sys2Proof.Machine.execDiscover q s
  | .discoverReply => Sys2Proof.Machine.execDiscoverReply s
  | .open1 port v => Sys2Proof.Machine.execOpen1 port v s
  | .open3 port v => Sys2Proof.Machine.execOpen3 port v s
  | .read port v => Sys2Proof.Machine.execRead port v s
  | .write port v => Sys2Proof.Machine.execWrite port v s
  | .close port v => Sys2Proof.Machine.execClose port v s
  | .sessionIdleTimeout sess => Sys2Proof.Machine.execSessionIdleTimeout sess s
  | .icmpv6Request m => Sys2Proof.Machine.execIcmpv6Request m s
  | .faultRecordRead q => Sys2Proof.Machine.execFaultRecordRead q s
  | .journalRead q => Sys2Proof.Machine.execJournalRead q s
  | .timeSet q v => Sys2Proof.Machine.execTimeSet q v s
  | .timeCorrection src v => Sys2Proof.Machine.execTimeCorrection src v s
  | .journalProgram => Sys2Proof.Machine.execJournalProgram s
  | .calibrationWrite q item v => Sys2Proof.Machine.execCalibrationWrite q item v s
  | .calibrationCommit q v => Sys2Proof.Machine.execCalibrationCommit q v s
  | .calibrationCommitDone ok => Sys2Proof.Machine.execCalibrationCommitDone ok s
  | .allotmentWrite q p v => Sys2Proof.Machine.execAllotmentWrite q p v s
  | .packageBudgetWrite q v => Sys2Proof.Machine.execPackageBudgetWrite q v s
  | .credentialBurn q v ok => Sys2Proof.Machine.execCredentialBurn q v ok s
  | .anchorRevoke q v => Sys2Proof.Machine.execAnchorRevoke q v s
  | .credentialWrite q entry v => Sys2Proof.Machine.execCredentialWrite q entry v s
  | .fwKeyRevoke q v => Sys2Proof.Machine.execFwKeyRevoke q v s
  | .pkeSubmit hi => Sys2Proof.Machine.execPkeSubmit hi s
  | .verify desc operands => Sys2Proof.Machine.execVerify desc operands s
  | .sign desc operands => Sys2Proof.Machine.execSign desc operands s
  | .ecdh desc operands => Sys2Proof.Machine.execEcdh desc operands s
  | .scalarMultiply desc operands => Sys2Proof.Machine.execScalarMultiply desc operands s
  | .pointCheck desc operands => Sys2Proof.Machine.execPointCheck desc operands s
  | .loadCurve desc operands => Sys2Proof.Machine.execLoadCurve desc operands s
  | .pkeJobComplete => Sys2Proof.Machine.execPkeJobComplete s
  | .pkeDoneRead => Sys2Proof.Machine.execPkeDoneRead s
  | .firmwareImageWrite q v => Sys2Proof.Machine.execFirmwareImageWrite q v s
  | .firmwareProgramDone ok => Sys2Proof.Machine.execFirmwareProgramDone ok s
  | .securityVersionAdvance q v => Sys2Proof.Machine.execSecurityVersionAdvance q v s
  | .lifeCycleTransition q v => Sys2Proof.Machine.execLifeCycleTransition q v s
  | .lampSramError fatal => Sys2Proof.Machine.execLampSramError fatal s
  | .watchdogExpiry => Sys2Proof.Machine.execWatchdogExpiry s
  | .arbiterCycle rd => Sys2Proof.Machine.execArbiterCycle rd s
  | .gatingLiftStep g => Sys2Proof.Machine.execGatingLiftStep g s
  | .thermalCycle h junction dram => Sys2Proof.Machine.execThermalCycle h junction dram s
  | .thermtrip reading => Sys2Proof.Machine.execThermtrip reading s
  | .sensorSelfCheck sn reading others => Sys2Proof.Machine.execSensorSelfCheck sn reading others s
  | .avsTimeout h => Sys2Proof.Machine.execAvsTimeout h s
  | .railOvervoltage h => Sys2Proof.Machine.execRailOvervoltage h s
  | .faultRecordHandle => Sys2Proof.Machine.execFaultRecordHandle s
  | .faultRecordCopy => Sys2Proof.Machine.execFaultRecordCopy s
  | .faultAck q v => Sys2Proof.Machine.execFaultAck q v s
  | .heartbeatMiss g phys => Sys2Proof.Machine.execHeartbeatMiss g phys s
  | .staleLanternRequest g phys inc => Sys2Proof.Machine.execStaleLanternRequest g phys inc s
  | .deadLanternRehold g phys => Sys2Proof.Machine.execDeadLanternRehold g phys s
  | .lanternReadmit q v => Sys2Proof.Machine.execLanternReadmit q v s
  | .readmitTestDone g phys pass => Sys2Proof.Machine.execReadmitTestDone g phys pass s
  | .galleryResetWrite q v => Sys2Proof.Machine.execGalleryResetWrite q v s
  | .pwrgoodRise straps boot => Sys2Proof.Machine.execPwrgoodRise straps boot s
  | .hallStartupTimeout h => Sys2Proof.Machine.execHallStartupTimeout h s
  | .startupReady boot => Sys2Proof.Machine.execStartupReady boot s
  | .pwrgoodFall => Sys2Proof.Machine.execPwrgoodFall s
  | .perstAssert => Sys2Proof.Machine.execPerstAssert s
  | .perstRelease boot => Sys2Proof.Machine.execPerstRelease boot s
  | .registerWrite off v => Sys2Proof.Machine.execRegisterWrite off v s
  | .engineDescriptorEnd g l u => Sys2Proof.Machine.execEngineDescriptorEnd g l u s
  | .paramSetRegistrationDone ps => Sys2Proof.Machine.execParamSetRegistrationDone ps s
  | .cxlLinkUp cxl => Sys2Proof.Machine.execCxlLinkUp cxl s
  | .timeSourceLockChange src on => Sys2Proof.Machine.execTimeSourceLockChange src on s
  | .fieldPortLinkChange up => Sys2Proof.Machine.execFieldPortLinkChange up s
  | .faultSeqLoRead => Sys2Proof.Machine.execFaultSeqLoRead s
  | .faultHandlingTimeout => Sys2Proof.Machine.execFaultHandlingTimeout s

end Sys2Proof.Machine
end

