-- ==== Sys2Proof/Machine/Step.lean ====
section
/-! DEFINITION. One step: the command at the front of the queue, or one nanosecond of idle time. -/

namespace Sys2Proof.Machine
open Sys2Proof

/-- DESIGN CHOICE (log 1). With no command waiting the reference timer moves one nanosecond, with its copies (R56, R57), and nothing else happens. -/
def State.tick (s : State) : State := passNs s

/-- Run the oldest waiting command, or tick. -/
def step (s : State) : Host.Outcome State Fault Refusal :=
  match s.pending with
  | [] => .next s.tick
  | c :: rest => exec c { s with pending := rest }

/-- `s` with the command that the word spells at the front of its queue; no word spells one (the table has no bits). -/
def State.withFetchWord (s : State) (nbits w : Nat) : State :=
  match decodeTableWord nbits w with
  | some c => { s with pending := c :: s.pending }
  | none => s

end Sys2Proof.Machine
end

