-- ==== Sys2Proof/Safety.lean ====
section
/-! DEFINITION. What counts as a safe run, and the conditions and results in whose terms the statements are written. -/

namespace Sys2Proof.Safety
open Sys2Proof Sys2Proof.Machine

/-- The next `k` steps from `s` all answer a next state. -/
def runsSafely : Nat → State → Prop
  | 0, _ => True
  | k + 1, s => ∃ t, step s = .next t ∧ runsSafely k t

/-- A command completes in `t`. -/
def Gives (c : Instr) (s t : State) : Prop := exec c s = .next t

/-- A command whose effect leads to `t`: where what it touches in DRAM need not wait (R52, R506), it completes in `t`; else the snoops leave and nothing else
happens, and the command comes again once they are answered (log 12). -/
def GivesAwaited (c : Instr) (s t : State) : Prop :=
  (dramBusy s t = false → Gives c s t) ∧ (dramBusy s t = true → Gives c s (sendSnoops s (toSnoop s t)))

/-- The same for a command that ends with the delivery of what the device has sent to itself (`settle`, R469). -/
def SettlesAwaited (c : Instr) (s t : State) : Prop :=
  (dramBusy s t = false → Gives c s (settle t)) ∧ (dramBusy s t = true → Gives c s (settle (sendSnoops s (toSnoop s t))))

/-- A message for this device reaches the unit that takes it, whose effect leads to `t` (R52, R59, R61, R506): where no held hall lies on its way, none that came the same way
waits before it and what it touches need not wait, it is taken; one that must wait for snoops waits, in order; the landing of the first held hall on its way keeps it
in its buffer of 64 KiB or behind it. `after`: what each such command ends with. -/
def Lands (c : Instr) (s : State) (m : Msg) (t : State) (after : State → State) : Prop :=
  let x : StuckMsg := { flight := 36, credits := [], msg := m }
  (heldOnWay s none m = none →
    (behind s x = false → dramBusy s t = false → Gives c s (after t)) ∧
    (behind s x = false → dramBusy s t = true → Gives c s (after (park (sendSnoops s (toSnoop s t)) x))) ∧
    (behind s x = true → Gives c s (after (park s x)))) ∧
  (∀ h, heldOnWay s none m = some h →
    let y := (s.hallAt h).land
    let keeps (f : Landing → Landing) : Prop := Gives c s (after (s.updHall h (fun z => { z with land := f z.land })))
    (y.stuck = [] → y.ioBytes + 48 + m.data.length ≤ 65536 → keeps (fun z => { z with io := z.io ++ [(none, m)] })) ∧
    (y.stuck ≠ [] ∨ 65536 < y.ioBytes + 48 + m.data.length → keeps (fun z => { z with stuck := z.stuck ++ [x] })))

/-! ## FP32 (04) -/

/-- Is a word a finite number? -/
def fpFinite (w : W32) : Prop := w.toNat / 2 ^ 23 % 256 ≠ 255

/-- The value of a finite FP32 number in units of 2^-149, of which every one is a multiple. -/
def fpUnits (w : W32) : Int :=
  let ex : Nat := w.toNat / 2 ^ 23 % 256
  let mn : Nat := w.toNat % 2 ^ 23
  let m : Nat := if ex = 0 then mn else (mn + 2 ^ 23) * 2 ^ (ex - 1)
  if w.toNat < 2 ^ 31 then (m : Int) else -(m : Int)

/-- `r` is `k` * 2^-(149 + p) rounded to the nearest FP32 number, ties to the even one; from (2^25 - 1) * 2^103 on to an infinity (R111). -/
def FpRounds (r : W32) (k : Int) (p : Nat) : Prop :=
  if (2 ^ 25 - 1) * 2 ^ (252 + p) ≤ k.natAbs then r = (if k < 0 then 0xFF800000 else 0x7F800000)
  else fpFinite r ∧ ∀ v : W32, fpFinite v →
    (fpUnits r * 2 ^ p - k).natAbs ≤ (fpUnits v * 2 ^ p - k).natAbs ∧
      ((fpUnits r * 2 ^ p - k).natAbs = (fpUnits v * 2 ^ p - k).natAbs → fpUnits v = fpUnits r ∨ r.toNat % 2 = 0)

/-! ## Utier (03, 04) -/

/-- The thread issues the instruction at its program counter: the gallery runs a task, the thread is ready, the instruction lies whole inside the
code section and its line is in the instruction cache (R66 to R68, R91, R639). -/
def Issues (s : State) (w : Site) (f : Fields) : Prop :=
  galRuns s w.g.val = true ∧ (thOf s w).st = .ready ∧ (thOf s w).pc < codeSize s w.g.val ∧
    (s.lanAt w.g.val w.l.val).icache.contains (lineOf s w.g.val (thOf s w).pc) = true ∧ cutOff s w f = false

/-- The issuing thread goes on with the next instruction (R107). -/
def retired (u : State) (w : Site) (f : Fields) : State := updThread u w (fun t => { t with pc := t.pc + f.len })

/-- The issuing thread goes on at a code offset. -/
def jumped (u : State) (w : Site) (pc : Nat) : State := updThread u w (fun t => { t with pc := pc })

/-- The issuing thread stays where it is, blocked (R68). -/
def blockedAt (u : State) (w : Site) (v : Wait) : State := updThread u w (fun t => { t with st := .blocked v, since := u.clock.now })

/-- Nothing changes but the state of one thread and the time of its gallery's last progress: no other thread, flag, memory word, tag, queue, counter or
error record, and nothing outside the gallery. -/
def ThreadStep (s t : State) (w : Site) : Prop :=
  { t with gal := s.gal } = s ∧ (∀ g, g ≠ w.g.val → t.galAt g = s.galAt g) ∧
    { t.galAt w.g.val with lan := (s.galAt w.g.val).lan, progress := (s.galAt w.g.val).progress } = s.galAt w.g.val ∧
    (∀ l, l ≠ w.l.val → t.lanAt w.g.val l = s.lanAt w.g.val l) ∧
    { t.lanAt w.g.val w.l.val with th := (s.lanAt w.g.val w.l.val).th } = s.lanAt w.g.val w.l.val ∧
    (∀ n, n ≠ w.t.val → t.thAt w.g.val w.l.val n = s.thAt w.g.val w.l.val n)

/-- Words that a control-core access of `n` words may name: in range, aligned, not sealed (Share mode), not in an alias window (other modes) (R114,
R115, R118, R382, R395). -/
def PlainWords (s : State) (g a n : Nat) : Prop :=
  (a < 0x6000 ∨ (0x80000000 ≤ a ∧ a < 0x80400000)) ∧ a % n = 0 ∧
    ¬ (0x80200000 ≤ a ∧ a < 0x80400000 ∧ (s.galAt g).mode = .share) ∧ ¬ (0x803C0000 ≤ a ∧ a < 0x80400000 ∧ (s.galAt g).mode ≠ .share)

/-- The memory that a word address names: the issuing lantern's scratchpad or the gallery store, and the byte offset in it (R114). -/
def memOf (w : Site) (a : Nat) : Space1 := { g := w.g.val, l := w.l.val, store := decide (0x80000000 ≤ a) }
def offOf (a : Nat) : Nat := if 0x80000000 ≤ a then 4 * (a - 0x80000000) else 4 * a

/-- The issuing thread skipped its instruction for this reason (R130, R132, R133): no register, memory word, tag or flag changes, the thread goes on,
the skip is counted, and recorded within the limits of R133. -/
def SkippedAs (s t : State) (w : Site) (f : Fields) (cls op reason : Nat) : Prop :=
  let g := w.g.val
  let y := (s.lanAt g w.l.val).ca
  let z := (t.lanAt g w.l.val).ca
  let pc := (thOf s w).pc
  (thOf t w).pc = pc + f.len ∧ (thOf t w).st = .ready ∧ (∀ r, xr t w r = xr s w r ∧ fr t w r = fr s w r ∧ vr t w r = vr s w r) ∧
  t.dram = s.dram ∧ (∀ m i, t.byte1 m i = s.byte1 m i ∧ t.full1 m i = s.full1 m i) ∧ (∀ l n, flagOf t g l n = flagOf s g l n) ∧
  z.skips = min 0xFFFFFF (y.skips + 1) ∧
  (if y.skipRec < 16 ∧ (pc, reason) ∉ y.skipSeen then
    z.skipRec = y.skipRec + 1 ∧ ∃ x : FRec, t.fault.todo = s.fault.todo ++ [x] ∧ x.status = St.skippedIllegal ∧ x.cls = 1 ∧ x.gallery = g ∧
      x.index = w.l.val ∧ x.detail0 = BitVec.ofNat 32 pc ∧ x.detail1 = BitVec.ofNat 32 (reason + 256 * cls + 4096 * op + 262144 * w.t.val)
  else z.skipRec = y.skipRec ∧ t.fault = s.fault)

/-- Keys of a table strictly rising, from a lower bound on. -/
def rising {α : Type} : Nat → Tab α → Bool
  | _, [] => true
  | lo, (i, _) :: r => decide (lo ≤ i) && rising (i + 1) r

def lanternTidy (y : Lantern) : Bool :=
  rising 0 y.th && y.th.all (fun c => rising 0 c.2.x && rising 0 c.2.f && rising 0 c.2.v) && rising 0 y.flags && Memory.wf y.sp && rising 0 y.spTag && rising 0 y.spPoi

def galleryTidy (y : Gallery) : Bool :=
  rising 0 y.lan && y.lan.all (fun c => lanternTidy c.2) && Memory.wf y.mem && rising 0 y.tag && rising 0 y.poi && rising 0 y.arrivals

def galleryXTidy (y : GalleryX) : Bool :=
  rising 0 y.lmap && rising 0 y.phys && rising 0 y.junction && rising 0 y.rep.lines && rising 0 y.rep.spare && rising 0 y.rep.wickUsed

/-- The canonical form of the state's data: every table lists each key once, in rising order, and every addressed memory (DRAM, gallery stores,
scratchpads) lists no byte 0. Equal contents are then equal data. -/
def Tidy (s : State) : Bool :=
  rising 0 s.gal && s.gal.all (fun c => galleryTidy c.2) && rising 0 s.galx && s.galx.all (fun c => galleryXTidy c.2) && rising 0 s.hall && rising 0 s.roll && rising 0 s.plan.entries &&
  Memory.wf s.dram.mem && rising 0 s.dram.poi && rising 0 s.dram.stk && rising 0 s.dram.spaces && rising 0 s.dram.psets &&
  rising 0 s.net.fl && rising 0 s.net.sig && rising 0 s.net.bar && rising 0 s.net.notices && rising 0 s.cxl.rings && rising 0 s.cxl.slots &&
  rising 0 s.cxl.tsp && rising 0 s.cxl.msixTab && rising 0 s.cxl.msixPend && rising 0 s.hal.dict && rising 0 s.hal.sess && rising 0 s.lamp.creds && rising 0 s.fault.die && rising 0 s.fault.counts &&
  rising 0 s.clock.shadow

/-! ## Items and requests (18, 19) -/

/-- An item's completion record (R503): where its slot lies in its partition's allotment, the slot holds the item's tag, this status, gallery and record
count, and the next phase. -/
def CompletionIn (s t : State) (ring : Nat) (b : Bytes) (part st gal recs : Nat) : Prop :=
  let k := fld b 2 2
  let old : Completion := Tab.get .zero k s.cxl.slots
  (slotAllot s part).1 ≤ k → k < (slotAllot s part).1 + (slotAllot s part).2 →
    Tab.get .zero k t.cxl.slots =
      { tag := BitVec.ofNat 64 (fld b 8 8), status := BitVec.ofNat 16 st, gallery := BitVec.ofNat 8 gal, phase := old.phase + 1,
        ring := BitVec.ofNat 16 ring, records := BitVec.ofNat 16 recs }

/-- A write request that passes the checks before an object's own rules (R520, R525, R526): the device is ready, the mailbox not busy, the session stands
and has the right, the value has its object's length and range, the journal has room. It carries no frame. -/
def MayWrite (s : State) (q : Req) (index sub : Nat) (v : Bytes) (part : Option Nat) (w : Who) : Prop :=
  s.boot.stage = .ready ∧ mailboxBusy s q = false ∧ s.hal.serving = none ∧ whoOf s q = .ok w ∧ writeBad s w index sub v part = none

/-- The request was accepted: it is answered with status 0 and the newest journal entry is its own (R528, R534, R535). -/
def Accepted (t : State) (q : Req) (index sub : Nat) (part : Option Nat) (w : Who) : Prop :=
  t.out.getLast? = some (.status q 0) ∧
    ∃ e, t.hal.jlast = some e ∧ e.index = index ∧ e.sub = sub ∧ e.part = part.getD 0xFF ∧ e.kind = 0 ∧ e.cred = w.cred ∧ e.origin = w.origin

/-- A refused write: its sender is told the status and nothing changes but the time of the session's last request (R522, R525, R526). -/
def refusal (s : State) (q : Req) (st : Nat) : State := (touchSess s q).emit (.status q st)

/-! ## Frames (19) -/

/-- A frame of a type reaches the device by a port that answers, and R518 does not drop it before its tag is looked at. -/
def Arrives (s : State) (p : Port) (ty : Nat) (f : Bytes) : Prop :=
  frameOk p f = true ∧ fld f 3 1 = ty ∧
    (match p with
     | .field => fieldOn s = true
     | .mailbox => mailboxOn s = true ∧ s.dram.translating = none)

/-- The frame is a new request of the live session `y`: its tag is right and its number is above the latest (R518, R522). -/
def NewRequest (s : State) (p : Port) (f : Bytes) (y : HSess) : Prop :=
  s.boot.stage = .ready ∧ fld f 4 4 ≠ 0 ∧ liveSess s { port := p, sess := fld f 4 4 } = some y ∧ tagOf f = tag16 y.c2d (untagged f) ∧ y.seq < fld f 8 8

/-- The state in which such a request is served. -/
def taken (s : State) (p : Port) (f : Bytes) (y : HSess) : State :=
  let y : HSess := { y with seq := fld f 8 8, last := s.clock.now, kept := [] }
  takeFrame { s with hal := { s.hal with sess := Tab.put none (fld f 4 4) (some y) s.hal.sess } } p

/-- A response under a session's key (R517, R518): bytes, then their tag; a session that holds no key sends none. -/
def response (key : Bytes) (f : Bytes) (fflags offset st total : Nat) (data : Bytes) : Bytes :=
  let b := frameBytes 8 (fld f 4 4) (fld f 8 8) (fld f 0x10 2) (fld f 0x12 1) fflags offset st total data
  b ++ (if key = [] then [] else tag16 key b)

/-- Has an operation of the L or I form no stray field (R107)? -/
def ImmForm (f : Fields) : Prop := f.long = true → f.b = 0 ∧ f.e = 0

end Sys2Proof.Safety
end

