-- ==== Sys2Proof/Certificates/Slice0/Obligations.lean ====
section
/-! DEFINITION. The statements for the provers. -/

open Sys2Proof Sys2Proof.Machine Sys2Proof.Safety

/-! ## The block and its queue -/

/-- A step runs the command at the front of the queue on the state with the queue's rest (the block's form; no rule of the spec). The model's choice
(log 1): with no command waiting the reference timer moves one nanosecond, with its copies in the halls and in I/O die East, which at a multiple of 256 ns take its
value (R56, R57), and nothing else changes; without `PWRGOOD` nothing counts. -/
def Obligations.StepTakesTheFront : Prop :=
  (∀ (c : Instr) (s : State), step { s with pending := c :: s.pending } = exec c s) ∧
  (∀ s : State, s.pending = [] → s.boot.stage = .off → step s = .next s) ∧
  (∀ s : State, Tidy s = true → s.pending = [] → s.boot.stage ≠ .off → ∃ t, step s = .next t ∧ { t with clock := s.clock } = s ∧
    { t.clock with shadow := s.clock.shadow } = { s.clock with now := s.clock.now + 1 } ∧
    ∀ k, k < 5 → Tab.get 0 k t.clock.shadow = (if (s.clock.now + 1) % 256 = 0 then s.clock.now + 1 else Tab.get 0 k s.clock.shadow + 1))

/-! ## Utier: registers and arithmetic (04) -/

/-- R110: what every integer instruction computes, with its wrapping, its shift amounts and its division corners; none changes the error records. -/
def Obligations.IntegerInstructions : Prop :=
  ∀ (s : State) (w : Site) (f : Fields), Issues s w f →
    let a := xr s w f.a
    let b := xr s w f.b
    let n := b.toNat % 64
    let k := f.immV.toNat % 64
    let r (v : W64) : State := retired (setX (touch s w.g.val) w f.d v) w f
    (∀ v, (r v).fault = s.fault) ∧
    (f.long = false → f.e = 0 →
      Gives (.add w f) s (r (BitVec.ofNat 64 (a.toNat + b.toNat))) ∧ Gives (.sub w f) s (r (BitVec.ofInt 64 (a.toInt - b.toInt))) ∧
      Gives (.and w f) s (r (a &&& b)) ∧ Gives (.or w f) s (r (a ||| b)) ∧ Gives (.xor w f) s (r (a ^^^ b)) ∧
      Gives (.shl w f) s (r (BitVec.ofNat 64 (a.toNat * 2 ^ n))) ∧ Gives (.shr w f) s (r (BitVec.ofNat 64 (a.toNat / 2 ^ n))) ∧
      Gives (.sar w f) s (r (BitVec.ofInt 64 (a.toInt / 2 ^ n))) ∧
      Gives (.mul w f) s (r (BitVec.ofNat 64 (a.toNat * b.toNat))) ∧
      Gives (.mulh w f) s (r (BitVec.ofInt 64 (a.toInt * b.toInt / 2 ^ 64))) ∧
      Gives (.mulhu w f) s (r (BitVec.ofNat 64 (a.toNat * b.toNat / 2 ^ 64))) ∧
      Gives (.div w f) s (r (if b = 0 then BitVec.allOnes 64 else a.sdiv b)) ∧
      Gives (.divu w f) s (r (if b = 0 then BitVec.allOnes 64 else a.udiv b)) ∧
      Gives (.rem w f) s (r (if b = 0 then a else a.srem b)) ∧ Gives (.remu w f) s (r (if b = 0 then a else a.umod b)) ∧
      Gives (.min w f) s (r (if a.toInt ≤ b.toInt then a else b)) ∧ Gives (.max w f) s (r (if b.toInt ≤ a.toInt then a else b)) ∧
      Gives (.minu w f) s (r (if a.toNat ≤ b.toNat then a else b)) ∧ Gives (.maxu w f) s (r (if b.toNat ≤ a.toNat then a else b)) ∧
      Gives (.slt w f) s (r (if a.toInt < b.toInt then 1 else 0)) ∧ Gives (.sltu w f) s (r (if a.toNat < b.toNat then 1 else 0)) ∧
      Gives (.seq w f) s (r (if a = b then 1 else 0)) ∧
      (a.toInt = -2 ^ 63 → b.toInt = -1 → Gives (.div w f) s (r a) ∧ Gives (.rem w f) s (r 0))) ∧
    (ImmForm f →
      let i := f.immV
      Gives (.addi w f) s (r (BitVec.ofNat 64 (a.toNat + i.toNat))) ∧ Gives (.andi w f) s (r (a &&& i)) ∧
      Gives (.ori w f) s (r (a ||| i)) ∧ Gives (.xori w f) s (r (a ^^^ i)) ∧
      Gives (.shli w f) s (r (BitVec.ofNat 64 (a.toNat * 2 ^ k))) ∧ Gives (.shri w f) s (r (BitVec.ofNat 64 (a.toNat / 2 ^ k))) ∧
      Gives (.sari w f) s (r (BitVec.ofInt 64 (a.toInt / 2 ^ k))) ∧
      Gives (.slti w f) s (r (if a.toInt < i.toInt then 1 else 0)) ∧ Gives (.sltiu w f) s (r (if a.toNat < i.toNat then 1 else 0))) ∧
    (f.long = true → f.a = 0 → f.b = 0 → f.e = 0 →
      Gives (.li w f) s (r (f.imm.signExtend 64)) ∧
      Gives (.lui w f) s (r (BitVec.ofNat 64 (f.imm.toNat * 2 ^ 32 + (xr s w f.d).toNat % 2 ^ 32))))

/-- R105: the frame of the register instructions. But for the destination register and the program counter of the issuing thread (and the time of its
gallery's last progress) nothing changes: no other register, thread, flag, memory word, tag, queue, counter or error record; `x0` reads 0. -/
def Obligations.RegisterInstructionFrame : Prop :=
  ∀ (s t : State) (w : Site) (f : Fields), Issues s w f →
    let step (c : Instr) : Prop := Gives c s t → ThreadStep s t w ∧ (thOf t w).pc = (thOf s w).pc + f.len ∧ (thOf t w).st = .ready ∧ xr t w 0 = 0
    let onlyX (c : Instr) : Prop := Gives c s t → (∀ r, fr t w r = fr s w r ∧ vr t w r = vr s w r) ∧ ∀ r, r ≠ f.d → xr t w r = xr s w r
    let onlyF (c : Instr) : Prop := Gives c s t → (∀ r, xr t w r = xr s w r ∧ vr t w r = vr s w r) ∧ ∀ r, r ≠ f.d → fr t w r = fr s w r
    let onlyV (c : Instr) : Prop := Gives c s t → (∀ r, xr t w r = xr s w r ∧ fr t w r = fr s w r) ∧ ∀ r, r ≠ f.d → vr t w r = vr s w r
    (f.long = false → f.e = 0 → ∀ c ∈ ([
      .add w f, .sub w f, .and w f, .or w f, .xor w f, .shl w f, .shr w f, .sar w f, .mul w f, .mulh w f, .mulhu w f, .div w f, .divu w f,
       .rem w f, .remu w f, .min w f, .max w f, .minu w f, .maxu w f, .slt w f, .sltu w f, .seq w f, .flt w f, .fle w f, .feq w f] : List Instr), step c ∧ onlyX c) ∧
    (ImmForm f → ∀ c ∈ ([.addi w f, .andi w f, .ori w f, .xori w f, .shli w f, .shri w f, .sari w f, .slti w f, .sltiu w f] : List Instr), step c ∧ onlyX c) ∧
    (f.long = false → f.b = 0 → f.e = 0 → ∀ c ∈ ([.fcvtI w f, .fmvX w f] : List Instr), step c ∧ onlyX c) ∧
    (f.long = true → f.a = 0 → f.b = 0 → f.e = 0 → ∀ c ∈ ([.li w f, .lui w f] : List Instr), step c ∧ onlyX c) ∧
    (f.long = false → f.a = 0 → f.b = 0 → f.e = 0 → ∀ c ∈ ([.rdtime w f, .rdctx w f, .rdskip w f] : List Instr), step c ∧ onlyX c) ∧
    (f.long = false → f.e = 0 → ∀ c ∈ ([.fadd w f, .fsub w f, .fmul w f, .fmin w f, .fmax w f, .fma w f] : List Instr), step c ∧ onlyF c) ∧
    (f.long = false → f.b = 0 → f.e = 0 → ∀ c ∈ ([.fneg w f, .fabs w f, .fcvtF w f, .fmvF w f] : List Instr), step c ∧ onlyF c) ∧
    (f.long = false → f.d.toNat < 16 → f.a.toNat < 16 → f.b.toNat < 16 → f.e = 0 →
      ∀ c ∈ ([.vadd w f, .vsub w f, .vmul w f, .vand w f, .vor w f, .vxor w f, .vfadd w f, .vfmul w f, .vfma w f] : List Instr), step c ∧ onlyV c) ∧
    (f.long = false → f.d.toNat < 16 → f.a.toNat < 16 → f.b = 0 → ∀ c ∈ ([.vshl w f, .vshr w f] : List Instr), step c ∧ onlyV c) ∧
    (f.long = false → f.d.toNat < 16 → f.b = 0 → f.e.toNat < 8 → step (.vins w f) ∧ onlyV (.vins w f)) ∧
    (f.long = false → f.a.toNat < 16 → f.b = 0 → f.e.toNat < 8 → step (.vext w f) ∧ onlyX (.vext w f)) ∧
    (f.long = false → f.d.toNat < 16 → f.b = 0 → f.e = 0 → step (.vsplat w f) ∧ onlyV (.vsplat w f)) ∧
    (f.long = false → f.d.toNat < 16 → f.b = 0 → f.e.toNat < 8 → f.e.toNat % 2 = 0 → step (.vinsd w f) ∧ onlyV (.vinsd w f))

/-- R111, R112: what every FP32 instruction computes (`F32` is the model's binary32). R111: on finite operands sum, difference, product, fused product and sum and the
conversion from an integer are the exact value rounded to nearest even, an overflow to an infinity, and comparisons are those of the values; infinities as
IEEE 754 has them; a NaN result is the quiet NaN 0x7FC0_0000, `fmin` and `fmax` return the other operand of a NaN and order -0.0 below +0.0, a comparison with a
NaN is false; `fcvt.i` truncates toward zero and saturates, and NaN converts to 0. -/
def Obligations.FloatInstructions : Prop :=
  (∀ (s : State) (w : Site) (f : Fields), Issues s w f → f.long = false → f.e = 0 →
     let a := fr s w f.a
     let b := fr s w f.b
     let toF (v : W32) : State := retired (setF (touch s w.g.val) w f.d v) w f
     let toX (v : W64) : State := retired (setX (touch s w.g.val) w f.d v) w f
     (Gives (.fadd w f) s (toF (F32.add a b)) ∧ Gives (.fsub w f) s (toF (F32.sub a b)) ∧ Gives (.fmul w f) s (toF (F32.mul a b)) ∧
       Gives (.fma w f) s (toF (F32.fma a b (fr s w f.d))) ∧ Gives (.fmin w f) s (toF (F32.min a b)) ∧ Gives (.fmax w f) s (toF (F32.max a b)) ∧
       Gives (.flt w f) s (toX (if F32.lt a b then 1 else 0)) ∧ Gives (.fle w f) s (toX (if F32.le a b then 1 else 0)) ∧
       Gives (.feq w f) s (toX (if F32.eq a b then 1 else 0))) ∧
     (f.b = 0 →
       Gives (.fneg w f) s (toF (F32.neg a)) ∧ Gives (.fabs w f) s (toF (F32.abs a)) ∧ Gives (.fcvtI w f) s (toX (F32.toI64 a)) ∧
       Gives (.fcvtF w f) s (toF (F32.ofI64 (xr s w f.a))) ∧ Gives (.fmvX w f) s (toX (BitVec.ofNat 64 a.toNat)) ∧
       Gives (.fmvF w f) s (toF (BitVec.ofNat 32 (xr s w f.a).toNat)))) ∧
  (∀ a b c : W32,
     let quiet (v : W32) : Prop := F32.isNan v = true → v = 0x7FC00000
     quiet (F32.add a b) ∧ quiet (F32.sub a b) ∧ quiet (F32.mul a b) ∧ quiet (F32.fma a b c) ∧ quiet (F32.min a b) ∧ quiet (F32.max a b) ∧
     quiet (F32.neg a) ∧ quiet (F32.abs a) ∧
     (F32.isNan a = true → F32.add a b = 0x7FC00000 ∧ F32.add b a = 0x7FC00000 ∧ F32.mul a b = 0x7FC00000 ∧ F32.lt a b = false ∧
       F32.le a b = false ∧ F32.eq a b = false ∧ F32.toI64 a = 0) ∧
     (F32.isNan a = true → F32.isNan b = false → F32.min a b = b ∧ F32.min b a = b ∧ F32.max a b = b ∧ F32.max b a = b) ∧
     F32.min 0x00000000 0x80000000 = 0x80000000 ∧ F32.min 0x80000000 0x00000000 = 0x80000000 ∧
     F32.max 0x00000000 0x80000000 = 0x00000000 ∧ F32.max 0x80000000 0x00000000 = 0x00000000) ∧
  (∀ a b c : W32, fpFinite a → fpFinite b → fpFinite c →
     FpRounds (F32.add a b) (fpUnits a + fpUnits b) 0 ∧ FpRounds (F32.sub a b) (fpUnits a - fpUnits b) 0 ∧
     FpRounds (F32.mul a b) (fpUnits a * fpUnits b) 149 ∧ FpRounds (F32.fma a b c) (fpUnits a * fpUnits b + fpUnits c * 2 ^ 149) 149 ∧
     (F32.lt a b = true ↔ fpUnits a < fpUnits b) ∧ (F32.le a b = true ↔ fpUnits a ≤ fpUnits b) ∧ (F32.eq a b = true ↔ fpUnits a = fpUnits b) ∧
     (F32.toI64 a).toInt = max (-2 ^ 63) (min (2 ^ 63 - 1) ((fpUnits a).tdiv (2 ^ 149))) ∧
     (fpUnits a < fpUnits b → F32.min a b = a ∧ F32.min b a = a ∧ F32.max a b = b ∧ F32.max b a = b) ∧
     F32.add a 0x7F800000 = 0x7F800000 ∧ F32.add 0xFF800000 a = 0xFF800000 ∧ F32.lt a 0x7F800000 = true ∧ F32.lt 0xFF800000 a = true ∧
     (fpUnits a = 0 → F32.mul a 0x7F800000 = 0x7FC00000) ∧
     (fpUnits a ≠ 0 → F32.mul a 0x7F800000 = (if fpUnits a < 0 then 0xFF800000 else 0x7F800000))) ∧
  F32.add 0x7F800000 0xFF800000 = 0x7FC00000 ∧ F32.add 0x7F800000 0x7F800000 = 0x7F800000 ∧ F32.mul 0x7F800000 0xFF800000 = 0xFF800000 ∧
  (F32.toI64 0x7F800000).toInt = 2 ^ 63 - 1 ∧ (F32.toI64 0xFF800000).toInt = -2 ^ 63 ∧ (∀ x : W64, FpRounds (F32.ofI64 x) (x.toInt * 2 ^ 149) 0)

/-- What every short vector instruction computes, lane by lane. The model's reading (log 11): a shift by 32 or more leaves 0 in the lane. -/
def Obligations.ShortVectorInstructions : Prop :=
  ∀ (s : State) (w : Site) (f : Fields), Issues s w f → f.long = false →
    let a (i : Nat) : W32 := vlane (vr s w f.a) i
    let b (i : Nat) : W32 := vlane (vr s w f.b) i
    let d (i : Nat) : W32 := vlane (vr s w f.d) i
    let x := xr s w f.a
    let k := f.e.toNat
    let gives (c : Instr) (h : Nat → W32) : Prop :=
      ∃ v : V256, Gives c s (retired (setV (touch s w.g.val) w f.d v) w f) ∧ ∀ i, i < 8 → vlane v i = h i
    (f.d.toNat < 16 → f.a.toNat < 16 → f.b.toNat < 16 → f.e = 0 →
      gives (.vadd w f) (fun i => a i + b i) ∧ gives (.vsub w f) (fun i => a i - b i) ∧ gives (.vmul w f) (fun i => a i * b i) ∧
      gives (.vand w f) (fun i => a i &&& b i) ∧ gives (.vor w f) (fun i => a i ||| b i) ∧ gives (.vxor w f) (fun i => a i ^^^ b i) ∧
      gives (.vfadd w f) (fun i => F32.add (a i) (b i)) ∧ gives (.vfmul w f) (fun i => F32.mul (a i) (b i)) ∧
      gives (.vfma w f) (fun i => F32.fma (a i) (b i) (d i))) ∧
    (f.d.toNat < 16 → f.a.toNat < 16 → f.b = 0 →
      gives (.vshl w f) (fun i => BitVec.ofNat 32 ((a i).toNat * 2 ^ k)) ∧ gives (.vshr w f) (fun i => BitVec.ofNat 32 ((a i).toNat / 2 ^ k))) ∧
    (f.d.toNat < 16 → f.b = 0 → k < 8 → gives (.vins w f) (fun i => if i = k then x.setWidth 32 else d i)) ∧
    (f.d.toNat < 16 → f.b = 0 → f.e = 0 → gives (.vsplat w f) (fun _ => x.setWidth 32)) ∧
    (f.d.toNat < 16 → f.b = 0 → k < 8 → k % 2 = 0 →
      gives (.vinsd w f) (fun i => if i = k then x.setWidth 32 else if i = k + 1 then (x >>> 32).setWidth 32 else d i)) ∧
    (f.a.toNat < 16 → f.b = 0 → k < 8 → Gives (.vext w f) s (retired (setX (touch s w.g.val) w f.d ((a k).setWidth 64)) w f))

/-- Branches and jumps: the offset counts 4-byte units from the instruction, a taken branch goes to its target, a branch not taken goes on, and
`jal` and `jr` leave the offset of the next instruction in `d`. The system instructions: `rdctx` returns the context word of R106 (thread [7:0],
lantern [15:8], gallery [23:16], partition [31:24], mode from bit 32), `rdtime` the hall's shadow of the reference timer, `rdskip` the lantern's
skip counter; `end` ends the thread. -/
def Obligations.BranchAndSystemInstructions : Prop :=
  (∀ (s : State) (w : Site) (f : Fields), Issues s w f →
     let d := xr s w f.d
     let a := xr s w f.a
     let pc := (thOf s w).pc
     let g := w.g.val
     (∀ n : Nat, ImmForm f → (n : Int) = pc + 4 * f.immV.toInt → n < codeSize s g →
       let goes (taken : Prop) [Decidable taken] : State := if taken then jumped (touch s g) w n else retired (touch s g) w f
       Gives (.beq w f) s (goes (d = a)) ∧ Gives (.bne w f) s (goes (d ≠ a)) ∧ Gives (.blt w f) s (goes (d.toInt < a.toInt)) ∧
       Gives (.bge w f) s (goes (a.toInt ≤ d.toInt)) ∧ Gives (.bltu w f) s (goes (d.toNat < a.toNat)) ∧
       Gives (.bgeu w f) s (goes (a.toNat ≤ d.toNat))) ∧
     (∀ n : Nat, f.long = true → f.a = 0 → f.b = 0 → f.e = 0 → (n : Int) = pc + 4 * f.imm.toInt → n < codeSize s g →
       Gives (.jal w f) s (jumped (setX (touch s g) w f.d (w64 (pc + 8))) w n)) ∧
     (f.long = false → f.b = 0 → f.e = 0 → a.toNat % 4 = 0 → a.toNat < codeSize s g →
       Gives (.jr w f) s (jumped (setX (touch s g) w f.d (w64 (pc + 4))) w a.toNat))) ∧
  (∀ (s : State) (w : Site) (f : Fields) (t : Task), Issues s w f → f.long = false → f.a = 0 → f.b = 0 → f.e = 0 →
     taskOf s w.g.val = some t →
     let g := w.g.val
     let r (v : Nat) : State := retired (setX (touch s g) w f.d (BitVec.ofNat 64 v)) w f
     let y := (s.lanAt g w.l.val).ca
     Gives (.rdctx w f) s (r (w.t.val + 256 * w.l.val + 65536 * g + 2 ^ 24 * t.item.sess.part + 2 ^ 32 * (s.galAt g).mode.code)) ∧
     Gives (.rdtime w f) s (r (s.shadow (hallOf g))) ∧ Gives (.rdskip w f) s (r (y.skips + 2 ^ 24 * y.skipRec)) ∧
     (f.d = 0 → Gives (.endThread w f) s (updThread (touch s g) w (fun t => { t with st := .ended })) ∧
       ∀ v : W64, Fields.ofWord v = f → wordClass v = 11 → wordOp v = 0 → Gives (.nop w v) s (retired (touch s g) w f)))

/-- R76, R124, R125: the flag instructions. A flag of the issuing lantern is set, waited for or read; an add goes to the lantern that `x b` names
and stops at the largest value. `bar.arrive` and `fence`: the arrival that reaches the participant count of the task releases every thread that
waits there and the count begins again at zero; an earlier arrival blocks. A fence goes on, stores being visible at once (log 12). -/
def Obligations.FlagAndBarrierInstructions : Prop :=
  (∀ (s : State) (w : Site) (f : Fields), Issues s w f →
     let g := w.g.val
     let l := w.l.val
     let n := f.e.toNat
     let x := xr s w f.a
     let k := (xr s w f.b).toNat
     let old (k : Nat) : Nat := (flagOf s g k n).toNat
     let put (k : Nat) (v : W32) : State := retired (flagPut (touch s g) g k n v) w f
     let waits (v : W32) : State := if v.toNat ≤ old l then retired (touch s g) w f else blockedAt (touch s g) w (.flag n v)
     let adds (c : Instr) (v : Nat) : Prop := k < 64 → 1 ≤ v → v ≤ 65535 →
       (old k + v < 2 ^ 32 → Gives c s (put k (BitVec.ofNat 32 (old k + v)))) ∧
       (2 ^ 32 ≤ old k + v → ∃ t, Gives c s t ∧ (flagOf t g k n).toNat = 2 ^ 32 - 1)
     (f.long = false → f.d = 0 →
       (f.b = 0 → Gives (.flagSet w f) s (put l (x.setWidth 32)) ∧ Gives (.flagWait w f) s (waits (x.setWidth 32))) ∧
       adds (.flagAdd w f) x.toNat) ∧
     (f.long = true → f.d = 0 → f.a = 0 →
       (f.b = 0 → Gives (.flagSeti w f) s (put l f.imm) ∧ Gives (.flagWaiti w f) s (waits f.imm)) ∧
       adds (.flagAddi w f) f.imm.toNat) ∧
     (f.long = false → f.a = 0 → f.b = 0 → Gives (.flagRead w f) s (retired (setX (touch s g) w f.d (BitVec.ofNat 64 (old l))) w f))) ∧
  (∀ (s : State) (w : Site) (f : Fields), Tidy s = true → Issues s w f → f.long = false → f.d = 0 → f.a = 0 → f.b = 0 →
     let g := w.g.val
     let b := f.e.toNat
     let ps := arrivalsOf s g b
     (f.e = 0 → Gives (.fence w f) s (retired (touch s g) w f)) ∧
     (b < 8 → ps.length + 1 < barrierCount s g b → ∃ t, Gives (.barArrive w f) s t ∧ arrivalsOf t g b = ps ++ [(w.l.val, w.t.val)] ∧
       (thOf t w).st = .blocked (.barrier b) ∧ (thOf t w).pc = (thOf s w).pc + 4) ∧
     (b < 8 → barrierCount s g b = ps.length + 1 → ∃ t, Gives (.barArrive w f) s t ∧ arrivalsOf t g b = [] ∧
       (∀ p ∈ ps, (t.thAt g p.1 p.2).st = .ready) ∧ (thOf t w).st = .ready ∧ (thOf t w).pc = (thOf s w).pc + 4))

/-! ## Utier: memory (04, 14) -/

/-- Loads: what each form waits for, what it returns and what becomes of its slot's tag (R115); `v` takes 256 bits. The model's reading (log 11): a 32-bit load is
zero-extended into `x`. -/
def Obligations.LoadInstructions : Prop :=
  ∀ (s : State) (w : Site) (f : Fields), Issues s w f → f.long = false →
    let g := w.g.val
    let a := (xr s w f.a + f.imm11.signExtend 64).toNat
    let m := memOf w a
    let p := offOf a
    let u := touch s g
    let v (n : Nat) : Nat := s.num1 m p (4 * n)
    s.poisoned1 m p = false →
    let toX (u : State) (n : Nat) : State := retired (setX u w f.d (BitVec.ofNat 64 (v n))) w f
    (PlainWords s g a 1 →
      Gives (.ldRawW w f) s (toX u 1) ∧
      (s.full1 m p = true → Gives (.ldW w f) s (toX u 1) ∧ Gives (.ldTakeW w f) s (toX (u.setFull1 m p false) 1) ∧
        Gives (.ldF w f) s (retired (setF u w f.d (BitVec.ofNat 32 (v 1))) w f)) ∧
      (s.full1 m p = false → ∀ c ∈ ([.ldW w f, .ldTakeW w f, .ldF w f] : List Instr), Gives c s (blockedAt u w (.slotFull a)))) ∧
    (PlainWords s g a 2 →
      Gives (.ldRawD w f) s (toX u 2) ∧
      (s.full1 m p = true → Gives (.ldD w f) s (toX u 2) ∧ Gives (.ldTakeD w f) s (toX (u.setFull1 m p false) 2)) ∧
      (s.full1 m p = false → ∀ c ∈ ([.ldD w f, .ldTakeD w f] : List Instr), Gives c s (blockedAt u w (.slotFull a)))) ∧
    (PlainWords s g a 8 → f.d.toNat < 16 →
      Gives (.vldRaw w f) s (retired (setV u w f.d (BitVec.ofNat 256 (v 8))) w f) ∧
      (s.full1 m p = true → Gives (.vld w f) s (retired (setV u w f.d (BitVec.ofNat 256 (v 8))) w f)) ∧
      (s.full1 m p = false → Gives (.vld w f) s (blockedAt u w (.slotFull a))))

/-- Stores: the bytes that each form stores, what it waits for and what becomes of its slot's tag (R115). -/
def Obligations.StoreInstructions : Prop :=
  ∀ (s : State) (w : Site) (f : Fields), Issues s w f → f.long = false →
    let g := w.g.val
    let a := (xr s w f.a + f.imm11.signExtend 64).toNat
    let m := memOf w a
    let p := offOf a
    let u := touch s g
    let x := (xr s w f.d).toNat
    let v := (vr s w f.d).toNat
    let put (n x : Nat) : State := u.store1 m p (natLe n x)
    let full := s.full1 m p = true
    let empty := s.full1 m p = false
    (PlainWords s g a 1 →
      Gives (.stRawW w f) s (retired (put 4 x) w f) ∧
      (empty → Gives (.stW w f) s (retired (put 4 x) w f) ∧ Gives (.stF w f) s (retired (put 4 (fr s w f.d).toNat) w f) ∧
        Gives (.stFillW w f) s (retired ((put 4 x).setFull1 m p true) w f)) ∧
      (full → ∀ c ∈ ([.stW w f, .stF w f, .stFillW w f] : List Instr), Gives c s (blockedAt u w (.slotEmpty a)))) ∧
    (PlainWords s g a 2 →
      Gives (.stRawD w f) s (retired (put 8 x) w f) ∧
      (empty → Gives (.stD w f) s (retired (put 8 x) w f) ∧ Gives (.stFillD w f) s (retired ((put 8 x).setFull1 m p true) w f)) ∧
      (full → ∀ c ∈ ([.stD w f, .stFillD w f] : List Instr), Gives c s (blockedAt u w (.slotEmpty a)))) ∧
    (PlainWords s g a 8 → f.d.toNat < 16 →
      Gives (.vstRaw w f) s (retired (put 32 v) w f) ∧
      (empty → Gives (.vst w f) s (retired (put 32 v) w f) ∧ Gives (.vstFill w f) s (retired ((put 32 v).setFull1 m p true) w f)) ∧
      (full → ∀ c ∈ ([.vst w f, .vstFill w f] : List Instr), Gives c s (blockedAt u w (.slotEmpty a))))

/-- The frame of the stores: in canonical memories the stored bytes are the register's bytes, lowest first, at 4 times the word address that the
instruction computes, every other byte of every scratchpad, gallery store and DRAM reads as before, and no register changes. -/
def Obligations.StoreFrame : Prop :=
  ∀ (s t : State) (w : Site) (f : Fields), Tidy s = true → Issues s w f → f.long = false →
    let g := w.g.val
    let a := (xr s w f.a + f.imm11.signExtend 64).toNat
    let stores (c : Instr) (n x : Nat) : Prop := PlainWords s g a n → (s.full1 (memOf w a) (offOf a) = false) → Gives c s t →
      (∀ (m : Space1) (i : Nat), t.byte1 m i =
        if m.g = g ∧ m.store = decide (0x80000000 ≤ a) ∧ (m.store = false → m.l = w.l.val) ∧ offOf a ≤ i ∧ i < offOf a + 4 * n
        then BitVec.ofNat 8 (x / 2 ^ (8 * (i - offOf a))) else s.byte1 m i) ∧
      t.dram = s.dram ∧ t.fault = s.fault ∧ (∀ r, xr t w r = xr s w r ∧ fr t w r = fr s w r ∧ vr t w r = vr s w r)
    let x := (xr s w f.d).toNat
    stores (.stW w f) 1 (x % 2 ^ 32) ∧ stores (.stFillW w f) 1 (x % 2 ^ 32) ∧ stores (.stRawW w f) 1 (x % 2 ^ 32) ∧
    stores (.stF w f) 1 (fr s w f.d).toNat ∧ stores (.stD w f) 2 x ∧ stores (.stFillD w f) 2 x ∧ stores (.stRawD w f) 2 x ∧
    (f.d.toNat < 16 → stores (.vst w f) 8 (vr s w f.d).toNat ∧ stores (.vstFill w f) 8 (vr s w f.d).toNat ∧
      stores (.vstRaw w f) 8 (vr s w f.d).toNat)

/-- R116: the atomics return the old word and store its sum with `x b`, or `x b`, without regard to the slot's tag; the model's reading (log 11): the old word
is zero-extended into `x d`. The bit-set and bit-clear windows (R394): outside Share mode a store there, whatever the tag, sets or clears bits of the ordinary word. -/
def Obligations.AtomicsAndAliasWindow : Prop :=
  (∀ (s : State) (w : Site) (f : Fields), Issues s w f → f.long = false → f.e = 0 →
     let a := (xr s w f.a).toNat
     let m := memOf w a
     let old := s.num1 m (offOf a) 4
     let b := (xr s w f.b).toNat
     PlainWords s w.g.val a 1 → s.poisoned1 m (offOf a) = false →
     let r (v : Nat) : State := retired (setX ((touch s w.g.val).store1 m (offOf a) (natLe 4 v)) w f.d (BitVec.ofNat 64 old)) w f
     Gives (.amoAdd w f) s (r ((old + b) % 2 ^ 32)) ∧ Gives (.amoSwap w f) s (r (b % 2 ^ 32))) ∧
  (∀ (s : State) (w : Site) (f : Fields), Issues s w f → f.long = false → (s.galAt w.g.val).mode ≠ .share →
     let a := (xr s w f.a + f.imm11.signExtend 64).toNat
     let m : Space1 := { g := w.g.val, l := w.l.val, store := true }
     let x := (xr s w f.d).setWidth 32
     let word (p : Nat) : W32 := BitVec.ofNat 32 (s.num1 m p 4)
     let r (p : Nat) (v : W32) : State := retired ((touch s w.g.val).store1 m p (natLe 4 v.toNat)) w f
     ∀ c ∈ ([.stW w f, .stRawW w f] : List Instr),
       (0x803C0000 ≤ a → a < 0x803E0000 → Gives c s (r (4 * (a - 0x803C0000)) (word (4 * (a - 0x803C0000)) ||| x))) ∧
       (0x803E0000 ≤ a → a < 0x80400000 → Gives c s (r (4 * (a - 0x803E0000)) (word (4 * (a - 0x803E0000)) &&& ~~~x))) ∧
       (a % 2 = 0 → ∀ e ∈ ([.stD w f, .stRawD w f] : List Instr),
         let y := ((xr s w f.d) >>> 32).setWidth 32
         let two (p : Nat) (v v' : W32) : State :=
           retired (((touch s w.g.val).store1 m p (natLe 4 v.toNat)).store1 m (p + 4) (natLe 4 v'.toNat)) w f
         (0x803C0000 ≤ a → a < 0x803E0000 →
           let p := 4 * (a - 0x803C0000)
           Gives e s (two p (word p ||| x) (word (p + 4) ||| y))) ∧
         (0x803E0000 ≤ a → a < 0x80400000 →
           let p := 4 * (a - 0x803E0000)
           Gives e s (two p (word p &&& ~~~x) (word (p + 4) &&& ~~~y)))))

/-! ## Utier: skips and pushes (03, 04) -/

/-- R130, R132, R133: an instruction that the Utier chapter calls illegal is skipped with the lowest reason that applies. R70, R91, R639: at the end
of the code section the thread ends, a line that the instruction cache lacks is fetched while the thread waits, and an instruction whose second word
the section lacks is skipped with reason 15 where no lower reason applies. A form that an operation's row does not name is the model's reading of reason 2 for
`jal` (log 91). -/
def Obligations.SkipsAndCodeFetch : Prop :=
  (∀ (s : State) (w : Site) (f : Fields), Issues s w f →
     let g := w.g.val
     let skips (c : Instr) (cls op reason : Nat) : Prop := ∃ t, Gives c s t ∧ SkippedAs s t w f cls op reason
     let a := (xr s w f.a + f.imm11.signExtend 64).toNat
     let far := 0x6000 ≤ a ∧ (a < 0x80000000 ∨ 0x80400000 ≤ a)
     (∀ c ∈ ([(.add w f, 0), (.sub w f, 1), (.and w f, 2), (.mul w f, 8), (.div w f, 11), (.seq w f, 21)] : List (Instr × Nat)),
       (f.long = true → skips c.1 0 c.2 2) ∧ (f.long = false → f.e ≠ 0 → skips c.1 0 c.2 4)) ∧
     (f.long = false → skips (.li w f) 1 32 2 ∧ skips (.lui w f) 1 33 2 ∧ skips (.jal w f) 4 16 2 ∧ skips (.flagSeti w f) 9 1 2) ∧
     (f.long = false → 16 ≤ f.d.toNat → skips (.vadd w f) 5 0 3 ∧ skips (.vsplat w f) 5 18 3 ∧ skips (.vld w f) 6 0 3) ∧
     (f.long = false → far → skips (.ldW w f) 3 0 5 ∧ skips (.ldD w f) 3 1 5 ∧ skips (.stW w f) 3 8 5 ∧ skips (.stRawD w f) 3 25 5) ∧
     (f.long = false → ¬ far → a < 0x803C0000 → a % 2 = 1 → skips (.ldD w f) 3 1 6 ∧ skips (.stD w f) 3 9 6) ∧
     (f.long = false → (s.galAt g).mode = .share → 0x80200000 ≤ a → a < 0x80400000 →
       skips (.ldW w f) 3 0 13 ∧ skips (.stW w f) 3 8 13 ∧ skips (.ldRawW w f) 3 16 13) ∧
     (f.long = false → (s.galAt g).mode ≠ .share → 0x803C0000 ≤ a → a < 0x80400000 → skips (.ldW w f) 3 0 5 ∧ skips (.stFillW w f) 3 11 5) ∧
     (f.long = false → f.d = 0 →
       (63 < (xr s w f.b).toNat → skips (.flagAdd w f) 9 2 5) ∧
       ((xr s w f.b).toNat ≤ 63 → (xr s w f.a = 0 ∨ 65535 < (xr s w f.a).toNat) → skips (.flagAdd w f) 9 2 9)) ∧
     (ImmForm f → ((thOf s w).pc + 4 * f.immV.toInt < 0 ∨ (codeSize s g : Int) ≤ (thOf s w).pc + 4 * f.immV.toInt) →
       skips (.beq w f) 4 0 12 ∧ skips (.bgeu w f) 4 5 12) ∧
     (f.long = false → f.d = 0 → f.a = 0 → f.b = 0 → f.e.toNat < 8 → barrierCount s g f.e.toNat = 0 → skips (.barArrive w f) 9 8 14) ∧
     (∀ v : W64, Fields.ofWord v = f → (12 ≤ wordClass v → skips (.nop w v) (wordClass v) (wordOp v) 1) ∧
       (wordClass v < 12 → decodeUtier w v = none → skips (.nop w v) (wordClass v) (wordOp v) 2))) ∧
  (∀ (s : State) (w : Site) (f : Fields) (c : Instr),
     galRuns s w.g.val = true → (thOf s w).st = .ready → c ∈ ([.addi w f, .li w f, .flagSeti w f] : List Instr) →
     let pc := (thOf s w).pc
     let y := s.lanAt w.g.val w.l.val
     let n := lineOf s w.g.val pc
     (codeSize s w.g.val ≤ pc → Gives c s (touch (updThread s w (fun t => { t with st := .ended })) w.g.val)) ∧
     (pc < codeSize s w.g.val → y.icache.contains n = false →
       ∃ t, Gives c s t ∧ (thOf t w).st = .blocked (.line n) ∧ (thOf t w).pc = pc ∧ n ∈ (t.lanAt w.g.val w.l.val).fetching) ∧
     (f.long = true → f.d = 0 → f.a = 0 → f.b = 0 → f.e = 0 → pc < codeSize s w.g.val → codeSize s w.g.val < pc + 8 → y.icache.contains n = true →
       ∃ t, Gives (.addi w f) s t ∧ SkippedAs s t w f 1 0 15))

/-- The matrix instructions: each puts one array descriptor, whose fields come from the instruction (R122, R150), in the queue of the issuing lantern
or, ganged from lantern 0, in all 64; a drain returns its sequence number and the next drain takes the next one (R123). While a queue it enters holds its
16 entries (R72) the thread blocks and nothing is pushed (R68, R74). The model's choices (log 103): the low 32 bits of `x a` name the operand descriptor, a drain's format code
counts for nothing, and a run before any load takes segment 0. -/
def Obligations.MatrixInstructions : Prop :=
  ∀ (s : State) (w : Site) (f : Fields), Tidy s = true → Issues s w f → f.long = true → f.b = 0 → f.e = 0 →
    let g := w.g.val
    let imm := f.imm.toNat
    let gang : Bool := nbit imm 7
    let fmt := imm / 256 % 256
    let a := (xr s w f.a).toNat % 2 ^ 32
    let qs : List Nat := if gang then List.range 64 else [w.l.val]
    (gang = true → w.l.val = 0) →
    let enters (c : Instr) (op : Nat) (also : State → Bytes → Prop) : Prop :=
      (∀ k ∈ qs, 16 ≤ (s.lanAt g k).qa.length → Gives c s (blockedAt (touch s g) w (.queue (if gang then 8 else 0)))) ∧
      ((∀ k ∈ qs, (s.lanAt g k).qa.length < 16) → ∃ t d, Gives c s t ∧ d.length = 64 ∧ fld d 0 1 = 0 ∧ fld d 1 1 = op ∧ fld d 2 1 = imm % 256 ∧
        (∀ k ∈ qs, (t.lanAt g k).qa = (s.lanAt g k).qa ++ [.desc d (s.lanAt g k).drainSeq gang]) ∧ (thOf t w).pc = (thOf s w).pc + 8 ∧ also t d)
    (imm < 2 ^ 16 → f.d = 0 → enters (.mxLdw w f) 1 (fun _ d => fld d 0x10 1 = fmt ∧ fld d 0x14 4 = a)) ∧
    (imm < 2 ^ 17 → f.d = 0 → enters (.mxRun w f) 2 (fun _ d =>
      fld d 0x10 1 = fmt ∧ fld d 0x11 1 = imm / 2 ^ 16 ∧ fld d 0x12 1 = (s.lanAt g w.l.val).arr.lastSeg % 256 ∧ fld d 0x14 4 = a)) ∧
    (imm < 2 ^ 16 → f.a = 0 → enters (.mxDrain w f) 3 (fun t _ =>
      (f.d ≠ 0 → xr t w f.d = BitVec.ofNat 64 (s.lanAt g w.l.val).drainSeq.toNat) ∧
      ∀ k ∈ qs, (t.lanAt g k).drainSeq = (s.lanAt g k).drainSeq + 1))

/-- The pushes and macro calls: `qpush` copies 64 bytes, of a register pair or of a clean scratchpad block, to the queue that its operation numbers,
after the checks of R121; an array descriptor that lantern 0 gangs enters all 64 array queues at once (R74); `mcall` copies its block into all 64 array queues
(R128, R129). While a queue that it enters is at its depth (R72) the thread blocks and nothing is pushed (R68). -/
def Obligations.PushesAndMacroCalls : Prop :=
  ∀ (s : State) (w : Site) (f : Fields) (q : Fin 5), Issues s w f → f.b = 0 → f.e = 0 → f.d = 0 →
    let g := w.g.val
    let l := w.l.val
    let a := (xr s w f.a).toNat
    let m : Space1 := { g := g, l := l, store := false }
    let clean := a < 0x6000 ∧ a % 16 = 0 ∧ s.poisoned1 m (4 * a) = false ∧ s.poisoned1 m (4 * a + 32) = false
    let pair : Bytes := natLe 32 (vr s w f.a).toNat ++ natLe 32 (vr s w (f.a + 1)).toNat
    let block : Bytes := s.read1 m (4 * a) 64
    let header (d : Bytes) : Prop := fld d 0 1 % 16 = q.val ∧ (nbit (fld d 3 1) 0 = true → q.val = 1) ∧ nbit (fld d 2 1) 7 = false
    let entered (t : State) (d : Bytes) : Prop :=
      (thOf t w).pc = (thOf s w).pc + f.len ∧
      (t.lanAt g l).qa = (s.lanAt g l).qa ++ (if q.val = 0 then [.desc d (s.lanAt g l).drainSeq false] else []) ∧
      (t.lanAt g l).qv = (s.lanAt g l).qv ++ (if q.val = 1 then [d] else []) ∧
      (t.lanAt g l).qs = (s.lanAt g l).qs ++ (if q.val = 2 then [d] else []) ∧
      (t.lanAt g l).ql = (s.lanAt g l).ql ++ (if q.val = 3 then [d] else []) ∧
      (t.lanAt g l).qt = (s.lanAt g l).qt ++ (if q.val = 4 then [d] else [])
    let pushes (c : Instr) (d : Bytes) : Prop := header d →
      (queueLen (s.lanAt g l) q.val < queueDepth q.val → ∃ t, Gives c s t ∧ entered t d) ∧
      (queueDepth q.val ≤ queueLen (s.lanAt g l) q.val → Gives c s (blockedAt (touch s g) w (.queue q.val)))
    let gangs (c : Instr) (d : Bytes) : Prop := fld d 0 1 % 16 = 0 → nbit (fld d 3 1) 0 = false → nbit (fld d 2 1) 7 = true → l = 0 → q.val = 0 →
      ((∀ k, k < 64 → (s.lanAt g k).qa.length < 16) → ∃ t, Gives c s t ∧ (thOf t w).pc = (thOf s w).pc + f.len ∧
        ∀ k, k < 64 → (t.lanAt g k).qa = (s.lanAt g k).qa ++ [.desc d (s.lanAt g k).drainSeq true]) ∧
      (∀ k, k < 64 → 16 ≤ (s.lanAt g k).qa.length → Gives c s (blockedAt (touch s g) w (.queue 8)))
    (f.long = false → f.a.toNat % 2 = 0 → f.a.toNat ≤ 14 → pushes (.qpush w q f) pair ∧ gangs (.qpush w q f) pair) ∧
    (f.long = false → clean → pushes (.qpushFromScratchpad w q f) block ∧ gangs (.qpushFromScratchpad w q f) block) ∧
    (f.long = true → clean → l = 0 → (s.galAt g).mode = .cipher → 1 ≤ f.imm.toNat / 2 ^ 16 → f.imm.toNat / 2 ^ 16 ≤ 17 →
      f.imm.toNat % 2 ^ 16 < 128 →
      (∀ k, k < 64 → 16 ≤ (s.lanAt g k).qa.length → Gives (.mcall w f) s (blockedAt (touch s g) w (.queue 8))) ∧
      ((∀ k, k < 64 → (s.lanAt g k).qa.length < 16) → ∃ t marks, Gives (.mcall w f) s t ∧ (thOf t w).pc = (thOf s w).pc + 8 ∧ ∀ k, k < 64 →
        (t.lanAt g k).qa = (s.lanAt g k).qa ++
          [.call (f.imm.toNat / 2 ^ 16) block a (if nbit f.imm.toNat 6 then some (f.imm.toNat % 64) else none) marks]))

/-! ## Engines (05, 06, 11 to 14) -/

/-- The vector engine: each operation's command starts the descriptor of that operation (R303) at the head of the vector queue once it passes the
checks and its slots are as it awaits them; the descriptor leaves the queue and runs until its end. The model's choice (log 7): the command computes and writes
the whole result; one that has started takes none of its queue's entries any more (log 88). -/
def Obligations.VectorOperationsStart : Prop :=
  ∀ (s : State) (g : Gal) (l : Lan) (d : Bytes) (rest : List Bytes) (c : VCtx),
    Tidy s = true → enginesRun s g.val = true → (s.lanAt g.val l.val).rv = none → (s.lanAt g.val l.val).qv = d :: rest →
    nbit (fld d 3 1) 0 = false → vCheck s g.val l.val d = .ok c → vReady s g.val l.val c d = true →
    let starts (i : Instr) (op : Nat) : Prop := fld d 1 1 = op → ∃ t, Gives i s t ∧ (t.lanAt g.val l.val).qv = rest ∧
      (t.lanAt g.val l.val).rv = some (vRun s g.val l.val c d) ∧ (vRun s g.val l.val c d).flag = (if nbit (fld d 2 1) 6 then some (fld d 2 1 % 64) else none)
    starts (.veFadd g l) 0x01 ∧ starts (.veFsub g l) 0x02 ∧ starts (.veFmul g l) 0x03 ∧ starts (.veFma g l) 0x04 ∧ starts (.fms g l) 0x05 ∧
    starts (.fsm g l) 0x06 ∧ starts (.veFmin g l) 0x07 ∧ starts (.veFmax g l) 0x08 ∧ starts (.veFabs g l) 0x09 ∧ starts (.veFneg g l) 0x0A ∧
    starts (.fadds g l) 0x0B ∧ starts (.fmuls g l) 0x0C ∧ starts (.iadd g l) 0x10 ∧ starts (.isub g l) 0x11 ∧ starts (.imul g l) 0x12 ∧
    starts (.veAnd g l) 0x13 ∧ starts (.veOr g l) 0x14 ∧ starts (.veXor g l) 0x15 ∧ starts (.veShl g l) 0x16 ∧ starts (.veShr g l) 0x17 ∧
    starts (.veSar g l) 0x18 ∧ starts (.imin g l) 0x19 ∧ starts (.imax g l) 0x1A ∧ starts (.cvt g l) 0x20 ∧ starts (.quantise g l) 0x21 ∧
    starts (.dequantise g l) 0x22 ∧ starts (.veCopy g l) 0x23 ∧ starts (.rsum g l) 0x30 ∧ starts (.rmax g l) 0x31 ∧ starts (.rmin g l) 0x32 ∧
    starts (.rabsmax g l) 0x33 ∧ starts (.rstat g l) 0x34 ∧ starts (.mred g l) 0x40 ∧ starts (.madd g l) 0x41 ∧ starts (.msub g l) 0x42 ∧
    starts (.mneg g l) 0x43 ∧ starts (.mmul g l) 0x44 ∧ starts (.mmac g l) 0x45 ∧ starts (.mmulp g l) 0x46 ∧ starts (.sAdd g l) 0x50 ∧
    starts (.sSub g l) 0x51 ∧ starts (.sAddc g l) 0x52 ∧ starts (.sMulc g l) 0x53 ∧ starts (.sOpen g l) 0x54 ∧ starts (.sBeaver g l) 0x55 ∧
    starts (.sSample g l) 0x56 ∧ starts (.smpU32 g l) 0x60 ∧ starts (.smpModq g l) 0x61 ∧ starts (.smpTern g l) 0x62 ∧
    starts (.smpCbd g l) 0x63 ∧ starts (.smpGauss g l) 0x64

/-- The special-function unit and the layout-and-move engine: each operation's command starts the descriptor of that operation (R322, R326, R333,
R340; R366 to R372) at the head of its queue in the same way (logs 7, 88). A move of the layout engine starts once the bucket of its partition has let its bursts go (R439; the
effect comes with the last, log 76); until then it stays at the head and is counted as held back. One whose lines of DRAM the host holds waits for the snoops (R506, log 12). -/
def Obligations.SpecialAndLayoutOperationsStart : Prop :=
  ∀ (s : State) (g : Gal) (l : Lan) (d : Bytes) (rest : List Bytes), Tidy s = true → enginesRun s g.val = true →
    let y := s.lanAt g.val l.val
    let flag : Option Nat := if nbit (fld d 2 1) 6 then some (fld d 2 1 % 64) else none
    let startsS (c : SCtx) (i : Instr) (op : Nat) : Prop := fld d 1 1 = op → ∃ t r, Gives i s t ∧ (t.lanAt g.val l.val).qs = rest ∧
      (t.lanAt g.val l.val).rs = some r ∧ r.op = c.op ∧ r.flag = flag
    let startsL (c : LCtx) (i : Instr) (op : Nat) : Prop := fld d 1 1 = op →
      let asked := askTokens s g.val (unitLayout l.val) (lmBursts s g.val l.val c)
      (asked.2 = true → ∃ t r, GivesAwaited i s t ∧ (t.lanAt g.val l.val).ql = rest ∧ (t.lanAt g.val l.val).rl = some r ∧ r.op = c.op ∧ r.flag = flag) ∧
      (asked.2 = false → Gives i s asked.1)
    (∀ c : SCtx, y.rs = none → y.qs = d :: rest → sfuCheck s g.val l.val d = .ok c → slotsFull s g.val l.val (slotsOf g.val l.val c.ins) = true →
      (nbit (fld d 0x28 1) 3 = true ∨ slotsEmpty s g.val l.val (slotsOf g.val l.val c.fresh) = true) →
      startsS c (.exp g l) 0x01 ∧ startsS c (.log g l) 0x02 ∧ startsS c (.recip g l) 0x03 ∧ startsS c (.rsqrt g l) 0x04 ∧ startsS c (.sigmoid g l) 0x10 ∧
      startsS c (.tanh g l) 0x11 ∧ startsS c (.softplus g l) 0x12 ∧ startsS c (.sqrt g l) 0x13 ∧ startsS c (.sfuDiv g l) 0x14 ∧ startsS c (.silu g l) 0x15 ∧
      startsS c (.geluT g l) 0x16 ∧ startsS c (.smBlock g l) 0x20 ∧ startsS c (.smFinal g l) 0x21 ∧ startsS c (.rope g l) 0x30) ∧
    (∀ c : LCtx, y.rl = none → y.ql = d :: rest → lmCheck s g.val l.val d = .ok c →
      slotsFull s g.val l.val ((c.ins d false).flatMap (Tensor.slots g.val l.val)) = true →
      (nbit (fld d 0x20 1) 3 = true ∨ slotsEmpty s g.val l.val (c.outs.flatMap (Tensor.slots g.val l.val)) = true) →
      startsL c (.lmCopy g l) 1 ∧ startsL c (.fill g l) 2 ∧ startsL c (.gather g l) 3 ∧ startsL c (.scatter g l) 4 ∧ startsL c (.scatterAdd g l) 5 ∧
      startsL c (.galoisEval g l) 6 ∧ startsL c (.galoisCoef g l) 7)

/-- A descriptor that a check refuses is skipped (R75, R317, R343, R365): it leaves its queue, no engine runs it, the skip is counted, and its
completion flag still counts. (The command is one of logs 7 and 88.) -/
def Obligations.RefusedDescriptorsSkip : Prop :=
  ∀ (s : State) (g : Gal) (l : Lan) (d : Bytes) (rest : List Bytes) (e : Nat × Nat × Nat) (n : Nat), Tidy s = true → enginesRun s g.val = true →
    nbit (fld d 2 1) 6 = true → fld d 2 1 % 64 = n → (flagOf s g.val l.val n).toNat < 2 ^ 32 - 1 →
    let y := s.lanAt g.val l.val
    let counts (t : State) : Prop := flagOf t g.val l.val n = flagOf s g.val l.val n + 1
    (y.rv = none → y.qv = d :: rest → nbit (fld d 3 1) 0 = false → fld d 1 1 = 3 → vCheck s g.val l.val d = .error e →
      ∃ t, Gives (.veFmul g l) s t ∧ (t.lanAt g.val l.val).qv = rest ∧ (t.lanAt g.val l.val).rv = none ∧ counts t ∧
        (t.lanAt g.val l.val).ca.vecSkips = min 65535 (y.ca.vecSkips + 1)) ∧
    (y.rs = none → y.qs = d :: rest → fld d 1 1 = 2 → sfuCheck s g.val l.val d = .error e →
      ∃ t, Gives (.log g l) s t ∧ (t.lanAt g.val l.val).qs = rest ∧ (t.lanAt g.val l.val).rs = none ∧ counts t ∧
        (t.lanAt g.val l.val).cb.sfuSkips = min 65535 (y.cb.sfuSkips + 1)) ∧
    (y.rl = none → y.ql = d :: rest → fld d 1 1 = 2 → lmCheck s g.val l.val d = .error e →
      ∃ t, GivesAwaited (.fill g l) s t ∧ (t.lanAt g.val l.val).ql = rest ∧ (t.lanAt g.val l.val).rl = none ∧ counts t ∧
        (t.lanAt g.val l.val).cb.lmSkips = min 65535 (y.cb.lmSkips + 1))

/-- The arithmetic of the vector engine's element operations (R303): FP32 (each a control-core operation of R111, `fms` with one rounding, `fsm` with two), integer,
modular (with the Montgomery factor 2^-32). R309: `rsum` adds in its fixed order, 32 partial sums and then halves; `rmax`, `rmin` and `rabsmax` give the extreme of the line, a NaN
where the line has one. R279: the Beaver product. With shares of a triple z = x y, the masked values e = a - x and f = b - y opened, and exactly one side adding e f, the
two results of `s.beaver` add up to a b; sums and differences of shares are shares of the sum and difference. -/
def Obligations.VectorAndShareArithmetic : Prop :=
  (∀ imm a b c : W32,
     fltOp 0x01 imm a b c = F32.add a b ∧ fltOp 0x02 imm a b c = F32.sub a b ∧ fltOp 0x03 imm a b c = F32.mul a b ∧ fltOp 0x04 imm a b c = F32.fma a b c ∧
     (fpFinite a → fpFinite b → fpFinite c → FpRounds (fltOp 0x05 imm a b c) (fpUnits a * fpUnits b - fpUnits c * 2 ^ 149) 149) ∧
     fltOp 0x06 imm a b c = F32.mul (F32.sub a b) c ∧ fltOp 0x07 imm a b c = F32.min a b ∧ fltOp 0x08 imm a b c = F32.max a b ∧
     (fpFinite a → (fpUnits (fltOp 0x09 imm a b c) = (fpUnits a).natAbs ∧ fpUnits (fltOp 0x0A imm a b c) = -fpUnits a)) ∧
     fltOp 0x0B imm a b c = F32.add a imm ∧ fltOp 0x0C imm a b c = F32.mul a imm) ∧
  (∀ xs : List W32,
     let p (l : Nat) : W32 := ((List.range xs.length).filter (fun k => k % 32 == l)).foldl (fun v k => F32.add v (xs.getD k 0)) 0
     let half (w : Nat) (p : Nat → W32) (l : Nat) : W32 := F32.add (p l) (p (l + w))
     reduceLine 0x30 xs = half 1 (half 2 (half 4 (half 8 (half 16 p)))) 0 ∧
     (∀ op, op ∈ [0x31, 0x32, 0x33] → xs.any F32.isNan = true → reduceLine op xs = 0x7FC00000) ∧
     (xs ≠ [] → (∀ x ∈ xs, fpFinite x) →
       (∃ m ∈ xs, reduceLine 0x31 xs = m ∧ ∀ x ∈ xs, fpUnits x ≤ fpUnits m) ∧ (∃ m ∈ xs, reduceLine 0x32 xs = m ∧ ∀ x ∈ xs, fpUnits m ≤ fpUnits x) ∧
       ∃ m ∈ xs, fpUnits (reduceLine 0x33 xs) = (fpUnits m).natAbs ∧ ∀ x ∈ xs, (fpUnits x).natAbs ≤ (fpUnits m).natAbs)) ∧
  ((∀ a b : W32,
     intOp2 0x10 false 0 a b = a + b ∧ intOp2 0x11 false 0 a b = a - b ∧ intOp2 0x12 false 0 a b = a * b ∧
     (intOp2 0x19 true 0 a b).toInt = min a.toInt b.toInt ∧ (intOp2 0x1A true 0 a b).toInt = max a.toInt b.toInt ∧
     (intOp2 0x19 false 0 a b).toNat = min a.toNat b.toNat ∧ (intOp2 0x1A false 0 a b).toNat = max a.toNat b.toNat) ∧
   (∀ (n : Nat) (a b : W32), n < 32 → (intOp2 0x16 false n a b).toNat = a.toNat * 2 ^ n % 2 ^ 32 ∧ (intOp2 0x17 false n a b).toNat = a.toNat / 2 ^ n ∧
     (intOp2 0x18 false n a b).toInt = a.toInt / 2 ^ n) ∧
   (∀ q a b d : Nat, q % 2 = 1 → 1 < q → a < q → b < q → d < q →
     modOp 0x41 q a b d = (a + b) % q ∧ (modOp 0x42 q a b d + b) % q = a ∧ (modOp 0x43 q a b d + a) % q = 0 ∧
     modOp 0x44 q a b d < q ∧ modOp 0x44 q a b d * 2 ^ 32 % q = a * b % q ∧ modOp 0x46 q a b d = a * b % q ∧
     modOp 0x45 q a b d < q ∧ modOp 0x45 q a b d * 2 ^ 32 % q = (d * 2 ^ 32 + a * b) % q)) ∧
  (∀ x y z x0 y0 z0 e f a b c : W32, z = x * y → e = a - x → f = b - y →
     shareOp 0x55 true x0 y0 z0 e f + shareOp 0x55 false (x - x0) (y - y0) (z - z0) e f = a * b ∧
     shareOp 0x50 true x0 y0 0 0 0 + shareOp 0x50 false (x - x0) (y - y0) 0 0 0 = x + y ∧
     shareOp 0x51 true x0 y0 0 0 0 + shareOp 0x51 false (x - x0) (y - y0) 0 0 0 = x - y ∧
     shareOp 0x52 true x0 c 0 0 0 + shareOp 0x52 false (x - x0) c 0 0 0 = x + c ∧
     shareOp 0x53 true x0 c 0 0 0 + shareOp 0x53 false (x - x0) c 0 0 0 = x * c)

/-- R83 to R85: a ring read starts in the later of its drain's first beat plus the delay and the beat in which the engine is free for it (log 7: `at_` is when the
engine comes to it); it reads 32 chunks, one a beat, and runs as an operation of the vector engine where
every tag it meets is valid and carries its number; else it stops at that chunk. (Which drain a number names: log 106. No entry of the queue is counted for it: log 88.) -/
def Obligations.RingReads : Prop :=
  ∀ (s : State) (g : Gal) (l : Lan) (d : Bytes) (rest : List Bytes) (c : VCtx) (at_ b : Nat),
    Tidy s = true → enginesRun s g.val = true →
    let y := s.lanAt g.val l.val
    let hs := fld d 4 2
    y.rv = none → y.qv = d :: rest → nbit (fld d 3 1) 0 = true → vCheck s g.val l.val d = .ok c → vReady s g.val l.val c d = true →
    drainBeat y hs = some b →
    let start := max (b + fld d 6 1) (max at_ y.vecEnd)
    ((∀ ch, ch < 32 → ringTag y.arr (hs % 4) (ch / 4) (start + ch) = (true, hs)) →
      ∃ t, Gives (.ringReadStart g l at_) s t ∧ (t.lanAt g.val l.val).qv = rest ∧ (t.lanAt g.val l.val).vecEnd = start + 32 ∧
        (t.lanAt g.val l.val).rv = some (vRun s g.val l.val c d)) ∧
    (∀ ch, ch < 32 → ringTag y.arr (hs % 4) (ch / 4) (start + ch) ≠ (true, hs) →
      (∀ k, k < ch → ringTag y.arr (hs % 4) (k / 4) (start + k) = (true, hs)) →
      ∃ t, Gives (.ringReadStart g l at_) s t ∧ (t.lanAt g.val l.val).qv = rest ∧ (t.lanAt g.val l.val).vecEnd = start + ch + 1 ∧
        (t.lanAt g.val l.val).rv = none)

/-- R74, R147 to R151, R179, R180: an array descriptor, of one lantern or ganged at the head of all 64 queues, starts in the first beat that R151
allows in each of its slivers, once it heads its queues (beat `at_`, log 7); it leaves every queue it heads, moves the array's clocks in every sliver, and runs until its last beat; a drain keeps the bank as it stands (R81, R82) and, where a ring read that was
computed before it would be changed, waits for its command to come with a later beat (log 7). Log 88: one that has started takes no entry of its queue; log 104: a drain copies its bank at its start. -/
def Obligations.ArrayOperationsStart : Prop :=
  ∀ (s : State) (g : Gal) (l : Lan) (at_ : Nat) (d : Bytes) (gang : Bool), Tidy s = true → enginesRun s g.val = true →
    arrHead s g.val l.val = some (d, gang) →
    let start := startBeat s g.val l.val at_ d gang
    let op := fld d 1 1
    let fmt := fld d 0x10 1
    let starts (i : Instr) (till : Nat) (also : State → Prop) : Prop := ∃ t, Gives i s t ∧
      (∀ k ∈ slivers l.val gang, (t.lanAt g.val k).qa = (s.lanAt g.val k).qa.tail ∧ (t.lanAt g.val k).arr.lastStart = start) ∧
      (∃ r : Run, (t.lanAt g.val l.val).ra = (s.lanAt g.val l.val).ra ++ [r] ∧ r.op = op ∧ r.till = till ∧ r.flag = descFlag d) ∧ also t
    (at_ ≤ start ∧ (∀ k ∈ slivers l.val gang, arrEarliest (s.lanAt g.val k).arr d ≤ start) ∧
      (start = at_ ∨ ∃ k ∈ slivers l.val gang, arrEarliest (s.lanAt g.val k).arr d = start)) ∧
    (∀ c, op = 1 → arrCheck (popArray s g.val l.val gang) g.val l.val gang true d = .ok c →
      (isModular fmt = false → starts (.loadWeights g l at_) (start + 8 * c.count) (fun _ => True)) ∧
      (isModular fmt = true → starts (.modularLoad g l at_) (start + 8 * c.count) (fun _ => True))) ∧
    (∀ c, op = 2 → arrCheck (popArray s g.val l.val gang) g.val l.val gang false d = .ok c →
      let till := start + runBeats fmt (c.n * c.count) + 11
      (isModular fmt = false → starts (.arrayRun g l at_) till (fun _ => True)) ∧ (isModular fmt = true → starts (.modularRun g l at_) till (fun _ => True))) ∧
    (op = 3 → (s.galAt g.val).mode ≠ .share → (∀ k ∈ slivers l.val gang, Tab.get 0 ((headSeq s g.val k).toNat % 4) (s.lanAt g.val k).ringUse ≤ start) →
      starts (.arrayDrain g l at_) (start + 32) (fun t => ∀ k ∈ slivers l.val gang, ∃ x : Drain,
        (t.lanAt g.val k).arr.drains = x :: (s.lanAt g.val k).arr.drains ∧ x.at_ = start ∧ x.seq = headSeq s g.val k ∧
        ∀ j, j < 1024 → x.data.getD j 0 = Tab.get 0 (fmt % 2 * 1024 + j) (s.lanAt g.val k).arr.acc))

/-- R176: the column reduction of the modular array. For an odd modulus below 2^32 and its negative inverse modulo 2^16, an accumulator below the modulus and
a column sum below 2^64 times it give a reduced result congruent to the accumulator plus 2^-64 times the sum. -/
def Obligations.ColumnReduction : Prop :=
  ∀ acc x q qi : Nat, q % 2 = 1 → q < 2 ^ 32 → (q * qi + 1) % 65536 = 0 → acc < q → x < 2 ^ 64 * q →
    reduce acc x q qi < q ∧ reduce acc x q qi * 2 ^ 64 % q = (acc * 2 ^ 64 + x) % q

/-- R75, R280, R301, R151: at the end of a descriptor the slots it takes turn empty, sealed slots it consumes turn empty and zero, those it fills turn full, its completion
flag counts and its engine is free; of the array's descriptors the first to finish ends. No other byte changes. -/
def Obligations.DescriptorEnd : Prop :=
  ∀ (s : State) (g : Gal) (l : Lan) (r : Run) (n : Nat), Tidy s = true → galRuns s g.val = true → r.flag = some n →
    (flagOf s g.val l.val n).toNat < 2 ^ 32 - 1 →
    let y := s.lanAt g.val l.val
    let size (k : Slot) : Nat := (Slot.mem g.val l.val k).slotBytes
    let ends (u : Unit4) (after : State → Prop) : Prop := ∃ t, Gives (.engineDescriptorEnd g l u) s t ∧ after t ∧
      flagOf t g.val l.val n = flagOf s g.val l.val n + 1 ∧ (∀ k ∈ r.full, Slot.isFull t g.val l.val k = true) ∧
      (∀ k ∈ r.take ++ r.consume, k ∉ r.full → Slot.isFull t g.val l.val k = false) ∧
      (∀ k ∈ r.consume, ∀ i, i < size k → t.byte1 (Slot.mem g.val l.val k) (k.byte + i) = 0) ∧
      (∀ m i, (∀ k ∈ r.consume, m.g = g.val → m.store = k.store → (m.store = true ∨ m.l = l.val) → i < k.byte ∨ k.byte + size k ≤ i) → t.byte1 m i = s.byte1 m i)
    (y.rv = some r → ends .vector (fun t => (t.lanAt g.val l.val).rv = none)) ∧
    (y.rs = some r → ends .special (fun t => (t.lanAt g.val l.val).rs = none)) ∧
    (y.rl = some r → ends .layout (fun t => (t.lanAt g.val l.val).rl = none)) ∧
    (firstRun y.ra = some r → (∀ x ∈ y.ra, r.till ≤ x.till) ∧ ends .array (fun t => (t.lanAt g.val l.val).ra = y.ra.erase r))

/-- The stream unit's turn (R404, R405): with no descriptor running the head of the stream queue leaves it and, once it passes the checks, its
bursts are planned and issuing begins; a running descriptor of the command's direction goes on issuing. Bursts to DRAM: one that lands (R404) or is
acknowledged (R405) is done, one that its token bucket held back (R439) is issued; then issuing goes on. An acknowledgement changes no memory. R61: while the
hall of a burst's stack is held the burst waits in the landing buffer of its channel, 16 deep, and reaches no memory; behind a full buffer it stalls, in order. What would touch
lines that the host holds waits for their snoops (R506, log 12). That a descriptor that has started takes no entry of its queue is the model's choice (log 88; logs 7, 76). -/
def Obligations.StreamTransfers : Prop :=
  (∀ (s : State) (g : Gal) (l : Lan), Tidy s = true → enginesRun s g.val = true →
     let y := s.lanAt g.val l.val
     (∀ r : StrRun, y.str = some r → (r.op ≠ 2 → GivesAwaited (.fetch g l) s (strIssue s g.val)) ∧
       (r.op = 2 → GivesAwaited (.store g l) s (strIssue s g.val))) ∧
     (∀ (d : Bytes) (rest : List Bytes) c, y.str = none → y.qt = d :: rest →
       strCheck (touch (headNow (s.updLan g.val l.val (fun y => { y with qt := rest })) g.val l.val 4) g.val) g.val l.val d = .ok c →
       let begins (i : Instr) : Prop := ∃ u r, GivesAwaited i s (strIssue u g.val) ∧ (u.lanAt g.val l.val).qt = rest ∧
         (u.lanAt g.val l.val).str = some r ∧ r.op = c.op ∧ r.seen = [] ∧ r.flag = descFlag d ∧ r.asid = asidOf s g.val ∧
         (∀ b ∈ r.bursts, b.st = .credit)
       (fld d 1 1 ≠ 2 → begins (.fetch g l)) ∧ (fld d 1 1 = 2 → begins (.store g l)))) ∧
  (∀ (s : State) (g : Gal) (l : Lan) (k : Nat) (r : StrRun) (b : Burst), Tidy s = true → galRuns s g.val = true →
     (s.lanAt g.val l.val).str = some r → r.bursts[k]? = some b →
     let state (u : State) (j : Nat) : Option BurstState := (u.lanAt g.val l.val).str.bind (fun r => (r.bursts[j]?).map (·.st))
     let others (u : State) : Prop := ∀ j, j ≠ k → state u j = state s j
     (r.peer = 0xFFFF → b.st = .issued → r.write = false → inLanding s g.val l.val k = false →
       ((∀ h, h < 4 → hallHeld s h = false) →
         ∃ u, GivesAwaited (.burstLand g l k) s (strIssue u g.val) ∧ state u k = some .done ∧ others u ∧ u.dram = s.dram) ∧
       (∀ pa, xlate s r.asid (b.va : Int) false = some pa → hallHeld s (stackOf pa / 4) = true →
         let h := stackOf pa / 4
         let ch := 32 * (stackOf pa % 4) + channelOf pa
         let buf (u : State) : List LandBurst := Tab.get [] ch (u.hallAt h).land.dram
         let late (u : State) : List (List (Nat × LandBuf) × LandBurst) := (u.hallAt h).land.late
         let mine (x : LandBurst) (u : State) : Prop := (x.gal, x.lan, x.burst) = (g.val, l.val, k) ∧ x.data = (s.dget pa 256).1 ∧ u.gal = s.gal ∧ u.dram = s.dram
         ((buf s).length < 16 → (∀ c ∈ late s, (h, LandBuf.dram ch) ∉ c.1) → ∃ u x, GivesAwaited (.burstLand g l k) s u ∧ buf u = buf s ++ [x] ∧ mine x u) ∧
         (16 ≤ (buf s).length → ∃ u x, GivesAwaited (.burstLand g l k) s u ∧ buf u = buf s ∧ late u = late s ++ [x] ∧ mine x.2 u))) ∧
     ((s.galxAt g.val).upd = none → r.peer = 0xFFFF → b.st = .issued → r.write = true →
       ∃ u, GivesAwaited (.burstWriteAck g l k) s (strIssue u g.val) ∧ state u k = some .done ∧ others u ∧ u.dram = s.dram ∧
         ∀ m i, u.byte1 m i = s.byte1 m i) ∧
     ((s.galxAt g.val).upd = none → b.st = .held → bucketOk s (hallOf g.val) (taskPart s g.val) = true →
       let v := updBurst s g.val l.val k (fun b => { b with st := .credit })
       ∃ u, GivesAwaited (.burstRelease g l k) s (strIssue u g.val) ∧ others u ∧
         (∀ x, strNext v g.val l.val = some x → x.1 = k → (∀ c ∈ strTouches v g.val x.2.1 x.2.2, v.lineBusy c.1 c.2 = false) →
           state u k = some .issued ∨ state u k = some .done) ∧
         (strNext v g.val l.val = none → u = v)))

/-- R475 to R477 (a message as this device reads it: the reserved bits of its identifiers count for nothing, R9): an acknowledgement or a get's response for an outstanding tag, and the time-out of one, take it off the gallery's list and finish
its burst; a tag that timed out stays unused for a while; a response for no outstanding tag is counted and dropped. (Where a landing keeps one back: logs 12, 82.) R481, R482: an admitted signal
adds to its counter modulo 2^64; barrier arrivals of the right generation and count collect until the last, which starts the next generation; a
release adds 1 to the counter of its barrier's number. -/
def Obligations.FlightResponsesAndSignals : Prop :=
  (∀ (s : State) (m : Msg), Tidy s = true → mine s (cleanMsg m) = true →
     let c := cleanMsg m
     let done (u : State) (g l k : Nat) : Prop := ∀ r b, (s.lanAt g l).str = some r → r.bursts[k]? = some b →
       (u.lanAt g l).str.bind (fun r => (r.bursts[k]?).map (·.st)) = some .done
     (∀ g x, findTx s c.tag true c.srcDev.toNat = some (g, x) →
       ∃ u, Lands (.putAck m) s { c with mtype := 2 } (strIssue u g) id ∧ (u.galxAt g).txs = (s.galxAt g).txs.erase x ∧ done u g x.lan x.burst) ∧
     (∀ g x, findTx s c.tag false c.srcDev.toNat = some (g, x) →
       ∃ u, Lands (.getResponse m) s { c with mtype := 4 } (strIssue u g) id ∧ (u.galxAt g).txs = (s.galxAt g).txs.erase x ∧ done u g x.lan x.burst) ∧
     (findTx s c.tag true c.srcDev.toNat = none → Lands (.putAck m) s { c with mtype := 2 } { s with net := { s.net with late := s.net.late + 1 } } id) ∧
     (∀ (g : Gal) (tag : W16) (x : Tx), (s.galxAt g.val).txs.find? (fun t => t.tag == tag) = some x → x.since + 1000 * s.obj 0xA020 1 ≤ s.clock.now →
       galRuns s g.val = true → ∃ u, Gives (.messageTimeout g tag) s (strIssue u g.val) ∧ (u.galxAt g.val).txs = (s.galxAt g.val).txs.erase x ∧
         (u.galxAt g.val).late = (s.galxAt g.val).late ++ [(tag, s.clock.now)] ∧ done u g.val x.lan x.burst)) ∧
  (∀ (s : State) (m : Msg), Tidy s = true → mine s (cleanMsg m) = true → admitted s (cleanMsg m) rightSignal = true →
     let c := cleanMsg m
     let k := m.arg.toNat % 16
     let key := 16 * m.dstPart.toNat + k
     let old : W64 := Tab.get 0 key s.net.sig
     let b := Tab.get Barrier.zero key s.net.bar
     let n := m.length.toNat
     (∃ t, Gives (.signal m) s t ∧ Tab.get 0 key t.net.sig = old + m.arg >>> 32) ∧
     (m.status = 0 → ∃ t, Gives (.barrierRelease m) s t ∧ Tab.get 0 key t.net.sig = old + 1) ∧
     (2 ≤ n → n ≤ 4096 → (m.arg >>> 32).setWidth 32 = b.gen → (b.count = 0 ∨ b.len = n) →
       (b.count + 1 < n → ∃ t, Gives (.barrierArrive m) s t ∧ t.net.sig = s.net.sig ∧
         Tab.get Barrier.zero key t.net.bar = { b with len := n, count := b.count + 1, devs := b.devs ++ [64 * c.srcDev.toNat + c.srcPart.toNat] }) ∧
       (n ≤ b.count + 1 → ∃ t, Gives (.barrierArrive m) s t ∧
         Tab.get Barrier.zero key t.net.bar = { gen := b.gen + 1, len := 0, count := 0, devs := [] })))

/-- R471, R476: puts and gets of another device at this device's agents. An admitted put of one granule stores its 32 bytes and nothing else, an admitted get
answers with the granule's bytes and stores nothing; one that is not admitted is counted, answered refused and stores nothing. (Where a landing or a snoop keeps one back: logs
12, 82.) -/
def Obligations.FlightAgentAccesses : Prop :=
  ∀ (s : State) (m : Msg) (pa : Nat), Tidy s = true → mine s (cleanMsg m) = true → m.length = 32 → m.data.length = 32 →
    let c := cleanMsg m
    let puts (u : State) (r : Msg) : Prop := Lands (.put m) s { c with mtype := 1 } (sendAny u r).1 settle
    let gets (u : State) (r : Msg) : Prop := Lands (.get m) s { c with mtype := 3 } (sendAny u r).1 settle
    (admitted s c rightWrite = true → msgRangeOk m = true → msgPas s m true = some [pa] → s.lostAt pa = false →
      ∃ u, puts u (respond c 2 0) ∧ u.dramRead pa 32 = m.data ∧
        ∀ a, a < pa ∨ pa + 32 ≤ a → u.dramByte a = s.dramByte a) ∧
    (admitted s c rightRead = true → msgRangeOk m = true → msgPas s m false = some [pa] → s.lostAt pa = false →
      ∃ u r, gets u r ∧ r.mtype = 4 ∧ r.status = 0 ∧ r.tag = m.tag ∧ r.dstDev = c.srcDev ∧ r.data = s.dramRead pa 32 ∧
        r.pmap = (if s.dramPoisoned pa 32 then 1 else 0) ∧ u.dram = s.dram) ∧
    (admitted s c rightWrite = false →
      ∃ u, puts u (respond c 2 St.fltRefused) ∧ u.net.refusals = s.net.refusals + 1 ∧ u.dram = s.dram) ∧
    (admitted s c rightRead = false →
      ∃ u r, gets u r ∧ r.status = BitVec.ofNat 16 St.fltRefused ∧ r.data = List.replicate 32 0 ∧ u.dram = s.dram)

/-! ## Cipher calls, key streams, the update engine (08, 09, 15) -/

/-- R129, R255: a call that heads all 64 array queues, with every earlier entry done and the engines idle, starts by its number's command: it leaves
the queues and, its arguments and members standing, owns the gallery; its key streams are then opened. R129, R256, R270: once its streams are used a
call ends: the gallery is free, its block's status is that of its first failing member, else OK or the poison status, and its completion flag
counts. (The messages that a device sends to itself are delivered before each command ends, R469; what would touch lines that the host holds waits, log 12.) R415 to R426,
R439: when the norm pass is done a job of phase 1, one with a poisoned operand, and one whose norm is not finite, ends without pass two; another writes the blocks of
pass two until its progress is due, in full if that is all of them, or begins pass two with its first bursts held back. A unit that the regulator holds back is counted and
changes nothing else (log 76). -/
def Obligations.CallsAndUpdateJobs : Prop :=
  (∀ (s : State) (g : Gal) (num addr : Nat) (block : Bytes) (flag : Option Nat) (marks : List Nat) (t : Task) (p : Machine.PSet) (a : MacArgs)
     (v : State) (ms : List Member) (failed : Option Nat), Tidy s = true → enginesRun s g.val = true → taskOf s g.val = some t →
     (s.lanAt g.val 0).qa.head? = some (.call num block addr flag marks) → callReady s g.val (.call num block addr flag marks) marks = true →
     let u := touch (popCall s g.val) g.val
     taskPset u g.val = some p → macArgs u g.val num block (some p) = .ok a →
     checkMembers ((a.dst ++ a.src0 ++ a.src1).foldl (fun u (va : Nat) => vsnoop u (asidOf u g.val) (va : Int) 128 false) u) g.val num t.item p a block
       = (v, ms, failed) → ms ≠ [] → (num = 0x10 → floods v g.val = true → rngHalted v g.val = false) →
     let starts (i : Instr) (n : Nat) : Prop := num = n → ∃ z r, GivesAwaited i s (settle (openNext (openNext z g.val) g.val)) ∧ (z.galxAt g.val).mac = some r ∧
       r.num = num ∧ r.addr = addr ∧ r.flag = flag ∧ r.members = ms ∧ r.failed = failed ∧
       ∀ l, l < 64 → (z.lanAt g.val l).qa = (s.lanAt g.val l).qa.drop 1
     starts (.macroAdd g) 1 ∧ starts (.macroSub g) 2 ∧ starts (.macroAddp g) 3 ∧ starts (.macroMulp g) 4 ∧ starts (.macroMul g) 5 ∧
     starts (.macroRelin g) 6 ∧ starts (.macroMulr g) 7 ∧ starts (.macroRescale g) 8 ∧ starts (.macroRescale2 g) 9 ∧ starts (.macroModsw g) 0xA ∧
     starts (.macroKswitch g) 0xB ∧ starts (.macroRotate g) 0xC ∧ starts (.macroHrotate g) 0xD ∧ starts (.macroConj g) 0xE ∧
     starts (.macroBootstrap g) 0xF ∧ starts (.macroRelease g) 0x10 ∧ starts (.macroTocoeff g) 0x11) ∧
  (∀ (s : State) (g : Gal) (r : MacroRun) (p : Machine.PSet) (n : Nat), Tidy s = true → galRuns s g.val = true →
     (s.galxAt g.val).mac = some r → taskPset s g.val = some p → (s.galxAt g.val).streams = [] → r.wanted = [] →
     r.flag = some n → (flagOf s g.val 0 n).toNat < 2 ^ 32 - 1 →
     let asked := askTokens s g.val unitMacro (macroBursts p r)
     (asked.2 = false → Gives (.macroEnd g) s (settle asked.1)) ∧
     (asked.2 = true → ∃ t, SettlesAwaited (.macroEnd g) s t ∧ (t.galxAt g.val).mac = none ∧ flagOf t g.val 0 n = flagOf s g.val 0 n + 1 ∧
       (∀ v, r.failed = some v → t.num1 { g := g.val, l := 0, store := false } (4 * r.addr + 2) 2 = v % 65536) ∧
       (r.failed = none → t.num1 { g := g.val, l := 0, store := false } (4 * r.addr + 2) 2 ∈ [St.ok, St.poison]))) ∧
  (∀ (s : State) (g : Gal) (j : UpdJob), Tidy s = true → (s.galxAt g.val).upd = some j → j.pass = none →
     (s.hallAt (hallOf g.val)).halted = none → (s.hallAt (hallOf g.val)).heldSince = none →
     let asked := askTokens s g.val unitUpdate (normBursts j.block)
     let blocks (t : State) : Nat := (t.galxAt g.val).cnt.updBlocks
     let first := passUnits j.block 0
     let norm := jobNorm (normSnoop asked.1 (asidOf s g.val) j.block) (asidOf s g.val) j.block
     (asked.2 = false → Gives (.normPassDone g) s asked.1) ∧
     (asked.2 = true → ∃ t, GivesAwaited (.normPassDone g) s t ∧
       let ended : Prop := (t.galxAt g.val).upd = none ∧ blocks t = blocks s
       (jPhase j.block = 1 → ended) ∧ (norm.2.1 = true → ended) ∧ (jPhase j.block ≠ 1 → norm.1.isNan || norm.1.isInf → ended) ∧
       (jPhase j.block ≠ 1 → norm.2.1 = false → norm.1.isNan = false → norm.1.isInf = false → jTouched j.block = false →
         ((t.galxAt g.val).upd = none ∧ jobBlocks j.block ≤ first ∧ blocks t = min (2 ^ 32 - 1) (blocks s + first)) ∨
         ∃ x q, (t.galxAt g.val).upd = some x ∧ x.block = j.block ∧ x.addr = j.addr ∧ x.pass = some q ∧
           ((q.next = 0 ∧ (t.galxAt g.val).heldBy.any (fun c => c.1 == unitUpdate) = true ∧ blocks t = blocks s) ∨
            (q.next = first ∧ first < jobBlocks j.block ∧ blocks t = min (2 ^ 32 - 1) (blocks s + first))))))

/-- What the calls compute on residues (R258, R260): `add`, `sub` and `mul` coefficient by coefficient in one representation, `modsw` keeps the low limbs. -/
def Obligations.CipherArithmetic : Prop :=
  ∀ (p : Machine.PSet) (ver : W32) (gals : List Nat) (keys : List (Nat × Nat × Nat × Nat × List W32)) (m : Member) (a b : List Poly) (la lb k i c : Nat),
    let at_ (ct : List Poly) (k : Nat) : Nat := ((ct.getD k []).getD i []).getD c 0
    let res (num : Nat) : List Poly := (macResult p ver num gals keys m [] { a := a, b := b, fa := 1, fb := 1, la := la, lb := lb }).getD 0 []
    let q := p.prime i
    a.length = 2 → b.length = 2 → (∀ x ∈ a ++ b, x.length = m.level + 1 ∧ ∀ y ∈ x, y.length = p.n) → 0 < q → i ≤ m.level → c < p.n → k < 2 →
    at_ (res 1) k = (at_ a k + at_ b k) % q ∧ (at_ (res 2) k + at_ b k) % q = at_ a k % q ∧
    at_ (res 5) 0 = at_ a 0 * at_ b 0 % q ∧ at_ (res 5) 1 = (at_ a 0 * at_ b 1 + at_ a 1 * at_ b 0) % q ∧ at_ (res 5) 2 = at_ a 1 * at_ b 1 % q ∧
    at_ (res 0xA) k = at_ a k % q

/-- R191: the inverse transform of a limb undoes the transform, for a prime modulus and a root of order 2N. -/
def Obligations.TransformRoundTrip : Prop :=
  ∀ (q psi k : Nat) (a : List Nat), 1 < q → (∀ d, d ∣ q → d = 1 ∨ d = q) → q % 2 = 1 → 0 < psi → psi < q → psi ^ 2 ^ k % q = q - 1 → a.length = 2 ^ k → (∀ x ∈ a, x < q) →
    coefLimb q psi (2 ^ k) (evalLimb q psi (2 ^ k) a) = a

/-- R235 to R243: the taper's key streams. A matching header moves the stream on, a mismatch stops it and ends the call with the key status in its
block; a payload that lands, from DRAM or the last chunk from a peer, moves it to its next block; a refusal, the time-out of an outstanding request, or the flight of
the requests being down stops it. A read that the regulator holds back is counted (R439). R479: a key request is answered by the messages of `keyAnswers` in order;
one that is not admitted, that names no key set, or that asks for a block the image does not have is answered by a refusal alone,
with its reason and first position. The model's choice (log 116): one that asks for no position, or for more than 8, is refused with reason 4. (Messages as this device reads them, R9;
those to itself are delivered before the command ends, R469; where a landing or a snoop keeps one back: logs 12, 82. A directory search that was held back goes first, `openHeld`.) -/
def Obligations.KeyStreams : Prop :=
  let stopped (s : State) (g : Gal) (r : MacroRun) (u : State) (st : Nat) : Prop := (u.galxAt g.val).mac = none ∧ (u.galxAt g.val).streams = [] ∧
    (u.galxAt g.val).cnt.stops = min 65535 ((s.galxAt g.val).cnt.stops + 1) ∧ u.num1 { g := g.val, l := 0, store := false } (4 * r.addr + 2) 2 = st
  (∀ (s : State) (g : Gal) (k : Fin 2) (t : Stream) (r : MacroRun) (p : Machine.PSet) (b : Nat × Nat × Nat × Nat) (h : Bytes), Tidy s = true →
     let v := openHeld s g.val
     taperRuns v g.val = true → (v.galxAt g.val).streams[k.val]? = some t → (v.galxAt g.val).mac = some r → taskPset v g.val = some p →
     t.peer = 0xFFFF → t.pos[t.hdr]? = some b → vread v t.asid ((t.image + 32 * blockNo p t.blocks b : Nat) : Int) 32 = some (h, false) →
     let asked := askTokens v g.val (unitTaper k.val) (headerBursts p t b)
     (asked.2 = false → SettlesAwaited (.blockHeaderRead g k) s asked.1) ∧
     (asked.2 = true → headerMismatch h p t b = none → ∃ u, SettlesAwaited (.blockHeaderRead g k) s u ∧
       (u.galxAt g.val).streams[k.val]? = some { t with hdr := t.hdr + 1, since := v.clock.now }) ∧
     (asked.2 = true → (headerMismatch h p t b).isSome = true → ∃ u, SettlesAwaited (.blockHeaderRead g k) s u ∧ stopped v g r u St.keyMismatch)) ∧
  (∀ (s : State) (g : Gal) (k : Fin 2) (t : Stream) (r : MacroRun) (p : Machine.PSet), Tidy s = true → galRuns s g.val = true →
     (s.galxAt g.val).streams[k.val]? = some t → (s.galxAt g.val).mac = some r → taskPset s g.val = some p →
     (t.peer = 0xFFFF → t.pay < t.hdr → streamAsks s g.val k.val t = true →
       let asked := askTokens s g.val (unitTaper k.val) (ceilDiv p.payload 256)
       (asked.2 = false → Gives (.taperPayloadLand g k) s (settle asked.1)) ∧
       (asked.2 = true → ∃ u, SettlesAwaited (.taperPayloadLand g k) s (afterBlock u g.val k.val) ∧
         (u.galxAt g.val).streams[k.val]? = some { t with pay := t.pay + 1, chunk := 0, since := s.clock.now })) ∧
     (streamWaits s g.val k.val t = true → (viaDown s t = true ∨ t.since + 1000 * s.obj 0x2130 1 ≤ s.clock.now) →
       ∃ u, SettlesAwaited (.keyStreamTimeout g k) s u ∧ stopped s g r u St.keyPeer) ∧
     (∀ m : Msg, mine s (cleanMsg m) = true → findStream s (cleanMsg m) = some (g.val, k.val, t) →
       let typed (n : Nat) : Msg := { cleanMsg m with mtype := BitVec.ofNat 8 n }
       (∃ u, Lands (.keyRefusal m) s (typed 8) u settle ∧ stopped s g r u St.keyPeer) ∧
       (∀ b, t.pos[t.hdr]? = some b → m.mflags.getLsbD 0 = false →
         (headerMismatch (fitBytes 32 m.data) p t b = none → ∃ u, Lands (.keyHeader m) s (typed 6) u settle ∧
           (u.galxAt g.val).streams[k.val]? = some { t with hdr := t.hdr + 1, since := s.clock.now }) ∧
         ((headerMismatch (fitBytes 32 m.data) p t b).isSome = true → ∃ u, Lands (.keyHeader m) s (typed 6) u settle ∧ stopped s g r u St.keyMismatch)) ∧
       (∀ b, t.pos[t.pay]? = some b → t.pay < t.hdr →
         (4096 * (t.chunk + 1) < p.payload → ∃ u, Lands (.keyPayload m) s (typed 7) u settle ∧
           (u.galxAt g.val).streams[k.val]? = some { t with chunk := t.chunk + 1, since := s.clock.now }) ∧
         (p.payload ≤ 4096 * (t.chunk + 1) → ∃ u, Lands (.keyPayload m) s (typed 7) (afterBlock u g.val k.val) settle ∧
           (u.galxAt g.val).streams[k.val]? = some { t with pay := t.pay + 1, chunk := 0, since := s.clock.now })))) ∧
  (∀ (s : State) (m : Msg), mine s (cleanMsg m) = true →
     let c : Msg := { cleanMsg m with mtype := 5 }
     Lands (.keyRequest m) s c ((keyAnswers s c).foldl (fun s x => (sendAny s x).1) (keyCost s none c (keyAnswers s c))) settle ∧
     (let refused (code : Nat) : Prop := ∃ x : Msg, keyAnswers s c = [x] ∧ x.mtype = 8 ∧ x.status = BitVec.ofNat 16 code ∧ x.dstDev = c.srcDev ∧
         x.tag = m.tag ∧ x.arg.toNat = m.arg.toNat / 2 ^ 40 ∧ x.data = []
      (admitted s c rightKey = false → refused 1) ∧
      (admitted s c rightKey = true → ksetOf s m.dstPart.toNat m.addr.toNat = none → refused 2) ∧
      (∀ ks p, admitted s c rightKey = true → ksetOf s m.dstPart.toNat m.addr.toNat = some ks → psetOf s ks.ps = some p →
        (m.length = 0 ∨ 8 < m.length.toNat ∨ p.nq ≤ nbits m.arg.toNat 39 32 ∨
          (streamBlocks p ks.comps (nbits m.arg.toNat 39 32)).length < ks.comps * (nbits m.arg.toNat 63 40 + m.length.toNat)) → refused 4)))

/-! ## Items and tasks (01, 03, 18) -/

/-- R18, R19, R23 to R25: the look at a ring's oldest waiting item by the dispatcher of the hall that read it. A malformed item completes with its status, one whose session entry is not in
the hall's cache waits for the entry, one whose session stands and that need not wait is admitted with the entry and the time. R20, R23, R26: a roll
entry that arrives enters the hall's cache and the items that waited for it are judged; an absent one completes them; a pending item that no gallery
took in time completes. -/
def Obligations.ItemAdmission : Prop :=
  (∀ (s : State) (r : RingNo) (x : ReadItem) (more : List ReadItem), Tidy s = true →
     let y := s.ringAt r.val
     let h := x.hall
     let n := x.idx
     let b := x.bytes
     let left := y.read.filter (fun c => c.idx != n)
     y.read = x :: more → hallRuns s h = true →
     (itemBad b = true → ∃ t, Gives (.itemAdmit r) s t ∧ (t.ringAt r.val).read = left ∧ (t.hallAt h).pend = (s.hallAt h).pend ∧
       CompletionIn s t r.val b (y.part.getD 0xFF) St.itemFormat 0xFF 0) ∧
     (itemBad b = false → (s.hallAt h).roll.find? (fun c => c.1 == itemSid b) = none →
       ∃ t, Gives (.itemAdmit r) s t ∧ (r.val, itemSid b) ∈ (t.hallAt h).miss ∧ (t.ringAt r.val).read = y.read) ∧
     (∀ e, itemBad b = false → (s.hallAt h).roll.find? (fun c => c.1 == itemSid b) = some (itemSid b, e) → y.part = some e.part →
       mustWait s h b e = false → refusedItem s b e = none →
       let it : Item := { ring := r.val, idx := n, bytes := b, sid := itemSid b, sess := e, at_ := s.clock.now }
       ∃ t, Gives (.itemAdmit r) s t ∧ (t.ringAt r.val).read = left ∧
         (itemKind b ≤ 2 → (t.hallAt h).pend = (s.hallAt h).pend ++ [it] ∧ (t.hallAt h).ctl = (s.hallAt h).ctl) ∧
         (2 < itemKind b → (t.hallAt h).ctl = (s.hallAt h).ctl ++ [it] ∧ (t.hallAt h).pend = (s.hallAt h).pend))) ∧
  (∀ (s : State) (h : Hall), Tidy s = true → hallRuns s h.val = true →
     (∀ (sid : Nat) (e : SessEntry), (∃ r, (r, sid) ∈ (s.hallAt h.val).miss) → sessionOf s sid = some e →
       ∃ u, Gives (.sessionCacheFill h sid) s (((s.hallAt h.val).miss.filter (fun c => c.2 == sid)).foldl (fun u c => itemAdmit u c.1) u) ∧
         (u.hallAt h.val).roll.head? = some (sid, e) ∧ (∀ c ∈ (u.hallAt h.val).miss, c.2 ≠ sid) ∧ (u.hallAt h.val).pend = (s.hallAt h.val).pend) ∧
     (∀ (r : RingNo) (idx : Nat) (it : Item), (s.hallAt h.val).pend.find? (fun it => it.ring == r.val && it.idx == idx) = some it →
       it.at_ + 1000 * s.obj 0x2110 4 ≤ s.clock.now →
       ∃ t, Gives (.noGalleryTimeout h r idx) s t ∧ (t.hallAt h.val).pend = (s.hallAt h.val).pend.erase it ∧
         CompletionIn s t it.ring it.bytes it.sess.part St.noGallery 0xFF 0))

/-- R19, R28, R70, R105: a free gallery takes the item that the dispatcher's rule names: the item leaves the pending list, the task starts under the
plan's epoch, and each thread that the item names is ready at its entry point with the item's argument in `x1` and the context word in `x2`. When a
batching window is over the hall's Cipher galleries look again. R501: a signal or barrier item at the head of its ring's outstanding items is sent:
over the flights, completing when it leaves, or to this device itself at once, completing OK. The model's reading (log 31): which of several free
galleries takes an item first is left to the order of commands, and those that look again when a window is over look in the order of their numbers. -/
def Obligations.ItemsAreTaken : Prop :=
  ((∀ (s : State) (g : Gal) (it : Item) (md : Module), Tidy s = true → galFree s g.val = true → nextItem s g.val = some it →
     itemKind it.bytes = 1 → moduleOf s it.sess.part it.bytes = some md → (∀ c ∈ namedThreads it.bytes, c.2 < md.entries) →
     ∃ t k, Gives (.galleryTakeItem g) s t ∧ (t.hallAt (hallOf g.val)).pend = (s.hallAt (hallOf g.val)).pend.erase it ∧
       (t.galAt g.val).task = some k ∧ k.item = it ∧ k.epoch = s.plan.epoch ∧ k.codeSize = md.codeSize ∧ k.first = none ∧ k.abort = none ∧
       ∀ (l : Lan) (c : Nat × Nat), c ∈ namedThreads it.bytes →
         let th := t.thAt g.val l.val c.1
         th.st = .ready ∧ th.pc = md.entry c.2 ∧ th.getX 1 = BitVec.ofNat 64 (fld it.bytes 0x28 8) ∧
         th.getX 2 = BitVec.ofNat 64 (c.1 + 2 ^ 8 * l.val + 2 ^ 16 * g.val + 2 ^ 24 * it.sess.part + 2 ^ 32 * (s.galAt g.val).mode.code)) ∧
   (∀ (s : State) (h : Hall) (p : Part) (fp : Nat),
     (∃ it ∈ (s.hallAt h.val).pend, it.sess.modeCode = 2 ∧ it.sess.part = p.val ∧ it.sess.fp = fp ∧ it.at_ + 1000 * s.obj 0x2110 1 ≤ s.clock.now) →
     Gives (.batchWindowExpiry h p fp) s ((List.range 16).foldl (fun s k => if (s.galAt (16 * h.val + k)).mode = .cipher then takeItem s (16 * h.val + k) else s) s))) ∧
  (∀ (s : State) (h : Hall) (r : RingNo) (idx : Nat) (it : Item), Tidy s = true → hallRuns s h.val = true →
     (s.hallAt h.val).ctl.find? (fun it => it.ring == r.val && it.idx == idx) = some it → (s.ringAt r.val).items.head? = some idx →
     leaving s (h.val, r.val, idx) = false →
     let m := itemMsg s it
     let sends (c : Instr) : Prop :=
       (s.devId ≠ some m.dstDev.toNat → (sendMsg s m (some (h.val, r.val, idx))).2 = true → Gives c s (sendMsg s m (some (h.val, r.val, idx))).1) ∧
       (s.devId = some m.dstDev.toNat → (itemKind it.bytes = 4 → ∀ f, ∀ w ∈ (s.flightAt f).waiting, w.note = none) → ∃ t, Gives c s t ∧ (t.hallAt h.val).ctl = (s.hallAt h.val).ctl.erase it ∧
         CompletionIn s t it.ring it.bytes it.sess.part 0 0xFF 0)
     (itemKind it.bytes = 3 → m.mtype = 9 ∧ sends (.signalItem h r idx)) ∧
     (itemKind it.bytes = 4 → m.mtype = 0x0A ∧ sends (.barrierArriveItem h r idx)))

/-- R68, R70, R71: a blocked thread whose condition has come about is ready again; a task whose threads have ended and whose queues, engines and
transfers are done completes with the status of its abort, else of its first record, else OK, and with its gallery and record count. R91, R93: a
line that arrives is in the instruction cache of every lantern that asked, once the bucket of the partition lets its burst go (R439); a poisoned one ends the task; a parity error drops the line and asks for
it again. R87 to R90: a gallery in which nothing has run for the watch window and something waits ends its task and keeps the waits, oldest first,
in its graph. R166: a residue mismatch of the array ends the gallery's task; the first of a lantern uses its spare wick, a later one declares the
lantern dead. -/
def Obligations.TasksEnd : Prop :=
  (∀ (s : State), Tidy s = true →
     (∀ (w : Site) (v : Wait), galRuns s w.g.val = true → (thOf s w).st = .blocked v → waitOver s w.g.val w.l.val w.t.val v = true →
       ∃ t, Gives (.threadResume w) s t ∧ (thOf t w).st = .ready ∧ (thOf t w).pc = (thOf s w).pc ∧ ThreadStep s t w) ∧
     (∀ (g : Gal) (k : Task), hallRuns s (hallOf g.val) = true → (s.galAt g.val).task = some k → taskDone s g.val k = true →
       ∃ t, Gives (.taskComplete g) s t ∧ (t.galAt g.val).task = none ∧
         CompletionIn s t k.item.ring k.item.bytes k.item.sess.part (match k.abort, k.first with | some v, _ => v | none, some v => v | none, none => 0)
           g.val k.recs)) ∧
  (∀ (s : State) (g : Gal) (line : Nat), Tidy s = true → hallRuns s (hallOf g.val) = true →
     (askers s g.val line ≠ [] →
       let asked := askTokens s g.val unitCache 1
       (asked.2 = true → (∃ t, Gives (.icacheMissFill g line false) s t ∧ ∀ l ∈ askers s g.val line,
         (t.lanAt g.val l).icache.head? = some line ∧ line ∉ (t.lanAt g.val l).fetching) ∧
         ∃ t, Gives (.icacheMissFill g line true) s t ∧ (t.galAt g.val).task = none) ∧
       (asked.2 = false → ∀ poisoned : Bool, Gives (.icacheMissFill g line poisoned) s asked.1)) ∧
     (∀ l : Lan, line ∈ (s.lanAt g.val l.val).icache →
       ∃ t, Gives (.icacheParityError g l line) s t ∧ line ∉ (t.lanAt g.val l.val).icache ∧ line ∈ (t.lanAt g.val l.val).fetching)) ∧
  (∀ (s : State) (g : Gal), Tidy s = true →
     let us := allUnits s g.val
     stalled s g.val us = true → (s.galAt g.val).progress + 1000 * s.obj 0x2120 1 ≤ s.clock.now →
     ∃ t, Gives (.stallCensusAbort g) s t ∧ (t.galAt g.val).task = none ∧ fld (t.galAt g.val).graph 0 4 = min 16 (waitsOf us).length ∧
       (t.galAt g.val).graph.length = 132) ∧
  (∀ (s : State) (g : Gal) (l : Lan), Tidy s = true → galRuns s g.val = true →
     let p := (lmapOf s g.val l.val).phys
     ∃ t, Gives (.arrayResidueMismatch g l) s t ∧ (t.galAt g.val).task = none ∧ Tab.get false p (t.galxAt g.val).rep.wickUsed = true ∧
       (Tab.get false p (s.galxAt g.val).rep.wickUsed = true → (physOf t g.val p).dead = true))

/-! ## Modes, power, memory stacks, the host's port (01, 02, 16, 18, 21, 24) -/

/-- R33 to R35, R39, R40, R52, R53, R57, R58, R63 to R65: a gallery that may change, is granted power, is drained at the deadline or passes its release test wipes its
memories, drops its code and takes the mode and epoch of the plan; a brown-out holds its hall until it recovers within 10 µs or halts it after; the timer's
copies (log 6: those of the four halls and of I/O die East), its latched read, and the pace monitors, sampled at most once in 1 µs (`hallPaces`: the paces of the ring counts, log 83; the
average of the lowest, log 84). What a resumed hall then carries out, `resume`, is what its landings and others kept back. The bit that exempts a gallery from a forced drain is that of its entry in the
target plan (log 68). -/
def Obligations.GalleryModesAndTimer : Prop :=
  ∀ (s : State), Tidy s = true →
    let entered (g : Nat) (forced : Bool) (t : State) : Prop :=
      let e := PlanEntry.at_ s.plan g
      (t.galAt g).mode = e.mode ∧ (t.galAt g).entry = e ∧ (t.galAt g).epoch = s.plan.epoch ∧ (t.galAt g).changing = false ∧
      (t.galAt g).powerWait = false ∧ (t.galAt g).forced = forced ∧ (t.galAt g).qFault = false ∧
      ∀ (l i : Nat) (st : Bool), t.byte1 { g := g, l := l, store := st } i = 0 ∧ t.full1 { g := g, l := l, store := st } i = false ∧
        (t.lanAt g l).icache = []
    (∀ g : Gal, mayEnter s g.val = true → ∃ t, Gives (.galleryModeChange g) s t ∧ entered g.val false t) ∧
    (∀ g : Gal, grantable s g.val = true → (∀ k, k < g.val → grantable s k = false) → ∃ t, Gives (.galleryPowerGrant g) s t ∧ entered g.val false t) ∧
    (s.plan.at_ + 1000 * s.plan.deadline ≤ s.clock.now → (∀ k, k < 64 → (s.galxAt k).rep.dying = []) →
      ∃ t, Gives .modeDeadlineExpiry s t ∧ ∀ g : Gal, (s.galAt g.val).changing = true → (s.galAt g.val).task.isSome = true →
        (PlanEntry.at_ s.plan g.val).gflags.getLsbD 0 = false → hallRuns s (hallOf g.val) = true → (s.galAt g.val).qFault = false →
        (t.galAt g.val).task = none ∧ entered g.val true t) ∧
    (∀ g : Gal, awaitsRelease s g.val = true → (∃ t, Gives (.galleryReleaseTest g true) s t ∧ entered g.val false t) ∧
      ∃ t, Gives (.galleryReleaseTest g false) s t ∧ (t.galAt g.val).qTestFail = true ∧ (t.galAt g.val).qFault = true) ∧
    (∀ h : Hall, s.boot.stage ≠ .off → (s.hallAt h.val).railOn = true → (s.hallAt h.val).halted = none → (s.hallAt h.val).heldSince = none →
      ∃ t, Gives (.brownoutDetect h) s t ∧ (t.hallAt h.val).heldSince = some s.clock.now ∧ hallRuns t h.val = false) ∧
    (∀ (h : Hall) (since : Nat), (s.hallAt h.val).heldSince = some since → s.boot.stage = .ready →
      (s.clock.now ≤ since + 10000 → ∃ t, Gives (.brownoutRecover h) s t ∧ (t.hallAt h.val).heldSince = none ∧
        (t.hallAt h.val).halted = ((resume s h.val).hallAt h.val).halted) ∧
      (since + 10000 < s.clock.now → ∃ t, Gives (.brownoutTimeout h) s t ∧ (t.hallAt h.val).halted.isSome = true)) ∧
    (s.boot.stage ≠ .off → ∃ t, Gives .reftimeBroadcast s t ∧ t.clock.now % 256 = 0 ∧ s.clock.now < t.clock.now ∧ t.clock.now ≤ s.clock.now + 256 ∧
      ∀ k, k < 5 → t.shadow k = t.clock.now) ∧
    (barReads s = true → ∃ t, Gives .reftimeLoRead s t ∧ t.out = s.out ++ [.mmio (BitVec.ofNat 32 s.clock.now)] ∧
      t.clock.hiLatch = BitVec.ofNat 32 (s.clock.now / 2 ^ 32) ∧ t.clock.now = s.clock.now) ∧
    (∀ (h : Hall) (counts : Words) (t0 : Nat), s.boot.stage ≠ .off → (s.hallAt h.val).paceAt = some t0 → s.clock.now < t0 + 1000 →
      Gives (.paceMonitorSample h counts) s s) ∧
    (∀ (h : Hall) (counts : Words), s.boot.stage ≠ .off → (∀ t0, (s.hallAt h.val).paceAt = some t0 → t0 + 1000 ≤ s.clock.now) →
      let ps := hallPaces s h.val counts
      ∃ t, Gives (.paceMonitorSample h counts) s t ∧ (t.hallAt h.val).paceAt = some s.clock.now ∧ ∀ k, k < 16 →
      let g := 16 * h.val + k
      (t.galxAt g).paceWin = ((ps.drop (4 * k)).take 4 :: (s.galxAt g).paceWin).take 1000 ∧ (t.galxAt g).pace = paceMean (t.galxAt g).paceWin)

/-- R442, R572 to R576, R582 to R588, R626, R628: refresh bands with their hysteresis, the thermal limit's steps, the trip rows, the grants and set points of an
arbiter cycle, the lift of gating, failed rails, excluded sensors; each periodic step comes once in its period of the reference timer. What a sensor measures is in 1/16 °C; with its offset
a reading is in 1/64 °C (R541, R587), of which control sees nothing where the sensor is excluded, and 100 °C where all of a gallery's or a stack's are (R588; log 30). -/
def Obligations.PowerAndHeat : Prop :=
  ∀ (s : State), Tidy s = true → s.boot.stage = .ready →
    (∀ (k : Stack) (rs : Ints), s.due (8 + k.val) 1000 = true →
      let r := heat (stackHeat s k.val rs)
      let read (i : Fin 12) : Int := 4 * rs.getD i.val 0 + sensorOffset s (.dram k i)
      (∀ i, Sensor.dram k i ∉ s.power.excluded → read i ≤ r) ∧
      ((r = 64 * 100 ∧ ∀ i, Sensor.dram k i ∈ s.power.excluded) ∨ ∃ i, Sensor.dram k i ∉ s.power.excluded ∧ r = read i) ∧
      ∃ t, Gives (.dramSensorRead k rs) s t ∧ (t.stackAt k.val).hot = r ∧
      (r ≤ 64 * 73 → (t.stackAt k.val).band = 1) ∧ (64 * 73 < r → r ≤ 64 * 75 → (t.stackAt k.val).band = (if (s.stackAt k.val).band ≤ 1 then 1 else 2)) ∧
      (64 * 75 < r → r ≤ 64 * 83 → (t.stackAt k.val).band = 2) ∧
      (64 * 83 < r → r ≤ 64 * 85 → (t.stackAt k.val).band = (if (s.stackAt k.val).band ≤ 2 then 2 else 3)) ∧ (64 * 85 < r → (t.stackAt k.val).band = 3) ∧
      (64 * 92 < r → (t.hallAt (k.val / 4)).halted.isSome = true) ∧
      (64 * 105 ≤ r → s.pins.thermtrip = false → t.pins.thermtrip = true ∧ t.boot.stage = .held)) ∧
    (∀ (h : Hall) (js ds : Ints), s.due (1 + h.val) 100000 = true →
      let low : Int := if s.lamp.calDefault then 64 * 5 else 0
      let tj : Int := 64 * s.obj 0x4020 1 - low
      let td : Int := 64 * s.obj 0x4020 2 - low
      let js' := (List.range 16).map (fun k => galleryHeat s (16 * h.val + k) js)
      let j := hottest js'
      let d := hottest ((List.range 4).map (fun k => stackHeat s (4 * h.val + k) (ds.drop (12 * k))))
      let hot : Prop := (∃ x, j = some x ∧ tj < x) ∨ ∃ x, d = some x ∧ td < x
      let cool : Prop := (∀ x, j = some x → x + 64 * 2 ≤ tj) ∧ ∀ x, d = some x → x + 64 * 2 ≤ td
      let r := (hottest (js'.map (fun x => some (heat x)))).getD 0
      let y := s.hallAt h.val
      ∃ t, Gives (.thermalCycle h js ds) s t ∧ (t.hallAt h.val).junctionNow = r ∧
        (hot → (t.hallAt h.val).thermal = max 600 (y.thermal - 5)) ∧
        (cool → (t.hallAt h.val).thermal = min (ceilingOf s h.val) (y.thermal + 5)) ∧
        (¬ hot → ¬ cool → (t.hallAt h.val).thermal = y.thermal) ∧
        (64 * 100 < r → (t.hallAt h.val).halted.isSome = true) ∧ (64 * 105 ≤ r → s.pins.thermtrip = false → t.pins.thermtrip = true ∧ t.boot.stage = .held)) ∧
    (∀ v : SensorReading,
      let least : Int := match v.sensor with
        | .iod _ => 115
        | _ => 105
      (∀ r, sensed s v.sensor v.raw = some r → 64 * least ≤ r → s.pins.thermtrip = false → ∃ t, Gives (.thermtrip v) s t ∧ t.pins.thermtrip = true ∧
        t.boot.stage = .held ∧ ∀ h, h < 4 → (t.hallAt h).halted.isSome = true) ∧
      ((∀ r, sensed s v.sensor v.raw = some r → r < 64 * least) → Gives (.thermtrip v) s s)) ∧
    (∀ rd : Readings, s.due 0 1000 = true →
      let rest := (rd.nonHall :: s.power.restWin).take 100
      let allowance := 1000 * s.obj 0x4000 1 - rest.sum / rest.length
      ∃ t, Gives (.arbiterCycle rd) s t ∧ t.power.allowance = allowance ∧ t.power.restWin = rest ∧ ∀ h, h < 4 →
      (rd.demand.sum ≠ 0 → (t.hallAt h).grant = allowance * rd.demand.getD h 0 / rd.demand.sum) ∧
      (600 ≤ (s.hallAt h).setPoint → (t.hallAt h).setPoint ≤ (s.hallAt h).setPoint + 5 ∧ 600 ≤ (t.hallAt h).setPoint ∧
        ((s.hallAt h).rise = false → (t.hallAt h).grant = (s.hallAt h).grant → (t.hallAt h).setPoint ≤ (s.hallAt h).setPoint)) ∧
      (((s.hallAt h).halted.isSome = true ∨ (s.hallAt h).railOn = false) → (t.hallAt h).setPoint = 600)) ∧
    (∀ g : Gal, (s.galAt g.val).overShare = false → s.due (32 + g.val) 100000 = true → ∃ t, Gives (.gatingLiftStep g) s t ∧ (t.galAt g.val).gating =
      max (s.galAt g.val).gating (min (if hotRow s (hallOf g.val) then 4 else 16) ((s.galAt g.val).gating + 1))) ∧
    (∀ h : Hall, (s.hallAt h.val).railOn = true → ∀ c ∈ ([.avsTimeout h, .railOvervoltage h] : List Instr),
      ∃ t, Gives c s t ∧ (t.hallAt h.val).railOn = false ∧ (t.hallAt h.val).tripped = false ∧ (t.hallAt h.val).halted.isSome = true) ∧
    (∀ (sn : Sensor) (r : Int) (others : Ints), s.due (128 + sensorAt sn) 1000000 = true →
      let c : Int := 4 * r + sensorOffset s sn
      ∃ t, Gives (.sensorSelfCheck sn r others) s t ∧
      t.power.excluded = if others ≠ [] ∧ 1280 < (2 * c - 4 * median2 others).natAbs ∧ sn ∉ s.power.excluded then s.power.excluded ++ [sn] else s.power.excluded) ∧
    (∀ (k : Stack) (h : Hall) (g : Gal) (sn : Sensor) (r : Int) (js ds others : Ints) (rd : Readings),
      (s.due (8 + k.val) 1000 = false → Gives (.dramSensorRead k ds) s s) ∧ (s.due (1 + h.val) 100000 = false → Gives (.thermalCycle h js ds) s s) ∧
      (s.due 0 1000 = false → Gives (.arbiterCycle rd) s s) ∧ (s.due (32 + g.val) 100000 = false → Gives (.gatingLiftStep g) s s) ∧
      (s.due (128 + sensorAt sn) 1000000 = false → Gives (.sensorSelfCheck sn r others) s s))

/-- R2: a package budget outside the range of the part's ordering code is refused and the budget in force stays, whether the request fails another check first
(its sender is then told that check's status) or reaches the range check. -/
def Obligations.PackageBudgetRange : Prop :=
  ∀ (s : State) (q : Req) (v : Bytes),
    (leNat v < 900 ∨ (if s.lamp.fuses.hx then 2000 else 1400) < leNat v) →
    (∃ t, Gives (.packageBudgetWrite q v) s t ∧ t.hal.dict = s.hal.dict) ∧
    (∀ w, MayWrite s q 0x4000 1 v none w →
      ∃ t, Gives (.packageBudgetWrite q v) s t ∧ t.out = s.out ++ [.status q St.budgetRange] ∧ t.objBytes 0x4000 1 = s.objBytes 0x4000 1)

/-- R444 to R450, R452, R453, R510, R616: errors of a stack that cannot be corrected poison their granule and are counted, a corrected one is counted, a transfer is
retried, the wipe leaves zeros but in lost channels; the host's window reads and writes the DRAM behind a committed decoder (in IDE's
containment mode a line not yet verified is held, log 99), reads zeros before ready, and faults where no decoder maps. R52, R59: the landing of the first held hall on its
way (log 82) keeps a line of the host, and none is lost. -/
def Obligations.StacksAndHostWindow : Prop :=
  ∀ (s : State), Tidy s = true →
    (∀ a : Nat, s.boot.stage ≠ .off → dramAlive s a = true →
      let k := stackOf a
      let bad (c : Instr) : Prop := ∃ t, Gives c s t ∧ t.dramPoisoned a 1 = true ∧ (t.stackAt k).bad = min (2 ^ 32 - 1) ((s.stackAt k).bad + 1) ∧
        t.dram.mem = s.dram.mem
      bad (.dramUncorrectable a) ∧ bad (.dramScrub a .uncorrectable) ∧ Gives (.dramScrub a .clean) s s ∧
      (∃ t, Gives (.dramScrub a .corrected) s t ∧ (t.stackAt k).corrected = min (2 ^ 32 - 1) ((s.stackAt k).corrected + 1) ∧ t.dram.mem = s.dram.mem) ∧
      (Tab.get (0, 0) (channelOf a) (s.stackAt k).retries = (0, 0) → a / 64 ≠ 0 → ∃ t, Gives (.bondCrcFail a) s t ∧
        Tab.get (0, 0) (channelOf a) (t.stackAt k).retries = (a / 64, 1) ∧ t.dram.mem = s.dram.mem)) ∧
    (s.boot.wiping = true → ∃ t, Gives .dramWipeDone s t ∧ t.boot.wiping = false ∧
      (∀ a, s.lostAt a = false → t.dramByte a = 0 ∧ t.dramPoisoned a 1 = false) ∧
      ∀ a, s.lostAt a = true → t.dramByte a = s.dramByte a ∧ t.dramPoisoned a 1 = s.dramPoisoned a 1) ∧
    (∀ (off : Nat) (hold : Bool) (v : HostLine) (p : Bool), cxlUp s = false → Gives (.hostWindowRead off hold) s s ∧ Gives (.hostWindowWrite off v p) s s) ∧
    (∀ (off : Nat) (hold : Bool) (v : HostLine) (p : Bool), cxlUp s = true →
      (s.boot.stage = .boot → Gives (.hostWindowRead off hold) s { s with out := s.out ++ [.line (List.replicate 64 0) false] } ∧
        Gives (.hostWindowWrite off v p) s s) ∧
      (s.boot.stage = .ready → (s.cxl.dec1.committed = false ∨ s.cxl.dec1.size < off + 64) →
        exec (.hostWindowRead off hold) s = .fault .noSuchAddress ∧ exec (.hostWindowWrite off v p) s = .fault .noSuchAddress) ∧
      (s.boot.stage = .held → Gives (.hostWindowWrite off v p) s s) ∧
      (s.boot.stage = .ready → s.cxl.dec1.committed = true → off + 64 ≤ s.cxl.dec1.size → s.lostAt (s.cxl.hdmBase + off) = false → v.bytes.length = 64 →
        let a := s.cxl.hdmBase + off
        let u := releaseHeld s
        let holds := s.cxl.ideMem = some .containment ∧ v.checked = false
        (s.cxl.ideHeld = [] → u = s) ∧
        (holds → Gives (.hostWindowWrite off v p) s { s with cxl := { s.cxl with ideHeld := s.cxl.ideHeld ++ [(a, v.bytes, p)] } }) ∧
        ((∀ h, h < 4 → hallHeld s h = false) →
          (∃ t, Gives (.hostWindowRead off hold) s t ∧ t.dram = u.dram ∧ t.out.getLast? = some (.line (u.dramRead a 64) (u.dramPoisoned a 64))) ∧
          (¬ holds → ∃ t, Gives (.hostWindowWrite off v p) s t ∧ t.cxl.ideHeld = [] ∧ t.dramRead a 64 = v.bytes ∧
            ∀ b, b < a ∨ a + 64 ≤ b → t.dramByte b = u.dramByte b)) ∧
        (∀ h, (wayIn 0 (stackOf a / 4)).find? (hallHeld s) = some h →
          let keeps (c : Instr) (line : Option (Bytes × Bool)) : Prop := ∃ t, Gives c s t ∧ t.dram = u.dram ∧ t.out = u.out ∧
            (t.hallAt h).land.host = (u.hallAt h).land.host ++ [{ addr := a, hold := hold && line.isNone, line := line }]
          keeps (.hostWindowRead off hold) none ∧ (¬ holds → keeps (.hostWindowWrite off v p) (some (v.bytes, p))))))

/-- R488 to R493, R503, R505 to R513: decoders commit within their limits, snoops end or time out, the status window shows signal counters, ring states and completion records (a line whose update waits
for a snoop shows what it held, R493), the port goes down and comes up, a failing IDE stream takes the port down and what containment mode still holds of it is not used, TSP binds
partitions that no other guest holds, and the mailbox and DOE commands answer. What the end of a snoop or of the link releases goes on at once, `releaseWaits` (log 12); the vendor's codes and
forms in the answers are the model's (logs 22, 118), as are what a hot reset and a link-up clear (log 48). -/
def Obligations.CxlPort : Prop :=
  ∀ (s : State), Tidy s = true →
    let nothingWaits : Prop := s.net.parked = [] ∧ s.net.loop = [] ∧ waitsSnoop s = [] ∧
      ∀ g, g < 64 → ∀ l r, (s.lanAt g l).str = some r → ∀ b ∈ r.bursts, b.st ≠ .waits
    (∀ (base size : Nat), cxlUp s = true →
      (∃ t, Gives (.decoderCommit 0 base size) s t ∧ t.cxl.dec0 = { base := base, size := size, committed := decide (size = 0x10000000 ∧ base % 0x10000000 = 0) }) ∧
      ∃ t, Gives (.decoderCommit 1 base size) s t ∧ t.cxl.dec1 = { base := base, size := size, committed := !commitFails s 1 base size } ∧
        t.cxl.hdmBase = s.obj 0xC100 1) ∧
    (∀ line : Nat,
      let u : State := { s with cxl := { s.cxl with snoops := s.cxl.snoops.filter (fun c => c.1 != line), winOld := Tab.put none line none s.cxl.winOld } }
      Gives (.biSnoopResponse line) s (releaseWaits u (waitsSnoop s)) ∧ (nothingWaits → Gives (.biSnoopResponse line) s u) ∧
      (∀ at_, (line, at_, false) ∈ s.cxl.snoops → at_ + 1000000 ≤ s.clock.now →
        ∃ t, Gives (.biTimeout line) s t ∧ (∀ c ∈ t.cxl.snoops, c.1 = line → c.2.2 = true) ∧ t.cxl.snoops.length = s.cxl.snoops.length)) ∧
    (∀ (k : Nat) (hold : Bool), cxlUp s = true → s.cxl.dec0.committed = true → 64 * k < s.cxl.dec0.size → k < 1024 →
      ∃ t v, Gives (.statusWindowRead (64 * k) hold) s t ∧ t.out = s.out ++ [.line v false] ∧ (hold = true → k ∈ t.cxl.winHeld) ∧
        (∀ b, Tab.get none k s.cxl.winOld = some b → v = b) ∧
        (Tab.get none k s.cxl.winOld = none → v.length = 64 ∧
          (k < 128 → ∀ i, i < 8 → fld v (8 * i) 8 = (Tab.get (0 : W64) (8 * k + i) s.net.sig).toNat) ∧
          (128 ≤ k → k < 256 → ∀ i, i < 8 → 
            let y := s.ringAt (8 * (k - 128) + i)
            fld v (8 * i) 4 = y.head.toNat ∧ fld v (8 * i + 4) 1 = y.st % 256 ∧ fld v (8 * i + 5) 2 = y.err % 65536) ∧
          (256 ≤ k → ∀ i, i < 4 →
            let x : Completion := Tab.get Completion.zero (4 * (k - 256) + i) s.cxl.slots
            fld v (16 * i) 8 = x.tag.toNat ∧ fld v (16 * i + 8) 2 = x.status.toNat ∧ fld v (16 * i + 10) 1 = x.gallery.toNat ∧ fld v (16 * i + 11) 1 = x.phase.toNat ∧
              fld v (16 * i + 12) 2 = x.ring.toNat ∧ fld v (16 * i + 14) 2 = x.records.toNat))) ∧
    (s.boot.stage ≠ .off → s.cxl.up = true →
      let down (u : State) : Prop := u.cxl.filter = [] ∧ u.cxl.winHeld = [] ∧ u.cxl.winOld = [] ∧ u.cxl.snoops = [] ∧ u.cxl.ideHeld = [] ∧
        (∀ c ∈ u.cxl.rings, c.2.enable = false) ∧ u.dram = s.dram
      let record (u : State) : State := raiseFree u (Rep.dev St.cxlLinkDown 1 true 16 0 0) none none
      (∃ u, down u ∧ u.cxl.up = false ∧ Gives .linkDown s (record (releaseWaits u (waitsSnoop s))) ∧ (nothingWaits → Gives .linkDown s (record u))) ∧
      (∃ u t, down u ∧ u.cxl.up = true ∧ Gives .hotReset s t ∧ t = portReset (releaseWaits u (waitsSnoop s)) ∧ (nothingWaits → t = portReset u) ∧
        t.cxl.dec0.committed = false ∧ t.cxl.dec1.committed = false ∧ t.cxl.ideIo = false ∧ t.cxl.ideMem = none) ∧
      (ideOn s = true → ∃ u w, down u ∧ u.cxl.up = false ∧ Gives .ideFailure s (record (releaseWaits u w))) ∧
      (ideOn s = false → Gives .ideFailure s s)) ∧
    (∀ cxl : Bool, s.boot.stage ≠ .off → s.cxl.up = false → ∃ t, Gives (.cxlLinkUp cxl) s t ∧ t.cxl.up = true ∧ t.cxl.cxl = cxl ∧
      t.cxl.dec0.committed = false ∧ t.cxl.dec1.committed = false ∧ t.cxl.ideIo = false ∧ t.cxl.ideMem = none) ∧
    (mbxReady s = true →
      (∀ (mask : W64) (sess : Nat), secured s = true → (∀ p, p < 64 → mask.getLsbD p = true → boundElsewhere s sess p = false) →
        ∃ t, Gives (.tspBind mask sess) s t ∧ t.out.getLast? = some (.doe 5 []) ∧ ∀ p, p < 64 →
          (mask.getLsbD p = true → Tab.get none p t.cxl.tsp = some sess) ∧ (mask.getLsbD p = false → Tab.get none p t.cxl.tsp ≠ some sess)) ∧
      (s.dram.translating = none →
        (∀ log : EventLog, Gives (.getEventRecords log) s { s with out := s.out ++ [.event log (eventRecs s log).flatten] } ∧
          ∀ n, n ≤ (eventRecs s log).length → ∃ t, Gives (.clearEventRecords log n) s t ∧ eventRecs t log = (eventRecs s log).drop n ∧
            t.out = s.out ++ [.mailbox 0 []]) ∧
        (∀ c ∈ ([.getSupportedLogs, .getLog, .identifyMemoryDevice] : List Instr), ∃ v, Gives c s { s with out := s.out ++ [.mailbox 0 v] })) ∧
      (∀ c ∈ ([.doeDiscovery, .cdatTableAccess] : List Instr), ∃ k v, Gives c s { s with out := s.out ++ [.doe k v] }) ∧
      (∀ (sess : Nat) (keys : Bool), (sess, true) ∈ s.cxl.spdmSess →
        (∃ t, Gives (.ideKm sess ⟨.io, keys⟩) s t ∧ t.cxl.ideIo = keys ∧ t.cxl.ideMem = s.cxl.ideMem) ∧
        ∀ m : IdeMode, ∃ t, Gives (.ideKm sess ⟨.cachemem m, keys⟩) s t ∧ t.cxl.ideMem = (if keys then some m else none) ∧ t.cxl.ideIo = s.cxl.ideIo))

/-! ## The dictionary (19 and every chapter's objects) -/

/-- R520, R525 to R528, R534, R535 and the range that each object's chapter gives: a write that its sender may make and whose value is in range is accepted and
journalled, the value reads back (of an admission list without its reserved bits, R9), no other stored object changes. `0xA001` also disables a flight or has it train (R484), `0x8010:04` sets the time (R533). -/
def Obligations.StoredObjectWrites : Prop :=
  ∀ (s : State) (q : Req) (w : Who) (v : Bytes),
    let n := leNat v
    let keepsAs (c : Instr) (i sub : Nat) (part : Option Nat) (kept : Bytes) (also : State → Prop) : Prop := MayWrite s q i sub v part w →
      ∃ t, Gives c s t ∧ Accepted t q i sub part w ∧ t.objBytes i sub = kept ∧ (∀ j k, Dict.key j k ≠ Dict.key i sub → t.objBytes j k = s.objBytes j k) ∧ also t
    let keeps (c : Instr) (i sub : Nat) (part : Option Nat) (also : State → Prop) : Prop := keepsAs c i sub part v also
    (∀ p : Part,
      let k := p.val + 1
      let own := some p.val
      keeps (.itemLimitWrite q p v) 0x6190 k own (fun _ => True) ∧ keeps (.securityOverrideWrite q p v) 0x6120 k own (fun _ => True) ∧
      keeps (.regulatorWrite q false p v) 0x6180 k own (fun _ => True) ∧ keeps (.regulatorWrite q true p v) 0x6181 k own (fun _ => True) ∧
      (fld v 0 2 + fld v 2 2 ≤ 3072 → (∀ j, j < 64 → j ≠ p.val → (slotAllot s j).2 ≠ 0 →
          fld v 0 2 + fld v 2 2 ≤ (slotAllot s j).1 ∨ (slotAllot s j).1 + (slotAllot s j).2 ≤ fld v 0 2) →
        keeps (.completionSlotAllot q p v) 0xB120 k own (fun t => slotAllot t p.val = (n % 65536, n / 65536))) ∧
      (F32.lt (w32 n) 0x404CCCCD = false → F32.lt 0x57800000 (w32 n) = false → keeps (.floodingSigmaWrite q p v) 0x6161 k own (fun _ => True)) ∧
      ((∀ u ∈ unitsOf v, u % 80 ≠ 79 ∧ ∀ j, j < 64 → j ≠ p.val → u ∉ unitsOf (s.objBytes 0x6001 (j + 1))) → (∀ u ∈ mappedUnits s p.val, u ∈ unitsOf v) →
        keeps (.allotmentWrite q p v) 0x6001 k own (fun _ => True)) ∧
      (fld v 2 2 ≤ 16 → v.length = 4 + 4 * fld v 2 2 → fld v 0 2 ≤ 4095 →
        keepsAs (.admissionWrite q p v) 0xA200 k own (admitClean v) (fun _ => True))) ∧
    (n ≤ 4095 → keeps (.deviceIdWrite q v) 0xA000 1 none (fun t => t.devId = some n)) ∧
    (∀ f : Flight, keeps (.flightEnableWrite q f v) 0xA001 (f.val + 1) none (fun t => (n = 0 → (t.flightAt f.val).st = 3) ∧
      (n ≠ 0 → (t.flightAt f.val).st = (if (s.flightAt f.val).st = 0 ∨ (s.flightAt f.val).st = 3 then 1 else (s.flightAt f.val).st)))) ∧
    (v.length = 16384 → (∀ d, d < 4096 → routeEntryOk (fld v (4 * d) 4) = true) → keeps (.routeTableWrite q v) 0xA010 0 none (fun _ => True)) ∧
    (900 ≤ n → n ≤ (if s.lamp.fuses.hx then 2000 else 1400) → keeps (.packageBudgetWrite q v) 0x4000 1 none (fun _ => True)) ∧
    (n % 1073741824 = 0 → s.obj 0xC100 2 ≤ 256 → windowOk n (s.obj 0xC100 2) = true → keeps (.hdmWindowWrite q 1 v) 0xC100 1 none (fun _ => True)) ∧
    (s.obj 0xC100 1 % 1073741824 = 0 → n ≤ 256 → windowOk (s.obj 0xC100 1) n = true → keeps (.hdmWindowWrite q 2 v) 0xC100 2 none (fun _ => True)) ∧
    (∀ sub, (if sub = 2 then n else s.obj 0x2110 2) ≤ (if sub = 3 then n else s.obj 0x2110 3) → keeps (.dispatchParamWrite q sub v) 0x2110 sub none (fun _ => True)) ∧
    (s.timeSource = 0 → keeps (.timeSet q v) 0x8010 4 none (fun t => t.clock = s.clock ∧ t.hal.slewTo = (n : Int) - (s.clock.now : Int) ∧
      (1000000 < (n : Int) - (s.clock.now : Int) - s.offsetAt s.clock.now → t.time64 = n % 2 ^ 64) ∧
      ((n : Int) - (s.clock.now : Int) - s.offsetAt s.clock.now ≤ 1000000 → t.time64 = s.time64)))

/-- R520, R522, R523: who may not write. A request that names no live session is answered with its status; an Owner's or a Host driver's write of an object that
is the Operator's, or of a partition outside its mask, an Operator's of an object reserved to the owner, and a write without a session of any object that needs
one are refused with `ST_OBJ_ACCESS`. A refused write changes nothing but the time of the session's last request. -/
def Obligations.WriteRights : Prop :=
  ∀ (s : State) (q : Req) (v : Bytes) (p : Part) (k : Fin 5), s.boot.stage = .ready → mailboxBusy s q = false → s.hal.serving = none →
    let operators : List Instr := [.packageBudgetWrite q v, .calibrationWrite q k v, .calibrationCommit q v, .lanternReadmit q v, .anchorRevoke q v,
      .credentialWrite q 4 v, .credentialWrite q 63 v, .fwKeyRevoke q v, .firmwareImageWrite q v, .securityVersionAdvance q v, .lifeCycleTransition q v,
      .allotmentWrite q p v, .credentialBurn q v true]
    let partitions : List Instr := [.itemLimitWrite q p v, .regulatorWrite q false p v, .regulatorWrite q true p v, .admissionWrite q p v, .completionSlotAllot q p v]
    let owners : List Instr := [.securityOverrideWrite q p v, .floodingSigmaWrite q p v]
    (∀ st, whoOf s q = .error st → ∀ c ∈ operators ++ partitions ++ owners ++ [.deviceIdWrite q v, .routeTableWrite q v, .modePlanWrite q v, .timeSet q v,
        .dispatchParamWrite q 1 v, .faultAck q v, .galleryResetWrite q v, .paramSetRegister q v, .mapRequest q v, .sessionEntryWrite q v],
      Gives c s (s.emit (.status q st))) ∧
    (∀ w, whoOf s q = .ok w → w.role ≠ 1 → w.role ≠ 0 → ∀ c ∈ operators, Gives c s (refusal s q St.objAccess)) ∧
    (∀ w, whoOf s q = .ok w → w.role ≠ 1 → w.mask.getLsbD p.val = false → ∀ c ∈ partitions ++ owners, Gives c s (refusal s q St.objAccess)) ∧
    (∀ w, whoOf s q = .ok w → w.role = 1 ∨ w.role = 3 → ∀ c ∈ owners, Gives c s (refusal s q St.objAccess)) ∧
    (∀ w, whoOf s q = .ok w → w.role = 2 ∨ w.role = 0 → ∀ c ∈ ([.deviceIdWrite q v, .routeTableWrite q v, .modePlanWrite q v, .timeSet q v, .galleryResetWrite q v] : List Instr),
      Gives c s (refusal s q St.objAccess))

/-! ## Registrations, maps, rings, sessions, plans (01, 07, 08, 13, 18) -/

/-- R198 to R206, R221 to R224: a parameter set that passes the checks is registered but cannot be used until its registration is done, when its sender is
answered; a set or key set is removed unless something names it; a margin or a key set is kept as written. -/
def Obligations.ParameterAndKeySets : Prop :=
  ∀ (s : State) (q : Req) (w : Who) (v : Bytes), Tidy s = true →
    let id := leNat v
    let part := fld v 8 1
    let fp := fld v 0 8
    (∀ p, MayWrite s q 0x6100 1 v (bytePart v 2) w → recordCheck s q v = .ok p → ∃ t, Gives (.paramSetRegister q v) s t ∧
      Tab.get none (fld v 0 2) t.dram.psets = some p ∧ psetOf t (fld v 0 2) = none ∧ t.out = s.out ∧ t.dram.psFail = 0xFF) ∧
    (∀ e, MayWrite s q 0x6100 1 v (bytePart v 2) w → recordCheck s q v = .error e → ∃ t, Gives (.paramSetRegister q v) s t ∧
      t.dram.psets = s.dram.psets ∧ t.dram.psFail = e.2 ∧ t.out = s.out ++ [.status q e.1]) ∧
    (∀ ps p, s.boot.stage = .ready → Tab.get none ps s.dram.psets = some p → p.ready = false → hwGone s 2 ps (1024 * p.kib) = false → s.hal.waitFrames = [] →
      ∃ t, Gives (.paramSetRegistrationDone ps) s t ∧ psetOf t ps = some { p with ready := true } ∧ t.out = s.out ++ [.status p.req 0]) ∧
    (MayWrite s q 0x6101 0 v (some (psetPart s id)) w → ∀ p, psetOf s id = some p →
      (psetBusy s id = false → ∃ t, Gives (.paramSetUnregister q v) s t ∧ Accepted t q 0x6101 0 (some (psetPart s id)) w ∧ psetOf t id = none ∧
        ∀ k, k ≠ id → psetOf t k = psetOf s k) ∧
      (psetBusy s id = true → Gives (.paramSetUnregister q v) s (refusal s q St.paramBusy))) ∧
    (MayWrite s q 0x6101 0 v (some (psetPart s id)) w → psetOf s id = none → Gives (.paramSetUnregister q v) s (refusal s q St.paramUnknown)) ∧
    (MayWrite s q 0x6103 4 v (some (psetPart s (s.obj 0x6102 0))) w → psetOf s (s.obj 0x6102 0) = none →
      Gives (.marginWrite q v) s (refusal s q St.paramUnknown)) ∧
    (MayWrite s q 0x6103 4 v (some (psetPart s (s.obj 0x6102 0))) w → ∀ p, psetOf s (s.obj 0x6102 0) = some p → leNat v ≤ 16384 →
      ∃ t, Gives (.marginWrite q v) s t ∧ psetOf t (s.obj 0x6102 0) = some { p with margin := leNat v }) ∧
    (MayWrite s q 0x6140 1 v (bytePart v 0x0A) w → ksetBad v = false → ∀ p, psetOf s (fld v 8 2) = some p → p.part = fld v 0x0A 1 →
      ksetOf s (fld v 0x0A 1) fp = none → s.dram.ksets.length < 262144 →
      ∃ t x, Gives (.keysetRegister q v) s t ∧ Accepted t q 0x6140 1 (bytePart v 0x0A) w ∧ ksetOf t (fld v 0x0A 1) fp = some x ∧ x.ps = fld v 8 2 ∧
        x.dirCount = fld v 0x0C 4 ∧ x.seed = slice v 0x10 32 ∧ x.dirAddr = fld v 0x30 8 ∧ x.opened = 0 ∧ x.stopped = 0) ∧
    (MayWrite s q 0x6141 0 v (bytePart v 8) w → v.length = 9 → (ksetOf s part fp).isSome = true →
      (ksetBusy s part fp = false → ∃ t, Gives (.keysetUnregister q v) s t ∧ Accepted t q 0x6141 0 (bytePart v 8) w ∧ ksetOf t part fp = none) ∧
      (ksetBusy s part fp = true → Gives (.keysetUnregister q v) s (refusal s q St.keysetBusy)))

/-- R357 to R360: a map request is carried out whole or not at all, journalled with origin Host driver, and answered once every translation cache has dropped
what it changed; a walk puts the page at the front of the gallery's cache of 1,024 entries. -/
def Obligations.VirtualMemoryMap : Prop :=
  ∀ (s : State) (q : Req) (w : Who) (v : Bytes),
    let part := mapPart s q v
    let asid := fld v 0 2
    let sp : Space := (Tab.get none asid s.dram.spaces).getD { owner := part.getD 64, pages := [] }
    (∀ es ps, MayWrite s q 0x6170 1 v part w → readMaps v = some es → sp.owner = part.getD 64 → pagesAllotted s (part.getD 64) es = true →
      applyMaps es sp.pages = some ps → allTables (Tab.put none asid (some { sp with pages := ps }) s.dram.spaces) ≤ 2 ^ 30 →
      ∃ t e, Gives (.mapRequest q v) s t ∧ Tab.get none asid t.dram.spaces = some { owner := sp.owner, pages := ps } ∧
        (∀ k, k ≠ asid → Tab.get none k t.dram.spaces = Tab.get none k s.dram.spaces) ∧ t.dram.mapWait = s.dram.mapWait ++ [(q, mapRanges asid es)] ∧
        t.out = s.out ∧ t.hal.jlast = some e ∧ e.origin = 3 ∧ e.index = 0x6170) ∧
    (∀ es, MayWrite s q 0x6170 1 v part w → readMaps v = some es → sp.owner = part.getD 64 → pagesAllotted s (part.getD 64) es = true →
      applyMaps es sp.pages = none → Gives (.mapRequest q v) s (refusal s q St.mapConflict)) ∧
    (∀ rs rest, s.dram.mapWait = (q, rs) :: rest → s.boot.stage = .ready → s.hal.waitFrames = [] →
      ∃ t, Gives .mapAck s t ∧ t.dram.mapWait = rest ∧ t.dram.spaces = s.dram.spaces ∧ t.out = s.out ++ [.status q 0] ∧
        (∀ g, ∀ e, e ∈ (t.galxAt g).tlb ↔ e ∈ (s.galxAt g).tlb ∧ ∀ r ∈ rs, tlbHit r e = false) ∧
        ∀ die, ∀ e, e ∈ Tab.get [] die t.net.tlb ↔ e ∈ Tab.get [] die s.net.tlb ∧ ∀ r ∈ rs, tlbHit r e = false) ∧
    (∀ (g : Gal) (a va : Nat),
      ((∀ x ∈ pagesOf s a, x.holds va = false) → Gives (.translationWalk g a va) s s) ∧
      (∀ x, (pagesOf s a).find? (fun x => x.holds va) = some x → ∃ t, Gives (.translationWalk g a va) s t ∧ (t.galxAt g.val).tlb.length ≤ 1024 ∧
        (t.galxAt g.val).tlb.head? = some { asid := a, va := x.va, pa := x.pa, size := x.size, rights := (if x.rd then 1 else 0) + (if x.wr then 2 else 0) }))

/-- R393, R491, R494 to R497, R601: a configuration within the rules is in force at once and enabling starts the ring at 0 (its last error standing, R491); a doorbell wakes the
deep-retention banks of the ring's hall (R393), moves the tail of a running ring, halts it when the tail is out of reach, and is counted otherwise; reading an item (for which an item in DRAM whose line the host holds waits, R506, log 12) moves the head past it, poison
halts the ring; the model's number of an item tells it from those of an earlier run of its ring (log 107). R20
to R23: an accepted session entry waits, the roll unchanged and its sender unanswered, until the halls have dropped the old entry; then the roll
holds the new entry with the hardware's counts of the old one, no hall's cache holds the session, and the sender is answered. -/
def Obligations.RingsAndSessionRoll : Prop :=
  (∀ (s : State) (q : Req) (w : Who) (r : RingNo) (v : Bytes), Tidy s = true →
     let y := s.ringAt r.val
     let p := ringPart s q y
     let i := 0xB100 + r.val / 128
     (MayWrite s q i (r.val % 128 + 1) v p w → ringBad s y p v = false → (fld v 11 1 = 1 → s.cxl.cxl = true) →
       ∃ t, Gives (.ringConfigWrite q r v) s t ∧ Accepted t q i (r.val % 128 + 1) p w ∧
         let z := t.ringAt r.val
         z.base = fld v 0 8 ∧ z.logLen = fld v 8 1 ∧ z.loc = fld v 9 1 ∧ z.hall = fld v 10 1 ∧ z.enable = decide (fld v 11 1 = 1) ∧ z.msix = fld v 12 2 ∧
         (fld v 11 1 = 1 → z.part = p ∧ z.st = 1 ∧ z.err = y.err ∧ (y.enable = false → z.head = 0 ∧ z.tail = 0)) ∧ (fld v 11 1 ≠ 1 → y.enable = true → z.st = 0)) ∧
     (MayWrite s q i (r.val % 128 + 1) v p w → ringBad s y p v = true → (fld v 11 1 = 1 → s.cxl.cxl = true) →
       Gives (.ringConfigWrite q r v) s (refusal s q St.ringConfig)) ∧
     (∀ tail : W32, barReads s = true → s.boot.stage ≠ .held →
       (y.st = 1 → (tail - y.head).toNat ≤ 2 ^ y.logLen → ∃ t, Gives (.doorbellWrite r tail) s t ∧ t.ringAt r.val = { y with tail := tail } ∧ t.out = s.out ∧
        (t.hallAt y.hall).deepRet = []) ∧
       (y.st = 1 → 2 ^ y.logLen < (tail - y.head).toNat → ∃ t, Gives (.doorbellWrite r tail) s t ∧ t.ringAt r.val = { y with st := 2, err := St.ringDoorbell } ∧
        (t.hallAt y.hall).deepRet = []) ∧
       (y.st ≠ 1 → Gives (.doorbellWrite r tail) s { wakeDeep s y.hall with cxl := { s.cxl with doorbells := s.cxl.doorbells + 1 } })) ∧
     (∀ poison : Bool, mayRead s y = true →
       (y.loc ≠ 1 → poison = false → ∃ t, Gives (.ringItemRead r v poison) s t ∧
         t.ringAt r.val = { y with head := y.head + 1, read := [{ hall := y.hall, idx := y.nextIdx, bytes := fitBytes 64 v }], items := y.items ++ [y.nextIdx] }) ∧
       (∀ b, y.loc = 1 → s.dget (itemAddr y) 64 = (b, false) → ∃ t, GivesAwaited (.ringItemRead r v poison) s t ∧
         t.ringAt r.val = { y with head := y.head + 1, read := [{ hall := y.hall, idx := y.nextIdx, bytes := b }], items := y.items ++ [y.nextIdx] }) ∧
       (y.loc ≠ 1 → poison = true → ∃ t, Gives (.ringItemRead r v poison) s t ∧ t.ringAt r.val = { y with st := 2, err := St.ringRead }))) ∧
  (∀ (s : State), Tidy s = true →
     (∀ (q : Req) (w : Who) (v : Bytes),
       let sid := fld v 0 4 % 2 ^ 18
       MayWrite s q 0x6010 0 v (bytePart v 4) w → sessBad s v = none →
       (∀ o, sessNow s sid = some o → roleAllows w 0x6010 false (some o.part) = true ∧ tspLocked s w (some o.part) = false) →
       ∃ t c, Gives (.sessionEntryWrite q v) s t ∧ t.changes = s.changes ++ [c] ∧ c.sid = sid ∧ c.req = q ∧ t.roll = s.roll ∧ t.out = s.out ∧
         c.entry = (if nbit (fld v 6 2) 0 then some (readSess v (sessNow s sid)) else none)) ∧
     (∀ (sid : Nat) (c : SessChange), s.boot.stage = .ready → s.changes.find? (fun c => c.sid == sid) = some c → s.hal.waitFrames = [] →
       ∃ t, Gives (.sessionChangeAck sid) s t ∧ t.changes = s.changes.erase c ∧ t.out.getLast? = some (.status c.req 0) ∧
         (c.entry = none → t.sessAt sid = none) ∧
         (∀ e, c.entry = some e → ∃ z, t.sessAt sid = some z ∧ { z with itemsDone := e.itemsDone, beatsUsed := e.beatsUsed } = e ∧
           ∀ o, s.sessAt sid = some o → z.beatsUsed = o.beatsUsed) ∧
         ∀ h, h < 4 → ∀ x ∈ (t.hallAt h).roll, x.1 ≠ sid))

/-- R36 to R39, R43: an accepted plan is the target from then on; a gallery whose entry it leaves is at its epoch at once, one whose entry it changes is changing
and, out of Dark, waits for power; one quarantined by fault stays so. A plan outside the rules, or of a wrong length, is refused whole. R511: so is one that writes, or by the model's reading
(log 108) replaces, an entry with a partition that is locked against its session. -/
def Obligations.ModePlans : Prop :=
  (∀ (s : State) (q : Req) (w : Who) (v : Bytes), s.boot.stage = .ready → mailboxBusy s q = false → s.hal.serving = none → whoOf s q = .ok w →
    writeBad s w 0x2100 1 v none = some St.objLength → Gives (.modePlanWrite q v) s (refusal s q St.planRefused)) ∧
  ∀ (s : State) (q : Req) (w : Who) (v : Bytes), Tidy s = true → MayWrite s q 0x2100 1 v none w →
    (planLocked s w v = true → Gives (.modePlanWrite q v) s (refusal s q St.cxlTspLocked)) ∧
    (∀ p g, p < 64 → g < 64 → tspLocked s w (some p) = true → (∃ x, (p, x) ∈ s.cxl.tsp) →
      (planEntry v g).mask.getLsbD p = true ∨ (PlanEntry.at_ s.plan g).mask.getLsbD p = true → planLocked s w v = true) ∧
    (planLocked s w v = false → planBad s v = true → Gives (.modePlanWrite q v) s (refusal s q St.planRefused)) ∧
    (planLocked s w v = false → planBad s v = false → ∃ t, Gives (.modePlanWrite q v) s t ∧ Accepted t q 0x2100 1 none w ∧
      t.plan.epoch = fld v 0 4 ∧ t.plan.deadline = planDeadline v ∧ t.plan.at_ = s.clock.now ∧ ∀ g : Gal,
        let y := s.galAt g.val
        let z := t.galAt g.val
        PlanEntry.at_ t.plan g.val = planEntry v g.val ∧ z.mode = y.mode ∧ z.task = y.task ∧
        (y.qFault = true → z.epoch = fld v 0 4 ∧ z.changing = y.changing) ∧
        (y.qFault = false → y.entry = planEntry v g.val → y.changing = false → z.epoch = fld v 0 4 ∧ z.changing = false) ∧
        (y.qFault = false → y.entry ≠ planEntry v g.val ∨ y.changing = true → z.epoch = y.epoch ∧ z.changing = true ∧
          z.powerWait = (y.mode == .dark && (planEntry v g.val).mode != .dark)))

/-! ## Time, calibration, the journal (19) -/

/-- R515, R532 to R544: a correction from the source in use and a change of sources (log 41); a field link that comes up has its address checked (log 109); the journal's oldest waiting entry
goes to flash; a calibration item is in force at once and lasts once its commit is done, a failed commit leaves no valid set in flash. What the flash first holds is the model's (log 19). -/
def Obligations.TimeJournalCalibration : Prop :=
  ∀ (s : State) (q : Req) (w : Who) (v : Bytes), s.boot.stage = .ready →
    (∀ (src : TimeSource) (x : W64),
      (s.timeSource = TimeSource.code src → ∃ t, Gives (.timeCorrection src x) s t ∧ t.clock = s.clock ∧ t.hal.slewTo = (x.toNat : Int) - (s.clock.now : Int) ∧
        (1000000 < (x.toNat : Int) - (s.clock.now : Int) - s.offsetAt s.clock.now → t.time64 = x.toNat)) ∧
      (s.timeSource ≠ TimeSource.code src → Gives (.timeCorrection src x) s s)) ∧
    (∀ on : Bool,
      Gives (.timeSourceLockChange .ptp on) s { s with hal := { s.hal with ptp := on && s.hal.fieldUp } } ∧
      Gives (.timeSourceLockChange .ptm on) s { s with hal := { s.hal with ptm := on && s.cxl.up } } ∧
      Gives (.fieldPortLinkChange on) s { s with hal := { s.hal with
        fieldUp := on, dad := if on && !s.hal.fieldUp then .checking s.clock.now else s.hal.dad, ptp := s.hal.ptp && on } }) ∧
    (∀ e rest, s.hal.jram = e :: rest → ∃ t, Gives .journalProgram s t ∧ t.hal.jram = rest ∧ t.hal.jlast = s.hal.jlast ∧
      ∀ x, x ∈ t.hal.jflash ↔ (x ∈ s.hal.jflash ∨ x = e) ∧ (s.hal.jlast.map (·.jseq)).getD 0 ≤ x.jseq + 65535) ∧
    (∀ k : Fin 5, MayWrite s q (0x3100 + k.val) 1 v none w → ∃ t, Gives (.calibrationWrite q k v) s t ∧ Accepted t q (0x3100 + k.val) 1 none w ∧
      t.hal.cal.changed = true ∧ calItem t.hal.cal.items k.val = v ∧ (∀ j : Fin 5, j ≠ k → calItem t.hal.cal.items j.val = calItem s.hal.cal.items j.val) ∧
      t.hal.cal.flash = s.hal.cal.flash) ∧
    (MayWrite s q 0x3000 1 v none w → leNat v = 1 → s.hal.cal.committing = none → ∃ t e, Gives (.calibrationCommit q v) s t ∧ t.out = s.out ∧
      t.hal.cal.committing = some (q, (List.range 5).map (calItem s.hal.cal.items)) ∧ t.hal.jram = [] ∧ t.hal.jlast = some e ∧ e.kind = 3 ∧ e.index = 0x3000) ∧
    (∀ items, s.hal.cal.committing = some (q, items) → s.hal.waitFrames = [] →
      (∃ t, Gives (.calibrationCommitDone true) s t ∧ t.hal.cal.flash = items ∧ t.hal.cal.flashOk = true ∧ t.hal.cal.committing = none ∧
        t.out = s.out ++ [.status q 0]) ∧
      (∃ t, Gives (.calibrationCommitDone false) s t ∧ t.hal.cal.flashOk = false ∧ t.hal.cal.committing = none))

/-! ## Frames and sessions (19) -/

/-- R515, R517 to R523: opening, closing and ageing of sessions, discovery and ICMPv6; while the port's address is being checked it answers nothing, and a conflict keeps it from the
address (log 109: the check ends 1 s after the link-up). -/
def Obligations.HaldubSessions : Prop :=
  ∀ (s : State) (p : Port) (f : Bytes), Tidy s = true →
    let d := f.drop 32
    let sid := fld f 4 4
    (∀ st, Arrives s p 3 f → openBad s p f = some st → ∃ t b, Gives (.open1 p f) s t ∧ t.out = s.out ++ [.frame p b] ∧ fld b 3 1 = 8 ∧ fld b 0x1A 2 = st ∧
      t.hal.openings = s.hal.openings ∧ t.hal.sess = s.hal.sess) ∧
    (Arrives s p 3 f → openBad s p f = none → ∃ t b o, Gives (.open1 p f) s t ∧ t.out = s.out ++ [.frame p b] ∧ b.length = 180 ∧ fld b 3 1 = 4 ∧
      t.hal.openings = s.hal.openings ++ [o] ∧ o.sid = s.hal.nextSess ∧ o.port = p ∧ o.cred = fld d 0 2 ∧ o.open1 = f ∧ o.open2 = b ∧ t.hal.sess = s.hal.sess) ∧
    (∀ o, Arrives s p 5 f → s.boot.stage = .ready → s.hal.openings.find? (fun o => o.port == p && o.sid == sid) = some o →
      (tagOf f = tag16 o.c2d (o.open1 ++ o.open2 ++ untagged f) → credUsable s o.cred = true → sessCount s p < 8 →
        ∃ t y, Gives (.open3 p f) s t ∧ Tab.get none sid t.hal.sess = some y ∧ y.port = p ∧ y.cred = o.cred ∧ y.role = fld (credEntry s o.cred) 0x40 1 ∧
          y.mask.toNat = fld (credEntry s o.cred) 0x48 8 ∧ y.c2d = o.c2d ∧ y.d2c = o.d2c ∧ t.hal.openings = s.hal.openings.erase o ∧
          t.out = s.out ++ [.frame p (response o.d2c f 1 0 0 0 [])]) ∧
      (tagOf f ≠ tag16 o.c2d (o.open1 ++ o.open2 ++ untagged f) → ∃ t b, Gives (.open3 p f) s t ∧ t.hal.sess = s.hal.sess ∧
        t.hal.openings = s.hal.openings.erase o ∧ t.out = s.out ++ [.frame p b] ∧ fld b 0x1A 2 = St.sessionAuth)) ∧
    (∀ y, Arrives s p 9 f → NewRequest s p f y → ∃ t, Gives (.close p f) s t ∧ Tab.get none sid t.hal.sess = none ∧
      (∀ k, k ≠ sid → Tab.get none k t.hal.sess = Tab.get none k s.hal.sess) ∧ t.out = s.out ++ [.frame p (response y.d2c f 1 0 0 0 [])]) ∧
    (∀ (k : Nat) (y : HSess), Tab.get none k s.hal.sess = some y →
      (y.last + 60000000000 ≤ s.clock.now → ∃ t, Gives (.sessionIdleTimeout k) s t ∧ Tab.get none k t.hal.sess = none) ∧
      (s.clock.now < y.last + 60000000000 → Gives (.sessionIdleTimeout k) s s)) ∧
    (fieldOn s = true →
      (frameOk .field f = true → fld f 3 1 = 1 → ∃ t, Gives (.discover f) s t ∧ t.hal.discover = s.hal.discover ++ [fld f 8 8] ∧
        t.hal.accepted = s.hal.accepted + 1 ∧ t.out = s.out) ∧
      (frameOk .field f = false → Gives (.discover f) s { s with hal := { s.hal with dropped := s.hal.dropped + 1 } }) ∧
      (∀ n rest, s.hal.discover = n :: rest → ∃ t b, Gives .discoverReply s t ∧ t.hal.discover = rest ∧ t.out = s.out ++ [.frame .field b] ∧ fld b 3 1 = 2 ∧
        b.drop 32 = orderCode s.lamp.fuses.hx ++ s.lamp.fuses.serial ++ s.objBytes 0xA000 1 ++ s.objBytes 0x2200 1) ∧
      Gives (.icmpv6Request (.echo d)) s { s with out := s.out ++ [.icmp d] } ∧
      (∀ m ∈ ([.neighbourSolicitation, .conflict] : List Icmp), Gives (.icmpv6Request m) s { s with out := s.out ++ [.icmp (linkLocal s)] }) ∧
      Gives (.icmpv6Request .other) s { s with hal := { s.hal with dropped := s.hal.dropped + 1 } }) ∧
    (∀ t0, s.hal.dad = .checking t0 → s.clock.now < t0 + 1000000000 →
      Gives (.icmpv6Request .conflict) s { s with hal := { s.hal with dad := .duplicate } } ∧ Gives (.icmpv6Request .neighbourSolicitation) s s)

/-- R518, R519, R524 to R526, R540, R605: a read answers with the value, at most a frame's data of it; a write whose last segment has come is carried out as the
value's own write and answered by its frame; reading records or entries returns the held ones from the cursor on and moves the cursor past the last. -/
def Obligations.DictionaryFrames : Prop :=
  ∀ (s : State) (p : Port) (f : Bytes), Tidy s = true →
    let q : Req := { port := p, sess := fld f 4 4 }
    let i := fld f 0x10 2
    let sub := fld f 0x12 1
    (∀ y v u, Arrives s p 6 f → NewRequest s p f y → fld f 0x14 4 = 0 → readObj (taken s p f y) i sub = .ok (v, u) →
      ∃ t, Gives (.read p f) s t ∧ t.out = u.out ++ [.frame p (response y.d2c f (if v.length ≤ maxData p then 1 else 0) 0 0 v.length (v.take (maxData p)))]) ∧
    (∀ y st, Arrives s p 6 f → NewRequest s p f y → fld f 0x14 4 = 0 → readObj (taken s p f y) i sub = .error st →
      ∃ t, Gives (.read p f) s t ∧ t.out = s.out ++ [.frame p (response y.d2c f 1 0 st 0 [])]) ∧
    (∀ y w (k : Part), Arrives s p 7 f → NewRequest s p f y → fld f 0x14 4 = 0 → fld f 0x13 1 = 1 → fld f 0x1C 4 = fld f 0x18 2 → i = 0x6190 → sub = k.val + 1 →
      MayWrite (taken s p f y) q i sub (slice f 32 (fld f 0x18 2)) (some k.val) w →
      ∃ t e, Gives (.write p f) s t ∧ t.objBytes i sub = slice f 32 (fld f 0x18 2) ∧ t.hal.jlast = some e ∧ e.index = i ∧ e.sub = sub ∧ e.cred = w.cred ∧
        t.out = s.out ++ [.frame p (response y.d2c f 1 0 0 0 [])]) ∧
    (∀ y, Arrives s p 7 f → NewRequest s p f y → fld f 0x14 4 = 0 → fld f 0x13 1 = 0 → totalOk i sub (fld f 0x1C 4) = true → fld f 0x18 2 < fld f 0x1C 4 →
      ∃ t, Gives (.write p f) s t ∧ t.hal.dict = s.hal.dict ∧ stageOf t q = some (Dict.key i sub, fld f 0x1C 4, slice f 32 (fld f 0x18 2)) ∧
        t.out = s.out ++ [.frame p (response y.d2c f 1 0 0 0 [])]) ∧
    (∀ (q : Req) (w : Who), s.boot.stage = .ready → mailboxBusy s q = false → whoOf s q = .ok w →
      (∀ r l, (s.fault.mem.filter (fun r => decide (s.obj 0x7000 4 ≤ r.seq))).take 16 = l ++ [r] →
        ∃ t, Gives (.faultRecordRead q) s t ∧ t.out = s.out ++ [.value q ((l ++ [r]).flatMap FRec.bytes)] ∧ t.obj 0x7000 4 = (r.seq + 1) % 2 ^ 64) ∧
      (∀ x l e more, s.hal.jflash ++ s.hal.jram = e :: more → e.jseq ≤ s.obj 0x8002 0 →
        ((e :: more).filter (fun e => decide (s.obj 0x8002 0 ≤ e.jseq))).take 8 = l ++ [x] →
        ∃ t, Gives (.journalRead q) s t ∧ t.out = s.out ++ [.value q ((l ++ [x]).flatMap JEntry.bytes)] ∧ t.obj 0x8002 0 = (x.jseq + 1) % 2 ^ 64) ∧
      (∀ e more, s.hal.jflash ++ s.hal.jram = e :: more → s.obj 0x8002 0 < e.jseq → Gives (.journalRead q) s (refusal s q St.journalGone)))

/-! ## Flights (17) -/

/-- R457 to R467, R470, R484 to R486: a flight that trains tells its neighbour its identifier and comes up with its credits or goes down, a nack or a time-out has the retry
buffer sent again from an entry on, before anything new, and the eighth in a row for one number retrains, a flight that has retrained goes on; what error correction found
is counted; a tread that fails its check draws one nack; a message that has made 15 hops is dropped and counted; without an identifier no idle or nack tread leaves; a
stalled channel is recorded once; in the held state no tread but an idle one leaves (R601). -/
def Obligations.FlightLinks : Prop :=
  (∀ (s : State) (f : Flight), s.boot.stage = .held → Gives (.retryTimeout f) s s ∧
    ∀ (ty : Nat) (seq : BitVec 12) (x : WTread), ty ≠ 0 → sendTread s f.val ty seq x = s) ∧
  ∀ (s : State) (f : Flight), Tidy s = true → s.boot.stage ≠ .held →
    let y := s.flightAt f.val
    (∀ (lanes : Byte) (nb : W16), y.st = 1 → y.training = false → s.devId ≠ some nb.toNat →
      (lanesTrain lanes = true → ∃ t, Gives (.flightTrainingDone f lanes nb) s t ∧ (t.flightAt f.val).st = 2 ∧ (t.flightAt f.val).neighbour = nb ∧
        (t.flightAt f.val).narrow = (lanes != 0xFF) ∧ (t.flightAt f.val).pool = 1792 ∧ (∀ vc, vc < 4 → Tab.get 0 vc (t.flightAt f.val).cred = 64) ∧
        (t.flightAt f.val).retry = [] ∧ (t.flightAt f.val).txSeq = 0 ∧ (t.flightAt f.val).rxSeq = 0 ∧
        ∃ b, .tread f.val b ∈ t.out ∧ fld b 0 1 % 16 = 3) ∧
      (lanesTrain lanes = false → ∃ t, Gives (.flightTrainingDone f lanes nb) s t ∧ (t.flightAt f.val).st = 0)) ∧
    (∀ (lanes : Byte) (nb : W16), y.st = 1 → y.training = false → s.devId = some nb.toNat →
      ∃ t, Gives (.flightTrainingDone f lanes nb) s t ∧ (t.flightAt f.val).st = 0) ∧
    (∀ seq : BitVec 12, y.st = 2 → y.retry.any (fun r => r.seq == seq) = true →
      let n := if y.resentOf = seq then y.resent + 1 else 1
      n < 8 →
      let again := y.retry.dropWhile (fun r => r.seq != seq)
      ∃ u, (u.flightAt f.val).resent = n ∧ (u.flightAt f.val).resentOf = seq ∧ u.out.length = s.out.length + again.length ∧
        (u.flightAt f.val).retry.map (·.seq) = y.retry.map (·.seq) ∧ Tab.get 0 2 (u.flightAt f.val).ctr = Tab.get 0 2 y.ctr + again.length ∧
        Gives (.nackReceive f seq) s (pump u f.val) ∧ (∀ r, y.retry.head? = some r → r.seq = seq → r.at_ + 4000 ≤ s.clock.now → Gives (.retryTimeout f) s u)) ∧
    (∀ seq : BitVec 12, y.st = 2 → y.retry.any (fun r => r.seq == seq) = true → y.resentOf = seq → y.resent = 7 → (y.times.filter (fun t => decide (s.clock.now < t + 1000000000))).length < 3 →
      ∃ t, Gives (.nackReceive f seq) s t ∧ (t.flightAt f.val).st = 1 ∧ (t.flightAt f.val).training = true ∧ (t.flightAt f.val).resent = 0) ∧
    (y.st = 1 → y.training = true →
      (∃ t, Gives (.retrainDone f true) s t ∧ (t.flightAt f.val).st = 2 ∧ (t.flightAt f.val).training = false) ∧
      ∃ t, Gives (.retrainDone f false) s t ∧ (t.flightAt f.val).st = 0) ∧
    (y.st = 2 → s.devId = none → Gives (.idleTreadDue f) s s) ∧
    (y.st = 2 → s.devId.isSome = true → (y.ackDue = true ∨ y.creditDue ≠ []) →
      ∃ t b, Gives (.idleTreadDue f) s t ∧ t.out = s.out ++ [.tread f.val b] ∧ b.length = 256 ∧ (t.flightAt f.val).ackDue = false) ∧
    (∀ (vc : Fin 4) (since : Nat), y.st = 2 → Tab.get none vc.val y.stall = some since → since + 1000000 ≤ s.clock.now → Tab.get false vc.val y.stalled = false →
      ∃ t x, Gives (.creditStall f vc) s t ∧ Tab.get false vc.val (t.flightAt f.val).stalled = true ∧ t.fault.todo = s.fault.todo ++ [x] ∧
        x.status = St.fltCreditStall ∧ x.detail0 = w32 (f.val + 256 * vc.val)) ∧
    (∀ rx : RxTread, y.st = 2 → s.boot.stage ≠ .off →
      let v := rx.bytes
      let c := countFec s f.val rx.corrected rx.bad
      let i : Instr := .treadReceive f rx
      (0 < rx.corrected → 0 < rx.bad → Tab.get 0 0 (c.flightAt f.val).ctr = Tab.get 0 0 y.ctr + rx.corrected ∧ Tab.get 0 1 (c.flightAt f.val).ctr = Tab.get 0 1 y.ctr + rx.bad) ∧
      (readTread v = none → (y.nacked = true ∨ s.devId = none) → Gives i s c) ∧
      (readTread v = none → y.nacked = false → s.devId.isSome = true → ∃ t b, Gives i s t ∧ (t.flightAt f.val).nacked = true ∧ t.out = s.out ++ [.tread f.val b] ∧
        fld b 0 1 % 16 = 2 ∧ (t.flightAt f.val).rxSeq = y.rxSeq ∧ (t.flightAt f.val).ctr = (c.flightAt f.val).ctr) ∧
      (∀ x : Tread, readTread v = some x → x.ty = 1 → x.seq = y.rxSeq → x.som = true →
        (x.eom = true → x.abort = false → s.devId = some (parseMsg x.data).dstDev.toNat → (parseMsg x.data).hops.toNat < 15 →
          ∃ u held, Gives i s (settle (deliver u f.val x.data held)) ∧ held.length = 1 ∧ (u.flightAt f.val).rxSeq = y.rxSeq + 1 ∧ (u.flightAt f.val).ackDue = true) ∧
        (s.devId.isSome = true → 15 ≤ (parseMsg x.data).hops.toNat → ∃ t, Gives i s t ∧ t.net.dropped = s.net.dropped + 1)))

/-! ## The P-256 engine (20) -/

/-- R554 to R561: a submitted job waits; the head's operation finishes with the outcome of its operands, or with a refusal or the failure of its reads (the descriptor's first); a finished
job's result goes to the host's window (and waits for lines of it that the host holds, R506, log 12) and its curve to its slot, it is counted and its completion posted; completions are read oldest
first. Addresses of registers that R554 does not give, and the order of the checks before a read, are the model's (log 42). -/
def Obligations.KeyEngine : Prop :=
  ∀ (s : State) (j : PkeJob) (more : List PkeJob), Tidy s = true → s.boot.stage = .ready →
    (∀ hi : W32, s.cxl.up = true →
      (pkeHeld s < 16 → ∃ t x, Gives (.pkeSubmit hi) s t ∧ t.lamp.jobs = s.lamp.jobs ++ [x] ∧ x.seq = s.lamp.nextSeq ∧
        x.addr = s.lamp.submitLo.toNat / 64 * 64 + 2 ^ 32 * hi.toNat ∧ x.done = none ∧ t.lamp.nextSeq = s.lamp.nextSeq + 1) ∧
      (16 ≤ pkeHeld s → Gives (.pkeSubmit hi) s { s with lamp := { s.lamp with overrun := true } })) ∧
    (s.lamp.jobs = j :: more → j.done = none → ∀ (d v : Bytes) (c : Curve), descCurve s d = some c → v.length = fld d 0x10 4 →
      let ends (i : Instr) (o : Nat × Bytes) : Prop := ∃ t, Gives i s t ∧ t.lamp.jobs = { j with done := some (o.1, o.2, fld d 0x18 8), curve := none } :: more
      let x := beAt v 0 c.wp
      let y := beAt v c.wp c.wp
      let off := c.p ≤ x ∨ c.p ≤ y ∨ (x = 0 ∧ y = 0) ∨ y ^ 2 % c.p ≠ (x ^ 3 + c.a * x + c.b) % c.p
      (fld d 0 1 = 5 → (off → ends (.pointCheck (.bytes d) (.bytes v)) (St.pkeRefused, [])) ∧ (¬ off → ends (.pointCheck (.bytes d) (.bytes v)) (St.ok, []))) ∧
      (fld d 0 1 = 1 → (c.n ≤ beAt v (2 * c.wp) c.wn ∨ beAt v (2 * c.wp) c.wn = 0 ∨ off → ends (.verify (.bytes d) (.bytes v)) (St.pkeRefused, [])) ∧
        ∃ st, ends (.verify (.bytes d) (.bytes v)) (st, []) ∧ st ∈ [St.ok, St.pkeBadSig, St.pkeRefused]) ∧
      (fld d 0 1 = 2 → (beAt v 0 c.wn ≤ 1 ∨ c.n ≤ beAt v 0 c.wn → ends (.sign (.bytes d) (.bytes v)) (St.pkeRefused, [])) ∧
        (1 < beAt v 0 c.wn → beAt v 0 c.wn < c.n → ∃ g, ends (.sign (.bytes d) (.bytes v)) (St.ok, g) ∧ g.length = 2 * c.wn)) ∧
      (fld d 0 1 = 3 → (beAt v 0 c.wn ≤ 1 ∨ c.n ≤ beAt v 0 c.wn → ends (.ecdh (.bytes d) (.bytes v)) (St.pkeRefused, [])) ∧ ∃ st g, ends (.ecdh (.bytes d) (.bytes v)) (st, g)) ∧
      (fld d 0 1 = 4 → (beAt v 0 c.wn = 0 ∨ c.n ≤ beAt v 0 c.wn → ends (.scalarMultiply (.bytes d) (.bytes v)) (St.pkeRefused, [])) ∧
        ∃ st g, ends (.scalarMultiply (.bytes d) (.bytes v)) (st, g))) ∧
    (s.lamp.jobs = j :: more → j.done = none →
      let ends (i : Instr) (st : Nat) : Prop := ∃ t, Gives i s t ∧ t.lamp.jobs = { j with done := some (st, [], 0), curve := none } :: more
      (∀ x, ∀ i ∈ ([.verify .failed x, .sign .failed x, .ecdh .failed x, .scalarMultiply .failed x, .pointCheck .failed x, .loadCurve .failed x] : List Instr), ends i St.pkeDma) ∧
      ∀ d : Bytes,
      (∀ c ∈ ([(.verify (.bytes d) .failed, 1), (.sign (.bytes d) .failed, 2), (.ecdh (.bytes d) .failed, 3), (.scalarMultiply (.bytes d) .failed, 4),
          (.pointCheck (.bytes d) .failed, 5)] : List (Instr × Nat)),
        fld d 0 1 = c.2 → (descCurve s d = none → ends c.1 St.pkeFormat) ∧ ((descCurve s d).isSome = true → ends c.1 St.pkeDma)) ∧
      (windowSize s = 0 → descCurve s d = none) ∧
      (fld d 0 1 = 8 → descShape d = false ∨ windowSize s = 0 → ends (.loadCurve (.bytes d) .failed) St.pkeFormat) ∧
      (fld d 0 1 = 8 → descShape d = true → windowSize s ≠ 0 → ends (.loadCurve (.bytes d) .failed) St.pkeDma ∧ ∀ v : Bytes, v.length = fld d 0x10 4 →
        (∀ r, curveBad v v.length = some r → ∃ t, Gives (.loadCurve (.bytes d) (.bytes v)) s t ∧ t.lamp.pkeReason = r ∧ t.lamp.curves = s.lamp.curves ∧
          t.lamp.jobs = { j with done := some (St.pkeCurve, [], 0), curve := none } :: more) ∧
        (curveBad v v.length = none → ∃ t, Gives (.loadCurve (.bytes d) (.bytes v)) s t ∧
          t.lamp.jobs = { j with done := some (St.ok, [], 0), curve := some (fld d 1 1, blockCurve v) } :: more))) ∧
    (∀ st g off, s.lamp.jobs = j :: more → j.done = some (st, g, off) → ∃ t, GivesAwaited .pkeJobComplete s t ∧ t.lamp.jobs = more ∧
      t.lamp.done = s.lamp.done ++ [(BitVec.ofNat 16 st, j.seq)] ∧
      (∀ k c, j.curve = some (k, c) → Tab.get none k t.lamp.curves = some c) ∧
      (g ≠ [] → s.lostAt (s.cxl.hdmBase + off) = false → t.dramRead (s.cxl.hdmBase + off) g.length = g) ∧
      (∀ a, a < s.cxl.hdmBase + off ∨ s.cxl.hdmBase + off + g.length ≤ a → t.dramByte a = s.dramByte a) ∧
      (if st = St.pkeRefused ∨ st = St.pkeFormat ∨ st = St.pkeCurve then t.lamp.pkeRefused = s.lamp.pkeRefused + 1 ∧ t.lamp.pkeDone = s.lamp.pkeDone
        else t.lamp.pkeDone = s.lamp.pkeDone + 1 ∧ t.lamp.pkeRefused = s.lamp.pkeRefused)) ∧
    (s.cxl.up = true → (∀ st k rest, s.lamp.done = (st, k) :: rest → ∃ t v, Gives .pkeDoneRead s t ∧ t.lamp.done = rest ∧ t.out = s.out ++ [.mmio v] ∧
        v.toNat = st.toNat + 65536 * k.toNat + 2 ^ 31) ∧
      (s.lamp.done = [] → Gives .pkeDoneRead s { s with out := s.out ++ [.mmio 0] }))

/-! ## Credentials, firmware, life cycle, attestation (20) -/

/-- R548 to R553, R562 to R570: anchors, credentials and key slots; a firmware update from its first part to its end; the fused version; the life cycle; SPDM. The model's: the image
that the flash first holds (log 19), the codes and blocks of SPDM's messages (log 22), what becomes of sessions and of a last anchor (log 47). -/
def Obligations.LamplighterObjects : Prop :=
  ∀ (s : State) (q : Req) (w : Who) (v : Bytes), Tidy s = true →
    let u := s.lamp.fuses
    let n := leNat v
    (∀ ok : Bool, MayWrite s q 0x9011 0 v none w → w.role = 1 → u.life = 1 → fld v 0 1 ≤ 3 → u.burned (fld v 0 1) = false → nbit u.anchorRevoked (fld v 0 1) = false →
      fld (slice v 1 80) 0x40 1 ≠ 0 → credOk (slice v 1 80) = true →
      ∃ t, Gives (.credentialBurn q v ok) s t ∧ (∀ k, k < 4 → k ≠ fld v 0 1 → t.lamp.fuses.anchor k = u.anchor k) ∧
        (ok = true → Accepted t q 0x9011 0 none w ∧ t.lamp.fuses.anchor (fld v 0 1) = slice v 1 80) ∧ (ok = false → t.out.getLast? = some (.status q St.fuse))) ∧
    (MayWrite s q 0x9012 0 v none w → n ≤ 3 →
      ((∃ k, k < 4 ∧ k ≠ n ∧ u.burned k = true ∧ nbit u.anchorRevoked k = false) → ∃ t, Gives (.anchorRevoke q v) s t ∧ Accepted t q 0x9012 0 none w ∧
        nbit t.lamp.fuses.anchorRevoked n = true ∧ credUsable t n = false ∧ ∀ k y, Tab.get none k t.hal.sess = some y → y.cred ≠ n) ∧
      (u.burned n = true → nbit u.anchorRevoked n = false → (∀ k, k < 4 → k ≠ n → u.burned k = true → nbit u.anchorRevoked k = true) →
        Gives (.anchorRevoke q v) s (refusal s q St.planRefused))) ∧
    (s.boot.stage = .ready → mailboxBusy s q = false → s.hal.serving = none → whoOf s q = .ok w → w.role = 1 → v.length = 1 → 3 < n →
      Gives (.anchorRevoke q v) s (refusal s q St.planRefused)) ∧
    (∀ e : Nat, 4 ≤ e → e < 64 → MayWrite s q 0x9020 (e + 1) v none w →
      (credOk v = true → ∃ t, Gives (.credentialWrite q e v) s t ∧ Accepted t q 0x9020 (e + 1) none w ∧ credEntry t e = v ∧
        (fld (credEntry s e) 0x40 1 ≠ 0 → ∀ k y, Tab.get none k t.hal.sess = some y → y.cred ≠ e)) ∧
      (credOk v = false → Gives (.credentialWrite q e v) s (refusal s q St.credFormat))) ∧
    (MayWrite s q 0x9041 0 v none w → (n ≤ 3 → n ≠ imgSlot s.lamp.fw.running → ∃ t, Gives (.fwKeyRevoke q v) s t ∧ Accepted t q 0x9041 0 none w ∧
        keySlotOk t.lamp.fuses n = false) ∧ (n = imgSlot s.lamp.fw.running → Gives (.fwKeyRevoke q v) s (refusal s q St.planRefused))) ∧
    (MayWrite s q 0x9110 0 v none w → w.role = 1 → fwBusy s q = false → 16 ≤ v.length → fld v 0 4 = 0 → ¬ (s.lamp.fw.st = 1 ∧ s.lamp.fw.req = q) →
      v.length - 16 < fld v 4 4 → fld v 4 4 ≤ 33554432 →
      ∃ t, Gives (.firmwareImageWrite q v) s t ∧ Accepted t q 0x9110 0 none w ∧ t.lamp.fw.st = 1 ∧ t.lamp.fw.stage = v.drop 16 ∧ t.lamp.fw.total = fld v 4 4 ∧
        t.lamp.fw.flash = s.lamp.fw.flash) ∧
    (s.lamp.fw.st = 3 → s.boot.stage = .ready →
      (∃ t, Gives (.firmwareProgramDone true) s t ∧ t.lamp.fw.flash = some s.lamp.fw.stage ∧ t.lamp.fw.st = 4 ∧ t.lamp.fw.running = s.lamp.fw.running) ∧
      (∃ t, Gives (.firmwareProgramDone false) s t ∧ t.lamp.fw.flash = some [] ∧ t.lamp.fw.st = 5 ∧ t.lamp.fw.fail = St.fwFlash)) ∧
    (MayWrite s q 0x9050 2 v none w →
      (u.secVer < n → n ≤ imgSecVer s.lamp.fw.running → ∃ t, Gives (.securityVersionAdvance q v) s t ∧ Accepted t q 0x9050 2 none w ∧ t.lamp.fuses.secVer = n) ∧
      (n ≤ u.secVer ∨ imgSecVer s.lamp.fw.running < n → Gives (.securityVersionAdvance q v) s (refusal s q St.planRefused))) ∧
    (MayWrite s q 0x9001 0 v none w →
      ((u.life = 1 ∧ (n = 2 ∨ n = 3)) ∨ (u.life = 2 ∧ n = 3) → s.pins.thermtrip = false →
        ∃ t, Gives (.lifeCycleTransition q v) s t ∧ t.lamp.fuses.life = n ∧ t.boot.stage = .boot ∧ t.boot.cause = 4 ∧ t.hal.sess = [] ∧ (s.boot.logged = true → t.hal.jram = []) ∧
          (n = 3 → identityLives t = false ∧ t.lamp.fuses.cert = List.replicate 1024 0xFF ∧ t.lamp.fuses.uds = List.replicate 32 0xFF)) ∧
      (¬ ((u.life = 1 ∧ (n = 2 ∨ n = 3)) ∨ (u.life = 2 ∧ n = 3)) → Gives (.lifeCycleTransition q v) s (refusal s q St.lcRefused))) ∧
    (mbxReady s = true →
      (∃ t, Gives (.spdmRequest .getVersion) s t ∧ t.cxl.spdmOk = false ∧ t.cxl.spdmSess = []) ∧
      (∃ t, Gives (.spdmRequest .negotiateAlgorithms) s t ∧ t.cxl.spdmOk = true) ∧
      (s.cxl.spdmOk = true → (∀ k, 1 ≤ k → k ≤ 9 → Gives (.spdmRequest (.getMeasurements k false)) s { s with out := s.out ++ [.doe 0x60 (measurementBlock s k)] } ∧
          ∃ h, h.length = 7 ∧ measurementBlock s k = h ++ measurement s k) ∧
        Gives (.spdmRequest (.getCertificate 0)) s { s with out := s.out ++ [.doe 0x02 (vendorCerts s ++ u.cert)] }) ∧
      (s.cxl.spdmOk = false → Gives (.spdmRequest (.challenge 0)) s { s with out := s.out ++ [.doe 0x7F []] }) ∧
      (∀ k, (k, true) ∈ s.cxl.spdmSess → ∃ t, Gives (.spdmRequest (.endSession k)) s t ∧ ∀ c ∈ t.cxl.spdmSess, c.1 ≠ k))

/-! ## Repair, retention, randomness, modules (04, 10, 14) -/

/-- R285 to R293, R387, R392, R393: a corrected error is counted, a multi-bit error poisons its granule and changes no byte, a bank enters and leaves retention with its
contents, a deep-retention error drops the roll entry; samples that fail a continuous test (R285) halt a
hall's randomness, the third failure in 10 s for good; samples that pass the start-up test on the retry bring it back, with every DRBG of the hall to reseed. (That a command
stands for a bank's idle time and for the access that wakes it is the model's choice, log 114.) -/
def Obligations.RepairAndRandomness : Prop :=
  ∀ (s : State), Tidy s = true →
    (∀ (g : Gal) (word : Nat) (vote : Bool), s.boot.stage ≠ .off → isStoreWord word = true → ∃ t, Gives (.storeCorrectedError g none word vote) s t ∧
      (t.galxAt g.val).rep.corrected = min (2 ^ 32 - 1) ((s.galxAt g.val).rep.corrected + 1) ∧
      ((∀ c ∈ (s.galxAt g.val).rep.lines, 65536 ≤ c.1 → c.2 < threshold s) → ∀ m i, t.byte1 m i = s.byte1 m i)) ∧
    (∀ (g : Gal) (l : Lan) (word : Nat), s.boot.stage ≠ .off → isPadWord word = true → ∃ t, Gives (.storeEccError g (some l) word) s t ∧
      t.poisoned1 { g := g.val, l := l.val, store := false } (4 * word) = true ∧ ∀ m i, t.byte1 m i = s.byte1 m i) ∧
    (∀ b : Bank, mayRetain s b = true → retained s b = false → ∃ t, Gives (.bankRetentionEntry b) s t ∧ retained t b = true ∧ t.gal = s.gal ∧ t.dram = s.dram) ∧
    (∀ b : Bank, retained s b = true → (∀ h k, b = .deep h k → rising 0 (s.hallAt h.val).deepRet = true) → ∃ t, Gives (.bankWake b) s t ∧ retained t b = false ∧ t.gal = s.gal ∧ t.dram = s.dram) ∧
    (∀ (h : Hall) (k : Fin 8) (sid : Nat), s.boot.stage ≠ .off → k.val < 4 → ∃ t, Gives (.deepRetentionError h k sid) s t ∧ (∀ x ∈ (t.hallAt h.val).roll, x.1 ≠ sid) ∧
      (t.hallAt h.val).pend = (s.hallAt h.val).pend) ∧
    (∀ (h : Hall) (k : Fin 8) (sid : Nat), 4 ≤ k.val → (s.hallAt h.val).halted = none → s.fault.open_ = [] → s.boot.stage = .ready →
      ∃ t, Gives (.deepRetentionError h k sid) s t ∧ (t.hallAt h.val).pend = [] ∧ (t.hallAt h.val).ctl = [] ∧ (t.hallAt h.val).miss = []) ∧
    (∀ (h : Hall) (l : List Bool) (k : Nat), trngOn s h.val = true → (s.hallAt h.val).rng = 0 → ((s.hallAt h.val).trng.samples l).2 = some k →
      let old := (s.hallAt h.val).rngFails.filter (fun t => decide (s.clock.now ≤ t + 10000000000))
      ∃ t, Gives (.trngHealthFail h l) s t ∧ (t.hallAt h.val).rng = (if 2 ≤ old.length then 2 else 1) ∧ (t.hallAt h.val).rngFails = s.clock.now :: old ∧
        (t.hallAt h.val).rngCount = (s.hallAt h.val).rngCount + 1) ∧
    (∀ (h : Hall) (l : List Bool), startTest l = true → trngOn s h.val = true → (s.hallAt h.val).rng = 1 → ((s.hallAt h.val).rngFails.head?).getD 0 + 1000000 ≤ s.clock.now →
      ∃ t, Gives (.trngRetry h l) s t ∧ (t.hallAt h.val).rng = 0 ∧ ∀ k, k < 16 → (t.galxAt (16 * h.val + k)).drbg.due = true) ∧
    (∀ (h : Hall) (l : List Bool), startTest l = false → trngOn s h.val = true → (s.hallAt h.val).rng = 1 → ((s.hallAt h.val).rngFails.head?).getD 0 + 1000000 ≤ s.clock.now →
      ∃ t, Gives (.trngRetry h l) s t ∧ (t.hallAt h.val).rng ≠ 0 ∧ (t.hallAt h.val).rngCount = (s.hallAt h.val).rngCount + 1)

/-- R97 to R103: a container that passes the checks is translated in the background, its sender unanswered and other commands told Busy; once done the module can be named
by its partition, is journalled and answered; an unload that nothing needs removes it. (A load whose container the host holds waits for its snoops, R506, log 12.) -/
def Obligations.UtierModules : Prop :=
  ∀ (s : State) (v : Bytes),
    let sid := fld v 0 4
    let q : Req := { port := .mailbox, sess := sid }
    let request (y : HSess) : Prop := mailboxOn s = true ∧ s.dram.translating = none ∧ v.length = 48 ∧ liveSess s q = some y ∧
      slice v 0x20 16 = tag16 y.c2d (v.take 0x20) ∧ y.seq < fld v 8 8
    let now (y : HSess) : State := { s with hal := { s.hal with sess := Tab.put none sid (some { y with seq := fld v 8 8, last := s.clock.now, kept := [] }) s.hal.sess } }
    (∀ y c, request y → loadCheck (now y) (y.who sid) v = .ok c →
      ∃ t x, GivesAwaited (.moduleLoad v) s t ∧ t.dram.translating = some x ∧ x.mod.container = c ∧ x.mod.part = fld v 4 1 ∧ x.mod.handle = s.dram.nextHandle ∧
        x.sess = sid ∧ t.dram.modules = s.dram.modules ∧ ∀ o ∈ t.out, o ∈ s.out ∨ ∃ k, o = .snoop k) ∧
    (s.dram.translating.isSome = true → mailboxOn s = true → Gives (.moduleLoad v) s { s with out := s.out ++ [.mailbox mbxBusy []] } ∧
      Gives (.moduleUnload v) s { s with out := s.out ++ [.mailbox mbxBusy []] }) ∧
    (∀ x, s.boot.stage = .ready → s.dram.translating = some x → ∃ t e b, Gives .moduleTranslationDone s t ∧ t.dram.translating = none ∧
      t.dram.modules = s.dram.modules ++ [x.mod] ∧ t.hal.jlast = some e ∧ e.kind = 5 ∧ e.part = x.mod.part ∧ e.aux = x.mod.handle ∧
      t.out = s.out ++ [.mailbox 0 b] ∧ fld b 0 2 = 0 ∧ (x.mod.handle < 2 ^ 32 → fld b 4 4 = x.mod.handle)) ∧
    (∀ y m, request y → unloadCheck (now y) (y.who sid) v = .ok m →
      ∃ t e b, Gives (.moduleUnload v) s t ∧ t.dram.modules = s.dram.modules.erase m ∧ t.hal.jlast = some e ∧ e.kind = 6 ∧ e.aux = fld v 0x10 4 ∧
        t.out = s.out ++ [.mailbox 0 b] ∧ fld b 0 2 = 0)

/-! ## Faults (22) -/

/-- R589, R597, R600: the form of a new error record. It is the next number, names what it was raised for, and is one class higher, marked and naming the earlier
record where an unacknowledged hardware record of the same unit stands; a Device-fatal one enters the held state. -/
def Obligations.ErrorRecordForm : Prop :=
  ∀ (s : State) (p : Rep), outOfService s p = false → p.cls ≤ 3 →
    ∃ x : FRec, (report s p).fault.todo = s.fault.todo ++ [x] ∧ x.seq = s.fault.next ∧ x.status = p.st ∧ x.unit = p.unit ∧ x.hall = p.hall ∧ x.gallery = p.gal ∧
      x.index = p.index ∧ x.part = p.part ∧ x.sess = p.sess ∧ x.ring = p.ring ∧ x.item = p.item ∧ x.tag = p.tag ∧ x.detail0 = p.d0 ∧ x.detail1 = p.d1 ∧
      x.hw = p.hw ∧ x.time = s.time64At x.reftime ∧
      (escalator s p = none → x.sev = p.cls ∧ nbit x.cls 2 = false ∧ x.cause = 0) ∧
      (∀ r, escalator s p = some r → x.sev = p.cls + 1 ∧ nbit x.cls 2 = true ∧ x.cause = w32 r.seq ∧ r ∈ s.fault.open_ ∧ r.sameUnit p = true) ∧
      (x.sev = 3 → (report s p).boot.stage = .held ∧ (s.boot.stage ≠ .held → ∀ h, h < 4 → ((report s p).hallAt h).halted.isSome = true)) ∧
      (x.sev ≠ 3 → (report s p).boot = s.boot ∧ (report s p).hall = s.hall) ∧
      (report s p).gal = s.gal ∧ (report s p).dram = s.dram ∧ (report s p).hal = s.hal ∧ (report s p).clock = s.clock

/-- R592 to R594, R598, R600, R602 to R605, R546: handling (of a record whose loss was carried out when it was raised nothing is left to do), copying (with interrupt vector 0, or its pending bit while it is
masked, R489 and, for the table's form, the model's log 85) and acknowledging records; the watchdog and the lamplighter's own memory. -/
def Obligations.FaultHandling : Prop :=
  ∀ (s : State), Tidy s = true →
    (∀ r rest, s.fault.todo = r :: rest → s.boot.stage = .ready →
      (r.sev = 0 ∨ (r.sev = 1 ∧ nbit r.cls 2 = false) ∨ r.sev = 3 ∨ r.moot s = true → Gives .faultRecordHandle s { s with fault := { s.fault with todo := rest } }) ∧
      (r.sev = 1 → nbit r.cls 2 = true → r.moot s = false → r.gallery < 64 → galUnit r.unit = true ∨ r.unit = 18 → (s.galxAt r.gallery).rep.dying = [] →
        ∃ t, Gives .faultRecordHandle s t ∧ (t.galAt r.gallery).task = none) ∧
      (r.sev = 2 → r.moot s = false →
        (r.gallery < 64 → r.unit = 7 ∨ (9 ≤ r.unit ∧ r.unit ≤ 11) → ∃ t, Gives .faultRecordHandle s t ∧ (t.galAt r.gallery).qFault = true ∧
          (t.galAt r.gallery).mode = .quarantined ∧ (t.galAt r.gallery).task = none) ∧
        (r.gallery = 0xFF → r.hall < 4 → r.unit = 12 ∨ r.unit = 18 ∨ r.unit = 21 → ∃ t, Gives .faultRecordHandle s t ∧ (t.hallAt r.hall).halted.isSome = true) ∧
        (64 ≤ r.gallery → r.unit = 15 → r.index < 36 → ∃ t, Gives .faultRecordHandle s t ∧ (t.flightAt r.index).st = 0))) ∧
    (∀ r rest, s.fault.todo = r :: rest → s.boot.stage ≠ .off →
      (r.reftime + 1000000 < s.clock.now → ∃ t, Gives .faultHandlingTimeout s t ∧ t.boot.stage = .held) ∧
      (s.clock.now ≤ r.reftime + 1000000 → Gives .faultHandlingTimeout s s)) ∧
    (∀ k r, s.boot.stage = .ready → nextCopy s.fault = some (k, r) → s.fault.ack ≤ r.seq → s.fault.mem.length < 4096 →
      ∃ t, Gives .faultRecordCopy s t ∧ t.fault.mem = s.fault.mem ++ [r] ∧ Tab.get none k t.fault.die = some { r := r, copied := true } ∧
        t.out = s.out ++ (if s.obj 0x7000 6 ≤ r.sev ∧ s.msixMasked 0 = false then [.msix 0] else []) ∧
        (s.obj 0x7000 6 ≤ r.sev → s.msixMasked 0 = true → Tab.get false 0 t.cxl.msixPend = true) ∧ (r.sev ≤ 1 → { t.cxl with msixPend := s.cxl.msixPend } = s.cxl)) ∧
    (∀ (q : Req) (w : Who) (v : Bytes), MayWrite s q 0x7000 2 v none w →
      (s.fault.ack ≤ leNat v → leNat v ≤ s.fault.next → ∃ t, Gives (.faultAck q v) s t ∧ Accepted t q 0x7000 2 none w ∧ t.fault.ack = leNat v ∧
        (∀ r, r ∈ t.fault.mem ↔ r ∈ s.fault.mem ∧ leNat v ≤ r.seq) ∧ (∀ r, r ∈ t.fault.open_ ↔ r ∈ s.fault.open_ ∧ leNat v ≤ r.seq)) ∧
      (leNat v < s.fault.ack ∨ s.fault.next < leNat v → Gives (.faultAck q v) s (refusal s q St.planRefused))) ∧
    (barReads s = true → ∃ t, Gives .faultSeqLoRead s t ∧ t.out = s.out ++ [.mmio (w32 (s.fault.next - 1))] ∧
      t.fault.seqHi = w32 ((s.fault.next - 1) / 2 ^ 32)) ∧
    (s.boot.stage = .ready →
      (∃ t, Gives .watchdogExpiry s t ∧ t.boot.stage = .held ∧ t.lamp.wdTrips = min 255 (s.lamp.wdTrips + 1) ∧ ∀ h, h < 4 → (t.hallAt h).halted.isSome = true) ∧
      (∃ t, Gives (.lampSramError true) s t ∧ t.boot.stage = .held) ∧
      (∃ t, Gives (.lampSramError false) s t ∧ t.lamp.eccCount = s.lamp.eccCount + 1))

/-- R606 to R614: heartbeats, stale requests, readmission of a dead lantern, the reset of a gallery. -/
def Obligations.LanternsAndGalleryReset : Prop :=
  ∀ (s : State), Tidy s = true →
    (∀ (g : Gal) (p : Fin 68),
      let y := physOf s g.val p.val
      (hallRuns s (hallOf g.val) = true → isMapped s g.val p.val = true → (s.galAt g.val).mode ≠ .dark → (s.galxAt g.val).rep.dying = [] →
        (∀ l, l < 64 → (lmapOf s g.val l).valid = true → (lmapOf s g.val l).phys = p.val → logicalOf s g.val p.val = some l) →
        ∃ t, Gives (.heartbeatMiss g p) s t ∧ (physOf t g.val p.val).dead = true ∧ isMapped t g.val p.val = false) ∧
      (∀ inc : W16, s.boot.stage ≠ .off →
        (gateAccepts s g.val p.val inc = true → Gives (.staleLanternRequest g p inc) s s) ∧
        (gateAccepts s g.val p.val inc = false → ∃ t, Gives (.staleLanternRequest g p inc) s t ∧ (physOf t g.val p.val).stale = true ∧
          (t.galxAt g.val).refused = min (2 ^ 32 - 1) ((s.galxAt g.val).refused + 1) ∧ (y.stale = true → t.fault = s.fault) ∧
          (y.dead = true → y.reheld = true → (physOf t g.val p.val).gateOff = true))) ∧
      (y.dead = true → y.spoke.isSome = true → y.reheld = false → ∃ t, Gives (.deadLanternRehold g p) s t ∧ (physOf t g.val p.val).reheld = true) ∧
      (∀ q, s.boot.stage = .ready → y.testing = some q → s.hal.waitFrames = [] →
        (∃ t e, Gives (.readmitTestDone g p true) s t ∧ (physOf t g.val p.val).dead = false ∧ t.out = s.out ++ [.status q 0] ∧ t.hal.jlast = some e ∧ e.origin = 2 ∧
          e.index = 0x7123) ∧
        (∃ t, Gives (.readmitTestDone g p false) s t ∧ (physOf t g.val p.val).dead = y.dead ∧ t.out = s.out ++ [.status q St.readmitFail]))) ∧
    (∀ (q : Req) (w : Who) (v : Bytes), MayWrite s q 0x7123 0 v none w → fld v 0 1 < 64 → fld v 1 1 < 68 → (s.galAt (fld v 0 1)).mode ≠ .dark →
      (physOf s (fld v 0 1) (fld v 1 1)).dead = true → (physOf s (fld v 0 1) (fld v 1 1)).testing = none →
      ∃ t, Gives (.lanternReadmit q v) s t ∧ (physOf t (fld v 0 1) (fld v 1 1)).testing = some q ∧ t.out = s.out) ∧
    (∀ (q : Req) (w : Who) (v : Bytes), MayWrite s q 0x2104 0 v none w →
      let g := leNat v
      (64 ≤ g → Gives (.galleryResetWrite q v) s (refusal s q St.planRefused)) ∧
      (w.role = 3 → g < 64 → (s.galAt g).entry.mask &&& ~~~w.mask ≠ 0 → Gives (.galleryResetWrite q v) s (refusal s q St.objAccess)) ∧
      (g < 64 → (w.role = 1 ∨ (s.galAt g).entry.mask &&& ~~~w.mask = 0) → (s.galxAt g).rep.dying = [] →
        ∃ t, Gives (.galleryResetWrite q v) s t ∧ Accepted t q 0x2104 0 none w ∧ (t.galAt g).task = none ∧ (t.galAt g).mode = (s.galAt g).mode ∧
          (t.galAt g).entry = (s.galAt g).entry ∧ (t.galAt g).epoch = (s.galAt g).epoch ∧ (t.galxAt g).drbg = { due := true, key := 0, v := 0, reqs := 0 } ∧ (t.galxAt g).mac = none ∧
          ∀ l i st, t.byte1 { g := g, l := l, store := st } i = 0 ∧ t.full1 { g := g, l := l, store := st } i = false ∧ flagOf t g l i = 0))

/-! ## Start, resets, registers (00, 22, 23) -/

/-- R290, R484, R611 to R622, R630, R632: power, `PERST#`, the warm reset and what it leaves (before the first ready after power what the tests found goes too, R617), the steps of a start, its journal
entry of kind 7, the start-up tests of the random source, ready. A start whose steps no other command has carried out runs them at `STARTUP_READY` (the model's choice, log 3). -/
def Obligations.StartAndReset : Prop :=
  ∀ (s : State), Tidy s = true →
    let warm (t : State) (cause : Nat) : Prop := t.boot.stage = .boot ∧ t.boot.cause = (if s.boot.stage = .held then 6 else cause) ∧ t.boot.wiping = true ∧
      t.boot.done = false ∧ t.boot.logged = false ∧
      t.clock.now = s.clock.now ∧ t.plan.epoch = 0 ∧ t.roll = [] ∧ t.gal = [] ∧ t.hal.sess = [] ∧
      (s.boot.logged = true → t.hal.jflash = s.hal.jflash ∧ t.hal.jram = s.hal.jram) ∧
      t.lamp.fuses = s.lamp.fuses ∧ t.dram.modules = [] ∧ t.dram.spaces = [] ∧ t.cxl.rings = [] ∧ t.fault = Faults.zero ∧ (∀ g, (t.galxAt g).drbg = Drbg.zero) ∧
      (s.boot.cold = false → (∀ g, (t.galxAt g).lmap = (s.galxAt g).lmap) ∧ ∀ k, (t.stackAt k).lost = (s.stackAt k).lost) ∧
      (s.boot.cold = true → (∀ g, (t.galxAt g).lmap = []) ∧ ∀ k, (t.stackAt k).lost = 0)
    let entry (t : State) : Prop := s.boot.logged = false → ∃ e, t.hal.jlast = some e ∧ e.kind = 7 ∧ e.origin = 4
    (s.pins.pwrgood = true → ∃ t, Gives .pwrgoodFall s t ∧ t.boot.stage = .off ∧ t.pins.pwrgood = false ∧ t.clock.now = 0 ∧ t.lamp.fuses = s.lamp.fuses ∧
      t.hal.jflash = s.hal.jflash ∧ t.hal.jram = [] ∧ t.dram = Dram.zero) ∧
    (∀ (straps : Byte) (b : BootReport), s.pins.pwrgood = false → s.pins.perst = true → ∃ t, Gives (.pwrgoodRise straps b) s t ∧ t.boot.stage = .boot ∧
      t.boot.cold = true ∧ t.boot.cause = 1 ∧ t.pins.straps = straps ∧ t.clock.now = 0 ∧ t.objBytes 0x2200 1 = [straps &&& 31]) ∧
    (s.pins.perst = false → s.pins.pwrgood = true → s.boot.stage ≠ .off → s.pins.thermtrip = false → ∃ t, Gives .perstAssert s t ∧ t.pins.perst = true ∧ warm t 2) ∧
    (s.boot.stage ≠ .off → s.cxl.up = true → s.pins.thermtrip = false → ∃ t, Gives .cxlReset s t ∧ warm t 3) ∧
    (∀ b : BootReport, s.pins.perst = true → s.boot.stage = .boot → s.boot.done = false → ∃ t, Gives (.perstRelease b) s t ∧ t.pins.perst = false ∧
      (imgBad s.lamp.fuses s.lamp.fw.flash = none → s.pins.straps.toNat < 64 → t.boot.done = true ∧ t.boot.logged = true ∧ t.lamp.locked = true ∧
        (b.fatal = true → t.boot.stage = .held) ∧ (s.boot.cold = false → s.hal.cal.flashOk = true → entry t) ∧
        (s.boot.cold = false → s.hal.cal.flashOk = true → ∀ h : Hall, (s.hallAt h.val).rng = 0 → (s.hallAt h.val).halted = none →
          (startTest (((b.trng.find? (fun c => c.1 == h.val)).map (·.2)).getD []) = true ↔ (t.hallAt h.val).rng = 0)) ∧
        ∀ f : Flight, (t.flightAt f.val).st = 1) ∧
      (∀ st, imgBad s.lamp.fuses s.lamp.fw.flash = some st → s.pins.straps.toNat < 64 → t.boot.stage = .recovery ∧ t.boot.fail = st ∧ entry t)) ∧
    (∀ b : BootReport, s.boot.stage = .boot → s.pins.perst = false →
      (s.boot.done = true → s.boot.wiping = false → ∃ t, Gives (.startupReady b) s t ∧ t.boot.stage = .ready ∧
        t.boot.readyUs = (s.clock.now - s.boot.causeAt) / 1000 ∧ t.boot.cold = false) ∧
      (s.boot.done = true → s.boot.wiping = true → Gives (.startupReady b) s s) ∧
      (s.boot.done = false → let u := startSteps s b
        ((u.boot.stage = .boot ∧ u.boot.wiping = false) → ∃ t, Gives (.startupReady b) s t ∧ t.boot.stage = .ready) ∧
        (¬ (u.boot.stage = .boot ∧ u.boot.wiping = false) → Gives (.startupReady b) s u))) ∧
    (∀ b : BootReport, s.pins.perst = true ∨ s.boot.stage ≠ .boot → Gives (.startupReady b) s s) ∧
    (∀ h : Hall, s.boot.stage = .boot → s.boot.done = true → s.boot.causeAt + 700000000 ≤ s.clock.now → (s.hallAt h.val).halted = none → s.fault.open_ = [] →
      ∃ t, Gives (.hallStartupTimeout h) s t ∧ (t.hallAt h.val).halted = some St.startupHall ∧ (t.hallAt h.val).railOn = false ∧ t.boot.fail = St.startupHall)

/-- R10, R489, R554, R605: register writes and what registers read. A write of a register of BAR0 that is not a doorbell: the component and device registers of the
CXL standard as an implementation has them (log 86), the MSI-X table, where a vector that is unmasked while it is pending is sent (log 85), the P-256 engine's low address and
overrun bit, which a 1 clears, the acknowledgement, of which a value out of range is ignored, and the index; every other offset ignores it, and so does the device while the
port is down. Write-only registers read 0; a read-write or read-only register reads what it holds (the engine's offsets are the model's, log 42). -/
def Obligations.RegisterWrites : Prop :=
  (∀ (s : State) (off : Nat) (v : W32), barReads s = false → Gives (.registerWrite off v) s s) ∧
  (∀ (s : State) (off : Nat) (v : W32), Tidy s = true → barReads s = true →
    let c := s.cxl
    (off % 4 ≠ 0 → Gives (.registerWrite off v) s s) ∧
    (off % 4 = 0 → off < 0x11000 → Gives (.registerWrite off v) s
      { s with cxl := { c with regs := Tab.put none (off / 4) (some (Config.cxlWrite off (Tab.get none (off / 4) c.regs) v)) c.regs } }) ∧
    (∀ k, k < 8192 → off = 0x30000 + 4 * k →
      let u : State := { s with cxl := { c with msixTab := Tab.put none k (some (if k % 4 = 3 then v &&& 1 else v)) c.msixTab } }
      u.msixWord k = (if k % 4 = 3 then v &&& 1 else v) ∧
      (Tab.get false (k / 4) c.msixPend = true → u.msixMasked (k / 4) = false →
        ∃ t, Gives (.registerWrite off v) s t ∧ t.out = s.out ++ [.msix (k / 4)] ∧ Tab.get false (k / 4) t.cxl.msixPend = false ∧ t.cxl.msixTab = u.cxl.msixTab) ∧
      (Tab.get false (k / 4) c.msixPend = false ∨ u.msixMasked (k / 4) = true → Gives (.registerWrite off v) s u)) ∧
    Gives (.registerWrite 0x40100 v) s { s with lamp := { s.lamp with submitLo := v } } ∧
    Gives (.registerWrite 0x4010C v) s { s with lamp := { s.lamp with overrun := s.lamp.overrun && !v.getLsbD 16 } } ∧
    (let n := s.fault.newest / 2 ^ 32 * 2 ^ 32 + v.toNat
     (n < s.fault.ack ∨ s.fault.next < n → Gives (.registerWrite 0x40208 v) s s) ∧
     (s.fault.ack ≤ n → n ≤ s.fault.next → ∃ t, Gives (.registerWrite 0x40208 v) s t ∧ t.fault.ack = n ∧ ∀ r, r ∈ t.fault.open_ ↔ r ∈ s.fault.open_ ∧ n ≤ r.seq)) ∧
    Gives (.registerWrite 0x40210 v) s { s with fault := { s.fault with idx := v.setWidth 6 } } ∧
    (0x11000 ≤ off → ¬ (0x30000 ≤ off ∧ off < 0x38000) → off ∉ [0x40100, 0x4010C, 0x40208, 0x40210] → Gives (.registerWrite off v) s s)) ∧
  (∀ s : State, barValue s 0x40100 = 0 ∧ barValue s 0x40104 = 0 ∧ barValue s 0x40000 = BitVec.ofNat 32 s.clock.now ∧ barValue s 0x40004 = s.clock.hiLatch ∧
    barValue s 0x40208 = BitVec.ofNat 32 s.fault.ack ∧ barValue s 0x40210 = s.fault.idx.setWidth 32 ∧ barValue s 0x40200 = BitVec.ofNat 32 s.fault.newest ∧
    (∀ n, n < 2048 → (barValue s (0x38000 + 4 * (n / 32))).getLsbD (n % 32) = Tab.get false n s.cxl.msixPend) ∧
    ∀ n, n < 1024 → barValue s (0x20000 + 4 * n) = 0)

/-! ## The machine as a whole -/

/-- R618, R621 and the model's choices of logs 3, 4, 5, 17 and 19: what a reset leaves (the part and its fuses, log 4; memory that nothing has written, log 17). -/
def Obligations.ResetValues : Prop :=
  Tidy State.reset = true ∧ State.reset.pending = [] ∧ State.reset.boot.cause = 1 ∧ State.reset.clock.now = 0 ∧ State.reset.plan.epoch = 0 ∧
  (∀ g, (State.reset.galAt g).mode = .dark ∧ (State.reset.galAt g).epoch = 0 ∧ (State.reset.galAt g).task = none ∧ (State.reset.galAt g).entry.mask = 0) ∧
  (∀ h, (State.reset.hallAt h).setPoint = 720 ∧ (State.reset.hallAt h).rng = 0 ∧ (State.reset.hallAt h).halted = none) ∧
  (∀ sid, State.reset.sessAt sid = none) ∧ (∀ r, (State.reset.ringAt r).st = 0 ∧ (State.reset.ringAt r).enable = false) ∧
  (∀ a, State.reset.dramByte a = 0) ∧ (∀ k, (State.reset.stackAt k).band = 1) ∧ (∀ f, (State.reset.flightAt f).st = 0) ∧
  (∀ g l t r, xr State.reset { g := g, l := l, t := t } r = 0 ∧ fr State.reset { g := g, l := l, t := t } r = 0 ∧ vr State.reset { g := g, l := l, t := t } r = 0) ∧
  State.reset.obj 0x2110 4 = 10000 ∧ State.reset.obj 0x2120 1 = 100 ∧ State.reset.obj 0x4000 1 = 1600 ∧ State.reset.devId = none ∧ State.reset.obj 0x7000 6 = 1

/-- No command touches the queue: a step removes its front command and changes the queue in no other way. -/
def Obligations.QueueShrinksByOne : Prop := ∀ (s t : State), step s = .next t → t.pending = s.pending.tail

/-- The canonical form of the state's data holds after every step. -/
def Obligations.StepKeepsTidy : Prop := ∀ (s t : State), Tidy s = true → step s = .next t → Tidy t = true

/-- The reference timer never goes back but with a loss of power (R56, R613, R617). R548, R551, R553, R565, R569: what is fused stays. No command
takes a revocation back, lowers the security version or moves the life cycle back. -/
def Obligations.TimeAndFuses : Prop :=
  (∀ (s t : State), step s = .next t → s.clock.now ≤ t.clock.now ∨ s.pending.head? = some .pwrgoodFall ∨ (∃ x b, s.pending.head? = some (.pwrgoodRise x b))) ∧
  (∀ (s t : State), step s = .next t →
     s.lamp.fuses.secVer ≤ t.lamp.fuses.secVer ∧ s.lamp.fuses.life ≤ t.lamp.fuses.life ∧ t.lamp.fuses.hx = s.lamp.fuses.hx ∧ t.lamp.fuses.serial = s.lamp.fuses.serial ∧
     (∀ k, nbit s.lamp.fuses.anchorRevoked k = true → nbit t.lamp.fuses.anchorRevoked k = true) ∧
     (∀ k, nbit s.lamp.fuses.keyRevoked k = true → nbit t.lamp.fuses.keyRevoked k = true))
end

