-- ==== Sys2Proof/Laws/State.lean ====
section
/-! SUPPORT. The plain updates of the state field by field, and what a fold of state changes leaves alone. -/

namespace Sys2Proof.Machine
open Sys2Proof

/-! ## updHall -/

@[simp] theorem State.updHall_pending (s : State) (k : Nat) (f : HallState → HallState) : (s.updHall k f).pending = s.pending := by cases s; rfl
@[simp] theorem State.updHall_free (s : State) (k : Nat) (f : HallState → HallState) : (s.updHall k f).free = s.free := by cases s; rfl
@[simp] theorem State.updHall_out (s : State) (k : Nat) (f : HallState → HallState) : (s.updHall k f).out = s.out := by cases s; rfl
@[simp] theorem State.updHall_pins (s : State) (k : Nat) (f : HallState → HallState) : (s.updHall k f).pins = s.pins := by cases s; rfl
@[simp] theorem State.updHall_boot (s : State) (k : Nat) (f : HallState → HallState) : (s.updHall k f).boot = s.boot := by cases s; rfl
@[simp] theorem State.updHall_clock (s : State) (k : Nat) (f : HallState → HallState) : (s.updHall k f).clock = s.clock := by cases s; rfl
@[simp] theorem State.updHall_plan (s : State) (k : Nat) (f : HallState → HallState) : (s.updHall k f).plan = s.plan := by cases s; rfl
@[simp] theorem State.updHall_roll (s : State) (k : Nat) (f : HallState → HallState) : (s.updHall k f).roll = s.roll := by cases s; rfl
@[simp] theorem State.updHall_changes (s : State) (k : Nat) (f : HallState → HallState) : (s.updHall k f).changes = s.changes := by cases s; rfl
@[simp] theorem State.updHall_gal (s : State) (k : Nat) (f : HallState → HallState) : (s.updHall k f).gal = s.gal := by cases s; rfl
@[simp] theorem State.updHall_galx (s : State) (k : Nat) (f : HallState → HallState) : (s.updHall k f).galx = s.galx := by cases s; rfl
@[simp] theorem State.updHall_dram (s : State) (k : Nat) (f : HallState → HallState) : (s.updHall k f).dram = s.dram := by cases s; rfl
@[simp] theorem State.updHall_net (s : State) (k : Nat) (f : HallState → HallState) : (s.updHall k f).net = s.net := by cases s; rfl
@[simp] theorem State.updHall_cxl (s : State) (k : Nat) (f : HallState → HallState) : (s.updHall k f).cxl = s.cxl := by cases s; rfl
@[simp] theorem State.updHall_hal (s : State) (k : Nat) (f : HallState → HallState) : (s.updHall k f).hal = s.hal := by cases s; rfl
@[simp] theorem State.updHall_lamp (s : State) (k : Nat) (f : HallState → HallState) : (s.updHall k f).lamp = s.lamp := by cases s; rfl
@[simp] theorem State.updHall_power (s : State) (k : Nat) (f : HallState → HallState) : (s.updHall k f).power = s.power := by cases s; rfl
@[simp] theorem State.updHall_fault (s : State) (k : Nat) (f : HallState → HallState) : (s.updHall k f).fault = s.fault := by cases s; rfl

/-! ## updGal -/

@[simp] theorem State.updGal_pending (s : State) (k : Nat) (f : Gallery → Gallery) : (s.updGal k f).pending = s.pending := by cases s; rfl
@[simp] theorem State.updGal_free (s : State) (k : Nat) (f : Gallery → Gallery) : (s.updGal k f).free = s.free := by cases s; rfl
@[simp] theorem State.updGal_out (s : State) (k : Nat) (f : Gallery → Gallery) : (s.updGal k f).out = s.out := by cases s; rfl
@[simp] theorem State.updGal_pins (s : State) (k : Nat) (f : Gallery → Gallery) : (s.updGal k f).pins = s.pins := by cases s; rfl
@[simp] theorem State.updGal_boot (s : State) (k : Nat) (f : Gallery → Gallery) : (s.updGal k f).boot = s.boot := by cases s; rfl
@[simp] theorem State.updGal_clock (s : State) (k : Nat) (f : Gallery → Gallery) : (s.updGal k f).clock = s.clock := by cases s; rfl
@[simp] theorem State.updGal_plan (s : State) (k : Nat) (f : Gallery → Gallery) : (s.updGal k f).plan = s.plan := by cases s; rfl
@[simp] theorem State.updGal_roll (s : State) (k : Nat) (f : Gallery → Gallery) : (s.updGal k f).roll = s.roll := by cases s; rfl
@[simp] theorem State.updGal_changes (s : State) (k : Nat) (f : Gallery → Gallery) : (s.updGal k f).changes = s.changes := by cases s; rfl
@[simp] theorem State.updGal_hall (s : State) (k : Nat) (f : Gallery → Gallery) : (s.updGal k f).hall = s.hall := by cases s; rfl
@[simp] theorem State.updGal_galx (s : State) (k : Nat) (f : Gallery → Gallery) : (s.updGal k f).galx = s.galx := by cases s; rfl
@[simp] theorem State.updGal_dram (s : State) (k : Nat) (f : Gallery → Gallery) : (s.updGal k f).dram = s.dram := by cases s; rfl
@[simp] theorem State.updGal_net (s : State) (k : Nat) (f : Gallery → Gallery) : (s.updGal k f).net = s.net := by cases s; rfl
@[simp] theorem State.updGal_cxl (s : State) (k : Nat) (f : Gallery → Gallery) : (s.updGal k f).cxl = s.cxl := by cases s; rfl
@[simp] theorem State.updGal_hal (s : State) (k : Nat) (f : Gallery → Gallery) : (s.updGal k f).hal = s.hal := by cases s; rfl
@[simp] theorem State.updGal_lamp (s : State) (k : Nat) (f : Gallery → Gallery) : (s.updGal k f).lamp = s.lamp := by cases s; rfl
@[simp] theorem State.updGal_power (s : State) (k : Nat) (f : Gallery → Gallery) : (s.updGal k f).power = s.power := by cases s; rfl
@[simp] theorem State.updGal_fault (s : State) (k : Nat) (f : Gallery → Gallery) : (s.updGal k f).fault = s.fault := by cases s; rfl

/-! ## updGalx -/

@[simp] theorem State.updGalx_pending (s : State) (k : Nat) (f : GalleryX → GalleryX) : (s.updGalx k f).pending = s.pending := by cases s; rfl
@[simp] theorem State.updGalx_free (s : State) (k : Nat) (f : GalleryX → GalleryX) : (s.updGalx k f).free = s.free := by cases s; rfl
@[simp] theorem State.updGalx_out (s : State) (k : Nat) (f : GalleryX → GalleryX) : (s.updGalx k f).out = s.out := by cases s; rfl
@[simp] theorem State.updGalx_pins (s : State) (k : Nat) (f : GalleryX → GalleryX) : (s.updGalx k f).pins = s.pins := by cases s; rfl
@[simp] theorem State.updGalx_boot (s : State) (k : Nat) (f : GalleryX → GalleryX) : (s.updGalx k f).boot = s.boot := by cases s; rfl
@[simp] theorem State.updGalx_clock (s : State) (k : Nat) (f : GalleryX → GalleryX) : (s.updGalx k f).clock = s.clock := by cases s; rfl
@[simp] theorem State.updGalx_plan (s : State) (k : Nat) (f : GalleryX → GalleryX) : (s.updGalx k f).plan = s.plan := by cases s; rfl
@[simp] theorem State.updGalx_roll (s : State) (k : Nat) (f : GalleryX → GalleryX) : (s.updGalx k f).roll = s.roll := by cases s; rfl
@[simp] theorem State.updGalx_changes (s : State) (k : Nat) (f : GalleryX → GalleryX) : (s.updGalx k f).changes = s.changes := by cases s; rfl
@[simp] theorem State.updGalx_hall (s : State) (k : Nat) (f : GalleryX → GalleryX) : (s.updGalx k f).hall = s.hall := by cases s; rfl
@[simp] theorem State.updGalx_gal (s : State) (k : Nat) (f : GalleryX → GalleryX) : (s.updGalx k f).gal = s.gal := by cases s; rfl
@[simp] theorem State.updGalx_dram (s : State) (k : Nat) (f : GalleryX → GalleryX) : (s.updGalx k f).dram = s.dram := by cases s; rfl
@[simp] theorem State.updGalx_net (s : State) (k : Nat) (f : GalleryX → GalleryX) : (s.updGalx k f).net = s.net := by cases s; rfl
@[simp] theorem State.updGalx_cxl (s : State) (k : Nat) (f : GalleryX → GalleryX) : (s.updGalx k f).cxl = s.cxl := by cases s; rfl
@[simp] theorem State.updGalx_hal (s : State) (k : Nat) (f : GalleryX → GalleryX) : (s.updGalx k f).hal = s.hal := by cases s; rfl
@[simp] theorem State.updGalx_lamp (s : State) (k : Nat) (f : GalleryX → GalleryX) : (s.updGalx k f).lamp = s.lamp := by cases s; rfl
@[simp] theorem State.updGalx_power (s : State) (k : Nat) (f : GalleryX → GalleryX) : (s.updGalx k f).power = s.power := by cases s; rfl
@[simp] theorem State.updGalx_fault (s : State) (k : Nat) (f : GalleryX → GalleryX) : (s.updGalx k f).fault = s.fault := by cases s; rfl

/-! ## updLan -/

@[simp] theorem State.updLan_pending (s : State) (g l : Nat) (f : Lantern → Lantern) : (s.updLan g l f).pending = s.pending := by cases s; rfl
@[simp] theorem State.updLan_free (s : State) (g l : Nat) (f : Lantern → Lantern) : (s.updLan g l f).free = s.free := by cases s; rfl
@[simp] theorem State.updLan_out (s : State) (g l : Nat) (f : Lantern → Lantern) : (s.updLan g l f).out = s.out := by cases s; rfl
@[simp] theorem State.updLan_pins (s : State) (g l : Nat) (f : Lantern → Lantern) : (s.updLan g l f).pins = s.pins := by cases s; rfl
@[simp] theorem State.updLan_boot (s : State) (g l : Nat) (f : Lantern → Lantern) : (s.updLan g l f).boot = s.boot := by cases s; rfl
@[simp] theorem State.updLan_clock (s : State) (g l : Nat) (f : Lantern → Lantern) : (s.updLan g l f).clock = s.clock := by cases s; rfl
@[simp] theorem State.updLan_plan (s : State) (g l : Nat) (f : Lantern → Lantern) : (s.updLan g l f).plan = s.plan := by cases s; rfl
@[simp] theorem State.updLan_roll (s : State) (g l : Nat) (f : Lantern → Lantern) : (s.updLan g l f).roll = s.roll := by cases s; rfl
@[simp] theorem State.updLan_changes (s : State) (g l : Nat) (f : Lantern → Lantern) : (s.updLan g l f).changes = s.changes := by cases s; rfl
@[simp] theorem State.updLan_hall (s : State) (g l : Nat) (f : Lantern → Lantern) : (s.updLan g l f).hall = s.hall := by cases s; rfl
@[simp] theorem State.updLan_galx (s : State) (g l : Nat) (f : Lantern → Lantern) : (s.updLan g l f).galx = s.galx := by cases s; rfl
@[simp] theorem State.updLan_dram (s : State) (g l : Nat) (f : Lantern → Lantern) : (s.updLan g l f).dram = s.dram := by cases s; rfl
@[simp] theorem State.updLan_net (s : State) (g l : Nat) (f : Lantern → Lantern) : (s.updLan g l f).net = s.net := by cases s; rfl
@[simp] theorem State.updLan_cxl (s : State) (g l : Nat) (f : Lantern → Lantern) : (s.updLan g l f).cxl = s.cxl := by cases s; rfl
@[simp] theorem State.updLan_hal (s : State) (g l : Nat) (f : Lantern → Lantern) : (s.updLan g l f).hal = s.hal := by cases s; rfl
@[simp] theorem State.updLan_lamp (s : State) (g l : Nat) (f : Lantern → Lantern) : (s.updLan g l f).lamp = s.lamp := by cases s; rfl
@[simp] theorem State.updLan_power (s : State) (g l : Nat) (f : Lantern → Lantern) : (s.updLan g l f).power = s.power := by cases s; rfl
@[simp] theorem State.updLan_fault (s : State) (g l : Nat) (f : Lantern → Lantern) : (s.updLan g l f).fault = s.fault := by cases s; rfl

/-! ## updTh -/

@[simp] theorem State.updTh_pending (s : State) (g l t : Nat) (f : Thread → Thread) : (s.updTh g l t f).pending = s.pending := by cases s; rfl
@[simp] theorem State.updTh_free (s : State) (g l t : Nat) (f : Thread → Thread) : (s.updTh g l t f).free = s.free := by cases s; rfl
@[simp] theorem State.updTh_out (s : State) (g l t : Nat) (f : Thread → Thread) : (s.updTh g l t f).out = s.out := by cases s; rfl
@[simp] theorem State.updTh_pins (s : State) (g l t : Nat) (f : Thread → Thread) : (s.updTh g l t f).pins = s.pins := by cases s; rfl
@[simp] theorem State.updTh_boot (s : State) (g l t : Nat) (f : Thread → Thread) : (s.updTh g l t f).boot = s.boot := by cases s; rfl
@[simp] theorem State.updTh_clock (s : State) (g l t : Nat) (f : Thread → Thread) : (s.updTh g l t f).clock = s.clock := by cases s; rfl
@[simp] theorem State.updTh_plan (s : State) (g l t : Nat) (f : Thread → Thread) : (s.updTh g l t f).plan = s.plan := by cases s; rfl
@[simp] theorem State.updTh_roll (s : State) (g l t : Nat) (f : Thread → Thread) : (s.updTh g l t f).roll = s.roll := by cases s; rfl
@[simp] theorem State.updTh_changes (s : State) (g l t : Nat) (f : Thread → Thread) : (s.updTh g l t f).changes = s.changes := by cases s; rfl
@[simp] theorem State.updTh_hall (s : State) (g l t : Nat) (f : Thread → Thread) : (s.updTh g l t f).hall = s.hall := by cases s; rfl
@[simp] theorem State.updTh_galx (s : State) (g l t : Nat) (f : Thread → Thread) : (s.updTh g l t f).galx = s.galx := by cases s; rfl
@[simp] theorem State.updTh_dram (s : State) (g l t : Nat) (f : Thread → Thread) : (s.updTh g l t f).dram = s.dram := by cases s; rfl
@[simp] theorem State.updTh_net (s : State) (g l t : Nat) (f : Thread → Thread) : (s.updTh g l t f).net = s.net := by cases s; rfl
@[simp] theorem State.updTh_cxl (s : State) (g l t : Nat) (f : Thread → Thread) : (s.updTh g l t f).cxl = s.cxl := by cases s; rfl
@[simp] theorem State.updTh_hal (s : State) (g l t : Nat) (f : Thread → Thread) : (s.updTh g l t f).hal = s.hal := by cases s; rfl
@[simp] theorem State.updTh_lamp (s : State) (g l t : Nat) (f : Thread → Thread) : (s.updTh g l t f).lamp = s.lamp := by cases s; rfl
@[simp] theorem State.updTh_power (s : State) (g l t : Nat) (f : Thread → Thread) : (s.updTh g l t f).power = s.power := by cases s; rfl
@[simp] theorem State.updTh_fault (s : State) (g l t : Nat) (f : Thread → Thread) : (s.updTh g l t f).fault = s.fault := by cases s; rfl

/-! ## updFlight -/

@[simp] theorem State.updFlight_pending (s : State) (k : Nat) (f : FlightState → FlightState) : (s.updFlight k f).pending = s.pending := by cases s; rfl
@[simp] theorem State.updFlight_free (s : State) (k : Nat) (f : FlightState → FlightState) : (s.updFlight k f).free = s.free := by cases s; rfl
@[simp] theorem State.updFlight_out (s : State) (k : Nat) (f : FlightState → FlightState) : (s.updFlight k f).out = s.out := by cases s; rfl
@[simp] theorem State.updFlight_pins (s : State) (k : Nat) (f : FlightState → FlightState) : (s.updFlight k f).pins = s.pins := by cases s; rfl
@[simp] theorem State.updFlight_boot (s : State) (k : Nat) (f : FlightState → FlightState) : (s.updFlight k f).boot = s.boot := by cases s; rfl
@[simp] theorem State.updFlight_clock (s : State) (k : Nat) (f : FlightState → FlightState) : (s.updFlight k f).clock = s.clock := by cases s; rfl
@[simp] theorem State.updFlight_plan (s : State) (k : Nat) (f : FlightState → FlightState) : (s.updFlight k f).plan = s.plan := by cases s; rfl
@[simp] theorem State.updFlight_roll (s : State) (k : Nat) (f : FlightState → FlightState) : (s.updFlight k f).roll = s.roll := by cases s; rfl
@[simp] theorem State.updFlight_changes (s : State) (k : Nat) (f : FlightState → FlightState) : (s.updFlight k f).changes = s.changes := by cases s; rfl
@[simp] theorem State.updFlight_hall (s : State) (k : Nat) (f : FlightState → FlightState) : (s.updFlight k f).hall = s.hall := by cases s; rfl
@[simp] theorem State.updFlight_gal (s : State) (k : Nat) (f : FlightState → FlightState) : (s.updFlight k f).gal = s.gal := by cases s; rfl
@[simp] theorem State.updFlight_galx (s : State) (k : Nat) (f : FlightState → FlightState) : (s.updFlight k f).galx = s.galx := by cases s; rfl
@[simp] theorem State.updFlight_dram (s : State) (k : Nat) (f : FlightState → FlightState) : (s.updFlight k f).dram = s.dram := by cases s; rfl
@[simp] theorem State.updFlight_cxl (s : State) (k : Nat) (f : FlightState → FlightState) : (s.updFlight k f).cxl = s.cxl := by cases s; rfl
@[simp] theorem State.updFlight_hal (s : State) (k : Nat) (f : FlightState → FlightState) : (s.updFlight k f).hal = s.hal := by cases s; rfl
@[simp] theorem State.updFlight_lamp (s : State) (k : Nat) (f : FlightState → FlightState) : (s.updFlight k f).lamp = s.lamp := by cases s; rfl
@[simp] theorem State.updFlight_power (s : State) (k : Nat) (f : FlightState → FlightState) : (s.updFlight k f).power = s.power := by cases s; rfl
@[simp] theorem State.updFlight_fault (s : State) (k : Nat) (f : FlightState → FlightState) : (s.updFlight k f).fault = s.fault := by cases s; rfl

/-! ## updStack -/

@[simp] theorem State.updStack_pending (s : State) (k : Nat) (f : StackState → StackState) : (s.updStack k f).pending = s.pending := by cases s; rfl
@[simp] theorem State.updStack_free (s : State) (k : Nat) (f : StackState → StackState) : (s.updStack k f).free = s.free := by cases s; rfl
@[simp] theorem State.updStack_out (s : State) (k : Nat) (f : StackState → StackState) : (s.updStack k f).out = s.out := by cases s; rfl
@[simp] theorem State.updStack_pins (s : State) (k : Nat) (f : StackState → StackState) : (s.updStack k f).pins = s.pins := by cases s; rfl
@[simp] theorem State.updStack_boot (s : State) (k : Nat) (f : StackState → StackState) : (s.updStack k f).boot = s.boot := by cases s; rfl
@[simp] theorem State.updStack_clock (s : State) (k : Nat) (f : StackState → StackState) : (s.updStack k f).clock = s.clock := by cases s; rfl
@[simp] theorem State.updStack_plan (s : State) (k : Nat) (f : StackState → StackState) : (s.updStack k f).plan = s.plan := by cases s; rfl
@[simp] theorem State.updStack_roll (s : State) (k : Nat) (f : StackState → StackState) : (s.updStack k f).roll = s.roll := by cases s; rfl
@[simp] theorem State.updStack_changes (s : State) (k : Nat) (f : StackState → StackState) : (s.updStack k f).changes = s.changes := by cases s; rfl
@[simp] theorem State.updStack_hall (s : State) (k : Nat) (f : StackState → StackState) : (s.updStack k f).hall = s.hall := by cases s; rfl
@[simp] theorem State.updStack_gal (s : State) (k : Nat) (f : StackState → StackState) : (s.updStack k f).gal = s.gal := by cases s; rfl
@[simp] theorem State.updStack_galx (s : State) (k : Nat) (f : StackState → StackState) : (s.updStack k f).galx = s.galx := by cases s; rfl
@[simp] theorem State.updStack_net (s : State) (k : Nat) (f : StackState → StackState) : (s.updStack k f).net = s.net := by cases s; rfl
@[simp] theorem State.updStack_cxl (s : State) (k : Nat) (f : StackState → StackState) : (s.updStack k f).cxl = s.cxl := by cases s; rfl
@[simp] theorem State.updStack_hal (s : State) (k : Nat) (f : StackState → StackState) : (s.updStack k f).hal = s.hal := by cases s; rfl
@[simp] theorem State.updStack_lamp (s : State) (k : Nat) (f : StackState → StackState) : (s.updStack k f).lamp = s.lamp := by cases s; rfl
@[simp] theorem State.updStack_power (s : State) (k : Nat) (f : StackState → StackState) : (s.updStack k f).power = s.power := by cases s; rfl
@[simp] theorem State.updStack_fault (s : State) (k : Nat) (f : StackState → StackState) : (s.updStack k f).fault = s.fault := by cases s; rfl

/-! ## updRing -/

@[simp] theorem State.updRing_pending (s : State) (r : Nat) (f : Ring → Ring) : (s.updRing r f).pending = s.pending := by cases s; rfl
@[simp] theorem State.updRing_free (s : State) (r : Nat) (f : Ring → Ring) : (s.updRing r f).free = s.free := by cases s; rfl
@[simp] theorem State.updRing_out (s : State) (r : Nat) (f : Ring → Ring) : (s.updRing r f).out = s.out := by cases s; rfl
@[simp] theorem State.updRing_pins (s : State) (r : Nat) (f : Ring → Ring) : (s.updRing r f).pins = s.pins := by cases s; rfl
@[simp] theorem State.updRing_boot (s : State) (r : Nat) (f : Ring → Ring) : (s.updRing r f).boot = s.boot := by cases s; rfl
@[simp] theorem State.updRing_clock (s : State) (r : Nat) (f : Ring → Ring) : (s.updRing r f).clock = s.clock := by cases s; rfl
@[simp] theorem State.updRing_plan (s : State) (r : Nat) (f : Ring → Ring) : (s.updRing r f).plan = s.plan := by cases s; rfl
@[simp] theorem State.updRing_roll (s : State) (r : Nat) (f : Ring → Ring) : (s.updRing r f).roll = s.roll := by cases s; rfl
@[simp] theorem State.updRing_changes (s : State) (r : Nat) (f : Ring → Ring) : (s.updRing r f).changes = s.changes := by cases s; rfl
@[simp] theorem State.updRing_hall (s : State) (r : Nat) (f : Ring → Ring) : (s.updRing r f).hall = s.hall := by cases s; rfl
@[simp] theorem State.updRing_gal (s : State) (r : Nat) (f : Ring → Ring) : (s.updRing r f).gal = s.gal := by cases s; rfl
@[simp] theorem State.updRing_galx (s : State) (r : Nat) (f : Ring → Ring) : (s.updRing r f).galx = s.galx := by cases s; rfl
@[simp] theorem State.updRing_dram (s : State) (r : Nat) (f : Ring → Ring) : (s.updRing r f).dram = s.dram := by cases s; rfl
@[simp] theorem State.updRing_net (s : State) (r : Nat) (f : Ring → Ring) : (s.updRing r f).net = s.net := by cases s; rfl
@[simp] theorem State.updRing_hal (s : State) (r : Nat) (f : Ring → Ring) : (s.updRing r f).hal = s.hal := by cases s; rfl
@[simp] theorem State.updRing_lamp (s : State) (r : Nat) (f : Ring → Ring) : (s.updRing r f).lamp = s.lamp := by cases s; rfl
@[simp] theorem State.updRing_power (s : State) (r : Nat) (f : Ring → Ring) : (s.updRing r f).power = s.power := by cases s; rfl
@[simp] theorem State.updRing_fault (s : State) (r : Nat) (f : Ring → Ring) : (s.updRing r f).fault = s.fault := by cases s; rfl

/-! ## emit -/

@[simp] theorem State.emit_pending (s : State) (o : Output) : (s.emit o).pending = s.pending := by cases s; rfl
@[simp] theorem State.emit_free (s : State) (o : Output) : (s.emit o).free = s.free := by cases s; rfl
@[simp] theorem State.emit_pins (s : State) (o : Output) : (s.emit o).pins = s.pins := by cases s; rfl
@[simp] theorem State.emit_boot (s : State) (o : Output) : (s.emit o).boot = s.boot := by cases s; rfl
@[simp] theorem State.emit_clock (s : State) (o : Output) : (s.emit o).clock = s.clock := by cases s; rfl
@[simp] theorem State.emit_plan (s : State) (o : Output) : (s.emit o).plan = s.plan := by cases s; rfl
@[simp] theorem State.emit_roll (s : State) (o : Output) : (s.emit o).roll = s.roll := by cases s; rfl
@[simp] theorem State.emit_changes (s : State) (o : Output) : (s.emit o).changes = s.changes := by cases s; rfl
@[simp] theorem State.emit_hall (s : State) (o : Output) : (s.emit o).hall = s.hall := by cases s; rfl
@[simp] theorem State.emit_gal (s : State) (o : Output) : (s.emit o).gal = s.gal := by cases s; rfl
@[simp] theorem State.emit_galx (s : State) (o : Output) : (s.emit o).galx = s.galx := by cases s; rfl
@[simp] theorem State.emit_dram (s : State) (o : Output) : (s.emit o).dram = s.dram := by cases s; rfl
@[simp] theorem State.emit_net (s : State) (o : Output) : (s.emit o).net = s.net := by cases s; rfl
@[simp] theorem State.emit_cxl (s : State) (o : Output) : (s.emit o).cxl = s.cxl := by cases s; rfl
@[simp] theorem State.emit_hal (s : State) (o : Output) : (s.emit o).hal = s.hal := by cases s; rfl
@[simp] theorem State.emit_lamp (s : State) (o : Output) : (s.emit o).lamp = s.lamp := by cases s; rfl
@[simp] theorem State.emit_power (s : State) (o : Output) : (s.emit o).power = s.power := by cases s; rfl
@[simp] theorem State.emit_fault (s : State) (o : Output) : (s.emit o).fault = s.fault := by cases s; rfl

/-! ## dramWrite -/

@[simp] theorem State.dramWrite_pending (s : State) (a : Nat) (v : Bytes) : (s.dramWrite a v).pending = s.pending := by cases s; rfl
@[simp] theorem State.dramWrite_free (s : State) (a : Nat) (v : Bytes) : (s.dramWrite a v).free = s.free := by cases s; rfl
@[simp] theorem State.dramWrite_out (s : State) (a : Nat) (v : Bytes) : (s.dramWrite a v).out = s.out := by cases s; rfl
@[simp] theorem State.dramWrite_pins (s : State) (a : Nat) (v : Bytes) : (s.dramWrite a v).pins = s.pins := by cases s; rfl
@[simp] theorem State.dramWrite_boot (s : State) (a : Nat) (v : Bytes) : (s.dramWrite a v).boot = s.boot := by cases s; rfl
@[simp] theorem State.dramWrite_clock (s : State) (a : Nat) (v : Bytes) : (s.dramWrite a v).clock = s.clock := by cases s; rfl
@[simp] theorem State.dramWrite_plan (s : State) (a : Nat) (v : Bytes) : (s.dramWrite a v).plan = s.plan := by cases s; rfl
@[simp] theorem State.dramWrite_roll (s : State) (a : Nat) (v : Bytes) : (s.dramWrite a v).roll = s.roll := by cases s; rfl
@[simp] theorem State.dramWrite_changes (s : State) (a : Nat) (v : Bytes) : (s.dramWrite a v).changes = s.changes := by cases s; rfl
@[simp] theorem State.dramWrite_hall (s : State) (a : Nat) (v : Bytes) : (s.dramWrite a v).hall = s.hall := by cases s; rfl
@[simp] theorem State.dramWrite_gal (s : State) (a : Nat) (v : Bytes) : (s.dramWrite a v).gal = s.gal := by cases s; rfl
@[simp] theorem State.dramWrite_galx (s : State) (a : Nat) (v : Bytes) : (s.dramWrite a v).galx = s.galx := by cases s; rfl
@[simp] theorem State.dramWrite_net (s : State) (a : Nat) (v : Bytes) : (s.dramWrite a v).net = s.net := by cases s; rfl
@[simp] theorem State.dramWrite_cxl (s : State) (a : Nat) (v : Bytes) : (s.dramWrite a v).cxl = s.cxl := by cases s; rfl
@[simp] theorem State.dramWrite_hal (s : State) (a : Nat) (v : Bytes) : (s.dramWrite a v).hal = s.hal := by cases s; rfl
@[simp] theorem State.dramWrite_lamp (s : State) (a : Nat) (v : Bytes) : (s.dramWrite a v).lamp = s.lamp := by cases s; rfl
@[simp] theorem State.dramWrite_power (s : State) (a : Nat) (v : Bytes) : (s.dramWrite a v).power = s.power := by cases s; rfl
@[simp] theorem State.dramWrite_fault (s : State) (a : Nat) (v : Bytes) : (s.dramWrite a v).fault = s.fault := by cases s; rfl

/-! ## dramSetPoison -/

@[simp] theorem State.dramSetPoison_pending (s : State) (a n : Nat) (b : Bool) : (s.dramSetPoison a n b).pending = s.pending := by cases s; rfl
@[simp] theorem State.dramSetPoison_free (s : State) (a n : Nat) (b : Bool) : (s.dramSetPoison a n b).free = s.free := by cases s; rfl
@[simp] theorem State.dramSetPoison_out (s : State) (a n : Nat) (b : Bool) : (s.dramSetPoison a n b).out = s.out := by cases s; rfl
@[simp] theorem State.dramSetPoison_pins (s : State) (a n : Nat) (b : Bool) : (s.dramSetPoison a n b).pins = s.pins := by cases s; rfl
@[simp] theorem State.dramSetPoison_boot (s : State) (a n : Nat) (b : Bool) : (s.dramSetPoison a n b).boot = s.boot := by cases s; rfl
@[simp] theorem State.dramSetPoison_clock (s : State) (a n : Nat) (b : Bool) : (s.dramSetPoison a n b).clock = s.clock := by cases s; rfl
@[simp] theorem State.dramSetPoison_plan (s : State) (a n : Nat) (b : Bool) : (s.dramSetPoison a n b).plan = s.plan := by cases s; rfl
@[simp] theorem State.dramSetPoison_roll (s : State) (a n : Nat) (b : Bool) : (s.dramSetPoison a n b).roll = s.roll := by cases s; rfl
@[simp] theorem State.dramSetPoison_changes (s : State) (a n : Nat) (b : Bool) : (s.dramSetPoison a n b).changes = s.changes := by cases s; rfl
@[simp] theorem State.dramSetPoison_hall (s : State) (a n : Nat) (b : Bool) : (s.dramSetPoison a n b).hall = s.hall := by cases s; rfl
@[simp] theorem State.dramSetPoison_gal (s : State) (a n : Nat) (b : Bool) : (s.dramSetPoison a n b).gal = s.gal := by cases s; rfl
@[simp] theorem State.dramSetPoison_galx (s : State) (a n : Nat) (b : Bool) : (s.dramSetPoison a n b).galx = s.galx := by cases s; rfl
@[simp] theorem State.dramSetPoison_net (s : State) (a n : Nat) (b : Bool) : (s.dramSetPoison a n b).net = s.net := by cases s; rfl
@[simp] theorem State.dramSetPoison_cxl (s : State) (a n : Nat) (b : Bool) : (s.dramSetPoison a n b).cxl = s.cxl := by cases s; rfl
@[simp] theorem State.dramSetPoison_hal (s : State) (a n : Nat) (b : Bool) : (s.dramSetPoison a n b).hal = s.hal := by cases s; rfl
@[simp] theorem State.dramSetPoison_lamp (s : State) (a n : Nat) (b : Bool) : (s.dramSetPoison a n b).lamp = s.lamp := by cases s; rfl
@[simp] theorem State.dramSetPoison_power (s : State) (a n : Nat) (b : Bool) : (s.dramSetPoison a n b).power = s.power := by cases s; rfl
@[simp] theorem State.dramSetPoison_fault (s : State) (a n : Nat) (b : Bool) : (s.dramSetPoison a n b).fault = s.fault := by cases s; rfl

@[simp] theorem State.updStack_mem (s : State) (k : Nat) (f : StackState → StackState) : (s.updStack k f).dram.mem = s.dram.mem := by cases s; rfl
@[simp] theorem State.dramSetPoison_mem (s : State) (a n : Nat) (b : Bool) : (s.dramSetPoison a n b).dram.mem = s.dram.mem := rfl

@[simp] theorem State.emit_out (s : State) (o : Output) : (s.emit o).out = s.out ++ [o] := rfl

/-! ## Free values -/

@[simp] theorem State.fresh_pending (s : State) : s.fresh.2.pending = s.pending := by cases s; rfl
@[simp] theorem State.freshBytes_pending (s : State) (n : Nat) : (s.freshBytes n).2.pending = s.pending := by cases s; rfl
@[simp] theorem State.freshWords_pending (s : State) (n : Nat) : (s.freshWords n).2.pending = s.pending := by cases s; rfl
@[simp] theorem State.fresh_out (s : State) : s.fresh.2.out = s.out := by cases s; rfl
@[simp] theorem State.freshBytes_out (s : State) (n : Nat) : (s.freshBytes n).2.out = s.out := by cases s; rfl
@[simp] theorem State.freshWords_out (s : State) (n : Nat) : (s.freshWords n).2.out = s.out := by cases s; rfl
@[simp] theorem State.fresh_pins (s : State) : s.fresh.2.pins = s.pins := by cases s; rfl
@[simp] theorem State.freshBytes_pins (s : State) (n : Nat) : (s.freshBytes n).2.pins = s.pins := by cases s; rfl
@[simp] theorem State.freshWords_pins (s : State) (n : Nat) : (s.freshWords n).2.pins = s.pins := by cases s; rfl
@[simp] theorem State.fresh_boot (s : State) : s.fresh.2.boot = s.boot := by cases s; rfl
@[simp] theorem State.freshBytes_boot (s : State) (n : Nat) : (s.freshBytes n).2.boot = s.boot := by cases s; rfl
@[simp] theorem State.freshWords_boot (s : State) (n : Nat) : (s.freshWords n).2.boot = s.boot := by cases s; rfl
@[simp] theorem State.fresh_clock (s : State) : s.fresh.2.clock = s.clock := by cases s; rfl
@[simp] theorem State.freshBytes_clock (s : State) (n : Nat) : (s.freshBytes n).2.clock = s.clock := by cases s; rfl
@[simp] theorem State.freshWords_clock (s : State) (n : Nat) : (s.freshWords n).2.clock = s.clock := by cases s; rfl
@[simp] theorem State.fresh_plan (s : State) : s.fresh.2.plan = s.plan := by cases s; rfl
@[simp] theorem State.freshBytes_plan (s : State) (n : Nat) : (s.freshBytes n).2.plan = s.plan := by cases s; rfl
@[simp] theorem State.freshWords_plan (s : State) (n : Nat) : (s.freshWords n).2.plan = s.plan := by cases s; rfl
@[simp] theorem State.fresh_roll (s : State) : s.fresh.2.roll = s.roll := by cases s; rfl
@[simp] theorem State.freshBytes_roll (s : State) (n : Nat) : (s.freshBytes n).2.roll = s.roll := by cases s; rfl
@[simp] theorem State.freshWords_roll (s : State) (n : Nat) : (s.freshWords n).2.roll = s.roll := by cases s; rfl
@[simp] theorem State.fresh_changes (s : State) : s.fresh.2.changes = s.changes := by cases s; rfl
@[simp] theorem State.freshBytes_changes (s : State) (n : Nat) : (s.freshBytes n).2.changes = s.changes := by cases s; rfl
@[simp] theorem State.freshWords_changes (s : State) (n : Nat) : (s.freshWords n).2.changes = s.changes := by cases s; rfl
@[simp] theorem State.fresh_hall (s : State) : s.fresh.2.hall = s.hall := by cases s; rfl
@[simp] theorem State.freshBytes_hall (s : State) (n : Nat) : (s.freshBytes n).2.hall = s.hall := by cases s; rfl
@[simp] theorem State.freshWords_hall (s : State) (n : Nat) : (s.freshWords n).2.hall = s.hall := by cases s; rfl
@[simp] theorem State.fresh_gal (s : State) : s.fresh.2.gal = s.gal := by cases s; rfl
@[simp] theorem State.freshBytes_gal (s : State) (n : Nat) : (s.freshBytes n).2.gal = s.gal := by cases s; rfl
@[simp] theorem State.freshWords_gal (s : State) (n : Nat) : (s.freshWords n).2.gal = s.gal := by cases s; rfl
@[simp] theorem State.fresh_galx (s : State) : s.fresh.2.galx = s.galx := by cases s; rfl
@[simp] theorem State.freshBytes_galx (s : State) (n : Nat) : (s.freshBytes n).2.galx = s.galx := by cases s; rfl
@[simp] theorem State.freshWords_galx (s : State) (n : Nat) : (s.freshWords n).2.galx = s.galx := by cases s; rfl
@[simp] theorem State.fresh_dram (s : State) : s.fresh.2.dram = s.dram := by cases s; rfl
@[simp] theorem State.freshBytes_dram (s : State) (n : Nat) : (s.freshBytes n).2.dram = s.dram := by cases s; rfl
@[simp] theorem State.freshWords_dram (s : State) (n : Nat) : (s.freshWords n).2.dram = s.dram := by cases s; rfl
@[simp] theorem State.fresh_net (s : State) : s.fresh.2.net = s.net := by cases s; rfl
@[simp] theorem State.freshBytes_net (s : State) (n : Nat) : (s.freshBytes n).2.net = s.net := by cases s; rfl
@[simp] theorem State.freshWords_net (s : State) (n : Nat) : (s.freshWords n).2.net = s.net := by cases s; rfl
@[simp] theorem State.fresh_cxl (s : State) : s.fresh.2.cxl = s.cxl := by cases s; rfl
@[simp] theorem State.freshBytes_cxl (s : State) (n : Nat) : (s.freshBytes n).2.cxl = s.cxl := by cases s; rfl
@[simp] theorem State.freshWords_cxl (s : State) (n : Nat) : (s.freshWords n).2.cxl = s.cxl := by cases s; rfl
@[simp] theorem State.fresh_hal (s : State) : s.fresh.2.hal = s.hal := by cases s; rfl
@[simp] theorem State.freshBytes_hal (s : State) (n : Nat) : (s.freshBytes n).2.hal = s.hal := by cases s; rfl
@[simp] theorem State.freshWords_hal (s : State) (n : Nat) : (s.freshWords n).2.hal = s.hal := by cases s; rfl
@[simp] theorem State.fresh_lamp (s : State) : s.fresh.2.lamp = s.lamp := by cases s; rfl
@[simp] theorem State.freshBytes_lamp (s : State) (n : Nat) : (s.freshBytes n).2.lamp = s.lamp := by cases s; rfl
@[simp] theorem State.freshWords_lamp (s : State) (n : Nat) : (s.freshWords n).2.lamp = s.lamp := by cases s; rfl
@[simp] theorem State.fresh_power (s : State) : s.fresh.2.power = s.power := by cases s; rfl
@[simp] theorem State.freshBytes_power (s : State) (n : Nat) : (s.freshBytes n).2.power = s.power := by cases s; rfl
@[simp] theorem State.freshWords_power (s : State) (n : Nat) : (s.freshWords n).2.power = s.power := by cases s; rfl
@[simp] theorem State.fresh_fault (s : State) : s.fresh.2.fault = s.fault := by cases s; rfl
@[simp] theorem State.freshBytes_fault (s : State) (n : Nat) : (s.freshBytes n).2.fault = s.fault := by cases s; rfl
@[simp] theorem State.freshWords_fault (s : State) (n : Nat) : (s.freshWords n).2.fault = s.fault := by cases s; rfl

@[simp] theorem State.freshBytes_length (s : State) (n : Nat) : (s.freshBytes n).1.length = n := by simp [State.freshBytes]
@[simp] theorem State.freshWords_length (s : State) (n : Nat) : (s.freshWords n).1.length = n := by simp [State.freshWords]

/-! ## Choices and folds -/

/-- A fold of steps that each keep a value keeps it. -/
theorem foldl_keeps {α β : Type} (p : State → β) (f : State → α → State) (h : ∀ u a, p (f u a) = p u) : ∀ (l : List α) (s : State), p (l.foldl f s) = p s
  | [], _ => rfl
  | a :: l, s => (foldl_keeps p f h l (f s a)).trans (h s a)

@[simp] theorem ite_pending (c : Prop) [Decidable c] (a b : State) : (if c then a else b).pending = if c then a.pending else b.pending := by split <;> rfl
@[simp] theorem foldl_pending {α : Type} (f : State → α → State) (h : ∀ u a, (f u a).pending = u.pending) (l : List α) (s : State) : (l.foldl f s).pending = s.pending :=
  foldl_keeps (·.pending) f h l s
@[simp] theorem ite_free (c : Prop) [Decidable c] (a b : State) : (if c then a else b).free = if c then a.free else b.free := by split <;> rfl
@[simp] theorem foldl_free {α : Type} (f : State → α → State) (h : ∀ u a, (f u a).free = u.free) (l : List α) (s : State) : (l.foldl f s).free = s.free :=
  foldl_keeps (·.free) f h l s
@[simp] theorem ite_out (c : Prop) [Decidable c] (a b : State) : (if c then a else b).out = if c then a.out else b.out := by split <;> rfl
@[simp] theorem foldl_out {α : Type} (f : State → α → State) (h : ∀ u a, (f u a).out = u.out) (l : List α) (s : State) : (l.foldl f s).out = s.out :=
  foldl_keeps (·.out) f h l s
@[simp] theorem ite_pins (c : Prop) [Decidable c] (a b : State) : (if c then a else b).pins = if c then a.pins else b.pins := by split <;> rfl
@[simp] theorem foldl_pins {α : Type} (f : State → α → State) (h : ∀ u a, (f u a).pins = u.pins) (l : List α) (s : State) : (l.foldl f s).pins = s.pins :=
  foldl_keeps (·.pins) f h l s
@[simp] theorem ite_boot (c : Prop) [Decidable c] (a b : State) : (if c then a else b).boot = if c then a.boot else b.boot := by split <;> rfl
@[simp] theorem foldl_boot {α : Type} (f : State → α → State) (h : ∀ u a, (f u a).boot = u.boot) (l : List α) (s : State) : (l.foldl f s).boot = s.boot :=
  foldl_keeps (·.boot) f h l s
@[simp] theorem ite_clock (c : Prop) [Decidable c] (a b : State) : (if c then a else b).clock = if c then a.clock else b.clock := by split <;> rfl
@[simp] theorem foldl_clock {α : Type} (f : State → α → State) (h : ∀ u a, (f u a).clock = u.clock) (l : List α) (s : State) : (l.foldl f s).clock = s.clock :=
  foldl_keeps (·.clock) f h l s
@[simp] theorem ite_plan (c : Prop) [Decidable c] (a b : State) : (if c then a else b).plan = if c then a.plan else b.plan := by split <;> rfl
@[simp] theorem foldl_plan {α : Type} (f : State → α → State) (h : ∀ u a, (f u a).plan = u.plan) (l : List α) (s : State) : (l.foldl f s).plan = s.plan :=
  foldl_keeps (·.plan) f h l s
@[simp] theorem ite_roll (c : Prop) [Decidable c] (a b : State) : (if c then a else b).roll = if c then a.roll else b.roll := by split <;> rfl
@[simp] theorem foldl_roll {α : Type} (f : State → α → State) (h : ∀ u a, (f u a).roll = u.roll) (l : List α) (s : State) : (l.foldl f s).roll = s.roll :=
  foldl_keeps (·.roll) f h l s
@[simp] theorem ite_changes (c : Prop) [Decidable c] (a b : State) : (if c then a else b).changes = if c then a.changes else b.changes := by split <;> rfl
@[simp] theorem foldl_changes {α : Type} (f : State → α → State) (h : ∀ u a, (f u a).changes = u.changes) (l : List α) (s : State) : (l.foldl f s).changes = s.changes :=
  foldl_keeps (·.changes) f h l s
@[simp] theorem ite_hall (c : Prop) [Decidable c] (a b : State) : (if c then a else b).hall = if c then a.hall else b.hall := by split <;> rfl
@[simp] theorem foldl_hall {α : Type} (f : State → α → State) (h : ∀ u a, (f u a).hall = u.hall) (l : List α) (s : State) : (l.foldl f s).hall = s.hall :=
  foldl_keeps (·.hall) f h l s
@[simp] theorem ite_gal (c : Prop) [Decidable c] (a b : State) : (if c then a else b).gal = if c then a.gal else b.gal := by split <;> rfl
@[simp] theorem foldl_gal {α : Type} (f : State → α → State) (h : ∀ u a, (f u a).gal = u.gal) (l : List α) (s : State) : (l.foldl f s).gal = s.gal :=
  foldl_keeps (·.gal) f h l s
@[simp] theorem ite_galx (c : Prop) [Decidable c] (a b : State) : (if c then a else b).galx = if c then a.galx else b.galx := by split <;> rfl
@[simp] theorem foldl_galx {α : Type} (f : State → α → State) (h : ∀ u a, (f u a).galx = u.galx) (l : List α) (s : State) : (l.foldl f s).galx = s.galx :=
  foldl_keeps (·.galx) f h l s
@[simp] theorem ite_dram (c : Prop) [Decidable c] (a b : State) : (if c then a else b).dram = if c then a.dram else b.dram := by split <;> rfl
@[simp] theorem foldl_dram {α : Type} (f : State → α → State) (h : ∀ u a, (f u a).dram = u.dram) (l : List α) (s : State) : (l.foldl f s).dram = s.dram :=
  foldl_keeps (·.dram) f h l s
@[simp] theorem ite_net (c : Prop) [Decidable c] (a b : State) : (if c then a else b).net = if c then a.net else b.net := by split <;> rfl
@[simp] theorem foldl_net {α : Type} (f : State → α → State) (h : ∀ u a, (f u a).net = u.net) (l : List α) (s : State) : (l.foldl f s).net = s.net :=
  foldl_keeps (·.net) f h l s
@[simp] theorem ite_cxl (c : Prop) [Decidable c] (a b : State) : (if c then a else b).cxl = if c then a.cxl else b.cxl := by split <;> rfl
@[simp] theorem foldl_cxl {α : Type} (f : State → α → State) (h : ∀ u a, (f u a).cxl = u.cxl) (l : List α) (s : State) : (l.foldl f s).cxl = s.cxl :=
  foldl_keeps (·.cxl) f h l s
@[simp] theorem ite_hal (c : Prop) [Decidable c] (a b : State) : (if c then a else b).hal = if c then a.hal else b.hal := by split <;> rfl
@[simp] theorem foldl_hal {α : Type} (f : State → α → State) (h : ∀ u a, (f u a).hal = u.hal) (l : List α) (s : State) : (l.foldl f s).hal = s.hal :=
  foldl_keeps (·.hal) f h l s
@[simp] theorem ite_lamp (c : Prop) [Decidable c] (a b : State) : (if c then a else b).lamp = if c then a.lamp else b.lamp := by split <;> rfl
@[simp] theorem foldl_lamp {α : Type} (f : State → α → State) (h : ∀ u a, (f u a).lamp = u.lamp) (l : List α) (s : State) : (l.foldl f s).lamp = s.lamp :=
  foldl_keeps (·.lamp) f h l s
@[simp] theorem ite_power (c : Prop) [Decidable c] (a b : State) : (if c then a else b).power = if c then a.power else b.power := by split <;> rfl
@[simp] theorem foldl_power {α : Type} (f : State → α → State) (h : ∀ u a, (f u a).power = u.power) (l : List α) (s : State) : (l.foldl f s).power = s.power :=
  foldl_keeps (·.power) f h l s
@[simp] theorem ite_fault (c : Prop) [Decidable c] (a b : State) : (if c then a else b).fault = if c then a.fault else b.fault := by split <;> rfl
@[simp] theorem foldl_fault {α : Type} (f : State → α → State) (h : ∀ u a, (f u a).fault = u.fault) (l : List α) (s : State) : (l.foldl f s).fault = s.fault :=
  foldl_keeps (·.fault) f h l s
@[simp] theorem ite_boot_stage (c : Prop) [Decidable c] (a b : State) : (if c then a else b).boot.stage = if c then a.boot.stage else b.boot.stage := by split <;> rfl
@[simp] theorem foldl_boot_stage {α : Type} (f : State → α → State) (h : ∀ u a, (f u a).boot.stage = u.boot.stage) (l : List α) (s : State) : (l.foldl f s).boot.stage = s.boot.stage :=
  foldl_keeps (·.boot.stage) f h l s
@[simp] theorem ite_clock_now (c : Prop) [Decidable c] (a b : State) : (if c then a else b).clock.now = if c then a.clock.now else b.clock.now := by split <;> rfl
@[simp] theorem foldl_clock_now {α : Type} (f : State → α → State) (h : ∀ u a, (f u a).clock.now = u.clock.now) (l : List α) (s : State) : (l.foldl f s).clock.now = s.clock.now :=
  foldl_keeps (·.clock.now) f h l s
@[simp] theorem ite_dram_mem (c : Prop) [Decidable c] (a b : State) : (if c then a else b).dram.mem = if c then a.dram.mem else b.dram.mem := by split <;> rfl
@[simp] theorem foldl_dram_mem {α : Type} (f : State → α → State) (h : ∀ u a, (f u a).dram.mem = u.dram.mem) (l : List α) (s : State) : (l.foldl f s).dram.mem = s.dram.mem :=
  foldl_keeps (·.dram.mem) f h l s
@[simp] theorem ite_hal_dict (c : Prop) [Decidable c] (a b : State) : (if c then a else b).hal.dict = if c then a.hal.dict else b.hal.dict := by split <;> rfl
@[simp] theorem foldl_hal_dict {α : Type} (f : State → α → State) (h : ∀ u a, (f u a).hal.dict = u.hal.dict) (l : List α) (s : State) : (l.foldl f s).hal.dict = s.hal.dict :=
  foldl_keeps (·.hal.dict) f h l s
@[simp] theorem ite_hal_serving (c : Prop) [Decidable c] (a b : State) : (if c then a else b).hal.serving = if c then a.hal.serving else b.hal.serving := by split <;> rfl
@[simp] theorem foldl_hal_serving {α : Type} (f : State → α → State) (h : ∀ u a, (f u a).hal.serving = u.hal.serving) (l : List α) (s : State) : (l.foldl f s).hal.serving = s.hal.serving :=
  foldl_keeps (·.hal.serving) f h l s
@[simp] theorem ite_hal_sess (c : Prop) [Decidable c] (a b : State) : (if c then a else b).hal.sess = if c then a.hal.sess else b.hal.sess := by split <;> rfl
@[simp] theorem foldl_hal_sess {α : Type} (f : State → α → State) (h : ∀ u a, (f u a).hal.sess = u.hal.sess) (l : List α) (s : State) : (l.foldl f s).hal.sess = s.hal.sess :=
  foldl_keeps (·.hal.sess) f h l s
@[simp] theorem ite_lamp_fuses (c : Prop) [Decidable c] (a b : State) : (if c then a else b).lamp.fuses = if c then a.lamp.fuses else b.lamp.fuses := by split <;> rfl
@[simp] theorem foldl_lamp_fuses {α : Type} (f : State → α → State) (h : ∀ u a, (f u a).lamp.fuses = u.lamp.fuses) (l : List α) (s : State) : (l.foldl f s).lamp.fuses = s.lamp.fuses :=
  foldl_keeps (·.lamp.fuses) f h l s
@[simp] theorem ite_cxl_up (c : Prop) [Decidable c] (a b : State) : (if c then a else b).cxl.up = if c then a.cxl.up else b.cxl.up := by split <;> rfl
@[simp] theorem foldl_cxl_up {α : Type} (f : State → α → State) (h : ∀ u a, (f u a).cxl.up = u.cxl.up) (l : List α) (s : State) : (l.foldl f s).cxl.up = s.cxl.up :=
  foldl_keeps (·.cxl.up) f h l s
@[simp] theorem ite_cxl_tsp (c : Prop) [Decidable c] (a b : State) : (if c then a else b).cxl.tsp = if c then a.cxl.tsp else b.cxl.tsp := by split <;> rfl
@[simp] theorem foldl_cxl_tsp {α : Type} (f : State → α → State) (h : ∀ u a, (f u a).cxl.tsp = u.cxl.tsp) (l : List α) (s : State) : (l.foldl f s).cxl.tsp = s.cxl.tsp :=
  foldl_keeps (·.cxl.tsp) f h l s
@[simp] theorem ite_cxl_rings (c : Prop) [Decidable c] (a b : State) : (if c then a else b).cxl.rings = if c then a.cxl.rings else b.cxl.rings := by split <;> rfl
@[simp] theorem foldl_cxl_rings {α : Type} (f : State → α → State) (h : ∀ u a, (f u a).cxl.rings = u.cxl.rings) (l : List α) (s : State) : (l.foldl f s).cxl.rings = s.cxl.rings :=
  foldl_keeps (·.cxl.rings) f h l s
@[simp] theorem ite_dram_spaces (c : Prop) [Decidable c] (a b : State) : (if c then a else b).dram.spaces = if c then a.dram.spaces else b.dram.spaces := by split <;> rfl
@[simp] theorem foldl_dram_spaces {α : Type} (f : State → α → State) (h : ∀ u a, (f u a).dram.spaces = u.dram.spaces) (l : List α) (s : State) : (l.foldl f s).dram.spaces = s.dram.spaces :=
  foldl_keeps (·.dram.spaces) f h l s
@[simp] theorem ite_dram_psets (c : Prop) [Decidable c] (a b : State) : (if c then a else b).dram.psets = if c then a.dram.psets else b.dram.psets := by split <;> rfl
@[simp] theorem foldl_dram_psets {α : Type} (f : State → α → State) (h : ∀ u a, (f u a).dram.psets = u.dram.psets) (l : List α) (s : State) : (l.foldl f s).dram.psets = s.dram.psets :=
  foldl_keeps (·.dram.psets) f h l s
@[simp] theorem ite_dram_ksets (c : Prop) [Decidable c] (a b : State) : (if c then a else b).dram.ksets = if c then a.dram.ksets else b.dram.ksets := by split <;> rfl
@[simp] theorem foldl_dram_ksets {α : Type} (f : State → α → State) (h : ∀ u a, (f u a).dram.ksets = u.dram.ksets) (l : List α) (s : State) : (l.foldl f s).dram.ksets = s.dram.ksets :=
  foldl_keeps (·.dram.ksets) f h l s
@[simp] theorem ite_Boot_stage (c : Prop) [Decidable c] (a b : Boot) : (if c then a else b).stage = if c then a.stage else b.stage := by split <;> rfl
@[simp] theorem ite_Clock_now (c : Prop) [Decidable c] (a b : Clock) : (if c then a else b).now = if c then a.now else b.now := by split <;> rfl
@[simp] theorem ite_Dram_mem (c : Prop) [Decidable c] (a b : Dram) : (if c then a else b).mem = if c then a.mem else b.mem := by split <;> rfl
@[simp] theorem ite_Haldub_dict (c : Prop) [Decidable c] (a b : Haldub) : (if c then a else b).dict = if c then a.dict else b.dict := by split <;> rfl
@[simp] theorem ite_Haldub_serving (c : Prop) [Decidable c] (a b : Haldub) : (if c then a else b).serving = if c then a.serving else b.serving := by split <;> rfl
@[simp] theorem ite_Haldub_sess (c : Prop) [Decidable c] (a b : Haldub) : (if c then a else b).sess = if c then a.sess else b.sess := by split <;> rfl
@[simp] theorem ite_Lamp_fuses (c : Prop) [Decidable c] (a b : Lamp) : (if c then a else b).fuses = if c then a.fuses else b.fuses := by split <;> rfl

/-! ## Folds that carry more than the state -/

theorem foldl_fst_keeps {α β γ : Type} (p : State → β) (f : State × γ → α → State × γ) (h : ∀ u a, p (f u a).1 = p u.1) :
    ∀ (l : List α) (s : State × γ), p (l.foldl f s).1 = p s.1
  | [], _ => rfl
  | a :: l, s => (foldl_fst_keeps p f h l (f s a)).trans (h s a)

@[simp] theorem foldl_fst_pending {α γ : Type} (f : State × γ → α → State × γ) (h : ∀ u a, (f u a).1.pending = u.1.pending) (l : List α) (s : State × γ) : (l.foldl f s).1.pending = s.1.pending :=
  foldl_fst_keeps (·.pending) f h l s
@[simp] theorem foldl_fst_free {α γ : Type} (f : State × γ → α → State × γ) (h : ∀ u a, (f u a).1.free = u.1.free) (l : List α) (s : State × γ) : (l.foldl f s).1.free = s.1.free :=
  foldl_fst_keeps (·.free) f h l s
@[simp] theorem foldl_fst_out {α γ : Type} (f : State × γ → α → State × γ) (h : ∀ u a, (f u a).1.out = u.1.out) (l : List α) (s : State × γ) : (l.foldl f s).1.out = s.1.out :=
  foldl_fst_keeps (·.out) f h l s
@[simp] theorem foldl_fst_pins {α γ : Type} (f : State × γ → α → State × γ) (h : ∀ u a, (f u a).1.pins = u.1.pins) (l : List α) (s : State × γ) : (l.foldl f s).1.pins = s.1.pins :=
  foldl_fst_keeps (·.pins) f h l s
@[simp] theorem foldl_fst_boot {α γ : Type} (f : State × γ → α → State × γ) (h : ∀ u a, (f u a).1.boot = u.1.boot) (l : List α) (s : State × γ) : (l.foldl f s).1.boot = s.1.boot :=
  foldl_fst_keeps (·.boot) f h l s
@[simp] theorem foldl_fst_clock {α γ : Type} (f : State × γ → α → State × γ) (h : ∀ u a, (f u a).1.clock = u.1.clock) (l : List α) (s : State × γ) : (l.foldl f s).1.clock = s.1.clock :=
  foldl_fst_keeps (·.clock) f h l s
@[simp] theorem foldl_fst_plan {α γ : Type} (f : State × γ → α → State × γ) (h : ∀ u a, (f u a).1.plan = u.1.plan) (l : List α) (s : State × γ) : (l.foldl f s).1.plan = s.1.plan :=
  foldl_fst_keeps (·.plan) f h l s
@[simp] theorem foldl_fst_roll {α γ : Type} (f : State × γ → α → State × γ) (h : ∀ u a, (f u a).1.roll = u.1.roll) (l : List α) (s : State × γ) : (l.foldl f s).1.roll = s.1.roll :=
  foldl_fst_keeps (·.roll) f h l s
@[simp] theorem foldl_fst_changes {α γ : Type} (f : State × γ → α → State × γ) (h : ∀ u a, (f u a).1.changes = u.1.changes) (l : List α) (s : State × γ) : (l.foldl f s).1.changes = s.1.changes :=
  foldl_fst_keeps (·.changes) f h l s
@[simp] theorem foldl_fst_hall {α γ : Type} (f : State × γ → α → State × γ) (h : ∀ u a, (f u a).1.hall = u.1.hall) (l : List α) (s : State × γ) : (l.foldl f s).1.hall = s.1.hall :=
  foldl_fst_keeps (·.hall) f h l s
@[simp] theorem foldl_fst_gal {α γ : Type} (f : State × γ → α → State × γ) (h : ∀ u a, (f u a).1.gal = u.1.gal) (l : List α) (s : State × γ) : (l.foldl f s).1.gal = s.1.gal :=
  foldl_fst_keeps (·.gal) f h l s
@[simp] theorem foldl_fst_galx {α γ : Type} (f : State × γ → α → State × γ) (h : ∀ u a, (f u a).1.galx = u.1.galx) (l : List α) (s : State × γ) : (l.foldl f s).1.galx = s.1.galx :=
  foldl_fst_keeps (·.galx) f h l s
@[simp] theorem foldl_fst_dram {α γ : Type} (f : State × γ → α → State × γ) (h : ∀ u a, (f u a).1.dram = u.1.dram) (l : List α) (s : State × γ) : (l.foldl f s).1.dram = s.1.dram :=
  foldl_fst_keeps (·.dram) f h l s
@[simp] theorem foldl_fst_net {α γ : Type} (f : State × γ → α → State × γ) (h : ∀ u a, (f u a).1.net = u.1.net) (l : List α) (s : State × γ) : (l.foldl f s).1.net = s.1.net :=
  foldl_fst_keeps (·.net) f h l s
@[simp] theorem foldl_fst_cxl {α γ : Type} (f : State × γ → α → State × γ) (h : ∀ u a, (f u a).1.cxl = u.1.cxl) (l : List α) (s : State × γ) : (l.foldl f s).1.cxl = s.1.cxl :=
  foldl_fst_keeps (·.cxl) f h l s
@[simp] theorem foldl_fst_hal {α γ : Type} (f : State × γ → α → State × γ) (h : ∀ u a, (f u a).1.hal = u.1.hal) (l : List α) (s : State × γ) : (l.foldl f s).1.hal = s.1.hal :=
  foldl_fst_keeps (·.hal) f h l s
@[simp] theorem foldl_fst_lamp {α γ : Type} (f : State × γ → α → State × γ) (h : ∀ u a, (f u a).1.lamp = u.1.lamp) (l : List α) (s : State × γ) : (l.foldl f s).1.lamp = s.1.lamp :=
  foldl_fst_keeps (·.lamp) f h l s
@[simp] theorem foldl_fst_power {α γ : Type} (f : State × γ → α → State × γ) (h : ∀ u a, (f u a).1.power = u.1.power) (l : List α) (s : State × γ) : (l.foldl f s).1.power = s.1.power :=
  foldl_fst_keeps (·.power) f h l s
@[simp] theorem foldl_fst_fault {α γ : Type} (f : State × γ → α → State × γ) (h : ∀ u a, (f u a).1.fault = u.1.fault) (l : List α) (s : State × γ) : (l.foldl f s).1.fault = s.1.fault :=
  foldl_fst_keeps (·.fault) f h l s
@[simp] theorem foldl_fst_boot_stage {α γ : Type} (f : State × γ → α → State × γ) (h : ∀ u a, (f u a).1.boot.stage = u.1.boot.stage) (l : List α) (s : State × γ) : (l.foldl f s).1.boot.stage = s.1.boot.stage :=
  foldl_fst_keeps (·.boot.stage) f h l s
@[simp] theorem foldl_fst_clock_now {α γ : Type} (f : State × γ → α → State × γ) (h : ∀ u a, (f u a).1.clock.now = u.1.clock.now) (l : List α) (s : State × γ) : (l.foldl f s).1.clock.now = s.1.clock.now :=
  foldl_fst_keeps (·.clock.now) f h l s
@[simp] theorem foldl_fst_dram_mem {α γ : Type} (f : State × γ → α → State × γ) (h : ∀ u a, (f u a).1.dram.mem = u.1.dram.mem) (l : List α) (s : State × γ) : (l.foldl f s).1.dram.mem = s.1.dram.mem :=
  foldl_fst_keeps (·.dram.mem) f h l s
@[simp] theorem foldl_fst_hal_dict {α γ : Type} (f : State × γ → α → State × γ) (h : ∀ u a, (f u a).1.hal.dict = u.1.hal.dict) (l : List α) (s : State × γ) : (l.foldl f s).1.hal.dict = s.1.hal.dict :=
  foldl_fst_keeps (·.hal.dict) f h l s
@[simp] theorem foldl_fst_hal_serving {α γ : Type} (f : State × γ → α → State × γ) (h : ∀ u a, (f u a).1.hal.serving = u.1.hal.serving) (l : List α) (s : State × γ) : (l.foldl f s).1.hal.serving = s.1.hal.serving :=
  foldl_fst_keeps (·.hal.serving) f h l s
@[simp] theorem foldl_fst_hal_sess {α γ : Type} (f : State × γ → α → State × γ) (h : ∀ u a, (f u a).1.hal.sess = u.1.hal.sess) (l : List α) (s : State × γ) : (l.foldl f s).1.hal.sess = s.1.hal.sess :=
  foldl_fst_keeps (·.hal.sess) f h l s
@[simp] theorem foldl_fst_lamp_fuses {α γ : Type} (f : State × γ → α → State × γ) (h : ∀ u a, (f u a).1.lamp.fuses = u.1.lamp.fuses) (l : List α) (s : State × γ) : (l.foldl f s).1.lamp.fuses = s.1.lamp.fuses :=
  foldl_fst_keeps (·.lamp.fuses) f h l s
@[simp] theorem foldl_fst_cxl_up {α γ : Type} (f : State × γ → α → State × γ) (h : ∀ u a, (f u a).1.cxl.up = u.1.cxl.up) (l : List α) (s : State × γ) : (l.foldl f s).1.cxl.up = s.1.cxl.up :=
  foldl_fst_keeps (·.cxl.up) f h l s
@[simp] theorem foldl_fst_cxl_tsp {α γ : Type} (f : State × γ → α → State × γ) (h : ∀ u a, (f u a).1.cxl.tsp = u.1.cxl.tsp) (l : List α) (s : State × γ) : (l.foldl f s).1.cxl.tsp = s.1.cxl.tsp :=
  foldl_fst_keeps (·.cxl.tsp) f h l s
@[simp] theorem foldl_fst_cxl_rings {α γ : Type} (f : State × γ → α → State × γ) (h : ∀ u a, (f u a).1.cxl.rings = u.1.cxl.rings) (l : List α) (s : State × γ) : (l.foldl f s).1.cxl.rings = s.1.cxl.rings :=
  foldl_fst_keeps (·.cxl.rings) f h l s
@[simp] theorem foldl_fst_dram_spaces {α γ : Type} (f : State × γ → α → State × γ) (h : ∀ u a, (f u a).1.dram.spaces = u.1.dram.spaces) (l : List α) (s : State × γ) : (l.foldl f s).1.dram.spaces = s.1.dram.spaces :=
  foldl_fst_keeps (·.dram.spaces) f h l s
@[simp] theorem foldl_fst_dram_psets {α γ : Type} (f : State × γ → α → State × γ) (h : ∀ u a, (f u a).1.dram.psets = u.1.dram.psets) (l : List α) (s : State × γ) : (l.foldl f s).1.dram.psets = s.1.dram.psets :=
  foldl_fst_keeps (·.dram.psets) f h l s
@[simp] theorem foldl_fst_dram_ksets {α γ : Type} (f : State × γ → α → State × γ) (h : ∀ u a, (f u a).1.dram.ksets = u.1.dram.ksets) (l : List α) (s : State × γ) : (l.foldl f s).1.dram.ksets = s.1.dram.ksets :=
  foldl_fst_keeps (·.dram.ksets) f h l s

end Sys2Proof.Machine
end

