-- ==== Sys2Proof/Laws/Tab.lean ====
section
/-! SUPPORT. Reading and writing of sparse tables; their canonical form and what keeps it; the memories of the machine. -/

namespace Sys2Proof
open Sys2Proof.Safety

variable {α : Type}

theorem Tab.get_of_lt (d : α) {lo k : Nat} {t : Tab α} (h : rising lo t = true) (hk : k < lo) : Tab.get d k t = d := by
  induction t generalizing lo with
  | nil => rfl
  | cons c r ih =>
    obtain ⟨i, v⟩ := c
    simp only [rising, Bool.and_eq_true, decide_eq_true_eq] at h
    have : i ≠ k := by omega
    simp only [Tab.get, if_neg this]
    exact ih h.2 (by omega)

theorem rising_mono {lo lo' : Nat} {t : Tab α} (h : rising lo t = true) (hl : lo' ≤ lo) : rising lo' t = true := by
  cases t with
  | nil => rfl
  | cons c r =>
    obtain ⟨i, v⟩ := c
    simp only [rising, Bool.and_eq_true, decide_eq_true_eq] at h ⊢
    exact ⟨by omega, h.2⟩

/-- A read after a write: the written key gives the value written, every other key what it gave. -/
theorem Tab.get_put [DecidableEq α] (d : α) (k j : Nat) (v : α) {lo : Nat} {t : Tab α} (h : rising lo t = true) :
    Tab.get d j (Tab.put d k v t) = if j = k then v else Tab.get d j t := by
  induction t generalizing lo with
  | nil => by_cases hv : v = d <;> by_cases hj : j = k <;> simp [Tab.put, Tab.get, hv, hj, eq_comm]
           intro e; exact absurd e.symm hj
  | cons c r ih =>
    obtain ⟨i, w⟩ := c
    simp only [rising, Bool.and_eq_true, decide_eq_true_eq] at h
    have ih := ih h.2
    by_cases h1 : k < i
    · have low : Tab.get d k ((i, w) :: r) = d := Tab.get_of_lt d (lo := i) (by simp [rising, h.2]) h1
      by_cases hv : v = d
      · by_cases hj : j = k
        · subst hj; simp only [Tab.put, if_pos h1, if_true, low, hv]
        · simp [Tab.put, h1, hv, hj]
      · by_cases hj : j = k
        · subst hj; simp [Tab.put, h1, hv, Tab.get]
        · have hk : ¬ k = j := fun e => hj e.symm
          simp [Tab.put, h1, hv, hj, Tab.get, hk]
    · by_cases h2 : k = i
      · subst h2
        have low : Tab.get d k r = d := Tab.get_of_lt d h.2 (by omega)
        by_cases hv : v = d <;> by_cases hj : j = k
        · subst hj; simp [Tab.put, hv, low]
        · have hk : ¬ k = j := fun e => hj e.symm
          simp [Tab.put, hv, hj, Tab.get, hk]
        · subst hj; simp [Tab.put, hv, Tab.get]
        · have hk : ¬ k = j := fun e => hj e.symm
          simp [Tab.put, hv, hj, Tab.get, hk]
      · by_cases hj : i = j
        · subst hj
          have : ¬ i = k := fun e => h2 e.symm
          simp [Tab.put, h1, h2, Tab.get, this]
        · simp only [Tab.put, if_neg h1, if_neg h2, Tab.get, if_neg hj]
          exact ih

/-- A write leaves every other key's value alone, in any table. -/
theorem Tab.get_put_other [DecidableEq α] (d : α) (k j : Nat) (v : α) (t : Tab α) (h : j ≠ k) : Tab.get d j (Tab.put d k v t) = Tab.get d j t := by
  induction t with
  | nil => by_cases hv : v = d <;> simp [Tab.put, Tab.get, hv]; intro e; exact absurd e.symm h
  | cons c r ih =>
    obtain ⟨i, w⟩ := c
    have hk : ¬ k = j := fun e => h e.symm
    by_cases h1 : k < i
    · by_cases hv : v = d <;> simp [Tab.put, Tab.get, h1, hv, hk]
    · by_cases h2 : k = i
      · subst h2; by_cases hv : v = d <;> simp [Tab.put, Tab.get, hv, hk]
      · simp only [Tab.put, h1, h2, if_false, Tab.get, ih]

/-- A value other than the default reads back, in any table. -/
theorem Tab.get_put_self [DecidableEq α] (d : α) (k : Nat) (v : α) (t : Tab α) (h : v ≠ d) : Tab.get d k (Tab.put d k v t) = v := by
  induction t with
  | nil => simp [Tab.put, Tab.get, h]
  | cons c r ih =>
    obtain ⟨i, w⟩ := c
    by_cases h1 : k < i
    · simp [Tab.put, Tab.get, h, h1]
    · by_cases h2 : k = i
      · simp [Tab.put, Tab.get, h, h2]
      · have : ¬ i = k := fun e => h2 e.symm
        simp [Tab.put, Tab.get, h1, h2, this, ih]

theorem rising_put [DecidableEq α] (d : α) (k : Nat) (v : α) {lo : Nat} {t : Tab α} (h : rising lo t = true) (hk : lo ≤ k) :
    rising lo (Tab.put d k v t) = true := by
  induction t generalizing lo with
  | nil => by_cases hv : v = d <;> simp [Tab.put, hv, rising, hk]
  | cons c r ih =>
    obtain ⟨i, w⟩ := c
    simp only [rising, Bool.and_eq_true, decide_eq_true_eq] at h
    by_cases h1 : k < i
    · by_cases hv : v = d
      · simp [Tab.put, h1, hv, rising, h]
      · simp [Tab.put, h1, hv, rising, hk, h.2] <;> omega
    · by_cases h2 : k = i
      · subst h2
        by_cases hv : v = d
        · simp only [Tab.put, Nat.lt_irrefl, if_false, if_true, hv]
          exact rising_mono h.2 (by omega)
        · simp [Tab.put, hv, rising, hk, h.2]
      · simp only [Tab.put, if_neg h1, if_neg h2, rising, Bool.and_eq_true, decide_eq_true_eq]
        exact ⟨h.1, ih h.2 (by omega)⟩

theorem rising_upd [DecidableEq α] (d : α) (k : Nat) (f : α → α) {t : Tab α} (h : rising 0 t = true) : rising 0 (Tab.upd d k f t) = true :=
  rising_put d k _ h (Nat.zero_le k)

theorem Tab.get_upd [DecidableEq α] (d : α) (k j : Nat) (f : α → α) {t : Tab α} (h : rising 0 t = true) :
    Tab.get d j (Tab.upd d k f t) = if j = k then f (Tab.get d k t) else Tab.get d j t := by
  simp [Tab.upd, Tab.get_put d k j _ h]

theorem rising_filter (p : Nat × α → Bool) {lo : Nat} {t : Tab α} (h : rising lo t = true) : rising lo (t.filter p) = true := by
  induction t generalizing lo with
  | nil => rfl
  | cons c r ih =>
    obtain ⟨i, w⟩ := c
    simp only [rising, Bool.and_eq_true, decide_eq_true_eq] at h
    by_cases hp : p (i, w) = true
    · simp only [List.filter_cons_of_pos hp, rising, Bool.and_eq_true, decide_eq_true_eq]
      exact ⟨h.1, ih h.2⟩
    · simp only [List.filter_cons_of_neg hp]
      exact rising_mono (ih h.2) (by omega)

theorem rising_map (f : Nat × α → Nat × α) (hf : ∀ c, (f c).1 = c.1) {lo : Nat} {t : Tab α} (h : rising lo t = true) : rising lo (t.map f) = true := by
  induction t generalizing lo with
  | nil => rfl
  | cons c r ih =>
    obtain ⟨i, w⟩ := c
    simp only [rising, Bool.and_eq_true, decide_eq_true_eq] at h
    obtain ⟨j, x⟩ : ∃ y, f (i, w) = (i, y) := ⟨(f (i, w)).2, Prod.ext (hf _) rfl⟩
    simp only [List.map_cons, x, rising, Bool.and_eq_true, decide_eq_true_eq]
    exact ⟨h.1, ih h.2⟩

/-! ## The canonical form over a default -/

theorem Tab.rising_of_wfFrom [DecidableEq α] (d : α) {lo : Nat} {t : Tab α} (h : Tab.wfFrom d lo t = true) : rising lo t = true := by
  induction t generalizing lo with
  | nil => rfl
  | cons c r ih =>
    obtain ⟨i, w⟩ := c
    simp only [Tab.wfFrom, rising, Bool.and_eq_true, decide_eq_true_eq] at h ⊢
    exact ⟨h.1.1, ih h.2⟩

theorem Tab.wfFrom_mono [DecidableEq α] (d : α) {lo lo' : Nat} {t : Tab α} (h : Tab.wfFrom d lo t = true) (hl : lo' ≤ lo) : Tab.wfFrom d lo' t = true := by
  cases t with
  | nil => rfl
  | cons c r =>
    obtain ⟨i, v⟩ := c
    simp only [Tab.wfFrom, Bool.and_eq_true, decide_eq_true_eq] at h ⊢
    exact ⟨⟨by omega, h.1.2⟩, h.2⟩

theorem Tab.wfFrom_put [DecidableEq α] (d : α) (k : Nat) (v : α) {lo : Nat} {t : Tab α} (h : Tab.wfFrom d lo t = true) (hk : lo ≤ k) :
    Tab.wfFrom d lo (Tab.put d k v t) = true := by
  induction t generalizing lo with
  | nil => by_cases hv : v = d <;> simp [Tab.put, hv, Tab.wfFrom, hk]
  | cons c r ih =>
    obtain ⟨i, w⟩ := c
    simp only [Tab.wfFrom, Bool.and_eq_true, decide_eq_true_eq] at h
    by_cases h1 : k < i
    · by_cases hv : v = d
      · simp [Tab.put, h1, hv, Tab.wfFrom, h]
      · simp [Tab.put, h1, hv, Tab.wfFrom, hk, h.2, h.1.2] <;> omega
    · by_cases h2 : k = i
      · subst h2
        by_cases hv : v = d
        · simp only [Tab.put, Nat.lt_irrefl, if_false, if_true, hv]
          exact Tab.wfFrom_mono d h.2 (by omega)
        · simp [Tab.put, hv, Tab.wfFrom, hk, h.2]
      · simp only [Tab.put, if_neg h1, if_neg h2, Tab.wfFrom, Bool.and_eq_true, decide_eq_true_eq]
        exact ⟨h.1, ih h.2 (by omega)⟩

theorem Tab.wf_put [DecidableEq α] (d : α) (k : Nat) (v : α) {t : Tab α} (h : Tab.wf d t = true) : Tab.wf d (Tab.put d k v t) = true :=
  Tab.wfFrom_put d k v h (Nat.zero_le k)

theorem Tab.wf_puts [DecidableEq α] (d : α) (k : Nat) (vs : List α) {t : Tab α} (h : Tab.wf d t = true) : Tab.wf d (Tab.puts d k vs t) = true := by
  induction vs generalizing k t with
  | nil => exact h
  | cons v vs ih => exact ih (k + 1) (Tab.wf_put d k v h)

theorem Tab.wf_foldl_put [DecidableEq α] (d : α) (cs : List (Nat × α)) {t : Tab α} (h : Tab.wf d t = true) :
    Tab.wf d (cs.foldl (fun t c => Tab.put d c.1 c.2 t) t) = true := by
  induction cs generalizing t with
  | nil => exact h
  | cons c cs ih => exact ih (Tab.wf_put d c.1 c.2 h)

theorem Tab.rising_of_wf [DecidableEq α] (d : α) {t : Tab α} (h : Tab.wf d t = true) : rising 0 t = true := Tab.rising_of_wfFrom d h

/-- A read after a write of a run of values: inside the run the values in order, outside what was there. -/
theorem Tab.get_puts [DecidableEq α] (d : α) (k j : Nat) (vs : List α) {t : Tab α} (h : rising 0 t = true) :
    Tab.get d j (Tab.puts d k vs t) = if k ≤ j ∧ j < k + vs.length then vs.getD (j - k) d else Tab.get d j t := by
  induction vs generalizing k t with
  | nil => have : ¬ (k ≤ j ∧ j < k + 0) := by omega
           simp only [Tab.puts, List.length_nil, if_neg this]
  | cons v vs ih =>
    simp only [Tab.puts, ih (k + 1) (rising_put d k v h (Nat.zero_le k)), Tab.get_put d k j v h, List.length_cons]
    by_cases h1 : j = k
    · subst h1
      have a : ¬ (j + 1 ≤ j ∧ j < j + 1 + vs.length) := by omega
      have b : j ≤ j ∧ j < j + (vs.length + 1) := by omega
      rw [if_neg a, if_pos rfl, if_pos b]; simp
    · by_cases h2 : k + 1 ≤ j ∧ j < k + 1 + vs.length
      · have b : k ≤ j ∧ j < k + (vs.length + 1) := by omega
        obtain ⟨m, hm⟩ : ∃ m, j - k = m + 1 := ⟨j - k - 1, by omega⟩
        have : j - (k + 1) = m := by omega
        simp [h2, b, hm, this]
      · have b : ¬ (k ≤ j ∧ j < k + (vs.length + 1)) := by omega
        rw [if_neg h2, if_neg h1, if_neg b]

/-! ## The memories of the machine keep their form -/

namespace Machine

/-- Every write of DRAM keeps the canonical form. -/
theorem dramWrite_wf (s : State) (a : Nat) (v : Bytes) (h : Memory.wf s.dram.mem = true) : Memory.wf (s.dramWrite a v).dram.mem = true :=
  Tab.wf_puts 0 a v h

theorem dput_wf (s : State) (a : Nat) (v : Bytes) (h : Memory.wf s.dram.mem = true) : Memory.wf (s.dput a v).dram.mem = true := by
  unfold State.dput; split
  · exact h
  · exact dramWrite_wf s a v h

theorem dwrite_wf (s : State) (a : Nat) (v : Bytes) (bad : Bool) (h : Memory.wf s.dram.mem = true) : Memory.wf (s.dwrite a v bad).dram.mem = true := by
  unfold State.dwrite; split
  · exact h
  · split <;> exact dramWrite_wf s a v h

/-- The memory that `setMem1` puts in place reads back, where the tables of galleries and lanterns are tidy. -/
theorem mem1_setMem1 (s : State) (m : Space1) (t : Tab Byte) (h : rising 0 s.gal = true) (hl : rising 0 (s.galAt m.g).lan = true) :
    (s.setMem1 m t).mem1 m = t := by
  unfold State.setMem1 State.mem1
  cases m.store
  · simp [State.updLan, State.updGal, State.lanAt, State.galAt, Tab.get_upd _ _ _ _ h]
    rw [Tab.get_upd _ _ _ _ (by simpa [State.galAt] using hl)]; simp
  · simp [State.updGal, State.galAt, Tab.get_upd _ _ _ _ h]

@[simp] theorem mem1_setPoi1 (s : State) (m : Space1) (t : Tab Bool) (h : rising 0 s.gal = true) (hl : rising 0 (s.galAt m.g).lan = true) :
    (s.setPoi1 m t).mem1 m = s.mem1 m := by
  unfold State.setPoi1 State.mem1
  cases m.store
  · simp [State.updLan, State.updGal, State.lanAt, State.galAt, Tab.get_upd _ _ _ _ h]
    rw [Tab.get_upd _ _ _ _ (by simpa [State.galAt] using hl)]; simp
  · simp [State.updGal, State.galAt, Tab.get_upd _ _ _ _ h]

theorem updGal_rising (s : State) (g : Nat) (f : Gallery → Gallery) (h : rising 0 s.gal = true) : rising 0 (s.updGal g f).gal = true := by
  unfold State.updGal; exact rising_upd Gallery.zero g f h

theorem updLan_rising (s : State) (g l : Nat) (f : Lantern → Lantern) (h : rising 0 s.gal = true) : rising 0 (s.updLan g l f).gal = true :=
  updGal_rising s g _ h

theorem setMem1_gal (s : State) (m : Space1) (t : Tab Byte) (h : rising 0 s.gal = true) (hl : rising 0 (s.galAt m.g).lan = true) :
    rising 0 (s.setMem1 m t).gal = true ∧ rising 0 ((s.setMem1 m t).galAt m.g).lan = true := by
  unfold State.setMem1
  cases m.store
  · simp only [Bool.false_eq_true, if_false]
    refine ⟨updLan_rising s _ _ _ h, ?_⟩
    simp [State.updLan, State.updGal, State.galAt, Tab.get_upd _ _ _ _ h]
    exact rising_upd _ _ _ hl
  · simp only [if_true]
    refine ⟨updGal_rising s _ _ h, ?_⟩
    simp [State.updGal, State.galAt, Tab.get_upd _ _ _ _ h]
    exact hl

/-- Every write of an on-chip memory keeps the canonical form. -/
theorem write1_wf (s : State) (m : Space1) (ws : List (Nat × Byte)) (bad : List Nat) (h : rising 0 s.gal = true)
    (hl : rising 0 (s.galAt m.g).lan = true) (hm : Memory.wf (s.mem1 m) = true) : Memory.wf ((s.write1 m ws bad).mem1 m) = true := by
  unfold State.write1
  obtain ⟨a, b⟩ := setMem1_gal s m (ws.foldl (fun t c => Tab.put 0 c.1 c.2 t) (s.mem1 m)) h hl
  rw [mem1_setPoi1 _ _ _ a b, mem1_setMem1 _ _ _ h hl]
  exact Tab.wf_foldl_put 0 ws hm

theorem store1_wf (s : State) (m : Space1) (a : Nat) (v : Bytes) (h : rising 0 s.gal = true) (hl : rising 0 (s.galAt m.g).lan = true)
    (hm : Memory.wf (s.mem1 m) = true) : Memory.wf ((s.store1 m a v).mem1 m) = true := write1_wf s m _ [] h hl hm

/-- After reset every memory has the form. -/
theorem reset_memory_wf : Memory.wf State.reset.dram.mem = true ∧ ∀ m, Memory.wf (State.reset.mem1 m) = true := by
  refine ⟨rfl, fun m => ?_⟩
  unfold State.mem1
  cases m.store <;> rfl

end Machine
end Sys2Proof
end

