-- ==== Sys2Proof/Laws/Access.lean ====
section
/-! SUPPORT. What the canonical form of the data says of each table, and the accessors after an update. -/

namespace Sys2Proof.Machine
open Sys2Proof Sys2Proof.Safety

/-- What every listed value has, and the default, every value read has. -/
theorem Tab.get_all {α : Type} (p : α → Bool) (d : α) (k : Nat) {t : Tab α} (h : t.all (fun c => p c.2) = true) (hd : p d = true) :
    p (Tab.get d k t) = true := by
  induction t with
  | nil => exact hd
  | cons c r ih =>
    obtain ⟨i, v⟩ := c
    simp only [List.all_cons, Bool.and_eq_true] at h
    unfold Tab.get
    split
    · exact h.1
    · exact ih h.2

/-! ## What `Tidy` says -/


theorem Tidy.gal {s : State} (h : Tidy s = true) : rising 0 s.gal = true := by
  simp only [Tidy, Bool.and_eq_true] at h; simp only [h]

theorem Tidy.galx {s : State} (h : Tidy s = true) : rising 0 s.galx = true := by
  simp only [Tidy, Bool.and_eq_true] at h; simp only [h]

theorem Tidy.hall {s : State} (h : Tidy s = true) : rising 0 s.hall = true := by
  simp only [Tidy, Bool.and_eq_true] at h; simp only [h]

theorem Tidy.roll {s : State} (h : Tidy s = true) : rising 0 s.roll = true := by
  simp only [Tidy, Bool.and_eq_true] at h; simp only [h]

theorem Tidy.entries {s : State} (h : Tidy s = true) : rising 0 s.plan.entries = true := by
  simp only [Tidy, Bool.and_eq_true] at h; simp only [h]

theorem Tidy.drampoi {s : State} (h : Tidy s = true) : rising 0 s.dram.poi = true := by
  simp only [Tidy, Bool.and_eq_true] at h; simp only [h]

theorem Tidy.stk {s : State} (h : Tidy s = true) : rising 0 s.dram.stk = true := by
  simp only [Tidy, Bool.and_eq_true] at h; simp only [h]

theorem Tidy.spaces {s : State} (h : Tidy s = true) : rising 0 s.dram.spaces = true := by
  simp only [Tidy, Bool.and_eq_true] at h; simp only [h]

theorem Tidy.psets {s : State} (h : Tidy s = true) : rising 0 s.dram.psets = true := by
  simp only [Tidy, Bool.and_eq_true] at h; simp only [h]

theorem Tidy.fl {s : State} (h : Tidy s = true) : rising 0 s.net.fl = true := by
  simp only [Tidy, Bool.and_eq_true] at h; simp only [h]

theorem Tidy.sig {s : State} (h : Tidy s = true) : rising 0 s.net.sig = true := by
  simp only [Tidy, Bool.and_eq_true] at h; simp only [h]

theorem Tidy.bar {s : State} (h : Tidy s = true) : rising 0 s.net.bar = true := by
  simp only [Tidy, Bool.and_eq_true] at h; simp only [h]

theorem Tidy.notices {s : State} (h : Tidy s = true) : rising 0 s.net.notices = true := by
  simp only [Tidy, Bool.and_eq_true] at h; simp only [h]

theorem Tidy.rings {s : State} (h : Tidy s = true) : rising 0 s.cxl.rings = true := by
  simp only [Tidy, Bool.and_eq_true] at h; simp only [h]

theorem Tidy.slots {s : State} (h : Tidy s = true) : rising 0 s.cxl.slots = true := by
  simp only [Tidy, Bool.and_eq_true] at h; simp only [h]

theorem Tidy.tsp {s : State} (h : Tidy s = true) : rising 0 s.cxl.tsp = true := by
  simp only [Tidy, Bool.and_eq_true] at h; simp only [h]

theorem Tidy.dict {s : State} (h : Tidy s = true) : rising 0 s.hal.dict = true := by
  simp only [Tidy, Bool.and_eq_true] at h; simp only [h]

theorem Tidy.sess {s : State} (h : Tidy s = true) : rising 0 s.hal.sess = true := by
  simp only [Tidy, Bool.and_eq_true] at h; simp only [h]

theorem Tidy.creds {s : State} (h : Tidy s = true) : rising 0 s.lamp.creds = true := by
  simp only [Tidy, Bool.and_eq_true] at h; simp only [h]

theorem Tidy.die {s : State} (h : Tidy s = true) : rising 0 s.fault.die = true := by
  simp only [Tidy, Bool.and_eq_true] at h; simp only [h]

theorem Tidy.counts {s : State} (h : Tidy s = true) : rising 0 s.fault.counts = true := by
  simp only [Tidy, Bool.and_eq_true] at h; simp only [h]

theorem Tidy.shadow {s : State} (h : Tidy s = true) : rising 0 s.clock.shadow = true := by
  simp only [Tidy, Bool.and_eq_true] at h; simp only [h]

theorem Tidy.mem {s : State} (h : Tidy s = true) : Memory.wf s.dram.mem = true := by
  simp only [Tidy, Bool.and_eq_true] at h; simp only [h]
theorem Tidy.dram {s : State} (h : Tidy s = true) : rising 0 s.dram.mem = true := Tab.rising_of_wf 0 (Tidy.mem h)
theorem Tidy.gallery {s : State} (h : Tidy s = true) (g : Nat) : galleryTidy (s.galAt g) = true :=
  Tab.get_all galleryTidy .zero g (by simp only [Tidy, Bool.and_eq_true] at h; simp only [h]) (by decide)
theorem Tidy.galleryX {s : State} (h : Tidy s = true) (g : Nat) : galleryXTidy (s.galxAt g) = true :=
  Tab.get_all galleryXTidy .zero g (by simp only [Tidy, Bool.and_eq_true] at h; simp only [h]) (by decide)
theorem Tidy.lantern {s : State} (h : Tidy s = true) (g l : Nat) : lanternTidy (s.lanAt g l) = true :=
  Tab.get_all lanternTidy .zero l (by have := Tidy.gallery h g; simp only [galleryTidy, Bool.and_eq_true] at this; simp only [this]) (by decide)

theorem Tidy.lan {s : State} (h : Tidy s = true) (g : Nat) : rising 0 (s.galAt g).lan = true := by
  have := Tidy.gallery h g; simp only [galleryTidy, Bool.and_eq_true] at this; simp only [this]

theorem Tidy.tag {s : State} (h : Tidy s = true) (g : Nat) : rising 0 (s.galAt g).tag = true := by
  have := Tidy.gallery h g; simp only [galleryTidy, Bool.and_eq_true] at this; simp only [this]

theorem Tidy.poi {s : State} (h : Tidy s = true) (g : Nat) : rising 0 (s.galAt g).poi = true := by
  have := Tidy.gallery h g; simp only [galleryTidy, Bool.and_eq_true] at this; simp only [this]

theorem Tidy.arrivals {s : State} (h : Tidy s = true) (g : Nat) : rising 0 (s.galAt g).arrivals = true := by
  have := Tidy.gallery h g; simp only [galleryTidy, Bool.and_eq_true] at this; simp only [this]

theorem Tidy.storeMem {s : State} (h : Tidy s = true) (g : Nat) : rising 0 (s.galAt g).mem = true := by
  have := Tidy.gallery h g; simp only [galleryTidy, Bool.and_eq_true] at this; exact Tab.rising_of_wf 0 (by simp only [Memory.wf] at this; simp only [this])

theorem Tidy.lmap {s : State} (h : Tidy s = true) (g : Nat) : rising 0 (s.galxAt g).lmap = true := by
  have := Tidy.galleryX h g; simp only [galleryXTidy, Bool.and_eq_true] at this; simp only [this]

theorem Tidy.phys {s : State} (h : Tidy s = true) (g : Nat) : rising 0 (s.galxAt g).phys = true := by
  have := Tidy.galleryX h g; simp only [galleryXTidy, Bool.and_eq_true] at this; simp only [this]

theorem Tidy.junction {s : State} (h : Tidy s = true) (g : Nat) : rising 0 (s.galxAt g).junction = true := by
  have := Tidy.galleryX h g; simp only [galleryXTidy, Bool.and_eq_true] at this; simp only [this]

theorem Tidy.lines {s : State} (h : Tidy s = true) (g : Nat) : rising 0 (s.galxAt g).rep.lines = true := by
  have := Tidy.galleryX h g; simp only [galleryXTidy, Bool.and_eq_true] at this; simp only [this]

theorem Tidy.spare {s : State} (h : Tidy s = true) (g : Nat) : rising 0 (s.galxAt g).rep.spare = true := by
  have := Tidy.galleryX h g; simp only [galleryXTidy, Bool.and_eq_true] at this; simp only [this]

theorem Tidy.wickUsed {s : State} (h : Tidy s = true) (g : Nat) : rising 0 (s.galxAt g).rep.wickUsed = true := by
  have := Tidy.galleryX h g; simp only [galleryXTidy, Bool.and_eq_true] at this; simp only [this]

theorem Tidy.th {s : State} (h : Tidy s = true) (g l : Nat) : rising 0 (s.lanAt g l).th = true := by
  have := Tidy.lantern h g l; simp only [lanternTidy, Bool.and_eq_true] at this; simp only [this]

theorem Tidy.flags {s : State} (h : Tidy s = true) (g l : Nat) : rising 0 (s.lanAt g l).flags = true := by
  have := Tidy.lantern h g l; simp only [lanternTidy, Bool.and_eq_true] at this; simp only [this]

theorem Tidy.spTag {s : State} (h : Tidy s = true) (g l : Nat) : rising 0 (s.lanAt g l).spTag = true := by
  have := Tidy.lantern h g l; simp only [lanternTidy, Bool.and_eq_true] at this; simp only [this]

theorem Tidy.spPoi {s : State} (h : Tidy s = true) (g l : Nat) : rising 0 (s.lanAt g l).spPoi = true := by
  have := Tidy.lantern h g l; simp only [lanternTidy, Bool.and_eq_true] at this; simp only [this]

theorem Tidy.sp {s : State} (h : Tidy s = true) (g l : Nat) : rising 0 (s.lanAt g l).sp = true := by
  have := Tidy.lantern h g l; simp only [lanternTidy, Bool.and_eq_true] at this; exact Tab.rising_of_wf 0 (by simp only [Memory.wf] at this; simp only [this])
theorem Tidy.regs {s : State} (h : Tidy s = true) (g l t : Nat) :
    rising 0 (s.thAt g l t).x = true ∧ rising 0 (s.thAt g l t).f = true ∧ rising 0 (s.thAt g l t).v = true := by
  have := Tidy.lantern h g l; simp only [lanternTidy, Bool.and_eq_true] at this
  have := Tab.get_all (fun c : Thread => rising 0 c.x && rising 0 c.f && rising 0 c.v) .zero t this.1.1.1.1.2 (by decide)
  simp only [Bool.and_eq_true] at this; exact ⟨this.1.1, this.1.2, this.2⟩

/-! ## Accessors after updates -/


theorem State.hallAt_updHall (s : State) (k j : Nat) (f) (h : rising 0 s.hall = true) : (s.updHall k f).hallAt j = if j = k then f (s.hallAt k) else s.hallAt j := by
  simp only [State.hallAt, State.updHall]; exact Tab.get_upd _ _ _ _ h
theorem State.hallAt_updHall_other (s : State) (k j : Nat) (f) (h : j ≠ k) : (s.updHall k f).hallAt j = s.hallAt j := by
  simp only [State.hallAt, State.updHall, Tab.upd]; exact Tab.get_put_other _ _ _ _ _ h
theorem State.hallAt_updHall_self (s : State) (k : Nat) (f) (h : f (s.hallAt k) ≠ .zero) : (s.updHall k f).hallAt k = f (s.hallAt k) := by
  simp only [State.hallAt, State.updHall, Tab.upd]; exact Tab.get_put_self _ _ _ _ h
theorem State.rising_updHall (s : State) (k : Nat) (f) (h : rising 0 s.hall = true) : rising 0 (s.updHall k f).hall = true := by
  simp only [State.updHall]; exact rising_upd _ _ _ h

theorem State.galAt_updGal (s : State) (k j : Nat) (f) (h : rising 0 s.gal = true) : (s.updGal k f).galAt j = if j = k then f (s.galAt k) else s.galAt j := by
  simp only [State.galAt, State.updGal]; exact Tab.get_upd _ _ _ _ h
theorem State.galAt_updGal_other (s : State) (k j : Nat) (f) (h : j ≠ k) : (s.updGal k f).galAt j = s.galAt j := by
  simp only [State.galAt, State.updGal, Tab.upd]; exact Tab.get_put_other _ _ _ _ _ h
theorem State.galAt_updGal_self (s : State) (k : Nat) (f) (h : f (s.galAt k) ≠ .zero) : (s.updGal k f).galAt k = f (s.galAt k) := by
  simp only [State.galAt, State.updGal, Tab.upd]; exact Tab.get_put_self _ _ _ _ h
theorem State.rising_updGal (s : State) (k : Nat) (f) (h : rising 0 s.gal = true) : rising 0 (s.updGal k f).gal = true := by
  simp only [State.updGal]; exact rising_upd _ _ _ h

theorem State.galxAt_updGalx (s : State) (k j : Nat) (f) (h : rising 0 s.galx = true) : (s.updGalx k f).galxAt j = if j = k then f (s.galxAt k) else s.galxAt j := by
  simp only [State.galxAt, State.updGalx]; exact Tab.get_upd _ _ _ _ h
theorem State.galxAt_updGalx_other (s : State) (k j : Nat) (f) (h : j ≠ k) : (s.updGalx k f).galxAt j = s.galxAt j := by
  simp only [State.galxAt, State.updGalx, Tab.upd]; exact Tab.get_put_other _ _ _ _ _ h
theorem State.galxAt_updGalx_self (s : State) (k : Nat) (f) (h : f (s.galxAt k) ≠ .zero) : (s.updGalx k f).galxAt k = f (s.galxAt k) := by
  simp only [State.galxAt, State.updGalx, Tab.upd]; exact Tab.get_put_self _ _ _ _ h
theorem State.rising_updGalx (s : State) (k : Nat) (f) (h : rising 0 s.galx = true) : rising 0 (s.updGalx k f).galx = true := by
  simp only [State.updGalx]; exact rising_upd _ _ _ h

theorem State.flightAt_updFlight (s : State) (k j : Nat) (f) (h : rising 0 s.net.fl = true) : (s.updFlight k f).flightAt j = if j = k then f (s.flightAt k) else s.flightAt j := by
  simp only [State.flightAt, State.updFlight]; exact Tab.get_upd _ _ _ _ h
theorem State.flightAt_updFlight_other (s : State) (k j : Nat) (f) (h : j ≠ k) : (s.updFlight k f).flightAt j = s.flightAt j := by
  simp only [State.flightAt, State.updFlight, Tab.upd]; exact Tab.get_put_other _ _ _ _ _ h
theorem State.flightAt_updFlight_self (s : State) (k : Nat) (f) (h : f (s.flightAt k) ≠ .zero) : (s.updFlight k f).flightAt k = f (s.flightAt k) := by
  simp only [State.flightAt, State.updFlight, Tab.upd]; exact Tab.get_put_self _ _ _ _ h
theorem State.rising_updFlight (s : State) (k : Nat) (f) (h : rising 0 s.net.fl = true) : rising 0 (s.updFlight k f).net.fl = true := by
  simp only [State.updFlight]; exact rising_upd _ _ _ h

theorem State.stackAt_updStack (s : State) (k j : Nat) (f) (h : rising 0 s.dram.stk = true) : (s.updStack k f).stackAt j = if j = k then f (s.stackAt k) else s.stackAt j := by
  simp only [State.stackAt, State.updStack]; exact Tab.get_upd _ _ _ _ h
theorem State.stackAt_updStack_other (s : State) (k j : Nat) (f) (h : j ≠ k) : (s.updStack k f).stackAt j = s.stackAt j := by
  simp only [State.stackAt, State.updStack, Tab.upd]; exact Tab.get_put_other _ _ _ _ _ h
theorem State.stackAt_updStack_self (s : State) (k : Nat) (f) (h : f (s.stackAt k) ≠ .zero) : (s.updStack k f).stackAt k = f (s.stackAt k) := by
  simp only [State.stackAt, State.updStack, Tab.upd]; exact Tab.get_put_self _ _ _ _ h
theorem State.rising_updStack (s : State) (k : Nat) (f) (h : rising 0 s.dram.stk = true) : rising 0 (s.updStack k f).dram.stk = true := by
  simp only [State.updStack]; exact rising_upd _ _ _ h

theorem State.ringAt_updRing (s : State) (k j : Nat) (f) (h : rising 0 s.cxl.rings = true) : (s.updRing k f).ringAt j = if j = k then f (s.ringAt k) else s.ringAt j := by
  simp only [State.ringAt, State.updRing]; exact Tab.get_upd _ _ _ _ h
theorem State.ringAt_updRing_other (s : State) (k j : Nat) (f) (h : j ≠ k) : (s.updRing k f).ringAt j = s.ringAt j := by
  simp only [State.ringAt, State.updRing, Tab.upd]; exact Tab.get_put_other _ _ _ _ _ h
theorem State.ringAt_updRing_self (s : State) (k : Nat) (f) (h : f (s.ringAt k) ≠ .zero) : (s.updRing k f).ringAt k = f (s.ringAt k) := by
  simp only [State.ringAt, State.updRing, Tab.upd]; exact Tab.get_put_self _ _ _ _ h
theorem State.rising_updRing (s : State) (k : Nat) (f) (h : rising 0 s.cxl.rings = true) : rising 0 (s.updRing k f).cxl.rings = true := by
  simp only [State.updRing]; exact rising_upd _ _ _ h

theorem State.lanAt_updGal (s : State) (g j l : Nat) (f) (h : rising 0 s.gal = true) :
    (s.updGal g f).lanAt j l = if j = g then Tab.get .zero l (f (s.galAt g)).lan else s.lanAt j l := by
  simp only [State.lanAt, State.galAt_updGal s g j f h]; split <;> rfl
theorem State.galAt_updLan (s : State) (g l j : Nat) (f) (h : rising 0 s.gal = true) :
    (s.updLan g l f).galAt j = if j = g then { s.galAt g with lan := Tab.upd .zero l f (s.galAt g).lan } else s.galAt j :=
  State.galAt_updGal s g j _ h
theorem State.lanAt_updLan (s : State) (g l j k : Nat) (f) (h : rising 0 s.gal = true) (hl : rising 0 (s.galAt g).lan = true) :
    (s.updLan g l f).lanAt j k = if j = g ∧ k = l then f (s.lanAt g l) else s.lanAt j k := by
  simp only [State.updLan, State.lanAt_updGal s g j k _ h]
  by_cases hj : j = g
  · subst hj; simp [Tab.get_upd _ _ _ _ hl, State.lanAt]
  · simp [hj]
theorem State.thAt_updTh (s : State) (g l t j k n : Nat) (f) (h : rising 0 s.gal = true) (hl : rising 0 (s.galAt g).lan = true) (ht : rising 0 (s.lanAt g l).th = true) :
    (s.updTh g l t f).thAt j k n = if j = g ∧ k = l ∧ n = t then f (s.thAt g l t) else s.thAt j k n := by
  simp only [State.thAt, State.updTh, State.lanAt_updLan s g l j k _ h hl]
  by_cases hj : j = g ∧ k = l
  · obtain ⟨rfl, rfl⟩ := hj; simp [Tab.get_upd _ _ _ _ ht]
  · have : ¬ (j = g ∧ k = l ∧ n = t) := fun e => hj ⟨e.1, e.2.1⟩
    simp [hj, this]
theorem State.thAt_updLan (s : State) (g l j k n : Nat) (f) (h : rising 0 s.gal = true) (hl : rising 0 (s.galAt g).lan = true) :
    (s.updLan g l f).thAt j k n = if j = g ∧ k = l then Tab.get .zero n (f (s.lanAt g l)).th else s.thAt j k n := by
  simp only [State.thAt, State.lanAt_updLan s g l j k f h hl]; split <;> rfl

end Sys2Proof.Machine
end

