-- ==== Sys2Proof/Laws/Await.lean ====
section
/-! SUPPORT. What waiting for the host's lines does to a command (18 R506, log 12). -/

namespace Sys2Proof.Laws
open Sys2Proof Sys2Proof.Machine Sys2Proof.Safety

/-- What touches nothing that it must wait for is carried out. -/
theorem awaited_of_ready {s : State} {f : State → State} (h : dramBusy s (f s) = false) : awaited s f = f s := by
  unfold awaited; simp [h]

/-- What must wait sends its snoops and does nothing else. -/
theorem awaited_of_busy {s : State} {f : State → State} (h : dramBusy s (f s) = true) : awaited s f = sendSnoops s (toSnoop s (f s)) := by
  unfold awaited; simp [h]

/-- A command that is an awaited operation gives its effect or waits. -/
theorem gives_of_awaited {c : Instr} {s : State} {f : State → State} (h : exec c s = .next (awaited s f)) : GivesAwaited c s (f s) :=
  ⟨fun hb => by rw [Gives, h, awaited_of_ready hb], fun hb => by rw [Gives, h, awaited_of_busy hb]⟩

/-- The same before the device's own messages are delivered. -/
theorem settles_of_awaited {c : Instr} {s : State} {f : State → State} (h : exec c s = .next (settle (awaited s f))) : SettlesAwaited c s (f s) :=
  ⟨fun hb => by rw [Gives, h, awaited_of_ready hb], fun hb => by rw [Gives, h, awaited_of_busy hb]⟩

/-- Waiting changes the filter, the open snoops and what the device has sent, and nothing else. -/
theorem sendSnoops_frame (s : State) (ks : List Nat) :
    { sendSnoops s ks with cxl := s.cxl, out := s.out } = s ∧
      { (sendSnoops s ks).cxl with filter := s.cxl.filter, snoops := s.cxl.snoops } = s.cxl := ⟨rfl, rfl⟩

end Sys2Proof.Laws
end

