-- ==== Sys2Proof/Laws/Frames.lean ====
section
/-! SUPPORT. What each operation leaves unchanged. -/

namespace Sys2Proof.Machine
open Sys2Proof

@[simp] theorem State.msix_keeps (s : State) (n : Nat) :
    (State.msix s n).pending = s.pending ∧ (State.msix s n).free = s.free ∧ (State.msix s n).pins = s.pins ∧ (State.msix s n).boot = s.boot ∧ (State.msix s n).clock = s.clock ∧ (State.msix s n).plan = s.plan ∧ (State.msix s n).roll = s.roll ∧ (State.msix s n).changes = s.changes ∧ (State.msix s n).hall = s.hall ∧ (State.msix s n).gal = s.gal ∧ (State.msix s n).galx = s.galx ∧ (State.msix s n).dram = s.dram ∧ (State.msix s n).net = s.net ∧ (State.msix s n).hal = s.hal ∧ (State.msix s n).lamp = s.lamp ∧ (State.msix s n).power = s.power ∧ (State.msix s n).fault = s.fault ∧ (State.msix s n).cxl.up = s.cxl.up ∧ (State.msix s n).cxl.tsp = s.cxl.tsp ∧ (State.msix s n).cxl.rings = s.cxl.rings := by unfold State.msix; (repeat' split) <;> simp

@[simp] theorem State.bootFailed_keeps (s : State) (st : Nat) :
    (State.bootFailed s st).pending = s.pending ∧ (State.bootFailed s st).free = s.free ∧ (State.bootFailed s st).out = s.out ∧ (State.bootFailed s st).pins = s.pins ∧ (State.bootFailed s st).clock = s.clock ∧ (State.bootFailed s st).plan = s.plan ∧ (State.bootFailed s st).roll = s.roll ∧ (State.bootFailed s st).changes = s.changes ∧ (State.bootFailed s st).hall = s.hall ∧ (State.bootFailed s st).gal = s.gal ∧ (State.bootFailed s st).galx = s.galx ∧ (State.bootFailed s st).dram = s.dram ∧ (State.bootFailed s st).net = s.net ∧ (State.bootFailed s st).cxl = s.cxl ∧ (State.bootFailed s st).hal = s.hal ∧ (State.bootFailed s st).lamp = s.lamp ∧ (State.bootFailed s st).power = s.power ∧ (State.bootFailed s st).fault = s.fault := by simp [State.bootFailed]

@[simp] theorem State.enterHeld_keeps (s : State) (st : Nat) :
    (State.enterHeld s st).pending = s.pending ∧ (State.enterHeld s st).free = s.free ∧ (State.enterHeld s st).pins = s.pins ∧ (State.enterHeld s st).clock = s.clock ∧ (State.enterHeld s st).plan = s.plan ∧ (State.enterHeld s st).roll = s.roll ∧ (State.enterHeld s st).changes = s.changes ∧ (State.enterHeld s st).gal = s.gal ∧ (State.enterHeld s st).galx = s.galx ∧ (State.enterHeld s st).dram = s.dram ∧ (State.enterHeld s st).net = s.net ∧ (State.enterHeld s st).hal = s.hal ∧ (State.enterHeld s st).lamp.fuses = s.lamp.fuses ∧ (State.enterHeld s st).power = s.power ∧ (State.enterHeld s st).fault = s.fault ∧ (State.enterHeld s st).cxl.up = s.cxl.up ∧ (State.enterHeld s st).cxl.tsp = s.cxl.tsp ∧ (State.enterHeld s st).cxl.rings = s.cxl.rings := by unfold State.enterHeld; (repeat' split) <;> simp

@[simp] theorem report_keeps (s : State) (p : Rep) :
    (report s p).pending = s.pending ∧ (report s p).free = s.free ∧ (report s p).pins = s.pins ∧ (report s p).clock = s.clock ∧ (report s p).plan = s.plan ∧ (report s p).roll = s.roll ∧ (report s p).changes = s.changes ∧ (report s p).gal = s.gal ∧ (report s p).galx = s.galx ∧ (report s p).dram = s.dram ∧ (report s p).net = s.net ∧ (report s p).hal = s.hal ∧ (report s p).lamp.fuses = s.lamp.fuses ∧ (report s p).power = s.power ∧ (report s p).cxl.up = s.cxl.up ∧ (report s p).cxl.tsp = s.cxl.tsp ∧ (report s p).cxl.rings = s.cxl.rings := by unfold report; simp only []; (repeat' split) <;> simp

@[simp] theorem reportTask_keeps (s : State) (p : Rep) :
    (reportTask s p).pending = s.pending ∧ (reportTask s p).free = s.free ∧ (reportTask s p).pins = s.pins ∧ (reportTask s p).clock = s.clock ∧ (reportTask s p).plan = s.plan ∧ (reportTask s p).roll = s.roll ∧ (reportTask s p).changes = s.changes ∧ (reportTask s p).galx = s.galx ∧ (reportTask s p).dram = s.dram ∧ (reportTask s p).net = s.net ∧ (reportTask s p).hal = s.hal ∧ (reportTask s p).lamp.fuses = s.lamp.fuses ∧ (reportTask s p).power = s.power ∧ (reportTask s p).cxl.up = s.cxl.up ∧ (reportTask s p).cxl.tsp = s.cxl.tsp ∧ (reportTask s p).cxl.rings = s.cxl.rings := by unfold reportTask; (repeat' split) <;> simp

@[simp] theorem State.setMem1_keeps (s : State) (m : Space1) (t : Tab Byte) :
    (State.setMem1 s m t).pending = s.pending ∧ (State.setMem1 s m t).free = s.free ∧ (State.setMem1 s m t).out = s.out ∧ (State.setMem1 s m t).pins = s.pins ∧ (State.setMem1 s m t).boot = s.boot ∧ (State.setMem1 s m t).clock = s.clock ∧ (State.setMem1 s m t).plan = s.plan ∧ (State.setMem1 s m t).roll = s.roll ∧ (State.setMem1 s m t).changes = s.changes ∧ (State.setMem1 s m t).hall = s.hall ∧ (State.setMem1 s m t).galx = s.galx ∧ (State.setMem1 s m t).dram = s.dram ∧ (State.setMem1 s m t).net = s.net ∧ (State.setMem1 s m t).cxl = s.cxl ∧ (State.setMem1 s m t).hal = s.hal ∧ (State.setMem1 s m t).lamp = s.lamp ∧ (State.setMem1 s m t).power = s.power ∧ (State.setMem1 s m t).fault = s.fault := by simp [State.setMem1]

@[simp] theorem State.setTags1_keeps (s : State) (m : Space1) (t : Tab Bool) :
    (State.setTags1 s m t).pending = s.pending ∧ (State.setTags1 s m t).free = s.free ∧ (State.setTags1 s m t).out = s.out ∧ (State.setTags1 s m t).pins = s.pins ∧ (State.setTags1 s m t).boot = s.boot ∧ (State.setTags1 s m t).clock = s.clock ∧ (State.setTags1 s m t).plan = s.plan ∧ (State.setTags1 s m t).roll = s.roll ∧ (State.setTags1 s m t).changes = s.changes ∧ (State.setTags1 s m t).hall = s.hall ∧ (State.setTags1 s m t).galx = s.galx ∧ (State.setTags1 s m t).dram = s.dram ∧ (State.setTags1 s m t).net = s.net ∧ (State.setTags1 s m t).cxl = s.cxl ∧ (State.setTags1 s m t).hal = s.hal ∧ (State.setTags1 s m t).lamp = s.lamp ∧ (State.setTags1 s m t).power = s.power ∧ (State.setTags1 s m t).fault = s.fault := by simp [State.setTags1]

@[simp] theorem State.setPoi1_keeps (s : State) (m : Space1) (t : Tab Bool) :
    (State.setPoi1 s m t).pending = s.pending ∧ (State.setPoi1 s m t).free = s.free ∧ (State.setPoi1 s m t).out = s.out ∧ (State.setPoi1 s m t).pins = s.pins ∧ (State.setPoi1 s m t).boot = s.boot ∧ (State.setPoi1 s m t).clock = s.clock ∧ (State.setPoi1 s m t).plan = s.plan ∧ (State.setPoi1 s m t).roll = s.roll ∧ (State.setPoi1 s m t).changes = s.changes ∧ (State.setPoi1 s m t).hall = s.hall ∧ (State.setPoi1 s m t).galx = s.galx ∧ (State.setPoi1 s m t).dram = s.dram ∧ (State.setPoi1 s m t).net = s.net ∧ (State.setPoi1 s m t).cxl = s.cxl ∧ (State.setPoi1 s m t).hal = s.hal ∧ (State.setPoi1 s m t).lamp = s.lamp ∧ (State.setPoi1 s m t).power = s.power ∧ (State.setPoi1 s m t).fault = s.fault := by simp [State.setPoi1]

@[simp] theorem State.setFull1_keeps (s : State) (m : Space1) (a : Nat) (b : Bool) :
    (State.setFull1 s m a b).pending = s.pending ∧ (State.setFull1 s m a b).free = s.free ∧ (State.setFull1 s m a b).out = s.out ∧ (State.setFull1 s m a b).pins = s.pins ∧ (State.setFull1 s m a b).boot = s.boot ∧ (State.setFull1 s m a b).clock = s.clock ∧ (State.setFull1 s m a b).plan = s.plan ∧ (State.setFull1 s m a b).roll = s.roll ∧ (State.setFull1 s m a b).changes = s.changes ∧ (State.setFull1 s m a b).hall = s.hall ∧ (State.setFull1 s m a b).galx = s.galx ∧ (State.setFull1 s m a b).dram = s.dram ∧ (State.setFull1 s m a b).net = s.net ∧ (State.setFull1 s m a b).cxl = s.cxl ∧ (State.setFull1 s m a b).hal = s.hal ∧ (State.setFull1 s m a b).lamp = s.lamp ∧ (State.setFull1 s m a b).power = s.power ∧ (State.setFull1 s m a b).fault = s.fault := by simp [State.setFull1]

@[simp] theorem State.write1_keeps (s : State) (m : Space1) (ws : List (Nat × Byte)) (bad : List Nat) :
    (State.write1 s m ws bad).pending = s.pending ∧ (State.write1 s m ws bad).free = s.free ∧ (State.write1 s m ws bad).out = s.out ∧ (State.write1 s m ws bad).pins = s.pins ∧ (State.write1 s m ws bad).boot = s.boot ∧ (State.write1 s m ws bad).clock = s.clock ∧ (State.write1 s m ws bad).plan = s.plan ∧ (State.write1 s m ws bad).roll = s.roll ∧ (State.write1 s m ws bad).changes = s.changes ∧ (State.write1 s m ws bad).hall = s.hall ∧ (State.write1 s m ws bad).galx = s.galx ∧ (State.write1 s m ws bad).dram = s.dram ∧ (State.write1 s m ws bad).net = s.net ∧ (State.write1 s m ws bad).cxl = s.cxl ∧ (State.write1 s m ws bad).hal = s.hal ∧ (State.write1 s m ws bad).lamp = s.lamp ∧ (State.write1 s m ws bad).power = s.power ∧ (State.write1 s m ws bad).fault = s.fault := by simp [State.write1]

@[simp] theorem State.store1_keeps (s : State) (m : Space1) (a : Nat) (v : Bytes) :
    (State.store1 s m a v).pending = s.pending ∧ (State.store1 s m a v).free = s.free ∧ (State.store1 s m a v).out = s.out ∧ (State.store1 s m a v).pins = s.pins ∧ (State.store1 s m a v).boot = s.boot ∧ (State.store1 s m a v).clock = s.clock ∧ (State.store1 s m a v).plan = s.plan ∧ (State.store1 s m a v).roll = s.roll ∧ (State.store1 s m a v).changes = s.changes ∧ (State.store1 s m a v).hall = s.hall ∧ (State.store1 s m a v).galx = s.galx ∧ (State.store1 s m a v).dram = s.dram ∧ (State.store1 s m a v).net = s.net ∧ (State.store1 s m a v).cxl = s.cxl ∧ (State.store1 s m a v).hal = s.hal ∧ (State.store1 s m a v).lamp = s.lamp ∧ (State.store1 s m a v).power = s.power ∧ (State.store1 s m a v).fault = s.fault := by simp [State.store1]

@[simp] theorem flagPut_keeps (s : State) (g l n : Nat) (v : W32) :
    (flagPut s g l n v).pending = s.pending ∧ (flagPut s g l n v).free = s.free ∧ (flagPut s g l n v).out = s.out ∧ (flagPut s g l n v).pins = s.pins ∧ (flagPut s g l n v).boot = s.boot ∧ (flagPut s g l n v).clock = s.clock ∧ (flagPut s g l n v).plan = s.plan ∧ (flagPut s g l n v).roll = s.roll ∧ (flagPut s g l n v).changes = s.changes ∧ (flagPut s g l n v).hall = s.hall ∧ (flagPut s g l n v).galx = s.galx ∧ (flagPut s g l n v).dram = s.dram ∧ (flagPut s g l n v).net = s.net ∧ (flagPut s g l n v).cxl = s.cxl ∧ (flagPut s g l n v).hal = s.hal ∧ (flagPut s g l n v).lamp = s.lamp ∧ (flagPut s g l n v).power = s.power ∧ (flagPut s g l n v).fault = s.fault := by simp [flagPut]

@[simp] theorem flagAdd_keeps (s : State) (g l n v : Nat) :
    (flagAdd s g l n v).pending = s.pending ∧ (flagAdd s g l n v).free = s.free ∧ (flagAdd s g l n v).pins = s.pins ∧ (flagAdd s g l n v).clock = s.clock ∧ (flagAdd s g l n v).plan = s.plan ∧ (flagAdd s g l n v).roll = s.roll ∧ (flagAdd s g l n v).changes = s.changes ∧ (flagAdd s g l n v).galx = s.galx ∧ (flagAdd s g l n v).dram = s.dram ∧ (flagAdd s g l n v).net = s.net ∧ (flagAdd s g l n v).hal = s.hal ∧ (flagAdd s g l n v).lamp.fuses = s.lamp.fuses ∧ (flagAdd s g l n v).power = s.power ∧ (flagAdd s g l n v).cxl.up = s.cxl.up ∧ (flagAdd s g l n v).cxl.tsp = s.cxl.tsp ∧ (flagAdd s g l n v).cxl.rings = s.cxl.rings := by unfold flagAdd; simp only []; (repeat' split) <;> simp

@[simp] theorem flagDone_keeps (s : State) (g l : Nat) (fl : Option Nat) :
    (flagDone s g l fl).pending = s.pending ∧ (flagDone s g l fl).free = s.free ∧ (flagDone s g l fl).pins = s.pins ∧ (flagDone s g l fl).clock = s.clock ∧ (flagDone s g l fl).plan = s.plan ∧ (flagDone s g l fl).roll = s.roll ∧ (flagDone s g l fl).changes = s.changes ∧ (flagDone s g l fl).galx = s.galx ∧ (flagDone s g l fl).dram = s.dram ∧ (flagDone s g l fl).net = s.net ∧ (flagDone s g l fl).hal = s.hal ∧ (flagDone s g l fl).lamp.fuses = s.lamp.fuses ∧ (flagDone s g l fl).power = s.power ∧ (flagDone s g l fl).cxl.up = s.cxl.up ∧ (flagDone s g l fl).cxl.tsp = s.cxl.tsp ∧ (flagDone s g l fl).cxl.rings = s.cxl.rings := by unfold flagDone; (repeat' split) <;> simp

@[simp] theorem touch_keeps (s : State) (g : Nat) :
    (touch s g).pending = s.pending ∧ (touch s g).free = s.free ∧ (touch s g).out = s.out ∧ (touch s g).pins = s.pins ∧ (touch s g).boot = s.boot ∧ (touch s g).clock = s.clock ∧ (touch s g).plan = s.plan ∧ (touch s g).roll = s.roll ∧ (touch s g).changes = s.changes ∧ (touch s g).hall = s.hall ∧ (touch s g).galx = s.galx ∧ (touch s g).dram = s.dram ∧ (touch s g).net = s.net ∧ (touch s g).cxl = s.cxl ∧ (touch s g).hal = s.hal ∧ (touch s g).lamp = s.lamp ∧ (touch s g).power = s.power ∧ (touch s g).fault = s.fault := by simp [touch]

@[simp] theorem headNow_keeps (s : State) (g l q : Nat) :
    (headNow s g l q).pending = s.pending ∧ (headNow s g l q).free = s.free ∧ (headNow s g l q).out = s.out ∧ (headNow s g l q).pins = s.pins ∧ (headNow s g l q).boot = s.boot ∧ (headNow s g l q).clock = s.clock ∧ (headNow s g l q).plan = s.plan ∧ (headNow s g l q).roll = s.roll ∧ (headNow s g l q).changes = s.changes ∧ (headNow s g l q).hall = s.hall ∧ (headNow s g l q).galx = s.galx ∧ (headNow s g l q).dram = s.dram ∧ (headNow s g l q).net = s.net ∧ (headNow s g l q).cxl = s.cxl ∧ (headNow s g l q).hal = s.hal ∧ (headNow s g l q).lamp = s.lamp ∧ (headNow s g l q).power = s.power ∧ (headNow s g l q).fault = s.fault := by simp [headNow]

@[simp] theorem State.setObj_keeps (s : State) (i sub : Nat) (v : Bytes) :
    (State.setObj s i sub v).pending = s.pending ∧ (State.setObj s i sub v).free = s.free ∧ (State.setObj s i sub v).out = s.out ∧ (State.setObj s i sub v).pins = s.pins ∧ (State.setObj s i sub v).boot = s.boot ∧ (State.setObj s i sub v).clock = s.clock ∧ (State.setObj s i sub v).plan = s.plan ∧ (State.setObj s i sub v).roll = s.roll ∧ (State.setObj s i sub v).changes = s.changes ∧ (State.setObj s i sub v).hall = s.hall ∧ (State.setObj s i sub v).gal = s.gal ∧ (State.setObj s i sub v).galx = s.galx ∧ (State.setObj s i sub v).dram = s.dram ∧ (State.setObj s i sub v).net = s.net ∧ (State.setObj s i sub v).cxl = s.cxl ∧ (State.setObj s i sub v).hal.serving = s.hal.serving ∧ (State.setObj s i sub v).hal.sess = s.hal.sess ∧ (State.setObj s i sub v).lamp = s.lamp ∧ (State.setObj s i sub v).power = s.power ∧ (State.setObj s i sub v).fault = s.fault := by simp [State.setObj]

@[simp] theorem journalFlush_keeps (s : State) :
    (journalFlush s).pending = s.pending ∧ (journalFlush s).free = s.free ∧ (journalFlush s).out = s.out ∧ (journalFlush s).pins = s.pins ∧ (journalFlush s).boot = s.boot ∧ (journalFlush s).clock = s.clock ∧ (journalFlush s).plan = s.plan ∧ (journalFlush s).roll = s.roll ∧ (journalFlush s).changes = s.changes ∧ (journalFlush s).hall = s.hall ∧ (journalFlush s).gal = s.gal ∧ (journalFlush s).galx = s.galx ∧ (journalFlush s).dram = s.dram ∧ (journalFlush s).net = s.net ∧ (journalFlush s).cxl = s.cxl ∧ (journalFlush s).hal.dict = s.hal.dict ∧ (journalFlush s).hal.serving = s.hal.serving ∧ (journalFlush s).hal.sess = s.hal.sess ∧ (journalFlush s).lamp = s.lamp ∧ (journalFlush s).power = s.power ∧ (journalFlush s).fault = s.fault := by simp [journalFlush]

@[simp] theorem journalAt_keeps (s : State) (jseq : Nat) (c : JChange) :
    (journalAt s jseq c).pending = s.pending ∧ (journalAt s jseq c).free = s.free ∧ (journalAt s jseq c).out = s.out ∧ (journalAt s jseq c).pins = s.pins ∧ (journalAt s jseq c).boot = s.boot ∧ (journalAt s jseq c).clock = s.clock ∧ (journalAt s jseq c).plan = s.plan ∧ (journalAt s jseq c).roll = s.roll ∧ (journalAt s jseq c).changes = s.changes ∧ (journalAt s jseq c).hall = s.hall ∧ (journalAt s jseq c).gal = s.gal ∧ (journalAt s jseq c).galx = s.galx ∧ (journalAt s jseq c).dram = s.dram ∧ (journalAt s jseq c).net = s.net ∧ (journalAt s jseq c).cxl = s.cxl ∧ (journalAt s jseq c).hal.dict = s.hal.dict ∧ (journalAt s jseq c).hal.serving = s.hal.serving ∧ (journalAt s jseq c).hal.sess = s.hal.sess ∧ (journalAt s jseq c).lamp = s.lamp ∧ (journalAt s jseq c).power = s.power ∧ (journalAt s jseq c).fault = s.fault := by simp [journalAt]

@[simp] theorem journal_keeps (s : State) (c : JChange) :
    (journal s c).pending = s.pending ∧ (journal s c).free = s.free ∧ (journal s c).out = s.out ∧ (journal s c).pins = s.pins ∧ (journal s c).boot = s.boot ∧ (journal s c).clock = s.clock ∧ (journal s c).plan = s.plan ∧ (journal s c).roll = s.roll ∧ (journal s c).changes = s.changes ∧ (journal s c).hall = s.hall ∧ (journal s c).gal = s.gal ∧ (journal s c).galx = s.galx ∧ (journal s c).dram = s.dram ∧ (journal s c).net = s.net ∧ (journal s c).cxl = s.cxl ∧ (journal s c).hal.dict = s.hal.dict ∧ (journal s c).hal.serving = s.hal.serving ∧ (journal s c).hal.sess = s.hal.sess ∧ (journal s c).lamp = s.lamp ∧ (journal s c).power = s.power ∧ (journal s c).fault = s.fault := by simp [journal]

@[simp] theorem journalRefused_keeps (s : State) :
    (journalRefused s).pending = s.pending ∧ (journalRefused s).free = s.free ∧ (journalRefused s).out = s.out ∧ (journalRefused s).pins = s.pins ∧ (journalRefused s).boot = s.boot ∧ (journalRefused s).clock = s.clock ∧ (journalRefused s).plan = s.plan ∧ (journalRefused s).roll = s.roll ∧ (journalRefused s).changes = s.changes ∧ (journalRefused s).hall = s.hall ∧ (journalRefused s).gal = s.gal ∧ (journalRefused s).galx = s.galx ∧ (journalRefused s).dram = s.dram ∧ (journalRefused s).net = s.net ∧ (journalRefused s).cxl = s.cxl ∧ (journalRefused s).hal.dict = s.hal.dict ∧ (journalRefused s).hal.serving = s.hal.serving ∧ (journalRefused s).hal.sess = s.hal.sess ∧ (journalRefused s).lamp = s.lamp ∧ (journalRefused s).power = s.power ∧ (journalRefused s).fault = s.fault := by simp [journalRefused]

@[simp] theorem State.markWait_keeps (s : State) (a n : Nat) :
    (State.markWait s a n).pending = s.pending ∧ (State.markWait s a n).free = s.free ∧ (State.markWait s a n).out = s.out ∧ (State.markWait s a n).pins = s.pins ∧ (State.markWait s a n).boot = s.boot ∧ (State.markWait s a n).clock = s.clock ∧ (State.markWait s a n).plan = s.plan ∧ (State.markWait s a n).roll = s.roll ∧ (State.markWait s a n).changes = s.changes ∧ (State.markWait s a n).hall = s.hall ∧ (State.markWait s a n).gal = s.gal ∧ (State.markWait s a n).galx = s.galx ∧ (State.markWait s a n).dram = s.dram ∧ (State.markWait s a n).net = s.net ∧ (State.markWait s a n).hal = s.hal ∧ (State.markWait s a n).lamp = s.lamp ∧ (State.markWait s a n).power = s.power ∧ (State.markWait s a n).fault = s.fault ∧ (State.markWait s a n).cxl.up = s.cxl.up ∧ (State.markWait s a n).cxl.tsp = s.cxl.tsp ∧ (State.markWait s a n).cxl.rings = s.cxl.rings := by simp [State.markWait]

@[simp] theorem State.snoopLines_keeps (s : State) (a n : Nat) :
    (State.snoopLines s a n).pending = s.pending ∧ (State.snoopLines s a n).free = s.free ∧ (State.snoopLines s a n).out = s.out ∧ (State.snoopLines s a n).pins = s.pins ∧ (State.snoopLines s a n).boot = s.boot ∧ (State.snoopLines s a n).clock = s.clock ∧ (State.snoopLines s a n).plan = s.plan ∧ (State.snoopLines s a n).roll = s.roll ∧ (State.snoopLines s a n).changes = s.changes ∧ (State.snoopLines s a n).hall = s.hall ∧ (State.snoopLines s a n).gal = s.gal ∧ (State.snoopLines s a n).galx = s.galx ∧ (State.snoopLines s a n).dram = s.dram ∧ (State.snoopLines s a n).net = s.net ∧ (State.snoopLines s a n).hal = s.hal ∧ (State.snoopLines s a n).lamp = s.lamp ∧ (State.snoopLines s a n).power = s.power ∧ (State.snoopLines s a n).fault = s.fault ∧ (State.snoopLines s a n).cxl.up = s.cxl.up ∧ (State.snoopLines s a n).cxl.tsp = s.cxl.tsp ∧ (State.snoopLines s a n).cxl.rings = s.cxl.rings := by unfold State.snoopLines; (repeat' split) <;> simp

@[simp] theorem State.snoopRange_keeps (s : State) (a n : Nat) :
    (State.snoopRange s a n).pending = s.pending ∧ (State.snoopRange s a n).free = s.free ∧ (State.snoopRange s a n).pins = s.pins ∧ (State.snoopRange s a n).boot = s.boot ∧ (State.snoopRange s a n).clock = s.clock ∧ (State.snoopRange s a n).plan = s.plan ∧ (State.snoopRange s a n).roll = s.roll ∧ (State.snoopRange s a n).changes = s.changes ∧ (State.snoopRange s a n).hall = s.hall ∧ (State.snoopRange s a n).gal = s.gal ∧ (State.snoopRange s a n).galx = s.galx ∧ (State.snoopRange s a n).dram = s.dram ∧ (State.snoopRange s a n).net = s.net ∧ (State.snoopRange s a n).hal = s.hal ∧ (State.snoopRange s a n).lamp = s.lamp ∧ (State.snoopRange s a n).power = s.power ∧ (State.snoopRange s a n).fault = s.fault := by simp [State.snoopRange]

@[simp] theorem State.dput_keeps (s : State) (a : Nat) (v : Bytes) :
    (State.dput s a v).pending = s.pending ∧ (State.dput s a v).free = s.free ∧ (State.dput s a v).out = s.out ∧ (State.dput s a v).pins = s.pins ∧ (State.dput s a v).boot = s.boot ∧ (State.dput s a v).clock = s.clock ∧ (State.dput s a v).plan = s.plan ∧ (State.dput s a v).roll = s.roll ∧ (State.dput s a v).changes = s.changes ∧ (State.dput s a v).hall = s.hall ∧ (State.dput s a v).gal = s.gal ∧ (State.dput s a v).galx = s.galx ∧ (State.dput s a v).net = s.net ∧ (State.dput s a v).cxl = s.cxl ∧ (State.dput s a v).hal = s.hal ∧ (State.dput s a v).lamp = s.lamp ∧ (State.dput s a v).power = s.power ∧ (State.dput s a v).fault = s.fault := by simp [State.dput]

@[simp] theorem State.dwrite_keeps (s : State) (a : Nat) (v : Bytes) (bad : Bool) :
    (State.dwrite s a v bad).pending = s.pending ∧ (State.dwrite s a v bad).free = s.free ∧ (State.dwrite s a v bad).out = s.out ∧ (State.dwrite s a v bad).pins = s.pins ∧ (State.dwrite s a v bad).boot = s.boot ∧ (State.dwrite s a v bad).clock = s.clock ∧ (State.dwrite s a v bad).plan = s.plan ∧ (State.dwrite s a v bad).roll = s.roll ∧ (State.dwrite s a v bad).changes = s.changes ∧ (State.dwrite s a v bad).hall = s.hall ∧ (State.dwrite s a v bad).gal = s.gal ∧ (State.dwrite s a v bad).galx = s.galx ∧ (State.dwrite s a v bad).net = s.net ∧ (State.dwrite s a v bad).cxl = s.cxl ∧ (State.dwrite s a v bad).hal = s.hal ∧ (State.dwrite s a v bad).lamp = s.lamp ∧ (State.dwrite s a v bad).power = s.power ∧ (State.dwrite s a v bad).fault = s.fault := by simp [State.dwrite]

@[simp] theorem sendSnoops_keeps (s : State) (ks : List Nat) :
    (sendSnoops s ks).pending = s.pending ∧ (sendSnoops s ks).free = s.free ∧ (sendSnoops s ks).pins = s.pins ∧ (sendSnoops s ks).boot = s.boot ∧ (sendSnoops s ks).clock = s.clock ∧ (sendSnoops s ks).plan = s.plan ∧ (sendSnoops s ks).roll = s.roll ∧ (sendSnoops s ks).changes = s.changes ∧ (sendSnoops s ks).hall = s.hall ∧ (sendSnoops s ks).gal = s.gal ∧ (sendSnoops s ks).galx = s.galx ∧ (sendSnoops s ks).dram = s.dram ∧ (sendSnoops s ks).net = s.net ∧ (sendSnoops s ks).hal = s.hal ∧ (sendSnoops s ks).lamp = s.lamp ∧ (sendSnoops s ks).power = s.power ∧ (sendSnoops s ks).fault = s.fault ∧ (sendSnoops s ks).cxl.up = s.cxl.up ∧ (sendSnoops s ks).cxl.tsp = s.cxl.tsp ∧ (sendSnoops s ks).cxl.rings = s.cxl.rings := by simp [sendSnoops]

@[simp] theorem awaited_pending (s : State) (f : State → State) (h0 : ∀ u, (f u).pending = u.pending) :
    (awaited s f).pending = s.pending := by
  simp [awaited, h0]

@[simp] theorem awaited_free (s : State) (f : State → State) (h0 : ∀ u, (f u).free = u.free) :
    (awaited s f).free = s.free := by
  simp [awaited, h0]

@[simp] theorem awaited_pins (s : State) (f : State → State) (h0 : ∀ u, (f u).pins = u.pins) :
    (awaited s f).pins = s.pins := by
  simp [awaited, h0]

@[simp] theorem awaited_boot (s : State) (f : State → State) (h0 : ∀ u, (f u).boot = u.boot) :
    (awaited s f).boot = s.boot := by
  simp [awaited, h0]

@[simp] theorem awaited_clock (s : State) (f : State → State) (h0 : ∀ u, (f u).clock = u.clock) :
    (awaited s f).clock = s.clock := by
  simp [awaited, h0]

@[simp] theorem awaited_clock_now (s : State) (f : State → State) (h0 : ∀ u, (f u).clock.now = u.clock.now) :
    (awaited s f).clock.now = s.clock.now := by
  simp [awaited, h0]

@[simp] theorem awaited_plan (s : State) (f : State → State) (h0 : ∀ u, (f u).plan = u.plan) :
    (awaited s f).plan = s.plan := by
  simp [awaited, h0]

@[simp] theorem awaited_roll (s : State) (f : State → State) (h0 : ∀ u, (f u).roll = u.roll) :
    (awaited s f).roll = s.roll := by
  simp [awaited, h0]

@[simp] theorem awaited_changes (s : State) (f : State → State) (h0 : ∀ u, (f u).changes = u.changes) :
    (awaited s f).changes = s.changes := by
  simp [awaited, h0]

@[simp] theorem awaited_hall (s : State) (f : State → State) (h0 : ∀ u, (f u).hall = u.hall) :
    (awaited s f).hall = s.hall := by
  simp [awaited, h0]

@[simp] theorem awaited_gal (s : State) (f : State → State) (h0 : ∀ u, (f u).gal = u.gal) :
    (awaited s f).gal = s.gal := by
  simp [awaited, h0]

@[simp] theorem awaited_galx (s : State) (f : State → State) (h0 : ∀ u, (f u).galx = u.galx) :
    (awaited s f).galx = s.galx := by
  simp [awaited, h0]

@[simp] theorem awaited_dram (s : State) (f : State → State) (h0 : ∀ u, (f u).dram = u.dram) :
    (awaited s f).dram = s.dram := by
  simp [awaited, h0]

@[simp] theorem awaited_net (s : State) (f : State → State) (h0 : ∀ u, (f u).net = u.net) :
    (awaited s f).net = s.net := by
  simp [awaited, h0]

@[simp] theorem awaited_hal (s : State) (f : State → State) (h0 : ∀ u, (f u).hal = u.hal) :
    (awaited s f).hal = s.hal := by
  simp [awaited, h0]

@[simp] theorem awaited_hal_dict (s : State) (f : State → State) (h0 : ∀ u, (f u).hal.dict = u.hal.dict) :
    (awaited s f).hal.dict = s.hal.dict := by
  simp [awaited, h0]

@[simp] theorem awaited_hal_serving (s : State) (f : State → State) (h0 : ∀ u, (f u).hal.serving = u.hal.serving) :
    (awaited s f).hal.serving = s.hal.serving := by
  simp [awaited, h0]

@[simp] theorem awaited_hal_sess (s : State) (f : State → State) (h0 : ∀ u, (f u).hal.sess = u.hal.sess) :
    (awaited s f).hal.sess = s.hal.sess := by
  simp [awaited, h0]

@[simp] theorem awaited_lamp (s : State) (f : State → State) (h0 : ∀ u, (f u).lamp = u.lamp) :
    (awaited s f).lamp = s.lamp := by
  simp [awaited, h0]

@[simp] theorem awaited_lamp_fuses (s : State) (f : State → State) (h0 : ∀ u, (f u).lamp.fuses = u.lamp.fuses) :
    (awaited s f).lamp.fuses = s.lamp.fuses := by
  simp [awaited, h0]

@[simp] theorem awaited_power (s : State) (f : State → State) (h0 : ∀ u, (f u).power = u.power) :
    (awaited s f).power = s.power := by
  simp [awaited, h0]

@[simp] theorem awaited_fault (s : State) (f : State → State) (h0 : ∀ u, (f u).fault = u.fault) :
    (awaited s f).fault = s.fault := by
  simp [awaited, h0]

@[simp] theorem awaited_cxl_up (s : State) (f : State → State) (h0 : ∀ u, (f u).cxl.up = u.cxl.up) :
    (awaited s f).cxl.up = s.cxl.up := by
  unfold awaited; try simp only []
  (repeat' split) <;> simp [h0]

@[simp] theorem awaited_cxl_tsp (s : State) (f : State → State) (h0 : ∀ u, (f u).cxl.tsp = u.cxl.tsp) :
    (awaited s f).cxl.tsp = s.cxl.tsp := by
  unfold awaited; try simp only []
  (repeat' split) <;> simp [h0]

@[simp] theorem awaited_cxl_rings (s : State) (f : State → State) (h0 : ∀ u, (f u).cxl.rings = u.cxl.rings) :
    (awaited s f).cxl.rings = s.cxl.rings := by
  unfold awaited; try simp only []
  (repeat' split) <;> simp [h0]

@[simp] theorem atOnce_pending (s : State) (f : State → State) (h0 : ∀ u, (f u).pending = u.pending) :
    (atOnce s f).pending = s.pending := by
  simp [atOnce, h0]

@[simp] theorem atOnce_free (s : State) (f : State → State) (h0 : ∀ u, (f u).free = u.free) :
    (atOnce s f).free = s.free := by
  simp [atOnce, h0]

@[simp] theorem atOnce_pins (s : State) (f : State → State) (h0 : ∀ u, (f u).pins = u.pins) :
    (atOnce s f).pins = s.pins := by
  simp [atOnce, h0]

@[simp] theorem atOnce_boot (s : State) (f : State → State) (h0 : ∀ u, (f u).boot = u.boot) :
    (atOnce s f).boot = s.boot := by
  simp [atOnce, h0]

@[simp] theorem atOnce_clock (s : State) (f : State → State) (h0 : ∀ u, (f u).clock = u.clock) :
    (atOnce s f).clock = s.clock := by
  simp [atOnce, h0]

@[simp] theorem atOnce_clock_now (s : State) (f : State → State) (h0 : ∀ u, (f u).clock.now = u.clock.now) :
    (atOnce s f).clock.now = s.clock.now := by
  simp [atOnce, h0]

@[simp] theorem atOnce_plan (s : State) (f : State → State) (h0 : ∀ u, (f u).plan = u.plan) :
    (atOnce s f).plan = s.plan := by
  simp [atOnce, h0]

@[simp] theorem atOnce_roll (s : State) (f : State → State) (h0 : ∀ u, (f u).roll = u.roll) :
    (atOnce s f).roll = s.roll := by
  simp [atOnce, h0]

@[simp] theorem atOnce_changes (s : State) (f : State → State) (h0 : ∀ u, (f u).changes = u.changes) :
    (atOnce s f).changes = s.changes := by
  simp [atOnce, h0]

@[simp] theorem atOnce_hall (s : State) (f : State → State) (h0 : ∀ u, (f u).hall = u.hall) :
    (atOnce s f).hall = s.hall := by
  simp [atOnce, h0]

@[simp] theorem atOnce_gal (s : State) (f : State → State) (h0 : ∀ u, (f u).gal = u.gal) :
    (atOnce s f).gal = s.gal := by
  simp [atOnce, h0]

@[simp] theorem atOnce_galx (s : State) (f : State → State) (h0 : ∀ u, (f u).galx = u.galx) :
    (atOnce s f).galx = s.galx := by
  simp [atOnce, h0]

@[simp] theorem atOnce_dram (s : State) (f : State → State) (h0 : ∀ u, (f u).dram = u.dram) :
    (atOnce s f).dram = s.dram := by
  simp [atOnce, h0]

@[simp] theorem atOnce_net (s : State) (f : State → State) (h0 : ∀ u, (f u).net = u.net) :
    (atOnce s f).net = s.net := by
  simp [atOnce, h0]

@[simp] theorem atOnce_hal (s : State) (f : State → State) (h0 : ∀ u, (f u).hal = u.hal) :
    (atOnce s f).hal = s.hal := by
  simp [atOnce, h0]

@[simp] theorem atOnce_hal_dict (s : State) (f : State → State) (h0 : ∀ u, (f u).hal.dict = u.hal.dict) :
    (atOnce s f).hal.dict = s.hal.dict := by
  simp [atOnce, h0]

@[simp] theorem atOnce_hal_serving (s : State) (f : State → State) (h0 : ∀ u, (f u).hal.serving = u.hal.serving) :
    (atOnce s f).hal.serving = s.hal.serving := by
  simp [atOnce, h0]

@[simp] theorem atOnce_hal_sess (s : State) (f : State → State) (h0 : ∀ u, (f u).hal.sess = u.hal.sess) :
    (atOnce s f).hal.sess = s.hal.sess := by
  simp [atOnce, h0]

@[simp] theorem atOnce_lamp (s : State) (f : State → State) (h0 : ∀ u, (f u).lamp = u.lamp) :
    (atOnce s f).lamp = s.lamp := by
  simp [atOnce, h0]

@[simp] theorem atOnce_lamp_fuses (s : State) (f : State → State) (h0 : ∀ u, (f u).lamp.fuses = u.lamp.fuses) :
    (atOnce s f).lamp.fuses = s.lamp.fuses := by
  simp [atOnce, h0]

@[simp] theorem atOnce_power (s : State) (f : State → State) (h0 : ∀ u, (f u).power = u.power) :
    (atOnce s f).power = s.power := by
  simp [atOnce, h0]

@[simp] theorem atOnce_fault (s : State) (f : State → State) (h0 : ∀ u, (f u).fault = u.fault) :
    (atOnce s f).fault = s.fault := by
  simp [atOnce, h0]

@[simp] theorem atOnce_cxl_up (s : State) (f : State → State) (h0 : ∀ u, (f u).cxl.up = u.cxl.up) :
    (atOnce s f).cxl.up = s.cxl.up := by
  unfold atOnce; try simp only []
  (repeat' split) <;> simp [h0]

@[simp] theorem atOnce_cxl_tsp (s : State) (f : State → State) (h0 : ∀ u, (f u).cxl.tsp = u.cxl.tsp) :
    (atOnce s f).cxl.tsp = s.cxl.tsp := by
  unfold atOnce; try simp only []
  (repeat' split) <;> simp [h0]

@[simp] theorem atOnce_cxl_rings (s : State) (f : State → State) (h0 : ∀ u, (f u).cxl.rings = u.cxl.rings) :
    (atOnce s f).cxl.rings = s.cxl.rings := by
  unfold atOnce; try simp only []
  (repeat' split) <;> simp [h0]

@[simp] theorem hwWritten_keeps (s : State) (kind id n : Nat) :
    (hwWritten s kind id n).pending = s.pending ∧ (hwWritten s kind id n).free = s.free ∧ (hwWritten s kind id n).out = s.out ∧ (hwWritten s kind id n).pins = s.pins ∧ (hwWritten s kind id n).boot = s.boot ∧ (hwWritten s kind id n).clock = s.clock ∧ (hwWritten s kind id n).plan = s.plan ∧ (hwWritten s kind id n).roll = s.roll ∧ (hwWritten s kind id n).changes = s.changes ∧ (hwWritten s kind id n).hall = s.hall ∧ (hwWritten s kind id n).gal = s.gal ∧ (hwWritten s kind id n).galx = s.galx ∧ (hwWritten s kind id n).net = s.net ∧ (hwWritten s kind id n).cxl = s.cxl ∧ (hwWritten s kind id n).hal = s.hal ∧ (hwWritten s kind id n).lamp = s.lamp ∧ (hwWritten s kind id n).power = s.power ∧ (hwWritten s kind id n).fault = s.fault := by simp [hwWritten]

@[simp] theorem vsnoop_keeps (s : State) (asid : Nat) (va : Int) (n : Nat) (wr : Bool) :
    (vsnoop s asid va n wr).pending = s.pending ∧ (vsnoop s asid va n wr).free = s.free ∧ (vsnoop s asid va n wr).pins = s.pins ∧ (vsnoop s asid va n wr).boot = s.boot ∧ (vsnoop s asid va n wr).clock = s.clock ∧ (vsnoop s asid va n wr).plan = s.plan ∧ (vsnoop s asid va n wr).roll = s.roll ∧ (vsnoop s asid va n wr).changes = s.changes ∧ (vsnoop s asid va n wr).hall = s.hall ∧ (vsnoop s asid va n wr).gal = s.gal ∧ (vsnoop s asid va n wr).galx = s.galx ∧ (vsnoop s asid va n wr).dram = s.dram ∧ (vsnoop s asid va n wr).net = s.net ∧ (vsnoop s asid va n wr).hal = s.hal ∧ (vsnoop s asid va n wr).lamp = s.lamp ∧ (vsnoop s asid va n wr).power = s.power ∧ (vsnoop s asid va n wr).fault = s.fault := by simp (disch := (first | (intro u a; (repeat' split) <;> simp; done) | (rintro ⟨u, b⟩ a; dsimp only; (repeat' split) <;> simp; done) | (intro u w t o n e; (try dsimp only at e); (repeat' split at e) <;> (cases e; try simp); done) | (intro u a b; (repeat' split) <;> simp; done) | (intro u a b e; (try dsimp only at e); (repeat' split at e) <;> (cases e; try simp); done) | (intro u a e; (try dsimp only at e); (repeat' split at e) <;> (cases e; try simp); done))) [vsnoop]

@[simp] theorem sendSnoop_keeps (s : State) (k : Nat) :
    (sendSnoop s k).pending = s.pending ∧ (sendSnoop s k).free = s.free ∧ (sendSnoop s k).pins = s.pins ∧ (sendSnoop s k).boot = s.boot ∧ (sendSnoop s k).clock = s.clock ∧ (sendSnoop s k).plan = s.plan ∧ (sendSnoop s k).roll = s.roll ∧ (sendSnoop s k).changes = s.changes ∧ (sendSnoop s k).hall = s.hall ∧ (sendSnoop s k).gal = s.gal ∧ (sendSnoop s k).galx = s.galx ∧ (sendSnoop s k).dram = s.dram ∧ (sendSnoop s k).net = s.net ∧ (sendSnoop s k).hal = s.hal ∧ (sendSnoop s k).lamp = s.lamp ∧ (sendSnoop s k).power = s.power ∧ (sendSnoop s k).fault = s.fault := by simp [sendSnoop]

@[simp] theorem trackLine_keeps (s : State) (k : Nat) :
    (trackLine s k).pending = s.pending ∧ (trackLine s k).free = s.free ∧ (trackLine s k).pins = s.pins ∧ (trackLine s k).boot = s.boot ∧ (trackLine s k).clock = s.clock ∧ (trackLine s k).plan = s.plan ∧ (trackLine s k).roll = s.roll ∧ (trackLine s k).changes = s.changes ∧ (trackLine s k).hall = s.hall ∧ (trackLine s k).gal = s.gal ∧ (trackLine s k).galx = s.galx ∧ (trackLine s k).dram = s.dram ∧ (trackLine s k).net = s.net ∧ (trackLine s k).hal = s.hal ∧ (trackLine s k).lamp = s.lamp ∧ (trackLine s k).power = s.power ∧ (trackLine s k).fault = s.fault := by unfold trackLine; (repeat' split) <;> simp

@[simp] theorem hostLineDo_keeps (s : State) (x : HostAcc) :
    (hostLineDo s x).pending = s.pending ∧ (hostLineDo s x).free = s.free ∧ (hostLineDo s x).pins = s.pins ∧ (hostLineDo s x).boot = s.boot ∧ (hostLineDo s x).clock = s.clock ∧ (hostLineDo s x).plan = s.plan ∧ (hostLineDo s x).roll = s.roll ∧ (hostLineDo s x).changes = s.changes ∧ (hostLineDo s x).hall = s.hall ∧ (hostLineDo s x).gal = s.gal ∧ (hostLineDo s x).galx = s.galx ∧ (hostLineDo s x).net = s.net ∧ (hostLineDo s x).hal = s.hal ∧ (hostLineDo s x).lamp = s.lamp ∧ (hostLineDo s x).power = s.power ∧ (hostLineDo s x).fault = s.fault := by unfold hostLineDo; (repeat' split) <;> simp

@[simp] theorem drawTokens_keeps (s : State) (h p n : Nat) :
    (drawTokens s h p n).pending = s.pending ∧ (drawTokens s h p n).free = s.free ∧ (drawTokens s h p n).out = s.out ∧ (drawTokens s h p n).pins = s.pins ∧ (drawTokens s h p n).boot = s.boot ∧ (drawTokens s h p n).clock = s.clock ∧ (drawTokens s h p n).plan = s.plan ∧ (drawTokens s h p n).roll = s.roll ∧ (drawTokens s h p n).changes = s.changes ∧ (drawTokens s h p n).gal = s.gal ∧ (drawTokens s h p n).galx = s.galx ∧ (drawTokens s h p n).dram = s.dram ∧ (drawTokens s h p n).net = s.net ∧ (drawTokens s h p n).cxl = s.cxl ∧ (drawTokens s h p n).hal = s.hal ∧ (drawTokens s h p n).lamp = s.lamp ∧ (drawTokens s h p n).power = s.power ∧ (drawTokens s h p n).fault = s.fault := by simp [drawTokens]

@[simp] theorem countHeld_keeps (s : State) (p : Nat) :
    (countHeld s p).pending = s.pending ∧ (countHeld s p).free = s.free ∧ (countHeld s p).out = s.out ∧ (countHeld s p).pins = s.pins ∧ (countHeld s p).boot = s.boot ∧ (countHeld s p).clock = s.clock ∧ (countHeld s p).plan = s.plan ∧ (countHeld s p).roll = s.roll ∧ (countHeld s p).changes = s.changes ∧ (countHeld s p).hall = s.hall ∧ (countHeld s p).gal = s.gal ∧ (countHeld s p).galx = s.galx ∧ (countHeld s p).dram = s.dram ∧ (countHeld s p).net = s.net ∧ (countHeld s p).cxl = s.cxl ∧ (countHeld s p).hal.serving = s.hal.serving ∧ (countHeld s p).hal.sess = s.hal.sess ∧ (countHeld s p).lamp = s.lamp ∧ (countHeld s p).power = s.power ∧ (countHeld s p).fault = s.fault := by simp [countHeld]

@[simp] theorem askTokens_keeps (s : State) (g unit n : Nat) :
    (askTokens s g unit n).1.pending = s.pending ∧ (askTokens s g unit n).1.free = s.free ∧ (askTokens s g unit n).1.out = s.out ∧ (askTokens s g unit n).1.pins = s.pins ∧ (askTokens s g unit n).1.boot = s.boot ∧ (askTokens s g unit n).1.clock = s.clock ∧ (askTokens s g unit n).1.plan = s.plan ∧ (askTokens s g unit n).1.roll = s.roll ∧ (askTokens s g unit n).1.changes = s.changes ∧ (askTokens s g unit n).1.gal = s.gal ∧ (askTokens s g unit n).1.dram = s.dram ∧ (askTokens s g unit n).1.net = s.net ∧ (askTokens s g unit n).1.cxl = s.cxl ∧ (askTokens s g unit n).1.lamp = s.lamp ∧ (askTokens s g unit n).1.power = s.power ∧ (askTokens s g unit n).1.fault = s.fault ∧ (askTokens s g unit n).1.hal.serving = s.hal.serving ∧ (askTokens s g unit n).1.hal.sess = s.hal.sess := by unfold askTokens; simp only []; (repeat' split) <;> simp

@[simp] theorem settleTokens_keeps (s : State) (p : Nat) :
    (settleTokens s p).pending = s.pending ∧ (settleTokens s p).free = s.free ∧ (settleTokens s p).out = s.out ∧ (settleTokens s p).pins = s.pins ∧ (settleTokens s p).boot = s.boot ∧ (settleTokens s p).clock = s.clock ∧ (settleTokens s p).plan = s.plan ∧ (settleTokens s p).roll = s.roll ∧ (settleTokens s p).changes = s.changes ∧ (settleTokens s p).gal = s.gal ∧ (settleTokens s p).galx = s.galx ∧ (settleTokens s p).dram = s.dram ∧ (settleTokens s p).net = s.net ∧ (settleTokens s p).cxl = s.cxl ∧ (settleTokens s p).hal = s.hal ∧ (settleTokens s p).lamp = s.lamp ∧ (settleTokens s p).power = s.power ∧ (settleTokens s p).fault = s.fault := by simp [settleTokens]

@[simp] theorem uWrite_keeps (s : State) (asid : Nat) (ws : UWrites) :
    (uWrite s asid ws).1.pending = s.pending ∧ (uWrite s asid ws).1.free = s.free ∧ (uWrite s asid ws).1.pins = s.pins ∧ (uWrite s asid ws).1.boot = s.boot ∧ (uWrite s asid ws).1.clock = s.clock ∧ (uWrite s asid ws).1.plan = s.plan ∧ (uWrite s asid ws).1.roll = s.roll ∧ (uWrite s asid ws).1.changes = s.changes ∧ (uWrite s asid ws).1.hall = s.hall ∧ (uWrite s asid ws).1.gal = s.gal ∧ (uWrite s asid ws).1.galx = s.galx ∧ (uWrite s asid ws).1.net = s.net ∧ (uWrite s asid ws).1.hal = s.hal ∧ (uWrite s asid ws).1.lamp = s.lamp ∧ (uWrite s asid ws).1.power = s.power ∧ (uWrite s asid ws).1.fault = s.fault := by simp [uWrite]

@[simp] theorem uSnoop_keeps (s : State) (asid : Nat) (ws : UWrites) :
    (uSnoop s asid ws).pending = s.pending ∧ (uSnoop s asid ws).free = s.free ∧ (uSnoop s asid ws).pins = s.pins ∧ (uSnoop s asid ws).boot = s.boot ∧ (uSnoop s asid ws).clock = s.clock ∧ (uSnoop s asid ws).plan = s.plan ∧ (uSnoop s asid ws).roll = s.roll ∧ (uSnoop s asid ws).changes = s.changes ∧ (uSnoop s asid ws).hall = s.hall ∧ (uSnoop s asid ws).gal = s.gal ∧ (uSnoop s asid ws).galx = s.galx ∧ (uSnoop s asid ws).dram = s.dram ∧ (uSnoop s asid ws).net = s.net ∧ (uSnoop s asid ws).hal = s.hal ∧ (uSnoop s asid ws).lamp = s.lamp ∧ (uSnoop s asid ws).power = s.power ∧ (uSnoop s asid ws).fault = s.fault := by exact ⟨by unfold uSnoop; (repeat' split) <;> first | (refine foldl_keeps (·.pending) _ (fun u a => ?_) _ _; (try simp only []); (repeat' split) <;> simp) | simp, by unfold uSnoop; (repeat' split) <;> first | (refine foldl_keeps (·.free) _ (fun u a => ?_) _ _; (try simp only []); (repeat' split) <;> simp) | simp, by unfold uSnoop; (repeat' split) <;> first | (refine foldl_keeps (·.pins) _ (fun u a => ?_) _ _; (try simp only []); (repeat' split) <;> simp) | simp, by unfold uSnoop; (repeat' split) <;> first | (refine foldl_keeps (·.boot) _ (fun u a => ?_) _ _; (try simp only []); (repeat' split) <;> simp) | simp, by unfold uSnoop; (repeat' split) <;> first | (refine foldl_keeps (·.clock) _ (fun u a => ?_) _ _; (try simp only []); (repeat' split) <;> simp) | simp, by unfold uSnoop; (repeat' split) <;> first | (refine foldl_keeps (·.plan) _ (fun u a => ?_) _ _; (try simp only []); (repeat' split) <;> simp) | simp, by unfold uSnoop; (repeat' split) <;> first | (refine foldl_keeps (·.roll) _ (fun u a => ?_) _ _; (try simp only []); (repeat' split) <;> simp) | simp, by unfold uSnoop; (repeat' split) <;> first | (refine foldl_keeps (·.changes) _ (fun u a => ?_) _ _; (try simp only []); (repeat' split) <;> simp) | simp, by unfold uSnoop; (repeat' split) <;> first | (refine foldl_keeps (·.hall) _ (fun u a => ?_) _ _; (try simp only []); (repeat' split) <;> simp) | simp, by unfold uSnoop; (repeat' split) <;> first | (refine foldl_keeps (·.gal) _ (fun u a => ?_) _ _; (try simp only []); (repeat' split) <;> simp) | simp, by unfold uSnoop; (repeat' split) <;> first | (refine foldl_keeps (·.galx) _ (fun u a => ?_) _ _; (try simp only []); (repeat' split) <;> simp) | simp, by unfold uSnoop; (repeat' split) <;> first | (refine foldl_keeps (·.dram) _ (fun u a => ?_) _ _; (try simp only []); (repeat' split) <;> simp) | simp, by unfold uSnoop; (repeat' split) <;> first | (refine foldl_keeps (·.net) _ (fun u a => ?_) _ _; (try simp only []); (repeat' split) <;> simp) | simp, by unfold uSnoop; (repeat' split) <;> first | (refine foldl_keeps (·.hal) _ (fun u a => ?_) _ _; (try simp only []); (repeat' split) <;> simp) | simp, by unfold uSnoop; (repeat' split) <;> first | (refine foldl_keeps (·.lamp) _ (fun u a => ?_) _ _; (try simp only []); (repeat' split) <;> simp) | simp, by unfold uSnoop; (repeat' split) <;> first | (refine foldl_keeps (·.power) _ (fun u a => ?_) _ _; (try simp only []); (repeat' split) <;> simp) | simp, by unfold uSnoop; (repeat' split) <;> first | (refine foldl_keeps (·.fault) _ (fun u a => ?_) _ _; (try simp only []); (repeat' split) <;> simp) | simp⟩

@[simp] theorem blockSnoop_keeps (s : State) (asid : Nat) (b : Bytes) (k n : Nat) :
    (blockSnoop s asid b k n).pending = s.pending ∧ (blockSnoop s asid b k n).free = s.free ∧ (blockSnoop s asid b k n).pins = s.pins ∧ (blockSnoop s asid b k n).boot = s.boot ∧ (blockSnoop s asid b k n).clock = s.clock ∧ (blockSnoop s asid b k n).plan = s.plan ∧ (blockSnoop s asid b k n).roll = s.roll ∧ (blockSnoop s asid b k n).changes = s.changes ∧ (blockSnoop s asid b k n).hall = s.hall ∧ (blockSnoop s asid b k n).gal = s.gal ∧ (blockSnoop s asid b k n).galx = s.galx ∧ (blockSnoop s asid b k n).dram = s.dram ∧ (blockSnoop s asid b k n).net = s.net ∧ (blockSnoop s asid b k n).hal = s.hal ∧ (blockSnoop s asid b k n).lamp = s.lamp ∧ (blockSnoop s asid b k n).power = s.power ∧ (blockSnoop s asid b k n).fault = s.fault := by exact ⟨by by_cases hq : quiet s = true <;> [simp [blockSnoop, hq]; (rw [blockSnoop, if_neg hq]; refine foldl_keeps (·.pending) _ (fun u a => ?_) _ _; simp only []; split <;> split <;> simp only [vsnoop_keeps, foldl_pending, implies_true])], by by_cases hq : quiet s = true <;> [simp [blockSnoop, hq]; (rw [blockSnoop, if_neg hq]; refine foldl_keeps (·.free) _ (fun u a => ?_) _ _; simp only []; split <;> split <;> simp only [vsnoop_keeps, foldl_free, implies_true])], by by_cases hq : quiet s = true <;> [simp [blockSnoop, hq]; (rw [blockSnoop, if_neg hq]; refine foldl_keeps (·.pins) _ (fun u a => ?_) _ _; simp only []; split <;> split <;> simp only [vsnoop_keeps, foldl_pins, implies_true])], by by_cases hq : quiet s = true <;> [simp [blockSnoop, hq]; (rw [blockSnoop, if_neg hq]; refine foldl_keeps (·.boot) _ (fun u a => ?_) _ _; simp only []; split <;> split <;> simp only [vsnoop_keeps, foldl_boot, implies_true])], by by_cases hq : quiet s = true <;> [simp [blockSnoop, hq]; (rw [blockSnoop, if_neg hq]; refine foldl_keeps (·.clock) _ (fun u a => ?_) _ _; simp only []; split <;> split <;> simp only [vsnoop_keeps, foldl_clock, implies_true])], by by_cases hq : quiet s = true <;> [simp [blockSnoop, hq]; (rw [blockSnoop, if_neg hq]; refine foldl_keeps (·.plan) _ (fun u a => ?_) _ _; simp only []; split <;> split <;> simp only [vsnoop_keeps, foldl_plan, implies_true])], by by_cases hq : quiet s = true <;> [simp [blockSnoop, hq]; (rw [blockSnoop, if_neg hq]; refine foldl_keeps (·.roll) _ (fun u a => ?_) _ _; simp only []; split <;> split <;> simp only [vsnoop_keeps, foldl_roll, implies_true])], by by_cases hq : quiet s = true <;> [simp [blockSnoop, hq]; (rw [blockSnoop, if_neg hq]; refine foldl_keeps (·.changes) _ (fun u a => ?_) _ _; simp only []; split <;> split <;> simp only [vsnoop_keeps, foldl_changes, implies_true])], by by_cases hq : quiet s = true <;> [simp [blockSnoop, hq]; (rw [blockSnoop, if_neg hq]; refine foldl_keeps (·.hall) _ (fun u a => ?_) _ _; simp only []; split <;> split <;> simp only [vsnoop_keeps, foldl_hall, implies_true])], by by_cases hq : quiet s = true <;> [simp [blockSnoop, hq]; (rw [blockSnoop, if_neg hq]; refine foldl_keeps (·.gal) _ (fun u a => ?_) _ _; simp only []; split <;> split <;> simp only [vsnoop_keeps, foldl_gal, implies_true])], by by_cases hq : quiet s = true <;> [simp [blockSnoop, hq]; (rw [blockSnoop, if_neg hq]; refine foldl_keeps (·.galx) _ (fun u a => ?_) _ _; simp only []; split <;> split <;> simp only [vsnoop_keeps, foldl_galx, implies_true])], by by_cases hq : quiet s = true <;> [simp [blockSnoop, hq]; (rw [blockSnoop, if_neg hq]; refine foldl_keeps (·.dram) _ (fun u a => ?_) _ _; simp only []; split <;> split <;> simp only [vsnoop_keeps, foldl_dram, implies_true])], by by_cases hq : quiet s = true <;> [simp [blockSnoop, hq]; (rw [blockSnoop, if_neg hq]; refine foldl_keeps (·.net) _ (fun u a => ?_) _ _; simp only []; split <;> split <;> simp only [vsnoop_keeps, foldl_net, implies_true])], by by_cases hq : quiet s = true <;> [simp [blockSnoop, hq]; (rw [blockSnoop, if_neg hq]; refine foldl_keeps (·.hal) _ (fun u a => ?_) _ _; simp only []; split <;> split <;> simp only [vsnoop_keeps, foldl_hal, implies_true])], by by_cases hq : quiet s = true <;> [simp [blockSnoop, hq]; (rw [blockSnoop, if_neg hq]; refine foldl_keeps (·.lamp) _ (fun u a => ?_) _ _; simp only []; split <;> split <;> simp only [vsnoop_keeps, foldl_lamp, implies_true])], by by_cases hq : quiet s = true <;> [simp [blockSnoop, hq]; (rw [blockSnoop, if_neg hq]; refine foldl_keeps (·.power) _ (fun u a => ?_) _ _; simp only []; split <;> split <;> simp only [vsnoop_keeps, foldl_power, implies_true])], by by_cases hq : quiet s = true <;> [simp [blockSnoop, hq]; (rw [blockSnoop, if_neg hq]; refine foldl_keeps (·.fault) _ (fun u a => ?_) _ _; simp only []; split <;> split <;> simp only [vsnoop_keeps, foldl_fault, implies_true])]⟩

@[simp] theorem normSnoop_keeps (s : State) (asid : Nat) (b : Bytes) :
    (normSnoop s asid b).pending = s.pending ∧ (normSnoop s asid b).free = s.free ∧ (normSnoop s asid b).pins = s.pins ∧ (normSnoop s asid b).boot = s.boot ∧ (normSnoop s asid b).clock = s.clock ∧ (normSnoop s asid b).plan = s.plan ∧ (normSnoop s asid b).roll = s.roll ∧ (normSnoop s asid b).changes = s.changes ∧ (normSnoop s asid b).hall = s.hall ∧ (normSnoop s asid b).gal = s.gal ∧ (normSnoop s asid b).galx = s.galx ∧ (normSnoop s asid b).dram = s.dram ∧ (normSnoop s asid b).net = s.net ∧ (normSnoop s asid b).hal = s.hal ∧ (normSnoop s asid b).lamp = s.lamp ∧ (normSnoop s asid b).power = s.power ∧ (normSnoop s asid b).fault = s.fault := by simp only [normSnoop]; split <;> split <;> simp only [vsnoop_keeps, and_self]

@[simp] theorem freeWindow_keeps (s : State) (g : Nat) :
    (freeWindow s g).pending = s.pending ∧ (freeWindow s g).pins = s.pins ∧ (freeWindow s g).boot = s.boot ∧ (freeWindow s g).clock = s.clock ∧ (freeWindow s g).plan = s.plan ∧ (freeWindow s g).roll = s.roll ∧ (freeWindow s g).changes = s.changes ∧ (freeWindow s g).hall = s.hall ∧ (freeWindow s g).gal = s.gal ∧ (freeWindow s g).galx = s.galx ∧ (freeWindow s g).net = s.net ∧ (freeWindow s g).hal = s.hal ∧ (freeWindow s g).lamp = s.lamp ∧ (freeWindow s g).power = s.power ∧ (freeWindow s g).fault = s.fault := by unfold freeWindow; (repeat' split) <;> simp

@[simp] theorem windowUpdate_keeps (s : State) (line : Nat) :
    (windowUpdate s line).pending = s.pending ∧ (windowUpdate s line).free = s.free ∧ (windowUpdate s line).pins = s.pins ∧ (windowUpdate s line).boot = s.boot ∧ (windowUpdate s line).clock = s.clock ∧ (windowUpdate s line).plan = s.plan ∧ (windowUpdate s line).roll = s.roll ∧ (windowUpdate s line).changes = s.changes ∧ (windowUpdate s line).hall = s.hall ∧ (windowUpdate s line).gal = s.gal ∧ (windowUpdate s line).galx = s.galx ∧ (windowUpdate s line).dram = s.dram ∧ (windowUpdate s line).net = s.net ∧ (windowUpdate s line).hal = s.hal ∧ (windowUpdate s line).lamp = s.lamp ∧ (windowUpdate s line).power = s.power ∧ (windowUpdate s line).fault = s.fault := by simp [windowUpdate]

@[simp] theorem countDone_keeps (s : State) (sid : Nat) :
    (countDone s sid).pending = s.pending ∧ (countDone s sid).free = s.free ∧ (countDone s sid).out = s.out ∧ (countDone s sid).pins = s.pins ∧ (countDone s sid).boot = s.boot ∧ (countDone s sid).clock = s.clock ∧ (countDone s sid).plan = s.plan ∧ (countDone s sid).changes = s.changes ∧ (countDone s sid).hall = s.hall ∧ (countDone s sid).gal = s.gal ∧ (countDone s sid).galx = s.galx ∧ (countDone s sid).dram = s.dram ∧ (countDone s sid).net = s.net ∧ (countDone s sid).cxl = s.cxl ∧ (countDone s sid).hal = s.hal ∧ (countDone s sid).lamp = s.lamp ∧ (countDone s sid).power = s.power ∧ (countDone s sid).fault = s.fault := by simp [countDone]

@[simp] theorem dropOutstanding_keeps (s : State) (ring idx : Nat) :
    (dropOutstanding s ring idx).pending = s.pending ∧ (dropOutstanding s ring idx).free = s.free ∧ (dropOutstanding s ring idx).out = s.out ∧ (dropOutstanding s ring idx).pins = s.pins ∧ (dropOutstanding s ring idx).boot = s.boot ∧ (dropOutstanding s ring idx).clock = s.clock ∧ (dropOutstanding s ring idx).plan = s.plan ∧ (dropOutstanding s ring idx).roll = s.roll ∧ (dropOutstanding s ring idx).changes = s.changes ∧ (dropOutstanding s ring idx).hall = s.hall ∧ (dropOutstanding s ring idx).gal = s.gal ∧ (dropOutstanding s ring idx).galx = s.galx ∧ (dropOutstanding s ring idx).dram = s.dram ∧ (dropOutstanding s ring idx).net = s.net ∧ (dropOutstanding s ring idx).hal = s.hal ∧ (dropOutstanding s ring idx).lamp = s.lamp ∧ (dropOutstanding s ring idx).power = s.power ∧ (dropOutstanding s ring idx).fault = s.fault := by simp [dropOutstanding]

@[simp] theorem completeRaw_keeps (s : State) (ring idx : Nat) (bytes : Bytes) (part : Nat) (sid : Nat) (st gal recs : Nat) :
    (completeRaw s ring idx bytes part sid st gal recs).pending = s.pending ∧ (completeRaw s ring idx bytes part sid st gal recs).free = s.free ∧ (completeRaw s ring idx bytes part sid st gal recs).pins = s.pins ∧ (completeRaw s ring idx bytes part sid st gal recs).clock = s.clock ∧ (completeRaw s ring idx bytes part sid st gal recs).plan = s.plan ∧ (completeRaw s ring idx bytes part sid st gal recs).roll = s.roll ∧ (completeRaw s ring idx bytes part sid st gal recs).changes = s.changes ∧ (completeRaw s ring idx bytes part sid st gal recs).gal = s.gal ∧ (completeRaw s ring idx bytes part sid st gal recs).galx = s.galx ∧ (completeRaw s ring idx bytes part sid st gal recs).dram = s.dram ∧ (completeRaw s ring idx bytes part sid st gal recs).net = s.net ∧ (completeRaw s ring idx bytes part sid st gal recs).hal = s.hal ∧ (completeRaw s ring idx bytes part sid st gal recs).lamp.fuses = s.lamp.fuses ∧ (completeRaw s ring idx bytes part sid st gal recs).power = s.power := by simp [completeRaw]

@[simp] theorem completeItem_keeps (s : State) (it : Item) (st gal recs : Nat) :
    (completeItem s it st gal recs).pending = s.pending ∧ (completeItem s it st gal recs).free = s.free ∧ (completeItem s it st gal recs).pins = s.pins ∧ (completeItem s it st gal recs).clock = s.clock ∧ (completeItem s it st gal recs).plan = s.plan ∧ (completeItem s it st gal recs).changes = s.changes ∧ (completeItem s it st gal recs).gal = s.gal ∧ (completeItem s it st gal recs).galx = s.galx ∧ (completeItem s it st gal recs).dram = s.dram ∧ (completeItem s it st gal recs).net = s.net ∧ (completeItem s it st gal recs).hal = s.hal ∧ (completeItem s it st gal recs).lamp.fuses = s.lamp.fuses ∧ (completeItem s it st gal recs).power = s.power := by simp [completeItem]

@[simp] theorem wipeMemories_keeps (s : State) (g : Nat) :
    (wipeMemories s g).pending = s.pending ∧ (wipeMemories s g).free = s.free ∧ (wipeMemories s g).out = s.out ∧ (wipeMemories s g).pins = s.pins ∧ (wipeMemories s g).boot = s.boot ∧ (wipeMemories s g).clock = s.clock ∧ (wipeMemories s g).plan = s.plan ∧ (wipeMemories s g).roll = s.roll ∧ (wipeMemories s g).changes = s.changes ∧ (wipeMemories s g).hall = s.hall ∧ (wipeMemories s g).galx = s.galx ∧ (wipeMemories s g).dram = s.dram ∧ (wipeMemories s g).net = s.net ∧ (wipeMemories s g).cxl = s.cxl ∧ (wipeMemories s g).hal = s.hal ∧ (wipeMemories s g).lamp = s.lamp ∧ (wipeMemories s g).power = s.power ∧ (wipeMemories s g).fault = s.fault := by simp [wipeMemories]

@[simp] theorem wipeGallery_keeps (s : State) (g : Nat) :
    (wipeGallery s g).pending = s.pending ∧ (wipeGallery s g).free = s.free ∧ (wipeGallery s g).out = s.out ∧ (wipeGallery s g).pins = s.pins ∧ (wipeGallery s g).boot = s.boot ∧ (wipeGallery s g).clock = s.clock ∧ (wipeGallery s g).plan = s.plan ∧ (wipeGallery s g).roll = s.roll ∧ (wipeGallery s g).changes = s.changes ∧ (wipeGallery s g).hall = s.hall ∧ (wipeGallery s g).dram = s.dram ∧ (wipeGallery s g).net = s.net ∧ (wipeGallery s g).cxl = s.cxl ∧ (wipeGallery s g).hal = s.hal ∧ (wipeGallery s g).lamp = s.lamp ∧ (wipeGallery s g).power = s.power ∧ (wipeGallery s g).fault = s.fault := by simp [wipeGallery]

@[simp] theorem dropCode_keeps (s : State) (g : Nat) :
    (dropCode s g).pending = s.pending ∧ (dropCode s g).free = s.free ∧ (dropCode s g).out = s.out ∧ (dropCode s g).pins = s.pins ∧ (dropCode s g).boot = s.boot ∧ (dropCode s g).clock = s.clock ∧ (dropCode s g).plan = s.plan ∧ (dropCode s g).roll = s.roll ∧ (dropCode s g).changes = s.changes ∧ (dropCode s g).hall = s.hall ∧ (dropCode s g).galx = s.galx ∧ (dropCode s g).dram = s.dram ∧ (dropCode s g).net = s.net ∧ (dropCode s g).cxl = s.cxl ∧ (dropCode s g).hal = s.hal ∧ (dropCode s g).lamp = s.lamp ∧ (dropCode s g).power = s.power ∧ (dropCode s g).fault = s.fault := by simp [dropCode]

@[simp] theorem resetGallery_keeps (s : State) (g : Nat) :
    (resetGallery s g).pending = s.pending ∧ (resetGallery s g).free = s.free ∧ (resetGallery s g).out = s.out ∧ (resetGallery s g).pins = s.pins ∧ (resetGallery s g).boot = s.boot ∧ (resetGallery s g).clock = s.clock ∧ (resetGallery s g).plan = s.plan ∧ (resetGallery s g).roll = s.roll ∧ (resetGallery s g).changes = s.changes ∧ (resetGallery s g).hall = s.hall ∧ (resetGallery s g).dram = s.dram ∧ (resetGallery s g).net = s.net ∧ (resetGallery s g).cxl = s.cxl ∧ (resetGallery s g).hal = s.hal ∧ (resetGallery s g).lamp = s.lamp ∧ (resetGallery s g).power = s.power ∧ (resetGallery s g).fault = s.fault := by simp [resetGallery]

@[simp] theorem discardTxs_keeps (s : State) (g : Nat) :
    (discardTxs s g).pending = s.pending ∧ (discardTxs s g).free = s.free ∧ (discardTxs s g).out = s.out ∧ (discardTxs s g).pins = s.pins ∧ (discardTxs s g).boot = s.boot ∧ (discardTxs s g).clock = s.clock ∧ (discardTxs s g).plan = s.plan ∧ (discardTxs s g).roll = s.roll ∧ (discardTxs s g).changes = s.changes ∧ (discardTxs s g).gal = s.gal ∧ (discardTxs s g).dram = s.dram ∧ (discardTxs s g).net = s.net ∧ (discardTxs s g).cxl = s.cxl ∧ (discardTxs s g).hal = s.hal ∧ (discardTxs s g).lamp = s.lamp ∧ (discardTxs s g).power = s.power ∧ (discardTxs s g).fault = s.fault := by simp [discardTxs]

@[simp] theorem emptyFetches_keeps (s : State) (g : Nat) :
    (emptyFetches s g).pending = s.pending ∧ (emptyFetches s g).free = s.free ∧ (emptyFetches s g).out = s.out ∧ (emptyFetches s g).pins = s.pins ∧ (emptyFetches s g).boot = s.boot ∧ (emptyFetches s g).clock = s.clock ∧ (emptyFetches s g).plan = s.plan ∧ (emptyFetches s g).roll = s.roll ∧ (emptyFetches s g).changes = s.changes ∧ (emptyFetches s g).hall = s.hall ∧ (emptyFetches s g).galx = s.galx ∧ (emptyFetches s g).dram = s.dram ∧ (emptyFetches s g).net = s.net ∧ (emptyFetches s g).cxl = s.cxl ∧ (emptyFetches s g).hal = s.hal ∧ (emptyFetches s g).lamp = s.lamp ∧ (emptyFetches s g).power = s.power ∧ (emptyFetches s g).fault = s.fault := by simp [emptyFetches]

@[simp] theorem stopMacro_keeps (s : State) (g : Nat) :
    (stopMacro s g).pending = s.pending ∧ (stopMacro s g).free = s.free ∧ (stopMacro s g).out = s.out ∧ (stopMacro s g).pins = s.pins ∧ (stopMacro s g).boot = s.boot ∧ (stopMacro s g).clock = s.clock ∧ (stopMacro s g).plan = s.plan ∧ (stopMacro s g).roll = s.roll ∧ (stopMacro s g).changes = s.changes ∧ (stopMacro s g).hall = s.hall ∧ (stopMacro s g).dram = s.dram ∧ (stopMacro s g).net = s.net ∧ (stopMacro s g).cxl = s.cxl ∧ (stopMacro s g).hal = s.hal ∧ (stopMacro s g).lamp = s.lamp ∧ (stopMacro s g).power = s.power ∧ (stopMacro s g).fault = s.fault := by unfold stopMacro; (repeat' split) <;> simp

@[simp] theorem countBeats_keeps (s : State) (sid : Nat) :
    (countBeats s sid).pending = s.pending ∧ (countBeats s sid).out = s.out ∧ (countBeats s sid).pins = s.pins ∧ (countBeats s sid).boot = s.boot ∧ (countBeats s sid).clock = s.clock ∧ (countBeats s sid).plan = s.plan ∧ (countBeats s sid).changes = s.changes ∧ (countBeats s sid).hall = s.hall ∧ (countBeats s sid).gal = s.gal ∧ (countBeats s sid).galx = s.galx ∧ (countBeats s sid).dram = s.dram ∧ (countBeats s sid).net = s.net ∧ (countBeats s sid).cxl = s.cxl ∧ (countBeats s sid).hal = s.hal ∧ (countBeats s sid).lamp = s.lamp ∧ (countBeats s sid).power = s.power ∧ (countBeats s sid).fault = s.fault := by simp [countBeats]

@[simp] theorem endTask_keeps (s : State) (g st : Nat) :
    (endTask s g st).pending = s.pending ∧ (endTask s g st).pins = s.pins ∧ (endTask s g st).clock = s.clock ∧ (endTask s g st).plan = s.plan ∧ (endTask s g st).changes = s.changes ∧ (endTask s g st).dram = s.dram ∧ (endTask s g st).net = s.net ∧ (endTask s g st).hal = s.hal ∧ (endTask s g st).lamp.fuses = s.lamp.fuses ∧ (endTask s g st).power = s.power := by unfold endTask; (repeat' split) <;> simp

@[simp] theorem abortTask_keeps (s : State) (g st : Nat) :
    (abortTask s g st).pending = s.pending ∧ (abortTask s g st).pins = s.pins ∧ (abortTask s g st).clock = s.clock ∧ (abortTask s g st).plan = s.plan ∧ (abortTask s g st).changes = s.changes ∧ (abortTask s g st).net = s.net ∧ (abortTask s g st).hal = s.hal ∧ (abortTask s g st).lamp.fuses = s.lamp.fuses ∧ (abortTask s g st).power = s.power := by unfold abortTask; (repeat' split) <;> simp

@[simp] theorem setQuarantined_keeps (s : State) (g : Nat) :
    (setQuarantined s g).pending = s.pending ∧ (setQuarantined s g).free = s.free ∧ (setQuarantined s g).out = s.out ∧ (setQuarantined s g).pins = s.pins ∧ (setQuarantined s g).boot = s.boot ∧ (setQuarantined s g).clock = s.clock ∧ (setQuarantined s g).plan = s.plan ∧ (setQuarantined s g).roll = s.roll ∧ (setQuarantined s g).changes = s.changes ∧ (setQuarantined s g).hall = s.hall ∧ (setQuarantined s g).dram = s.dram ∧ (setQuarantined s g).net = s.net ∧ (setQuarantined s g).cxl = s.cxl ∧ (setQuarantined s g).hal.dict = s.hal.dict ∧ (setQuarantined s g).hal.serving = s.hal.serving ∧ (setQuarantined s g).hal.sess = s.hal.sess ∧ (setQuarantined s g).lamp = s.lamp ∧ (setQuarantined s g).power = s.power ∧ (setQuarantined s g).fault = s.fault := by simp [setQuarantined]

@[simp] theorem updPhys_keeps (s : State) (g p : Nat) (f : Phys → Phys) :
    (updPhys s g p f).pending = s.pending ∧ (updPhys s g p f).free = s.free ∧ (updPhys s g p f).out = s.out ∧ (updPhys s g p f).pins = s.pins ∧ (updPhys s g p f).boot = s.boot ∧ (updPhys s g p f).clock = s.clock ∧ (updPhys s g p f).plan = s.plan ∧ (updPhys s g p f).roll = s.roll ∧ (updPhys s g p f).changes = s.changes ∧ (updPhys s g p f).hall = s.hall ∧ (updPhys s g p f).gal = s.gal ∧ (updPhys s g p f).dram = s.dram ∧ (updPhys s g p f).net = s.net ∧ (updPhys s g p f).cxl = s.cxl ∧ (updPhys s g p f).hal = s.hal ∧ (updPhys s g p f).lamp = s.lamp ∧ (updPhys s g p f).power = s.power ∧ (updPhys s g p f).fault = s.fault := by simp [updPhys]

@[simp] theorem lanternDead_keeps (s : State) (g p : Nat) :
    (lanternDead s g p).pending = s.pending ∧ (lanternDead s g p).pins = s.pins ∧ (lanternDead s g p).clock = s.clock ∧ (lanternDead s g p).plan = s.plan ∧ (lanternDead s g p).changes = s.changes ∧ (lanternDead s g p).net = s.net ∧ (lanternDead s g p).hal.dict = s.hal.dict ∧ (lanternDead s g p).hal.serving = s.hal.serving ∧ (lanternDead s g p).hal.sess = s.hal.sess ∧ (lanternDead s g p).lamp.fuses = s.lamp.fuses ∧ (lanternDead s g p).power = s.power := by simp only [lanternDead]; (repeat' split) <;> simp

@[simp] theorem declareDying_keeps (s : State) (g : Nat) :
    (declareDying s g).pending = s.pending ∧ (declareDying s g).pins = s.pins ∧ (declareDying s g).clock = s.clock ∧ (declareDying s g).plan = s.plan ∧ (declareDying s g).changes = s.changes ∧ (declareDying s g).net = s.net ∧ (declareDying s g).hal.dict = s.hal.dict ∧ (declareDying s g).hal.serving = s.hal.serving ∧ (declareDying s g).hal.sess = s.hal.sess ∧ (declareDying s g).lamp.fuses = s.lamp.fuses ∧ (declareDying s g).power = s.power := by simp [declareDying]

@[simp] theorem taskBoundary_keeps (s : State) (g : Nat) :
    (taskBoundary s g).pending = s.pending ∧ (taskBoundary s g).pins = s.pins ∧ (taskBoundary s g).clock = s.clock ∧ (taskBoundary s g).plan = s.plan ∧ (taskBoundary s g).changes = s.changes ∧ (taskBoundary s g).net = s.net ∧ (taskBoundary s g).hal.dict = s.hal.dict ∧ (taskBoundary s g).hal.serving = s.hal.serving ∧ (taskBoundary s g).hal.sess = s.hal.sess ∧ (taskBoundary s g).lamp.fuses = s.lamp.fuses ∧ (taskBoundary s g).power = s.power := by simp [taskBoundary]

@[simp] theorem finishTask_keeps (s : State) (g : Nat) :
    (finishTask s g).pending = s.pending ∧ (finishTask s g).pins = s.pins ∧ (finishTask s g).clock = s.clock ∧ (finishTask s g).plan = s.plan ∧ (finishTask s g).changes = s.changes ∧ (finishTask s g).net = s.net ∧ (finishTask s g).hal.dict = s.hal.dict ∧ (finishTask s g).hal.serving = s.hal.serving ∧ (finishTask s g).hal.sess = s.hal.sess ∧ (finishTask s g).lamp.fuses = s.lamp.fuses ∧ (finishTask s g).power = s.power := by unfold finishTask; (repeat' split) <;> simp

@[simp] theorem killTask_keeps (s : State) (g st : Nat) :
    (killTask s g st).pending = s.pending ∧ (killTask s g st).pins = s.pins ∧ (killTask s g st).clock = s.clock ∧ (killTask s g st).plan = s.plan ∧ (killTask s g st).changes = s.changes ∧ (killTask s g st).net = s.net ∧ (killTask s g st).hal.dict = s.hal.dict ∧ (killTask s g st).hal.serving = s.hal.serving ∧ (killTask s g st).hal.sess = s.hal.sess ∧ (killTask s g st).lamp.fuses = s.lamp.fuses ∧ (killTask s g st).power = s.power := by simp [killTask]

@[simp] theorem killNow_keeps (s : State) (g st : Nat) :
    (killNow s g st).pending = s.pending ∧ (killNow s g st).pins = s.pins ∧ (killNow s g st).clock = s.clock ∧ (killNow s g st).plan = s.plan ∧ (killNow s g st).changes = s.changes ∧ (killNow s g st).net = s.net ∧ (killNow s g st).hal.dict = s.hal.dict ∧ (killNow s g st).hal.serving = s.hal.serving ∧ (killNow s g st).hal.sess = s.hal.sess ∧ (killNow s g st).lamp.fuses = s.lamp.fuses ∧ (killNow s g st).power = s.power := by simp [killNow]

@[simp] theorem lanternLost_keeps (s : State) (g p : Nat) :
    (lanternLost s g p).pending = s.pending ∧ (lanternLost s g p).pins = s.pins ∧ (lanternLost s g p).clock = s.clock ∧ (lanternLost s g p).plan = s.plan ∧ (lanternLost s g p).changes = s.changes ∧ (lanternLost s g p).net = s.net ∧ (lanternLost s g p).hal.dict = s.hal.dict ∧ (lanternLost s g p).hal.serving = s.hal.serving ∧ (lanternLost s g p).hal.sess = s.hal.sess ∧ (lanternLost s g p).lamp.fuses = s.lamp.fuses ∧ (lanternLost s g p).power = s.power := by simp [lanternLost]

@[simp] theorem quarantine_keeps (s : State) (g st : Nat) :
    (quarantine s g st).pending = s.pending ∧ (quarantine s g st).pins = s.pins ∧ (quarantine s g st).clock = s.clock ∧ (quarantine s g st).plan = s.plan ∧ (quarantine s g st).changes = s.changes ∧ (quarantine s g st).net = s.net ∧ (quarantine s g st).hal.dict = s.hal.dict ∧ (quarantine s g st).hal.serving = s.hal.serving ∧ (quarantine s g st).hal.sess = s.hal.sess ∧ (quarantine s g st).lamp.fuses = s.lamp.fuses ∧ (quarantine s g st).power = s.power := by simp [quarantine]

@[simp] theorem lateResponse_keeps (s : State) (f : Option Nat) :
    (lateResponse s f).pending = s.pending ∧ (lateResponse s f).free = s.free ∧ (lateResponse s f).out = s.out ∧ (lateResponse s f).pins = s.pins ∧ (lateResponse s f).boot = s.boot ∧ (lateResponse s f).clock = s.clock ∧ (lateResponse s f).plan = s.plan ∧ (lateResponse s f).roll = s.roll ∧ (lateResponse s f).changes = s.changes ∧ (lateResponse s f).hall = s.hall ∧ (lateResponse s f).gal = s.gal ∧ (lateResponse s f).galx = s.galx ∧ (lateResponse s f).dram = s.dram ∧ (lateResponse s f).cxl = s.cxl ∧ (lateResponse s f).hal = s.hal ∧ (lateResponse s f).lamp = s.lamp ∧ (lateResponse s f).power = s.power ∧ (lateResponse s f).fault = s.fault := by unfold lateResponse; (repeat' split) <;> simp

@[simp] theorem unstick_keeps (s : State) (x : StuckMsg) :
    (unstick s x).pending = s.pending ∧ (unstick s x).free = s.free ∧ (unstick s x).out = s.out ∧ (unstick s x).pins = s.pins ∧ (unstick s x).boot = s.boot ∧ (unstick s x).clock = s.clock ∧ (unstick s x).plan = s.plan ∧ (unstick s x).roll = s.roll ∧ (unstick s x).changes = s.changes ∧ (unstick s x).hall = s.hall ∧ (unstick s x).gal = s.gal ∧ (unstick s x).galx = s.galx ∧ (unstick s x).dram = s.dram ∧ (unstick s x).cxl = s.cxl ∧ (unstick s x).hal = s.hal ∧ (unstick s x).lamp = s.lamp ∧ (unstick s x).power = s.power ∧ (unstick s x).fault = s.fault := by simp [unstick]

@[simp] theorem flushLanding_keeps (s : State) (h : Nat) :
    (flushLanding s h).pending = s.pending ∧ (flushLanding s h).free = s.free ∧ (flushLanding s h).pins = s.pins ∧ (flushLanding s h).boot = s.boot ∧ (flushLanding s h).clock = s.clock ∧ (flushLanding s h).plan = s.plan ∧ (flushLanding s h).roll = s.roll ∧ (flushLanding s h).changes = s.changes ∧ (flushLanding s h).gal = s.gal ∧ (flushLanding s h).galx = s.galx ∧ (flushLanding s h).hal = s.hal ∧ (flushLanding s h).lamp = s.lamp ∧ (flushLanding s h).power = s.power ∧ (flushLanding s h).fault = s.fault := by simp [flushLanding]

@[simp] theorem haltRings_keeps (s : State) (h st : Nat) :
    (haltRings s h st).pending = s.pending ∧ (haltRings s h st).free = s.free ∧ (haltRings s h st).pins = s.pins ∧ (haltRings s h st).boot = s.boot ∧ (haltRings s h st).clock = s.clock ∧ (haltRings s h st).plan = s.plan ∧ (haltRings s h st).roll = s.roll ∧ (haltRings s h st).changes = s.changes ∧ (haltRings s h st).hall = s.hall ∧ (haltRings s h st).gal = s.gal ∧ (haltRings s h st).galx = s.galx ∧ (haltRings s h st).dram = s.dram ∧ (haltRings s h st).net = s.net ∧ (haltRings s h st).hal = s.hal ∧ (haltRings s h st).lamp = s.lamp ∧ (haltRings s h st).power = s.power ∧ (haltRings s h st).fault = s.fault := by simp [haltRings]

@[simp] theorem completeRead_keeps (s : State) (r idx : Nat) (b : Bytes) (st : Nat) :
    (completeRead s r idx b st).pending = s.pending ∧ (completeRead s r idx b st).free = s.free ∧ (completeRead s r idx b st).pins = s.pins ∧ (completeRead s r idx b st).clock = s.clock ∧ (completeRead s r idx b st).plan = s.plan ∧ (completeRead s r idx b st).roll = s.roll ∧ (completeRead s r idx b st).changes = s.changes ∧ (completeRead s r idx b st).gal = s.gal ∧ (completeRead s r idx b st).galx = s.galx ∧ (completeRead s r idx b st).dram = s.dram ∧ (completeRead s r idx b st).net = s.net ∧ (completeRead s r idx b st).hal = s.hal ∧ (completeRead s r idx b st).lamp.fuses = s.lamp.fuses ∧ (completeRead s r idx b st).power = s.power := by simp [completeRead]

@[simp] theorem completePending_keeps (s : State) (h st : Nat) :
    (completePending s h st).pending = s.pending ∧ (completePending s h st).free = s.free ∧ (completePending s h st).pins = s.pins ∧ (completePending s h st).clock = s.clock ∧ (completePending s h st).plan = s.plan ∧ (completePending s h st).changes = s.changes ∧ (completePending s h st).gal = s.gal ∧ (completePending s h st).galx = s.galx ∧ (completePending s h st).dram = s.dram ∧ (completePending s h st).net = s.net ∧ (completePending s h st).hal = s.hal ∧ (completePending s h st).lamp.fuses = s.lamp.fuses ∧ (completePending s h st).power = s.power := by simp [completePending]

@[simp] theorem haltHall_keeps (s : State) (h st : Nat) :
    (haltHall s h st).pending = s.pending ∧ (haltHall s h st).pins = s.pins ∧ (haltHall s h st).clock = s.clock ∧ (haltHall s h st).plan = s.plan ∧ (haltHall s h st).changes = s.changes ∧ (haltHall s h st).hal.dict = s.hal.dict ∧ (haltHall s h st).hal.serving = s.hal.serving ∧ (haltHall s h st).hal.sess = s.hal.sess ∧ (haltHall s h st).lamp.fuses = s.lamp.fuses ∧ (haltHall s h st).power = s.power := by simp [haltHall]

@[simp] theorem raise_keeps (s : State) (p : Rep) :
    (raise s p).pending = s.pending ∧ (raise s p).pins = s.pins ∧ (raise s p).clock = s.clock ∧ (raise s p).plan = s.plan ∧ (raise s p).changes = s.changes ∧ (raise s p).hal.dict = s.hal.dict ∧ (raise s p).hal.serving = s.hal.serving ∧ (raise s p).hal.sess = s.hal.sess ∧ (raise s p).lamp.fuses = s.lamp.fuses ∧ (raise s p).power = s.power := by simp [raise]

@[simp] theorem reportFree_keeps (s : State) (p : Rep) :
    (reportFree s p).pending = s.pending ∧ (reportFree s p).pins = s.pins ∧ (reportFree s p).clock = s.clock ∧ (reportFree s p).plan = s.plan ∧ (reportFree s p).roll = s.roll ∧ (reportFree s p).changes = s.changes ∧ (reportFree s p).gal = s.gal ∧ (reportFree s p).galx = s.galx ∧ (reportFree s p).dram = s.dram ∧ (reportFree s p).net = s.net ∧ (reportFree s p).hal = s.hal ∧ (reportFree s p).lamp.fuses = s.lamp.fuses ∧ (reportFree s p).power = s.power ∧ (reportFree s p).cxl.up = s.cxl.up ∧ (reportFree s p).cxl.tsp = s.cxl.tsp ∧ (reportFree s p).cxl.rings = s.cxl.rings := by simp [reportFree]

@[simp] theorem sendTread_keeps (s : State) (f ty : Nat) (seq : BitVec 12) (t : WTread) :
    (sendTread s f ty seq t).pending = s.pending ∧ (sendTread s f ty seq t).free = s.free ∧ (sendTread s f ty seq t).pins = s.pins ∧ (sendTread s f ty seq t).boot = s.boot ∧ (sendTread s f ty seq t).clock = s.clock ∧ (sendTread s f ty seq t).plan = s.plan ∧ (sendTread s f ty seq t).roll = s.roll ∧ (sendTread s f ty seq t).changes = s.changes ∧ (sendTread s f ty seq t).hall = s.hall ∧ (sendTread s f ty seq t).gal = s.gal ∧ (sendTread s f ty seq t).galx = s.galx ∧ (sendTread s f ty seq t).dram = s.dram ∧ (sendTread s f ty seq t).cxl = s.cxl ∧ (sendTread s f ty seq t).hal = s.hal ∧ (sendTread s f ty seq t).lamp = s.lamp ∧ (sendTread s f ty seq t).power = s.power ∧ (sendTread s f ty seq t).fault = s.fault := by simp [sendTread]

@[simp] theorem sendLinkControl_keeps (s : State) (f : Nat) :
    (sendLinkControl s f).pending = s.pending ∧ (sendLinkControl s f).free = s.free ∧ (sendLinkControl s f).pins = s.pins ∧ (sendLinkControl s f).boot = s.boot ∧ (sendLinkControl s f).clock = s.clock ∧ (sendLinkControl s f).plan = s.plan ∧ (sendLinkControl s f).roll = s.roll ∧ (sendLinkControl s f).changes = s.changes ∧ (sendLinkControl s f).hall = s.hall ∧ (sendLinkControl s f).gal = s.gal ∧ (sendLinkControl s f).galx = s.galx ∧ (sendLinkControl s f).dram = s.dram ∧ (sendLinkControl s f).cxl = s.cxl ∧ (sendLinkControl s f).hal = s.hal ∧ (sendLinkControl s f).lamp = s.lamp ∧ (sendLinkControl s f).power = s.power ∧ (sendLinkControl s f).fault = s.fault := by simp [sendLinkControl]

@[simp] theorem freeSlot_keeps (s : State) (t : WTread) :
    (freeSlot s t).pending = s.pending ∧ (freeSlot s t).free = s.free ∧ (freeSlot s t).out = s.out ∧ (freeSlot s t).pins = s.pins ∧ (freeSlot s t).boot = s.boot ∧ (freeSlot s t).clock = s.clock ∧ (freeSlot s t).plan = s.plan ∧ (freeSlot s t).roll = s.roll ∧ (freeSlot s t).changes = s.changes ∧ (freeSlot s t).hall = s.hall ∧ (freeSlot s t).gal = s.gal ∧ (freeSlot s t).galx = s.galx ∧ (freeSlot s t).dram = s.dram ∧ (freeSlot s t).cxl = s.cxl ∧ (freeSlot s t).hal = s.hal ∧ (freeSlot s t).lamp = s.lamp ∧ (freeSlot s t).power = s.power ∧ (freeSlot s t).fault = s.fault := by simp [freeSlot]

@[simp] theorem noteLeft_keeps (s : State) (n : Option (Nat × Nat × Nat)) (st : Nat) :
    (noteLeft s n st).pending = s.pending ∧ (noteLeft s n st).free = s.free ∧ (noteLeft s n st).pins = s.pins ∧ (noteLeft s n st).clock = s.clock ∧ (noteLeft s n st).plan = s.plan ∧ (noteLeft s n st).changes = s.changes ∧ (noteLeft s n st).gal = s.gal ∧ (noteLeft s n st).galx = s.galx ∧ (noteLeft s n st).dram = s.dram ∧ (noteLeft s n st).net = s.net ∧ (noteLeft s n st).hal = s.hal ∧ (noteLeft s n st).lamp.fuses = s.lamp.fuses ∧ (noteLeft s n st).power = s.power := by unfold noteLeft; (repeat' split) <;> simp

@[simp] theorem pumpOne_keeps (s : State) (f : Nat) :
    (pumpOne s f).pending = s.pending ∧ (pumpOne s f).free = s.free ∧ (pumpOne s f).pins = s.pins ∧ (pumpOne s f).clock = s.clock ∧ (pumpOne s f).plan = s.plan ∧ (pumpOne s f).changes = s.changes ∧ (pumpOne s f).gal = s.gal ∧ (pumpOne s f).galx = s.galx ∧ (pumpOne s f).dram = s.dram ∧ (pumpOne s f).hal = s.hal ∧ (pumpOne s f).lamp.fuses = s.lamp.fuses ∧ (pumpOne s f).power = s.power := by simp only [pumpOne]; (repeat' split) <;> simp

@[simp] theorem pump_keeps (s : State) (f : Nat) :
    (pump s f).pending = s.pending ∧ (pump s f).free = s.free ∧ (pump s f).pins = s.pins ∧ (pump s f).clock = s.clock ∧ (pump s f).plan = s.plan ∧ (pump s f).changes = s.changes ∧ (pump s f).gal = s.gal ∧ (pump s f).galx = s.galx ∧ (pump s f).dram = s.dram ∧ (pump s f).hal = s.hal ∧ (pump s f).lamp.fuses = s.lamp.fuses ∧ (pump s f).power = s.power := by simp [pump]

@[simp] theorem sendMsg_keeps (s : State) (m : Msg) (note : Option (Nat × Nat × Nat)) :
    (sendMsg s m note).1.pending = s.pending ∧ (sendMsg s m note).1.free = s.free ∧ (sendMsg s m note).1.pins = s.pins ∧ (sendMsg s m note).1.clock = s.clock ∧ (sendMsg s m note).1.plan = s.plan ∧ (sendMsg s m note).1.changes = s.changes ∧ (sendMsg s m note).1.gal = s.gal ∧ (sendMsg s m note).1.galx = s.galx ∧ (sendMsg s m note).1.dram = s.dram ∧ (sendMsg s m note).1.hal = s.hal ∧ (sendMsg s m note).1.lamp.fuses = s.lamp.fuses ∧ (sendMsg s m note).1.power = s.power := by unfold sendMsg; (repeat' split) <;> simp

@[simp] theorem resendFrom_keeps (s : State) (f : Nat) (seq : BitVec 12) :
    (resendFrom s f seq).pending = s.pending ∧ (resendFrom s f seq).free = s.free ∧ (resendFrom s f seq).pins = s.pins ∧ (resendFrom s f seq).boot = s.boot ∧ (resendFrom s f seq).clock = s.clock ∧ (resendFrom s f seq).plan = s.plan ∧ (resendFrom s f seq).roll = s.roll ∧ (resendFrom s f seq).changes = s.changes ∧ (resendFrom s f seq).hall = s.hall ∧ (resendFrom s f seq).gal = s.gal ∧ (resendFrom s f seq).galx = s.galx ∧ (resendFrom s f seq).dram = s.dram ∧ (resendFrom s f seq).cxl = s.cxl ∧ (resendFrom s f seq).hal = s.hal ∧ (resendFrom s f seq).lamp = s.lamp ∧ (resendFrom s f seq).power = s.power ∧ (resendFrom s f seq).fault = s.fault := by simp [resendFrom]

@[simp] theorem cutShort_keeps (s : State) (f out vc left : Nat) :
    (cutShort s f out vc left).pending = s.pending ∧ (cutShort s f out vc left).free = s.free ∧ (cutShort s f out vc left).out = s.out ∧ (cutShort s f out vc left).pins = s.pins ∧ (cutShort s f out vc left).boot = s.boot ∧ (cutShort s f out vc left).clock = s.clock ∧ (cutShort s f out vc left).plan = s.plan ∧ (cutShort s f out vc left).roll = s.roll ∧ (cutShort s f out vc left).changes = s.changes ∧ (cutShort s f out vc left).hall = s.hall ∧ (cutShort s f out vc left).gal = s.gal ∧ (cutShort s f out vc left).galx = s.galx ∧ (cutShort s f out vc left).dram = s.dram ∧ (cutShort s f out vc left).cxl = s.cxl ∧ (cutShort s f out vc left).hal = s.hal ∧ (cutShort s f out vc left).lamp = s.lamp ∧ (cutShort s f out vc left).power = s.power ∧ (cutShort s f out vc left).fault = s.fault := by simp [cutShort]

@[simp] theorem cutAll_keeps (s : State) (f : Nat) :
    (cutAll s f).pending = s.pending ∧ (cutAll s f).free = s.free ∧ (cutAll s f).out = s.out ∧ (cutAll s f).pins = s.pins ∧ (cutAll s f).boot = s.boot ∧ (cutAll s f).clock = s.clock ∧ (cutAll s f).plan = s.plan ∧ (cutAll s f).roll = s.roll ∧ (cutAll s f).changes = s.changes ∧ (cutAll s f).hall = s.hall ∧ (cutAll s f).gal = s.gal ∧ (cutAll s f).galx = s.galx ∧ (cutAll s f).dram = s.dram ∧ (cutAll s f).cxl = s.cxl ∧ (cutAll s f).hal = s.hal ∧ (cutAll s f).lamp = s.lamp ∧ (cutAll s f).power = s.power ∧ (cutAll s f).fault = s.fault := by simp [cutAll]

@[simp] theorem dropFlight_keeps (s : State) (f st : Nat) :
    (dropFlight s f st).pending = s.pending ∧ (dropFlight s f st).free = s.free ∧ (dropFlight s f st).pins = s.pins ∧ (dropFlight s f st).clock = s.clock ∧ (dropFlight s f st).plan = s.plan ∧ (dropFlight s f st).changes = s.changes ∧ (dropFlight s f st).gal = s.gal ∧ (dropFlight s f st).galx = s.galx ∧ (dropFlight s f st).dram = s.dram ∧ (dropFlight s f st).hal = s.hal ∧ (dropFlight s f st).lamp.fuses = s.lamp.fuses ∧ (dropFlight s f st).power = s.power := by simp (disch := (first | (intro u a; (repeat' split) <;> simp; done) | (rintro ⟨u, b⟩ a; dsimp only; (repeat' split) <;> simp; done) | (intro u w t o n e; (try dsimp only at e); (repeat' split at e) <;> (cases e; try simp); done) | (intro u a b; (repeat' split) <;> simp; done) | (intro u a b e; (try dsimp only at e); (repeat' split at e) <;> (cases e; try simp); done) | (intro u a e; (try dsimp only at e); (repeat' split at e) <;> (cases e; try simp); done))) [dropFlight]

@[simp] theorem flightDown_keeps (s : State) (f : Nat) :
    (flightDown s f).pending = s.pending ∧ (flightDown s f).pins = s.pins ∧ (flightDown s f).clock = s.clock ∧ (flightDown s f).plan = s.plan ∧ (flightDown s f).changes = s.changes ∧ (flightDown s f).gal = s.gal ∧ (flightDown s f).galx = s.galx ∧ (flightDown s f).dram = s.dram ∧ (flightDown s f).hal = s.hal ∧ (flightDown s f).lamp.fuses = s.lamp.fuses ∧ (flightDown s f).power = s.power := by simp [flightDown]

@[simp] theorem retrain_keeps (s : State) (f : Nat) :
    (retrain s f).pending = s.pending ∧ (retrain s f).pins = s.pins ∧ (retrain s f).clock = s.clock ∧ (retrain s f).plan = s.plan ∧ (retrain s f).changes = s.changes ∧ (retrain s f).gal = s.gal ∧ (retrain s f).galx = s.galx ∧ (retrain s f).dram = s.dram ∧ (retrain s f).hal = s.hal ∧ (retrain s f).lamp.fuses = s.lamp.fuses ∧ (retrain s f).power = s.power := by simp [retrain]

@[simp] theorem resend_keeps (s : State) (f : Nat) (seq : BitVec 12) :
    (resend s f seq).pending = s.pending ∧ (resend s f seq).pins = s.pins ∧ (resend s f seq).clock = s.clock ∧ (resend s f seq).plan = s.plan ∧ (resend s f seq).changes = s.changes ∧ (resend s f seq).gal = s.gal ∧ (resend s f seq).galx = s.galx ∧ (resend s f seq).dram = s.dram ∧ (resend s f seq).hal = s.hal ∧ (resend s f seq).lamp.fuses = s.lamp.fuses ∧ (resend s f seq).power = s.power := by simp [resend]

@[simp] theorem linkUp_keeps (s : State) (f : Nat) (lanes : Byte) (neighbour : W16) :
    (linkUp s f lanes neighbour).pending = s.pending ∧ (linkUp s f lanes neighbour).pins = s.pins ∧ (linkUp s f lanes neighbour).clock = s.clock ∧ (linkUp s f lanes neighbour).plan = s.plan ∧ (linkUp s f lanes neighbour).roll = s.roll ∧ (linkUp s f lanes neighbour).changes = s.changes ∧ (linkUp s f lanes neighbour).gal = s.gal ∧ (linkUp s f lanes neighbour).galx = s.galx ∧ (linkUp s f lanes neighbour).dram = s.dram ∧ (linkUp s f lanes neighbour).hal = s.hal ∧ (linkUp s f lanes neighbour).lamp.fuses = s.lamp.fuses ∧ (linkUp s f lanes neighbour).power = s.power ∧ (linkUp s f lanes neighbour).cxl.up = s.cxl.up ∧ (linkUp s f lanes neighbour).cxl.tsp = s.cxl.tsp ∧ (linkUp s f lanes neighbour).cxl.rings = s.cxl.rings := by unfold linkUp; simp only []; (repeat' split) <;> simp

@[simp] theorem trainingDone_keeps (s : State) (f : Nat) (lanes : Byte) (neighbour : W16) :
    (trainingDone s f lanes neighbour).pending = s.pending ∧ (trainingDone s f lanes neighbour).pins = s.pins ∧ (trainingDone s f lanes neighbour).clock = s.clock ∧ (trainingDone s f lanes neighbour).plan = s.plan ∧ (trainingDone s f lanes neighbour).changes = s.changes ∧ (trainingDone s f lanes neighbour).gal = s.gal ∧ (trainingDone s f lanes neighbour).galx = s.galx ∧ (trainingDone s f lanes neighbour).dram = s.dram ∧ (trainingDone s f lanes neighbour).hal = s.hal ∧ (trainingDone s f lanes neighbour).lamp.fuses = s.lamp.fuses ∧ (trainingDone s f lanes neighbour).power = s.power := by simp [trainingDone]

@[simp] theorem retryTimeout_keeps (s : State) (f : Nat) :
    (retryTimeout s f).pending = s.pending ∧ (retryTimeout s f).pins = s.pins ∧ (retryTimeout s f).clock = s.clock ∧ (retryTimeout s f).plan = s.plan ∧ (retryTimeout s f).changes = s.changes ∧ (retryTimeout s f).gal = s.gal ∧ (retryTimeout s f).galx = s.galx ∧ (retryTimeout s f).dram = s.dram ∧ (retryTimeout s f).hal = s.hal ∧ (retryTimeout s f).lamp.fuses = s.lamp.fuses ∧ (retryTimeout s f).power = s.power := by unfold retryTimeout; (repeat' split) <;> simp

@[simp] theorem retrainDone_keeps (s : State) (f : Nat) (ok : Bool) :
    (retrainDone s f ok).pending = s.pending ∧ (retrainDone s f ok).pins = s.pins ∧ (retrainDone s f ok).clock = s.clock ∧ (retrainDone s f ok).plan = s.plan ∧ (retrainDone s f ok).changes = s.changes ∧ (retrainDone s f ok).gal = s.gal ∧ (retrainDone s f ok).galx = s.galx ∧ (retrainDone s f ok).dram = s.dram ∧ (retrainDone s f ok).hal = s.hal ∧ (retrainDone s f ok).lamp.fuses = s.lamp.fuses ∧ (retrainDone s f ok).power = s.power := by simp only [retrainDone]; (repeat' split) <;> simp

@[simp] theorem creditStall_keeps (s : State) (f vc : Nat) :
    (creditStall s f vc).pending = s.pending ∧ (creditStall s f vc).free = s.free ∧ (creditStall s f vc).pins = s.pins ∧ (creditStall s f vc).clock = s.clock ∧ (creditStall s f vc).plan = s.plan ∧ (creditStall s f vc).roll = s.roll ∧ (creditStall s f vc).changes = s.changes ∧ (creditStall s f vc).gal = s.gal ∧ (creditStall s f vc).galx = s.galx ∧ (creditStall s f vc).dram = s.dram ∧ (creditStall s f vc).hal = s.hal ∧ (creditStall s f vc).lamp.fuses = s.lamp.fuses ∧ (creditStall s f vc).power = s.power ∧ (creditStall s f vc).cxl.up = s.cxl.up ∧ (creditStall s f vc).cxl.tsp = s.cxl.tsp ∧ (creditStall s f vc).cxl.rings = s.cxl.rings := by unfold creditStall; (repeat' split) <;> simp

@[simp] theorem countDrop_keeps (s : State) (f : Nat) :
    (countDrop s f).pending = s.pending ∧ (countDrop s f).free = s.free ∧ (countDrop s f).out = s.out ∧ (countDrop s f).pins = s.pins ∧ (countDrop s f).boot = s.boot ∧ (countDrop s f).clock = s.clock ∧ (countDrop s f).plan = s.plan ∧ (countDrop s f).roll = s.roll ∧ (countDrop s f).changes = s.changes ∧ (countDrop s f).hall = s.hall ∧ (countDrop s f).gal = s.gal ∧ (countDrop s f).galx = s.galx ∧ (countDrop s f).dram = s.dram ∧ (countDrop s f).cxl = s.cxl ∧ (countDrop s f).hal = s.hal ∧ (countDrop s f).lamp = s.lamp ∧ (countDrop s f).power = s.power ∧ (countDrop s f).fault = s.fault := by simp [countDrop]

@[simp] theorem forwardTread_keeps (s : State) (f : Nat) (t : Tread) (pool : Bool) (out left cross : Nat) :
    (forwardTread s f t pool out left cross).pending = s.pending ∧ (forwardTread s f t pool out left cross).free = s.free ∧ (forwardTread s f t pool out left cross).pins = s.pins ∧ (forwardTread s f t pool out left cross).clock = s.clock ∧ (forwardTread s f t pool out left cross).plan = s.plan ∧ (forwardTread s f t pool out left cross).changes = s.changes ∧ (forwardTread s f t pool out left cross).gal = s.gal ∧ (forwardTread s f t pool out left cross).galx = s.galx ∧ (forwardTread s f t pool out left cross).dram = s.dram ∧ (forwardTread s f t pool out left cross).hal = s.hal ∧ (forwardTread s f t pool out left cross).lamp.fuses = s.lamp.fuses ∧ (forwardTread s f t pool out left cross).power = s.power := by simp [forwardTread]

@[simp] theorem takeAck_keeps (s : State) (f : Nat) (t : Tread) :
    (takeAck s f t).pending = s.pending ∧ (takeAck s f t).free = s.free ∧ (takeAck s f t).out = s.out ∧ (takeAck s f t).pins = s.pins ∧ (takeAck s f t).boot = s.boot ∧ (takeAck s f t).clock = s.clock ∧ (takeAck s f t).plan = s.plan ∧ (takeAck s f t).roll = s.roll ∧ (takeAck s f t).changes = s.changes ∧ (takeAck s f t).hall = s.hall ∧ (takeAck s f t).gal = s.gal ∧ (takeAck s f t).galx = s.galx ∧ (takeAck s f t).dram = s.dram ∧ (takeAck s f t).cxl = s.cxl ∧ (takeAck s f t).hal = s.hal ∧ (takeAck s f t).lamp = s.lamp ∧ (takeAck s f t).power = s.power ∧ (takeAck s f t).fault = s.fault := by simp [takeAck]

@[simp] theorem sendNack_keeps (s : State) (f : Nat) :
    (sendNack s f).pending = s.pending ∧ (sendNack s f).free = s.free ∧ (sendNack s f).pins = s.pins ∧ (sendNack s f).boot = s.boot ∧ (sendNack s f).clock = s.clock ∧ (sendNack s f).plan = s.plan ∧ (sendNack s f).roll = s.roll ∧ (sendNack s f).changes = s.changes ∧ (sendNack s f).hall = s.hall ∧ (sendNack s f).gal = s.gal ∧ (sendNack s f).galx = s.galx ∧ (sendNack s f).dram = s.dram ∧ (sendNack s f).cxl = s.cxl ∧ (sendNack s f).hal = s.hal ∧ (sendNack s f).lamp = s.lamp ∧ (sendNack s f).power = s.power ∧ (sendNack s f).fault = s.fault := by simp [sendNack]

@[simp] theorem refuse_keeps (s : State) (f : Option Nat) (m : Msg) :
    (refuse s f m).pending = s.pending ∧ (refuse s f m).pins = s.pins ∧ (refuse s f m).clock = s.clock ∧ (refuse s f m).plan = s.plan ∧ (refuse s f m).roll = s.roll ∧ (refuse s f m).changes = s.changes ∧ (refuse s f m).gal = s.gal ∧ (refuse s f m).galx = s.galx ∧ (refuse s f m).dram = s.dram ∧ (refuse s f m).hal = s.hal ∧ (refuse s f m).lamp.fuses = s.lamp.fuses ∧ (refuse s f m).power = s.power ∧ (refuse s f m).cxl.up = s.cxl.up ∧ (refuse s f m).cxl.tsp = s.cxl.tsp ∧ (refuse s f m).cxl.rings = s.cxl.rings := by unfold refuse; simp only []; (repeat' split) <;> simp

@[simp] theorem agentWalk_keeps (s : State) (die asid va : Nat) :
    (agentWalk s die asid va).pending = s.pending ∧ (agentWalk s die asid va).free = s.free ∧ (agentWalk s die asid va).out = s.out ∧ (agentWalk s die asid va).pins = s.pins ∧ (agentWalk s die asid va).boot = s.boot ∧ (agentWalk s die asid va).clock = s.clock ∧ (agentWalk s die asid va).plan = s.plan ∧ (agentWalk s die asid va).roll = s.roll ∧ (agentWalk s die asid va).changes = s.changes ∧ (agentWalk s die asid va).hall = s.hall ∧ (agentWalk s die asid va).gal = s.gal ∧ (agentWalk s die asid va).galx = s.galx ∧ (agentWalk s die asid va).dram = s.dram ∧ (agentWalk s die asid va).cxl = s.cxl ∧ (agentWalk s die asid va).hal = s.hal ∧ (agentWalk s die asid va).lamp = s.lamp ∧ (agentWalk s die asid va).power = s.power ∧ (agentWalk s die asid va).fault = s.fault := by unfold agentWalk; (repeat' split) <;> simp

@[simp] theorem agentTokens_keeps (s : State) (p : Nat) (pas : List Nat) :
    (agentTokens s p pas).pending = s.pending ∧ (agentTokens s p pas).free = s.free ∧ (agentTokens s p pas).out = s.out ∧ (agentTokens s p pas).pins = s.pins ∧ (agentTokens s p pas).boot = s.boot ∧ (agentTokens s p pas).clock = s.clock ∧ (agentTokens s p pas).plan = s.plan ∧ (agentTokens s p pas).roll = s.roll ∧ (agentTokens s p pas).changes = s.changes ∧ (agentTokens s p pas).gal = s.gal ∧ (agentTokens s p pas).galx = s.galx ∧ (agentTokens s p pas).dram = s.dram ∧ (agentTokens s p pas).net = s.net ∧ (agentTokens s p pas).cxl = s.cxl ∧ (agentTokens s p pas).lamp = s.lamp ∧ (agentTokens s p pas).power = s.power ∧ (agentTokens s p pas).fault = s.fault ∧ (agentTokens s p pas).hal.serving = s.hal.serving ∧ (agentTokens s p pas).hal.sess = s.hal.sess := by simp [agentTokens]

@[simp] theorem agentPut_keeps (s : State) (f : Option Nat) (m : Msg) :
    (agentPut s f m).1.pending = s.pending ∧ (agentPut s f m).1.pins = s.pins ∧ (agentPut s f m).1.clock = s.clock ∧ (agentPut s f m).1.plan = s.plan ∧ (agentPut s f m).1.roll = s.roll ∧ (agentPut s f m).1.changes = s.changes ∧ (agentPut s f m).1.gal = s.gal ∧ (agentPut s f m).1.galx = s.galx ∧ (agentPut s f m).1.lamp.fuses = s.lamp.fuses ∧ (agentPut s f m).1.power = s.power := by unfold agentPut; (repeat' split) <;> simp

@[simp] theorem agentGet_keeps (s : State) (f : Option Nat) (m : Msg) :
    (agentGet s f m).1.pending = s.pending ∧ (agentGet s f m).1.pins = s.pins ∧ (agentGet s f m).1.clock = s.clock ∧ (agentGet s f m).1.plan = s.plan ∧ (agentGet s f m).1.roll = s.roll ∧ (agentGet s f m).1.changes = s.changes ∧ (agentGet s f m).1.gal = s.gal ∧ (agentGet s f m).1.galx = s.galx ∧ (agentGet s f m).1.dram = s.dram ∧ (agentGet s f m).1.lamp.fuses = s.lamp.fuses ∧ (agentGet s f m).1.power = s.power := by unfold agentGet; (repeat' split) <;> simp

@[simp] theorem sendAny_keeps (s : State) (m : Msg) :
    (sendAny s m).1.pending = s.pending ∧ (sendAny s m).1.free = s.free ∧ (sendAny s m).1.pins = s.pins ∧ (sendAny s m).1.clock = s.clock ∧ (sendAny s m).1.plan = s.plan ∧ (sendAny s m).1.changes = s.changes ∧ (sendAny s m).1.gal = s.gal ∧ (sendAny s m).1.galx = s.galx ∧ (sendAny s m).1.dram = s.dram ∧ (sendAny s m).1.hal = s.hal ∧ (sendAny s m).1.power = s.power ∧ (sendAny s m).1.lamp.fuses = s.lamp.fuses := by unfold sendAny; (repeat' split) <;> simp

@[simp] theorem addSignal_keeps (s : State) (p k : Nat) (v : W64) :
    (addSignal s p k v).pending = s.pending ∧ (addSignal s p k v).free = s.free ∧ (addSignal s p k v).pins = s.pins ∧ (addSignal s p k v).boot = s.boot ∧ (addSignal s p k v).clock = s.clock ∧ (addSignal s p k v).plan = s.plan ∧ (addSignal s p k v).roll = s.roll ∧ (addSignal s p k v).changes = s.changes ∧ (addSignal s p k v).hall = s.hall ∧ (addSignal s p k v).gal = s.gal ∧ (addSignal s p k v).galx = s.galx ∧ (addSignal s p k v).dram = s.dram ∧ (addSignal s p k v).hal = s.hal ∧ (addSignal s p k v).lamp = s.lamp ∧ (addSignal s p k v).power = s.power ∧ (addSignal s p k v).fault = s.fault := by simp [addSignal]

@[simp] theorem signalIn_keeps (s : State) (f : Option Nat) (m : Msg) :
    (signalIn s f m).pending = s.pending ∧ (signalIn s f m).pins = s.pins ∧ (signalIn s f m).clock = s.clock ∧ (signalIn s f m).plan = s.plan ∧ (signalIn s f m).roll = s.roll ∧ (signalIn s f m).changes = s.changes ∧ (signalIn s f m).gal = s.gal ∧ (signalIn s f m).galx = s.galx ∧ (signalIn s f m).dram = s.dram ∧ (signalIn s f m).hal = s.hal ∧ (signalIn s f m).lamp.fuses = s.lamp.fuses ∧ (signalIn s f m).power = s.power := by simp [signalIn]

@[simp] theorem releaseIn_keeps (s : State) (f : Option Nat) (m : Msg) :
    (releaseIn s f m).pending = s.pending ∧ (releaseIn s f m).pins = s.pins ∧ (releaseIn s f m).clock = s.clock ∧ (releaseIn s f m).plan = s.plan ∧ (releaseIn s f m).roll = s.roll ∧ (releaseIn s f m).changes = s.changes ∧ (releaseIn s f m).gal = s.gal ∧ (releaseIn s f m).galx = s.galx ∧ (releaseIn s f m).dram = s.dram ∧ (releaseIn s f m).hal = s.hal ∧ (releaseIn s f m).lamp.fuses = s.lamp.fuses ∧ (releaseIn s f m).power = s.power := by simp [releaseIn]

@[simp] theorem sendRelease_keeps (s : State) (m : Msg) (dst : Nat) (st : Nat) :
    (sendRelease s m dst st).pending = s.pending ∧ (sendRelease s m dst st).pins = s.pins ∧ (sendRelease s m dst st).clock = s.clock ∧ (sendRelease s m dst st).plan = s.plan ∧ (sendRelease s m dst st).changes = s.changes ∧ (sendRelease s m dst st).gal = s.gal ∧ (sendRelease s m dst st).galx = s.galx ∧ (sendRelease s m dst st).dram = s.dram ∧ (sendRelease s m dst st).hal = s.hal ∧ (sendRelease s m dst st).lamp.fuses = s.lamp.fuses ∧ (sendRelease s m dst st).power = s.power := by simp [sendRelease]

@[simp] theorem arriveIn_keeps (s : State) (f : Option Nat) (m : Msg) :
    (arriveIn s f m).pending = s.pending ∧ (arriveIn s f m).pins = s.pins ∧ (arriveIn s f m).clock = s.clock ∧ (arriveIn s f m).plan = s.plan ∧ (arriveIn s f m).changes = s.changes ∧ (arriveIn s f m).gal = s.gal ∧ (arriveIn s f m).galx = s.galx ∧ (arriveIn s f m).dram = s.dram ∧ (arriveIn s f m).hal = s.hal ∧ (arriveIn s f m).lamp.fuses = s.lamp.fuses ∧ (arriveIn s f m).power = s.power := by simp [arriveIn]

@[simp] theorem takeMsg_pending (s : State) (m : Msg) (unit : State → Msg → State) (h0 : ∀ u x1, (unit u x1).pending = u.pending) :
    (takeMsg s m unit).pending = s.pending := by
  simp [takeMsg, h0]

@[simp] theorem takeMsg_free (s : State) (m : Msg) (unit : State → Msg → State) (h0 : ∀ u x1, (unit u x1).free = u.free) :
    (takeMsg s m unit).free = s.free := by
  simp [takeMsg, h0]

@[simp] theorem takeMsg_out (s : State) (m : Msg) (unit : State → Msg → State) (h0 : ∀ u x1, (unit u x1).out = u.out) :
    (takeMsg s m unit).out = s.out := by
  simp [takeMsg, h0]

@[simp] theorem takeMsg_pins (s : State) (m : Msg) (unit : State → Msg → State) (h0 : ∀ u x1, (unit u x1).pins = u.pins) :
    (takeMsg s m unit).pins = s.pins := by
  simp [takeMsg, h0]

@[simp] theorem takeMsg_boot (s : State) (m : Msg) (unit : State → Msg → State) (h0 : ∀ u x1, (unit u x1).boot = u.boot) :
    (takeMsg s m unit).boot = s.boot := by
  simp [takeMsg, h0]

@[simp] theorem takeMsg_clock (s : State) (m : Msg) (unit : State → Msg → State) (h0 : ∀ u x1, (unit u x1).clock = u.clock) :
    (takeMsg s m unit).clock = s.clock := by
  simp [takeMsg, h0]

@[simp] theorem takeMsg_clock_now (s : State) (m : Msg) (unit : State → Msg → State) (h0 : ∀ u x1, (unit u x1).clock.now = u.clock.now) :
    (takeMsg s m unit).clock.now = s.clock.now := by
  simp [takeMsg, h0]

@[simp] theorem takeMsg_plan (s : State) (m : Msg) (unit : State → Msg → State) (h0 : ∀ u x1, (unit u x1).plan = u.plan) :
    (takeMsg s m unit).plan = s.plan := by
  simp [takeMsg, h0]

@[simp] theorem takeMsg_roll (s : State) (m : Msg) (unit : State → Msg → State) (h0 : ∀ u x1, (unit u x1).roll = u.roll) :
    (takeMsg s m unit).roll = s.roll := by
  simp [takeMsg, h0]

@[simp] theorem takeMsg_changes (s : State) (m : Msg) (unit : State → Msg → State) (h0 : ∀ u x1, (unit u x1).changes = u.changes) :
    (takeMsg s m unit).changes = s.changes := by
  simp [takeMsg, h0]

@[simp] theorem takeMsg_hall (s : State) (m : Msg) (unit : State → Msg → State) (h0 : ∀ u x1, (unit u x1).hall = u.hall) :
    (takeMsg s m unit).hall = s.hall := by
  simp [takeMsg, h0]

@[simp] theorem takeMsg_gal (s : State) (m : Msg) (unit : State → Msg → State) (h0 : ∀ u x1, (unit u x1).gal = u.gal) :
    (takeMsg s m unit).gal = s.gal := by
  simp [takeMsg, h0]

@[simp] theorem takeMsg_galx (s : State) (m : Msg) (unit : State → Msg → State) (h0 : ∀ u x1, (unit u x1).galx = u.galx) :
    (takeMsg s m unit).galx = s.galx := by
  simp [takeMsg, h0]

@[simp] theorem takeMsg_dram (s : State) (m : Msg) (unit : State → Msg → State) (h0 : ∀ u x1, (unit u x1).dram = u.dram) :
    (takeMsg s m unit).dram = s.dram := by
  simp [takeMsg, h0]

@[simp] theorem takeMsg_net (s : State) (m : Msg) (unit : State → Msg → State) (h0 : ∀ u x1, (unit u x1).net = u.net) :
    (takeMsg s m unit).net = s.net := by
  simp [takeMsg, h0]

@[simp] theorem takeMsg_cxl (s : State) (m : Msg) (unit : State → Msg → State) (h0 : ∀ u x1, (unit u x1).cxl = u.cxl) :
    (takeMsg s m unit).cxl = s.cxl := by
  simp [takeMsg, h0]

@[simp] theorem takeMsg_hal (s : State) (m : Msg) (unit : State → Msg → State) (h0 : ∀ u x1, (unit u x1).hal = u.hal) :
    (takeMsg s m unit).hal = s.hal := by
  simp [takeMsg, h0]

@[simp] theorem takeMsg_hal_dict (s : State) (m : Msg) (unit : State → Msg → State) (h0 : ∀ u x1, (unit u x1).hal.dict = u.hal.dict) :
    (takeMsg s m unit).hal.dict = s.hal.dict := by
  simp [takeMsg, h0]

@[simp] theorem takeMsg_hal_serving (s : State) (m : Msg) (unit : State → Msg → State) (h0 : ∀ u x1, (unit u x1).hal.serving = u.hal.serving) :
    (takeMsg s m unit).hal.serving = s.hal.serving := by
  simp [takeMsg, h0]

@[simp] theorem takeMsg_hal_sess (s : State) (m : Msg) (unit : State → Msg → State) (h0 : ∀ u x1, (unit u x1).hal.sess = u.hal.sess) :
    (takeMsg s m unit).hal.sess = s.hal.sess := by
  simp [takeMsg, h0]

@[simp] theorem takeMsg_lamp (s : State) (m : Msg) (unit : State → Msg → State) (h0 : ∀ u x1, (unit u x1).lamp = u.lamp) :
    (takeMsg s m unit).lamp = s.lamp := by
  simp [takeMsg, h0]

@[simp] theorem takeMsg_lamp_fuses (s : State) (m : Msg) (unit : State → Msg → State) (h0 : ∀ u x1, (unit u x1).lamp.fuses = u.lamp.fuses) :
    (takeMsg s m unit).lamp.fuses = s.lamp.fuses := by
  simp [takeMsg, h0]

@[simp] theorem takeMsg_power (s : State) (m : Msg) (unit : State → Msg → State) (h0 : ∀ u x1, (unit u x1).power = u.power) :
    (takeMsg s m unit).power = s.power := by
  simp [takeMsg, h0]

@[simp] theorem takeMsg_fault (s : State) (m : Msg) (unit : State → Msg → State) (h0 : ∀ u x1, (unit u x1).fault = u.fault) :
    (takeMsg s m unit).fault = s.fault := by
  simp [takeMsg, h0]

@[simp] theorem takeMsg_cxl_up (s : State) (m : Msg) (unit : State → Msg → State) (h0 : ∀ u x1, (unit u x1).cxl.up = u.cxl.up) :
    (takeMsg s m unit).cxl.up = s.cxl.up := by
  unfold takeMsg; try simp only []
  (repeat' split) <;> simp [h0]

@[simp] theorem takeMsg_cxl_tsp (s : State) (m : Msg) (unit : State → Msg → State) (h0 : ∀ u x1, (unit u x1).cxl.tsp = u.cxl.tsp) :
    (takeMsg s m unit).cxl.tsp = s.cxl.tsp := by
  unfold takeMsg; try simp only []
  (repeat' split) <;> simp [h0]

@[simp] theorem takeMsg_cxl_rings (s : State) (m : Msg) (unit : State → Msg → State) (h0 : ∀ u x1, (unit u x1).cxl.rings = u.cxl.rings) :
    (takeMsg s m unit).cxl.rings = s.cxl.rings := by
  unfold takeMsg; try simp only []
  (repeat' split) <;> simp [h0]

@[simp] theorem setSlots_keeps (s : State) (g l : Nat) (ks : List Slot) (full : Bool) :
    (setSlots s g l ks full).pending = s.pending ∧ (setSlots s g l ks full).free = s.free ∧ (setSlots s g l ks full).out = s.out ∧ (setSlots s g l ks full).pins = s.pins ∧ (setSlots s g l ks full).boot = s.boot ∧ (setSlots s g l ks full).clock = s.clock ∧ (setSlots s g l ks full).plan = s.plan ∧ (setSlots s g l ks full).roll = s.roll ∧ (setSlots s g l ks full).changes = s.changes ∧ (setSlots s g l ks full).hall = s.hall ∧ (setSlots s g l ks full).galx = s.galx ∧ (setSlots s g l ks full).dram = s.dram ∧ (setSlots s g l ks full).net = s.net ∧ (setSlots s g l ks full).cxl = s.cxl ∧ (setSlots s g l ks full).hal = s.hal ∧ (setSlots s g l ks full).lamp = s.lamp ∧ (setSlots s g l ks full).power = s.power ∧ (setSlots s g l ks full).fault = s.fault := by simp [setSlots]

@[simp] theorem updThread_keeps (s : State) (w : Site) (f : Thread → Thread) :
    (updThread s w f).pending = s.pending ∧ (updThread s w f).free = s.free ∧ (updThread s w f).out = s.out ∧ (updThread s w f).pins = s.pins ∧ (updThread s w f).boot = s.boot ∧ (updThread s w f).clock = s.clock ∧ (updThread s w f).plan = s.plan ∧ (updThread s w f).roll = s.roll ∧ (updThread s w f).changes = s.changes ∧ (updThread s w f).hall = s.hall ∧ (updThread s w f).galx = s.galx ∧ (updThread s w f).dram = s.dram ∧ (updThread s w f).net = s.net ∧ (updThread s w f).cxl = s.cxl ∧ (updThread s w f).hal = s.hal ∧ (updThread s w f).lamp = s.lamp ∧ (updThread s w f).power = s.power ∧ (updThread s w f).fault = s.fault := by simp [updThread]

@[simp] theorem setX_keeps (s : State) (w : Site) (r : BitVec 5) (v : W64) :
    (setX s w r v).pending = s.pending ∧ (setX s w r v).free = s.free ∧ (setX s w r v).out = s.out ∧ (setX s w r v).pins = s.pins ∧ (setX s w r v).boot = s.boot ∧ (setX s w r v).clock = s.clock ∧ (setX s w r v).plan = s.plan ∧ (setX s w r v).roll = s.roll ∧ (setX s w r v).changes = s.changes ∧ (setX s w r v).hall = s.hall ∧ (setX s w r v).galx = s.galx ∧ (setX s w r v).dram = s.dram ∧ (setX s w r v).net = s.net ∧ (setX s w r v).cxl = s.cxl ∧ (setX s w r v).hal = s.hal ∧ (setX s w r v).lamp = s.lamp ∧ (setX s w r v).power = s.power ∧ (setX s w r v).fault = s.fault := by simp [setX]

@[simp] theorem setF_keeps (s : State) (w : Site) (r : BitVec 5) (v : W32) :
    (setF s w r v).pending = s.pending ∧ (setF s w r v).free = s.free ∧ (setF s w r v).out = s.out ∧ (setF s w r v).pins = s.pins ∧ (setF s w r v).boot = s.boot ∧ (setF s w r v).clock = s.clock ∧ (setF s w r v).plan = s.plan ∧ (setF s w r v).roll = s.roll ∧ (setF s w r v).changes = s.changes ∧ (setF s w r v).hall = s.hall ∧ (setF s w r v).galx = s.galx ∧ (setF s w r v).dram = s.dram ∧ (setF s w r v).net = s.net ∧ (setF s w r v).cxl = s.cxl ∧ (setF s w r v).hal = s.hal ∧ (setF s w r v).lamp = s.lamp ∧ (setF s w r v).power = s.power ∧ (setF s w r v).fault = s.fault := by simp [setF]

@[simp] theorem setV_keeps (s : State) (w : Site) (r : BitVec 5) (v : V256) :
    (setV s w r v).pending = s.pending ∧ (setV s w r v).free = s.free ∧ (setV s w r v).out = s.out ∧ (setV s w r v).pins = s.pins ∧ (setV s w r v).boot = s.boot ∧ (setV s w r v).clock = s.clock ∧ (setV s w r v).plan = s.plan ∧ (setV s w r v).roll = s.roll ∧ (setV s w r v).changes = s.changes ∧ (setV s w r v).hall = s.hall ∧ (setV s w r v).galx = s.galx ∧ (setV s w r v).dram = s.dram ∧ (setV s w r v).net = s.net ∧ (setV s w r v).cxl = s.cxl ∧ (setV s w r v).hal = s.hal ∧ (setV s w r v).lamp = s.lamp ∧ (setV s w r v).power = s.power ∧ (setV s w r v).fault = s.fault := by simp [setV]

@[simp] theorem noteSkip_keeps (s : State) (w : Site) (cls op pc reason : Nat) :
    (noteSkip s w cls op pc reason).pending = s.pending ∧ (noteSkip s w cls op pc reason).free = s.free ∧ (noteSkip s w cls op pc reason).pins = s.pins ∧ (noteSkip s w cls op pc reason).clock = s.clock ∧ (noteSkip s w cls op pc reason).plan = s.plan ∧ (noteSkip s w cls op pc reason).roll = s.roll ∧ (noteSkip s w cls op pc reason).changes = s.changes ∧ (noteSkip s w cls op pc reason).galx = s.galx ∧ (noteSkip s w cls op pc reason).dram = s.dram ∧ (noteSkip s w cls op pc reason).net = s.net ∧ (noteSkip s w cls op pc reason).hal = s.hal ∧ (noteSkip s w cls op pc reason).lamp.fuses = s.lamp.fuses ∧ (noteSkip s w cls op pc reason).power = s.power ∧ (noteSkip s w cls op pc reason).cxl.up = s.cxl.up ∧ (noteSkip s w cls op pc reason).cxl.tsp = s.cxl.tsp ∧ (noteSkip s w cls op pc reason).cxl.rings = s.cxl.rings := by unfold noteSkip; simp only []; (repeat' split) <;> simp

@[simp] theorem issue_pending (s : State) (w : Site) (cls op : Nat) (f : Fields) (st : Option Nat) (onSkip : State → State) (body : State → Act) (h0 : ∀ u, (onSkip u).pending = u.pending) (h1 : ∀ u t, body u = .ok t → t.pending = u.pending) (h2 : ∀ u t n, body u = .jump t n → t.pending = u.pending) (h3 : ∀ u t v, body u = .hold t v → t.pending = u.pending) (h4 : ∀ u t, body u = .ends t → t.pending = u.pending) :
    (issue s w cls op f st onSkip body).pending = s.pending := by
  unfold issue
  cases hb : body (touch s w.g.val) with
  | ok t => have e := h1 _ _ hb; simp only [hb]; (repeat' split) <;> simp [h0, e]
  | skip r => simp only [hb]; (repeat' split) <;> simp [h0]
  | block v => simp only [hb]; (repeat' split) <;> simp [h0]
  | poison a => simp only [hb]; (repeat' split) <;> simp [h0]
  | jump t n => have e := h2 _ _ _ hb; simp only [hb]; (repeat' split) <;> simp [h0, e]
  | hold t v => have e := h3 _ _ _ hb; simp only [hb]; (repeat' split) <;> simp [h0, e]
  | ends t => have e := h4 _ _ hb; simp only [hb]; (repeat' split) <;> simp [h0, e]

@[simp] theorem issue_pins (s : State) (w : Site) (cls op : Nat) (f : Fields) (st : Option Nat) (onSkip : State → State) (body : State → Act) (h0 : ∀ u, (onSkip u).pins = u.pins) (h1 : ∀ u t, body u = .ok t → t.pins = u.pins) (h2 : ∀ u t n, body u = .jump t n → t.pins = u.pins) (h3 : ∀ u t v, body u = .hold t v → t.pins = u.pins) (h4 : ∀ u t, body u = .ends t → t.pins = u.pins) :
    (issue s w cls op f st onSkip body).pins = s.pins := by
  unfold issue
  cases hb : body (touch s w.g.val) with
  | ok t => have e := h1 _ _ hb; simp only [hb]; (repeat' split) <;> simp [h0, e]
  | skip r => simp only [hb]; (repeat' split) <;> simp [h0]
  | block v => simp only [hb]; (repeat' split) <;> simp [h0]
  | poison a => simp only [hb]; (repeat' split) <;> simp [h0]
  | jump t n => have e := h2 _ _ _ hb; simp only [hb]; (repeat' split) <;> simp [h0, e]
  | hold t v => have e := h3 _ _ _ hb; simp only [hb]; (repeat' split) <;> simp [h0, e]
  | ends t => have e := h4 _ _ hb; simp only [hb]; (repeat' split) <;> simp [h0, e]

@[simp] theorem issue_clock (s : State) (w : Site) (cls op : Nat) (f : Fields) (st : Option Nat) (onSkip : State → State) (body : State → Act) (h0 : ∀ u, (onSkip u).clock = u.clock) (h1 : ∀ u t, body u = .ok t → t.clock = u.clock) (h2 : ∀ u t n, body u = .jump t n → t.clock = u.clock) (h3 : ∀ u t v, body u = .hold t v → t.clock = u.clock) (h4 : ∀ u t, body u = .ends t → t.clock = u.clock) :
    (issue s w cls op f st onSkip body).clock = s.clock := by
  unfold issue
  cases hb : body (touch s w.g.val) with
  | ok t => have e := h1 _ _ hb; simp only [hb]; (repeat' split) <;> simp [h0, e]
  | skip r => simp only [hb]; (repeat' split) <;> simp [h0]
  | block v => simp only [hb]; (repeat' split) <;> simp [h0]
  | poison a => simp only [hb]; (repeat' split) <;> simp [h0]
  | jump t n => have e := h2 _ _ _ hb; simp only [hb]; (repeat' split) <;> simp [h0, e]
  | hold t v => have e := h3 _ _ _ hb; simp only [hb]; (repeat' split) <;> simp [h0, e]
  | ends t => have e := h4 _ _ hb; simp only [hb]; (repeat' split) <;> simp [h0, e]

@[simp] theorem issue_plan (s : State) (w : Site) (cls op : Nat) (f : Fields) (st : Option Nat) (onSkip : State → State) (body : State → Act) (h0 : ∀ u, (onSkip u).plan = u.plan) (h1 : ∀ u t, body u = .ok t → t.plan = u.plan) (h2 : ∀ u t n, body u = .jump t n → t.plan = u.plan) (h3 : ∀ u t v, body u = .hold t v → t.plan = u.plan) (h4 : ∀ u t, body u = .ends t → t.plan = u.plan) :
    (issue s w cls op f st onSkip body).plan = s.plan := by
  unfold issue
  cases hb : body (touch s w.g.val) with
  | ok t => have e := h1 _ _ hb; simp only [hb]; (repeat' split) <;> simp [h0, e]
  | skip r => simp only [hb]; (repeat' split) <;> simp [h0]
  | block v => simp only [hb]; (repeat' split) <;> simp [h0]
  | poison a => simp only [hb]; (repeat' split) <;> simp [h0]
  | jump t n => have e := h2 _ _ _ hb; simp only [hb]; (repeat' split) <;> simp [h0, e]
  | hold t v => have e := h3 _ _ _ hb; simp only [hb]; (repeat' split) <;> simp [h0, e]
  | ends t => have e := h4 _ _ hb; simp only [hb]; (repeat' split) <;> simp [h0, e]

@[simp] theorem issue_changes (s : State) (w : Site) (cls op : Nat) (f : Fields) (st : Option Nat) (onSkip : State → State) (body : State → Act) (h0 : ∀ u, (onSkip u).changes = u.changes) (h1 : ∀ u t, body u = .ok t → t.changes = u.changes) (h2 : ∀ u t n, body u = .jump t n → t.changes = u.changes) (h3 : ∀ u t v, body u = .hold t v → t.changes = u.changes) (h4 : ∀ u t, body u = .ends t → t.changes = u.changes) :
    (issue s w cls op f st onSkip body).changes = s.changes := by
  unfold issue
  cases hb : body (touch s w.g.val) with
  | ok t => have e := h1 _ _ hb; simp only [hb]; (repeat' split) <;> simp [h0, e]
  | skip r => simp only [hb]; (repeat' split) <;> simp [h0]
  | block v => simp only [hb]; (repeat' split) <;> simp [h0]
  | poison a => simp only [hb]; (repeat' split) <;> simp [h0]
  | jump t n => have e := h2 _ _ _ hb; simp only [hb]; (repeat' split) <;> simp [h0, e]
  | hold t v => have e := h3 _ _ _ hb; simp only [hb]; (repeat' split) <;> simp [h0, e]
  | ends t => have e := h4 _ _ hb; simp only [hb]; (repeat' split) <;> simp [h0, e]

@[simp] theorem issue_net (s : State) (w : Site) (cls op : Nat) (f : Fields) (st : Option Nat) (onSkip : State → State) (body : State → Act) (h0 : ∀ u, (onSkip u).net = u.net) (h1 : ∀ u t, body u = .ok t → t.net = u.net) (h2 : ∀ u t n, body u = .jump t n → t.net = u.net) (h3 : ∀ u t v, body u = .hold t v → t.net = u.net) (h4 : ∀ u t, body u = .ends t → t.net = u.net) :
    (issue s w cls op f st onSkip body).net = s.net := by
  unfold issue
  cases hb : body (touch s w.g.val) with
  | ok t => have e := h1 _ _ hb; simp only [hb]; (repeat' split) <;> simp [h0, e]
  | skip r => simp only [hb]; (repeat' split) <;> simp [h0]
  | block v => simp only [hb]; (repeat' split) <;> simp [h0]
  | poison a => simp only [hb]; (repeat' split) <;> simp [h0]
  | jump t n => have e := h2 _ _ _ hb; simp only [hb]; (repeat' split) <;> simp [h0, e]
  | hold t v => have e := h3 _ _ _ hb; simp only [hb]; (repeat' split) <;> simp [h0, e]
  | ends t => have e := h4 _ _ hb; simp only [hb]; (repeat' split) <;> simp [h0, e]

@[simp] theorem issue_power (s : State) (w : Site) (cls op : Nat) (f : Fields) (st : Option Nat) (onSkip : State → State) (body : State → Act) (h0 : ∀ u, (onSkip u).power = u.power) (h1 : ∀ u t, body u = .ok t → t.power = u.power) (h2 : ∀ u t n, body u = .jump t n → t.power = u.power) (h3 : ∀ u t v, body u = .hold t v → t.power = u.power) (h4 : ∀ u t, body u = .ends t → t.power = u.power) :
    (issue s w cls op f st onSkip body).power = s.power := by
  unfold issue
  cases hb : body (touch s w.g.val) with
  | ok t => have e := h1 _ _ hb; simp only [hb]; (repeat' split) <;> simp [h0, e]
  | skip r => simp only [hb]; (repeat' split) <;> simp [h0]
  | block v => simp only [hb]; (repeat' split) <;> simp [h0]
  | poison a => simp only [hb]; (repeat' split) <;> simp [h0]
  | jump t n => have e := h2 _ _ _ hb; simp only [hb]; (repeat' split) <;> simp [h0, e]
  | hold t v => have e := h3 _ _ _ hb; simp only [hb]; (repeat' split) <;> simp [h0, e]
  | ends t => have e := h4 _ _ hb; simp only [hb]; (repeat' split) <;> simp [h0, e]

@[simp] theorem issue_clock_now (s : State) (w : Site) (cls op : Nat) (f : Fields) (st : Option Nat) (onSkip : State → State) (body : State → Act) (h0 : ∀ u, (onSkip u).clock.now = u.clock.now) (h1 : ∀ u t, body u = .ok t → t.clock.now = u.clock.now) (h2 : ∀ u t n, body u = .jump t n → t.clock.now = u.clock.now) (h3 : ∀ u t v, body u = .hold t v → t.clock.now = u.clock.now) (h4 : ∀ u t, body u = .ends t → t.clock.now = u.clock.now) :
    (issue s w cls op f st onSkip body).clock.now = s.clock.now := by
  unfold issue
  cases hb : body (touch s w.g.val) with
  | ok t => have e := h1 _ _ hb; simp only [hb]; (repeat' split) <;> simp [h0, e]
  | skip r => simp only [hb]; (repeat' split) <;> simp [h0]
  | block v => simp only [hb]; (repeat' split) <;> simp [h0]
  | poison a => simp only [hb]; (repeat' split) <;> simp [h0]
  | jump t n => have e := h2 _ _ _ hb; simp only [hb]; (repeat' split) <;> simp [h0, e]
  | hold t v => have e := h3 _ _ _ hb; simp only [hb]; (repeat' split) <;> simp [h0, e]
  | ends t => have e := h4 _ _ hb; simp only [hb]; (repeat' split) <;> simp [h0, e]

@[simp] theorem issue_hal_serving (s : State) (w : Site) (cls op : Nat) (f : Fields) (st : Option Nat) (onSkip : State → State) (body : State → Act) (h0 : ∀ u, (onSkip u).hal.serving = u.hal.serving) (h1 : ∀ u t, body u = .ok t → t.hal.serving = u.hal.serving) (h2 : ∀ u t n, body u = .jump t n → t.hal.serving = u.hal.serving) (h3 : ∀ u t v, body u = .hold t v → t.hal.serving = u.hal.serving) (h4 : ∀ u t, body u = .ends t → t.hal.serving = u.hal.serving) :
    (issue s w cls op f st onSkip body).hal.serving = s.hal.serving := by
  unfold issue
  cases hb : body (touch s w.g.val) with
  | ok t => have e := h1 _ _ hb; simp only [hb]; (repeat' split) <;> simp [h0, e]
  | skip r => simp only [hb]; (repeat' split) <;> simp [h0]
  | block v => simp only [hb]; (repeat' split) <;> simp [h0]
  | poison a => simp only [hb]; (repeat' split) <;> simp [h0]
  | jump t n => have e := h2 _ _ _ hb; simp only [hb]; (repeat' split) <;> simp [h0, e]
  | hold t v => have e := h3 _ _ _ hb; simp only [hb]; (repeat' split) <;> simp [h0, e]
  | ends t => have e := h4 _ _ hb; simp only [hb]; (repeat' split) <;> simp [h0, e]

@[simp] theorem issue_hal_sess (s : State) (w : Site) (cls op : Nat) (f : Fields) (st : Option Nat) (onSkip : State → State) (body : State → Act) (h0 : ∀ u, (onSkip u).hal.sess = u.hal.sess) (h1 : ∀ u t, body u = .ok t → t.hal.sess = u.hal.sess) (h2 : ∀ u t n, body u = .jump t n → t.hal.sess = u.hal.sess) (h3 : ∀ u t v, body u = .hold t v → t.hal.sess = u.hal.sess) (h4 : ∀ u t, body u = .ends t → t.hal.sess = u.hal.sess) :
    (issue s w cls op f st onSkip body).hal.sess = s.hal.sess := by
  unfold issue
  cases hb : body (touch s w.g.val) with
  | ok t => have e := h1 _ _ hb; simp only [hb]; (repeat' split) <;> simp [h0, e]
  | skip r => simp only [hb]; (repeat' split) <;> simp [h0]
  | block v => simp only [hb]; (repeat' split) <;> simp [h0]
  | poison a => simp only [hb]; (repeat' split) <;> simp [h0]
  | jump t n => have e := h2 _ _ _ hb; simp only [hb]; (repeat' split) <;> simp [h0, e]
  | hold t v => have e := h3 _ _ _ hb; simp only [hb]; (repeat' split) <;> simp [h0, e]
  | ends t => have e := h4 _ _ hb; simp only [hb]; (repeat' split) <;> simp [h0, e]

@[simp] theorem issue_lamp_fuses (s : State) (w : Site) (cls op : Nat) (f : Fields) (st : Option Nat) (onSkip : State → State) (body : State → Act) (h0 : ∀ u, (onSkip u).lamp.fuses = u.lamp.fuses) (h1 : ∀ u t, body u = .ok t → t.lamp.fuses = u.lamp.fuses) (h2 : ∀ u t n, body u = .jump t n → t.lamp.fuses = u.lamp.fuses) (h3 : ∀ u t v, body u = .hold t v → t.lamp.fuses = u.lamp.fuses) (h4 : ∀ u t, body u = .ends t → t.lamp.fuses = u.lamp.fuses) :
    (issue s w cls op f st onSkip body).lamp.fuses = s.lamp.fuses := by
  unfold issue
  cases hb : body (touch s w.g.val) with
  | ok t => have e := h1 _ _ hb; simp only [hb]; (repeat' split) <;> simp [h0, e]
  | skip r => simp only [hb]; (repeat' split) <;> simp [h0]
  | block v => simp only [hb]; (repeat' split) <;> simp [h0]
  | poison a => simp only [hb]; (repeat' split) <;> simp [h0]
  | jump t n => have e := h2 _ _ _ hb; simp only [hb]; (repeat' split) <;> simp [h0, e]
  | hold t v => have e := h3 _ _ _ hb; simp only [hb]; (repeat' split) <;> simp [h0, e]
  | ends t => have e := h4 _ _ hb; simp only [hb]; (repeat' split) <;> simp [h0, e]

@[simp] theorem issue1_pending (s : State) (w : Site) (cls op : Nat) (f : Fields) (st : Option Nat) (body : State → Act) (h0 : ∀ u t, body u = .ok t → t.pending = u.pending) (h1 : ∀ u t n, body u = .jump t n → t.pending = u.pending) (h2 : ∀ u t v, body u = .hold t v → t.pending = u.pending) (h3 : ∀ u t, body u = .ends t → t.pending = u.pending) :
    (issue1 s w cls op f st body).pending = s.pending := by
  unfold issue1; exact issue_pending s w cls op f st id body (fun _ => rfl) h0 h1 h2 h3

@[simp] theorem issue1_pins (s : State) (w : Site) (cls op : Nat) (f : Fields) (st : Option Nat) (body : State → Act) (h0 : ∀ u t, body u = .ok t → t.pins = u.pins) (h1 : ∀ u t n, body u = .jump t n → t.pins = u.pins) (h2 : ∀ u t v, body u = .hold t v → t.pins = u.pins) (h3 : ∀ u t, body u = .ends t → t.pins = u.pins) :
    (issue1 s w cls op f st body).pins = s.pins := by
  unfold issue1; exact issue_pins s w cls op f st id body (fun _ => rfl) h0 h1 h2 h3

@[simp] theorem issue1_clock (s : State) (w : Site) (cls op : Nat) (f : Fields) (st : Option Nat) (body : State → Act) (h0 : ∀ u t, body u = .ok t → t.clock = u.clock) (h1 : ∀ u t n, body u = .jump t n → t.clock = u.clock) (h2 : ∀ u t v, body u = .hold t v → t.clock = u.clock) (h3 : ∀ u t, body u = .ends t → t.clock = u.clock) :
    (issue1 s w cls op f st body).clock = s.clock := by
  unfold issue1; exact issue_clock s w cls op f st id body (fun _ => rfl) h0 h1 h2 h3

@[simp] theorem issue1_plan (s : State) (w : Site) (cls op : Nat) (f : Fields) (st : Option Nat) (body : State → Act) (h0 : ∀ u t, body u = .ok t → t.plan = u.plan) (h1 : ∀ u t n, body u = .jump t n → t.plan = u.plan) (h2 : ∀ u t v, body u = .hold t v → t.plan = u.plan) (h3 : ∀ u t, body u = .ends t → t.plan = u.plan) :
    (issue1 s w cls op f st body).plan = s.plan := by
  unfold issue1; exact issue_plan s w cls op f st id body (fun _ => rfl) h0 h1 h2 h3

@[simp] theorem issue1_changes (s : State) (w : Site) (cls op : Nat) (f : Fields) (st : Option Nat) (body : State → Act) (h0 : ∀ u t, body u = .ok t → t.changes = u.changes) (h1 : ∀ u t n, body u = .jump t n → t.changes = u.changes) (h2 : ∀ u t v, body u = .hold t v → t.changes = u.changes) (h3 : ∀ u t, body u = .ends t → t.changes = u.changes) :
    (issue1 s w cls op f st body).changes = s.changes := by
  unfold issue1; exact issue_changes s w cls op f st id body (fun _ => rfl) h0 h1 h2 h3

@[simp] theorem issue1_net (s : State) (w : Site) (cls op : Nat) (f : Fields) (st : Option Nat) (body : State → Act) (h0 : ∀ u t, body u = .ok t → t.net = u.net) (h1 : ∀ u t n, body u = .jump t n → t.net = u.net) (h2 : ∀ u t v, body u = .hold t v → t.net = u.net) (h3 : ∀ u t, body u = .ends t → t.net = u.net) :
    (issue1 s w cls op f st body).net = s.net := by
  unfold issue1; exact issue_net s w cls op f st id body (fun _ => rfl) h0 h1 h2 h3

@[simp] theorem issue1_power (s : State) (w : Site) (cls op : Nat) (f : Fields) (st : Option Nat) (body : State → Act) (h0 : ∀ u t, body u = .ok t → t.power = u.power) (h1 : ∀ u t n, body u = .jump t n → t.power = u.power) (h2 : ∀ u t v, body u = .hold t v → t.power = u.power) (h3 : ∀ u t, body u = .ends t → t.power = u.power) :
    (issue1 s w cls op f st body).power = s.power := by
  unfold issue1; exact issue_power s w cls op f st id body (fun _ => rfl) h0 h1 h2 h3

@[simp] theorem issue1_clock_now (s : State) (w : Site) (cls op : Nat) (f : Fields) (st : Option Nat) (body : State → Act) (h0 : ∀ u t, body u = .ok t → t.clock.now = u.clock.now) (h1 : ∀ u t n, body u = .jump t n → t.clock.now = u.clock.now) (h2 : ∀ u t v, body u = .hold t v → t.clock.now = u.clock.now) (h3 : ∀ u t, body u = .ends t → t.clock.now = u.clock.now) :
    (issue1 s w cls op f st body).clock.now = s.clock.now := by
  unfold issue1; exact issue_clock_now s w cls op f st id body (fun _ => rfl) h0 h1 h2 h3

@[simp] theorem issue1_hal_serving (s : State) (w : Site) (cls op : Nat) (f : Fields) (st : Option Nat) (body : State → Act) (h0 : ∀ u t, body u = .ok t → t.hal.serving = u.hal.serving) (h1 : ∀ u t n, body u = .jump t n → t.hal.serving = u.hal.serving) (h2 : ∀ u t v, body u = .hold t v → t.hal.serving = u.hal.serving) (h3 : ∀ u t, body u = .ends t → t.hal.serving = u.hal.serving) :
    (issue1 s w cls op f st body).hal.serving = s.hal.serving := by
  unfold issue1; exact issue_hal_serving s w cls op f st id body (fun _ => rfl) h0 h1 h2 h3

@[simp] theorem issue1_hal_sess (s : State) (w : Site) (cls op : Nat) (f : Fields) (st : Option Nat) (body : State → Act) (h0 : ∀ u t, body u = .ok t → t.hal.sess = u.hal.sess) (h1 : ∀ u t n, body u = .jump t n → t.hal.sess = u.hal.sess) (h2 : ∀ u t v, body u = .hold t v → t.hal.sess = u.hal.sess) (h3 : ∀ u t, body u = .ends t → t.hal.sess = u.hal.sess) :
    (issue1 s w cls op f st body).hal.sess = s.hal.sess := by
  unfold issue1; exact issue_hal_sess s w cls op f st id body (fun _ => rfl) h0 h1 h2 h3

@[simp] theorem issue1_lamp_fuses (s : State) (w : Site) (cls op : Nat) (f : Fields) (st : Option Nat) (body : State → Act) (h0 : ∀ u t, body u = .ok t → t.lamp.fuses = u.lamp.fuses) (h1 : ∀ u t n, body u = .jump t n → t.lamp.fuses = u.lamp.fuses) (h2 : ∀ u t v, body u = .hold t v → t.lamp.fuses = u.lamp.fuses) (h3 : ∀ u t, body u = .ends t → t.lamp.fuses = u.lamp.fuses) :
    (issue1 s w cls op f st body).lamp.fuses = s.lamp.fuses := by
  unfold issue1; exact issue_lamp_fuses s w cls op f st id body (fun _ => rfl) h0 h1 h2 h3

@[simp] theorem pushDesc_keeps (s : State) (g l q : Nat) (d : Bytes) (gang : Bool) :
    (pushDesc s g l q d gang).pending = s.pending ∧ (pushDesc s g l q d gang).free = s.free ∧ (pushDesc s g l q d gang).out = s.out ∧ (pushDesc s g l q d gang).pins = s.pins ∧ (pushDesc s g l q d gang).boot = s.boot ∧ (pushDesc s g l q d gang).clock = s.clock ∧ (pushDesc s g l q d gang).plan = s.plan ∧ (pushDesc s g l q d gang).roll = s.roll ∧ (pushDesc s g l q d gang).changes = s.changes ∧ (pushDesc s g l q d gang).hall = s.hall ∧ (pushDesc s g l q d gang).galx = s.galx ∧ (pushDesc s g l q d gang).dram = s.dram ∧ (pushDesc s g l q d gang).net = s.net ∧ (pushDesc s g l q d gang).cxl = s.cxl ∧ (pushDesc s g l q d gang).hal = s.hal ∧ (pushDesc s g l q d gang).lamp = s.lamp ∧ (pushDesc s g l q d gang).power = s.power ∧ (pushDesc s g l q d gang).fault = s.fault := by simp [pushDesc]

@[simp] theorem skipFlag_keeps (w : Site) (readable : Bool) (c : Nat) (s : State) :
    (skipFlag w readable c s).pending = s.pending ∧ (skipFlag w readable c s).free = s.free ∧ (skipFlag w readable c s).pins = s.pins ∧ (skipFlag w readable c s).clock = s.clock ∧ (skipFlag w readable c s).plan = s.plan ∧ (skipFlag w readable c s).roll = s.roll ∧ (skipFlag w readable c s).changes = s.changes ∧ (skipFlag w readable c s).galx = s.galx ∧ (skipFlag w readable c s).dram = s.dram ∧ (skipFlag w readable c s).net = s.net ∧ (skipFlag w readable c s).hal = s.hal ∧ (skipFlag w readable c s).lamp.fuses = s.lamp.fuses ∧ (skipFlag w readable c s).power = s.power ∧ (skipFlag w readable c s).cxl.up = s.cxl.up ∧ (skipFlag w readable c s).cxl.tsp = s.cxl.tsp ∧ (skipFlag w readable c s).cxl.rings = s.cxl.rings := by unfold skipFlag; (repeat' split) <;> simp

@[simp] theorem mcallSkip_keeps (w : Site) (a imm : Nat) (noImm : Bool) (s : State) :
    (mcallSkip w a imm noImm s).pending = s.pending ∧ (mcallSkip w a imm noImm s).free = s.free ∧ (mcallSkip w a imm noImm s).pins = s.pins ∧ (mcallSkip w a imm noImm s).clock = s.clock ∧ (mcallSkip w a imm noImm s).plan = s.plan ∧ (mcallSkip w a imm noImm s).roll = s.roll ∧ (mcallSkip w a imm noImm s).changes = s.changes ∧ (mcallSkip w a imm noImm s).galx = s.galx ∧ (mcallSkip w a imm noImm s).dram = s.dram ∧ (mcallSkip w a imm noImm s).net = s.net ∧ (mcallSkip w a imm noImm s).hal = s.hal ∧ (mcallSkip w a imm noImm s).lamp.fuses = s.lamp.fuses ∧ (mcallSkip w a imm noImm s).power = s.power ∧ (mcallSkip w a imm noImm s).cxl.up = s.cxl.up ∧ (mcallSkip w a imm noImm s).cxl.tsp = s.cxl.tsp ∧ (mcallSkip w a imm noImm s).cxl.rings = s.cxl.rings := by simp [mcallSkip]

@[simp] theorem limited_pending (s : State) (n : Nat) (f : State → State) (p : Rep) (h0 : ∀ u, (f u).pending = u.pending) :
    (limited s n f p).pending = s.pending := by unfold limited; split <;> simp [h0]

@[simp] theorem limited_free (s : State) (n : Nat) (f : State → State) (p : Rep) (h0 : ∀ u, (f u).free = u.free) :
    (limited s n f p).free = s.free := by unfold limited; split <;> simp [h0]

@[simp] theorem limited_pins (s : State) (n : Nat) (f : State → State) (p : Rep) (h0 : ∀ u, (f u).pins = u.pins) :
    (limited s n f p).pins = s.pins := by unfold limited; split <;> simp [h0]

@[simp] theorem limited_clock (s : State) (n : Nat) (f : State → State) (p : Rep) (h0 : ∀ u, (f u).clock = u.clock) :
    (limited s n f p).clock = s.clock := by unfold limited; split <;> simp [h0]

@[simp] theorem limited_plan (s : State) (n : Nat) (f : State → State) (p : Rep) (h0 : ∀ u, (f u).plan = u.plan) :
    (limited s n f p).plan = s.plan := by unfold limited; split <;> simp [h0]

@[simp] theorem limited_roll (s : State) (n : Nat) (f : State → State) (p : Rep) (h0 : ∀ u, (f u).roll = u.roll) :
    (limited s n f p).roll = s.roll := by unfold limited; split <;> simp [h0]

@[simp] theorem limited_changes (s : State) (n : Nat) (f : State → State) (p : Rep) (h0 : ∀ u, (f u).changes = u.changes) :
    (limited s n f p).changes = s.changes := by unfold limited; split <;> simp [h0]

@[simp] theorem limited_galx (s : State) (n : Nat) (f : State → State) (p : Rep) (h0 : ∀ u, (f u).galx = u.galx) :
    (limited s n f p).galx = s.galx := by unfold limited; split <;> simp [h0]

@[simp] theorem limited_dram (s : State) (n : Nat) (f : State → State) (p : Rep) (h0 : ∀ u, (f u).dram = u.dram) :
    (limited s n f p).dram = s.dram := by unfold limited; split <;> simp [h0]

@[simp] theorem limited_dram_spaces (s : State) (n : Nat) (f : State → State) (p : Rep) (h0 : ∀ u, (f u).dram.spaces = u.dram.spaces) :
    (limited s n f p).dram.spaces = s.dram.spaces := by unfold limited; split <;> simp [h0]

@[simp] theorem limited_dram_psets (s : State) (n : Nat) (f : State → State) (p : Rep) (h0 : ∀ u, (f u).dram.psets = u.dram.psets) :
    (limited s n f p).dram.psets = s.dram.psets := by unfold limited; split <;> simp [h0]

@[simp] theorem limited_dram_ksets (s : State) (n : Nat) (f : State → State) (p : Rep) (h0 : ∀ u, (f u).dram.ksets = u.dram.ksets) :
    (limited s n f p).dram.ksets = s.dram.ksets := by unfold limited; split <;> simp [h0]

@[simp] theorem limited_net (s : State) (n : Nat) (f : State → State) (p : Rep) (h0 : ∀ u, (f u).net = u.net) :
    (limited s n f p).net = s.net := by unfold limited; split <;> simp [h0]

@[simp] theorem limited_cxl_up (s : State) (n : Nat) (f : State → State) (p : Rep) (h0 : ∀ u, (f u).cxl.up = u.cxl.up) :
    (limited s n f p).cxl.up = s.cxl.up := by unfold limited; split <;> simp [h0]

@[simp] theorem limited_cxl_tsp (s : State) (n : Nat) (f : State → State) (p : Rep) (h0 : ∀ u, (f u).cxl.tsp = u.cxl.tsp) :
    (limited s n f p).cxl.tsp = s.cxl.tsp := by unfold limited; split <;> simp [h0]

@[simp] theorem limited_cxl_rings (s : State) (n : Nat) (f : State → State) (p : Rep) (h0 : ∀ u, (f u).cxl.rings = u.cxl.rings) :
    (limited s n f p).cxl.rings = s.cxl.rings := by unfold limited; split <;> simp [h0]

@[simp] theorem limited_hal (s : State) (n : Nat) (f : State → State) (p : Rep) (h0 : ∀ u, (f u).hal = u.hal) :
    (limited s n f p).hal = s.hal := by unfold limited; split <;> simp [h0]

@[simp] theorem limited_power (s : State) (n : Nat) (f : State → State) (p : Rep) (h0 : ∀ u, (f u).power = u.power) :
    (limited s n f p).power = s.power := by unfold limited; split <;> simp [h0]

@[simp] theorem limited_clock_now (s : State) (n : Nat) (f : State → State) (p : Rep) (h0 : ∀ u, (f u).clock.now = u.clock.now) :
    (limited s n f p).clock.now = s.clock.now := by unfold limited; split <;> simp [h0]

@[simp] theorem limited_dram_mem (s : State) (n : Nat) (f : State → State) (p : Rep) (h0 : ∀ u, (f u).dram.mem = u.dram.mem) :
    (limited s n f p).dram.mem = s.dram.mem := by unfold limited; split <;> simp [h0]

@[simp] theorem limited_hal_dict (s : State) (n : Nat) (f : State → State) (p : Rep) (h0 : ∀ u, (f u).hal.dict = u.hal.dict) :
    (limited s n f p).hal.dict = s.hal.dict := by unfold limited; split <;> simp [h0]

@[simp] theorem limited_hal_serving (s : State) (n : Nat) (f : State → State) (p : Rep) (h0 : ∀ u, (f u).hal.serving = u.hal.serving) :
    (limited s n f p).hal.serving = s.hal.serving := by unfold limited; split <;> simp [h0]

@[simp] theorem limited_hal_sess (s : State) (n : Nat) (f : State → State) (p : Rep) (h0 : ∀ u, (f u).hal.sess = u.hal.sess) :
    (limited s n f p).hal.sess = s.hal.sess := by unfold limited; split <;> simp [h0]

@[simp] theorem limited_lamp_fuses (s : State) (n : Nat) (f : State → State) (p : Rep) (h0 : ∀ u, (f u).lamp.fuses = u.lamp.fuses) :
    (limited s n f p).lamp.fuses = s.lamp.fuses := by unfold limited; split <;> simp [h0]

@[simp] theorem Run.finish_keeps (s : State) (g l : Nat) (r : Run) :
    (Run.finish s g l r).pending = s.pending ∧ (Run.finish s g l r).free = s.free ∧ (Run.finish s g l r).pins = s.pins ∧ (Run.finish s g l r).clock = s.clock ∧ (Run.finish s g l r).plan = s.plan ∧ (Run.finish s g l r).roll = s.roll ∧ (Run.finish s g l r).changes = s.changes ∧ (Run.finish s g l r).galx = s.galx ∧ (Run.finish s g l r).dram = s.dram ∧ (Run.finish s g l r).net = s.net ∧ (Run.finish s g l r).hal = s.hal ∧ (Run.finish s g l r).lamp.fuses = s.lamp.fuses ∧ (Run.finish s g l r).power = s.power ∧ (Run.finish s g l r).cxl.up = s.cxl.up ∧ (Run.finish s g l r).cxl.tsp = s.cxl.tsp ∧ (Run.finish s g l r).cxl.rings = s.cxl.rings := by simp [Run.finish]

@[simp] theorem endDescriptor_keeps (s : State) (g l : Nat) (u : Unit4) :
    (endDescriptor s g l u).pending = s.pending ∧ (endDescriptor s g l u).free = s.free ∧ (endDescriptor s g l u).pins = s.pins ∧ (endDescriptor s g l u).clock = s.clock ∧ (endDescriptor s g l u).plan = s.plan ∧ (endDescriptor s g l u).roll = s.roll ∧ (endDescriptor s g l u).changes = s.changes ∧ (endDescriptor s g l u).galx = s.galx ∧ (endDescriptor s g l u).dram = s.dram ∧ (endDescriptor s g l u).net = s.net ∧ (endDescriptor s g l u).hal = s.hal ∧ (endDescriptor s g l u).lamp.fuses = s.lamp.fuses ∧ (endDescriptor s g l u).power = s.power ∧ (endDescriptor s g l u).cxl.up = s.cxl.up ∧ (endDescriptor s g l u).cxl.tsp = s.cxl.tsp ∧ (endDescriptor s g l u).cxl.rings = s.cxl.rings := by simp only [endDescriptor]; (repeat' split) <;> simp

@[simp] theorem arrNotices_keeps (s : State) (g l op : Nat) (ps : List Nat) :
    (arrNotices s g l op ps).pending = s.pending ∧ (arrNotices s g l op ps).free = s.free ∧ (arrNotices s g l op ps).pins = s.pins ∧ (arrNotices s g l op ps).clock = s.clock ∧ (arrNotices s g l op ps).plan = s.plan ∧ (arrNotices s g l op ps).roll = s.roll ∧ (arrNotices s g l op ps).changes = s.changes ∧ (arrNotices s g l op ps).galx = s.galx ∧ (arrNotices s g l op ps).dram = s.dram ∧ (arrNotices s g l op ps).net = s.net ∧ (arrNotices s g l op ps).hal = s.hal ∧ (arrNotices s g l op ps).power = s.power ∧ (arrNotices s g l op ps).cxl.up = s.cxl.up ∧ (arrNotices s g l op ps).cxl.tsp = s.cxl.tsp ∧ (arrNotices s g l op ps).cxl.rings = s.cxl.rings ∧ (arrNotices s g l op ps).lamp.fuses = s.lamp.fuses := by simp [arrNotices]

@[simp] theorem loadSliver_keeps (s : State) (p : Port1) (g l : Nat) (gang : Bool) (c : ArrCtx) (fmt at_ : Nat) :
    (loadSliver s p g l gang c fmt at_).pending = s.pending ∧ (loadSliver s p g l gang c fmt at_).free = s.free ∧ (loadSliver s p g l gang c fmt at_).out = s.out ∧ (loadSliver s p g l gang c fmt at_).pins = s.pins ∧ (loadSliver s p g l gang c fmt at_).boot = s.boot ∧ (loadSliver s p g l gang c fmt at_).clock = s.clock ∧ (loadSliver s p g l gang c fmt at_).plan = s.plan ∧ (loadSliver s p g l gang c fmt at_).roll = s.roll ∧ (loadSliver s p g l gang c fmt at_).changes = s.changes ∧ (loadSliver s p g l gang c fmt at_).hall = s.hall ∧ (loadSliver s p g l gang c fmt at_).galx = s.galx ∧ (loadSliver s p g l gang c fmt at_).dram = s.dram ∧ (loadSliver s p g l gang c fmt at_).net = s.net ∧ (loadSliver s p g l gang c fmt at_).cxl = s.cxl ∧ (loadSliver s p g l gang c fmt at_).hal = s.hal ∧ (loadSliver s p g l gang c fmt at_).lamp = s.lamp ∧ (loadSliver s p g l gang c fmt at_).power = s.power ∧ (loadSliver s p g l gang c fmt at_).fault = s.fault := by simp [loadSliver]

@[simp] theorem runSliver_keeps (s : State) (g l : Nat) (d : Bytes) (c : ArrCtx) (rows : List (List ArrElem)) (words : List (Nat × List Nat)) (at_ : Nat) :
    (runSliver s g l d c rows words at_).pending = s.pending ∧ (runSliver s g l d c rows words at_).free = s.free ∧ (runSliver s g l d c rows words at_).out = s.out ∧ (runSliver s g l d c rows words at_).pins = s.pins ∧ (runSliver s g l d c rows words at_).boot = s.boot ∧ (runSliver s g l d c rows words at_).clock = s.clock ∧ (runSliver s g l d c rows words at_).plan = s.plan ∧ (runSliver s g l d c rows words at_).roll = s.roll ∧ (runSliver s g l d c rows words at_).changes = s.changes ∧ (runSliver s g l d c rows words at_).hall = s.hall ∧ (runSliver s g l d c rows words at_).galx = s.galx ∧ (runSliver s g l d c rows words at_).dram = s.dram ∧ (runSliver s g l d c rows words at_).net = s.net ∧ (runSliver s g l d c rows words at_).cxl = s.cxl ∧ (runSliver s g l d c rows words at_).hal = s.hal ∧ (runSliver s g l d c rows words at_).lamp = s.lamp ∧ (runSliver s g l d c rows words at_).power = s.power ∧ (runSliver s g l d c rows words at_).fault = s.fault := by simp [runSliver]

@[simp] theorem drainSliver_keeps (s : State) (g l bank : Nat) (seq : W16) (at_ : Nat) :
    (drainSliver s g l bank seq at_).pending = s.pending ∧ (drainSliver s g l bank seq at_).free = s.free ∧ (drainSliver s g l bank seq at_).out = s.out ∧ (drainSliver s g l bank seq at_).pins = s.pins ∧ (drainSliver s g l bank seq at_).boot = s.boot ∧ (drainSliver s g l bank seq at_).clock = s.clock ∧ (drainSliver s g l bank seq at_).plan = s.plan ∧ (drainSliver s g l bank seq at_).roll = s.roll ∧ (drainSliver s g l bank seq at_).changes = s.changes ∧ (drainSliver s g l bank seq at_).hall = s.hall ∧ (drainSliver s g l bank seq at_).galx = s.galx ∧ (drainSliver s g l bank seq at_).dram = s.dram ∧ (drainSliver s g l bank seq at_).net = s.net ∧ (drainSliver s g l bank seq at_).cxl = s.cxl ∧ (drainSliver s g l bank seq at_).hal = s.hal ∧ (drainSliver s g l bank seq at_).lamp = s.lamp ∧ (drainSliver s g l bank seq at_).power = s.power ∧ (drainSliver s g l bank seq at_).fault = s.fault := by simp [drainSliver]

@[simp] theorem popArray_keeps (s : State) (g l : Nat) (gang : Bool) :
    (popArray s g l gang).pending = s.pending ∧ (popArray s g l gang).free = s.free ∧ (popArray s g l gang).out = s.out ∧ (popArray s g l gang).pins = s.pins ∧ (popArray s g l gang).boot = s.boot ∧ (popArray s g l gang).clock = s.clock ∧ (popArray s g l gang).plan = s.plan ∧ (popArray s g l gang).roll = s.roll ∧ (popArray s g l gang).changes = s.changes ∧ (popArray s g l gang).hall = s.hall ∧ (popArray s g l gang).galx = s.galx ∧ (popArray s g l gang).dram = s.dram ∧ (popArray s g l gang).net = s.net ∧ (popArray s g l gang).cxl = s.cxl ∧ (popArray s g l gang).hal = s.hal ∧ (popArray s g l gang).lamp = s.lamp ∧ (popArray s g l gang).power = s.power ∧ (popArray s g l gang).fault = s.fault := by simp [popArray]

@[simp] theorem skipArray_keeps (s : State) (g l : Nat) (gang : Bool) (d : Bytes) (st d1 : Nat) :
    (skipArray s g l gang d st d1).pending = s.pending ∧ (skipArray s g l gang d st d1).free = s.free ∧ (skipArray s g l gang d st d1).pins = s.pins ∧ (skipArray s g l gang d st d1).clock = s.clock ∧ (skipArray s g l gang d st d1).plan = s.plan ∧ (skipArray s g l gang d st d1).roll = s.roll ∧ (skipArray s g l gang d st d1).changes = s.changes ∧ (skipArray s g l gang d st d1).galx = s.galx ∧ (skipArray s g l gang d st d1).dram = s.dram ∧ (skipArray s g l gang d st d1).net = s.net ∧ (skipArray s g l gang d st d1).hal = s.hal ∧ (skipArray s g l gang d st d1).lamp.fuses = s.lamp.fuses ∧ (skipArray s g l gang d st d1).power = s.power ∧ (skipArray s g l gang d st d1).cxl.up = s.cxl.up ∧ (skipArray s g l gang d st d1).cxl.tsp = s.cxl.tsp ∧ (skipArray s g l gang d st d1).cxl.rings = s.cxl.rings := by simp [skipArray]

@[simp] theorem keepArray_keeps (s : State) (g l : Nat) (d : Bytes) (till : Nat) :
    (keepArray s g l d till).pending = s.pending ∧ (keepArray s g l d till).free = s.free ∧ (keepArray s g l d till).out = s.out ∧ (keepArray s g l d till).pins = s.pins ∧ (keepArray s g l d till).boot = s.boot ∧ (keepArray s g l d till).clock = s.clock ∧ (keepArray s g l d till).plan = s.plan ∧ (keepArray s g l d till).roll = s.roll ∧ (keepArray s g l d till).changes = s.changes ∧ (keepArray s g l d till).hall = s.hall ∧ (keepArray s g l d till).galx = s.galx ∧ (keepArray s g l d till).dram = s.dram ∧ (keepArray s g l d till).net = s.net ∧ (keepArray s g l d till).cxl = s.cxl ∧ (keepArray s g l d till).hal = s.hal ∧ (keepArray s g l d till).lamp = s.lamp ∧ (keepArray s g l d till).power = s.power ∧ (keepArray s g l d till).fault = s.fault := by simp [keepArray]

@[simp] theorem arrStart_pending (s : State) (g l k : Nat) (t : Nat → Nat → Bool) (body : Nat → State → Bytes → Bool → State) (h0 : ∀ n u d b, (body n u d b).pending = u.pending) :
    (arrStart s g l k t body).pending = s.pending := by unfold arrStart; (repeat' split) <;> simp [h0]

@[simp] theorem arrStart_free (s : State) (g l k : Nat) (t : Nat → Nat → Bool) (body : Nat → State → Bytes → Bool → State) (h0 : ∀ n u d b, (body n u d b).free = u.free) :
    (arrStart s g l k t body).free = s.free := by unfold arrStart; (repeat' split) <;> simp [h0]

@[simp] theorem arrStart_out (s : State) (g l k : Nat) (t : Nat → Nat → Bool) (body : Nat → State → Bytes → Bool → State) (h0 : ∀ n u d b, (body n u d b).out = u.out) :
    (arrStart s g l k t body).out = s.out := by unfold arrStart; (repeat' split) <;> simp [h0]

@[simp] theorem arrStart_pins (s : State) (g l k : Nat) (t : Nat → Nat → Bool) (body : Nat → State → Bytes → Bool → State) (h0 : ∀ n u d b, (body n u d b).pins = u.pins) :
    (arrStart s g l k t body).pins = s.pins := by unfold arrStart; (repeat' split) <;> simp [h0]

@[simp] theorem arrStart_boot (s : State) (g l k : Nat) (t : Nat → Nat → Bool) (body : Nat → State → Bytes → Bool → State) (h0 : ∀ n u d b, (body n u d b).boot = u.boot) :
    (arrStart s g l k t body).boot = s.boot := by unfold arrStart; (repeat' split) <;> simp [h0]

@[simp] theorem arrStart_clock (s : State) (g l k : Nat) (t : Nat → Nat → Bool) (body : Nat → State → Bytes → Bool → State) (h0 : ∀ n u d b, (body n u d b).clock = u.clock) :
    (arrStart s g l k t body).clock = s.clock := by unfold arrStart; (repeat' split) <;> simp [h0]

@[simp] theorem arrStart_plan (s : State) (g l k : Nat) (t : Nat → Nat → Bool) (body : Nat → State → Bytes → Bool → State) (h0 : ∀ n u d b, (body n u d b).plan = u.plan) :
    (arrStart s g l k t body).plan = s.plan := by unfold arrStart; (repeat' split) <;> simp [h0]

@[simp] theorem arrStart_roll (s : State) (g l k : Nat) (t : Nat → Nat → Bool) (body : Nat → State → Bytes → Bool → State) (h0 : ∀ n u d b, (body n u d b).roll = u.roll) :
    (arrStart s g l k t body).roll = s.roll := by unfold arrStart; (repeat' split) <;> simp [h0]

@[simp] theorem arrStart_changes (s : State) (g l k : Nat) (t : Nat → Nat → Bool) (body : Nat → State → Bytes → Bool → State) (h0 : ∀ n u d b, (body n u d b).changes = u.changes) :
    (arrStart s g l k t body).changes = s.changes := by unfold arrStart; (repeat' split) <;> simp [h0]

@[simp] theorem arrStart_hall (s : State) (g l k : Nat) (t : Nat → Nat → Bool) (body : Nat → State → Bytes → Bool → State) (h0 : ∀ n u d b, (body n u d b).hall = u.hall) :
    (arrStart s g l k t body).hall = s.hall := by unfold arrStart; (repeat' split) <;> simp [h0]

@[simp] theorem arrStart_galx (s : State) (g l k : Nat) (t : Nat → Nat → Bool) (body : Nat → State → Bytes → Bool → State) (h0 : ∀ n u d b, (body n u d b).galx = u.galx) :
    (arrStart s g l k t body).galx = s.galx := by unfold arrStart; (repeat' split) <;> simp [h0]

@[simp] theorem arrStart_dram (s : State) (g l k : Nat) (t : Nat → Nat → Bool) (body : Nat → State → Bytes → Bool → State) (h0 : ∀ n u d b, (body n u d b).dram = u.dram) :
    (arrStart s g l k t body).dram = s.dram := by unfold arrStart; (repeat' split) <;> simp [h0]

@[simp] theorem arrStart_dram_spaces (s : State) (g l k : Nat) (t : Nat → Nat → Bool) (body : Nat → State → Bytes → Bool → State) (h0 : ∀ n u d b, (body n u d b).dram.spaces = u.dram.spaces) :
    (arrStart s g l k t body).dram.spaces = s.dram.spaces := by unfold arrStart; (repeat' split) <;> simp [h0]

@[simp] theorem arrStart_dram_psets (s : State) (g l k : Nat) (t : Nat → Nat → Bool) (body : Nat → State → Bytes → Bool → State) (h0 : ∀ n u d b, (body n u d b).dram.psets = u.dram.psets) :
    (arrStart s g l k t body).dram.psets = s.dram.psets := by unfold arrStart; (repeat' split) <;> simp [h0]

@[simp] theorem arrStart_dram_ksets (s : State) (g l k : Nat) (t : Nat → Nat → Bool) (body : Nat → State → Bytes → Bool → State) (h0 : ∀ n u d b, (body n u d b).dram.ksets = u.dram.ksets) :
    (arrStart s g l k t body).dram.ksets = s.dram.ksets := by unfold arrStart; (repeat' split) <;> simp [h0]

@[simp] theorem arrStart_net (s : State) (g l k : Nat) (t : Nat → Nat → Bool) (body : Nat → State → Bytes → Bool → State) (h0 : ∀ n u d b, (body n u d b).net = u.net) :
    (arrStart s g l k t body).net = s.net := by unfold arrStart; (repeat' split) <;> simp [h0]

@[simp] theorem arrStart_cxl (s : State) (g l k : Nat) (t : Nat → Nat → Bool) (body : Nat → State → Bytes → Bool → State) (h0 : ∀ n u d b, (body n u d b).cxl = u.cxl) :
    (arrStart s g l k t body).cxl = s.cxl := by unfold arrStart; (repeat' split) <;> simp [h0]

@[simp] theorem arrStart_cxl_up (s : State) (g l k : Nat) (t : Nat → Nat → Bool) (body : Nat → State → Bytes → Bool → State) (h0 : ∀ n u d b, (body n u d b).cxl.up = u.cxl.up) :
    (arrStart s g l k t body).cxl.up = s.cxl.up := by unfold arrStart; (repeat' split) <;> simp [h0]

@[simp] theorem arrStart_cxl_tsp (s : State) (g l k : Nat) (t : Nat → Nat → Bool) (body : Nat → State → Bytes → Bool → State) (h0 : ∀ n u d b, (body n u d b).cxl.tsp = u.cxl.tsp) :
    (arrStart s g l k t body).cxl.tsp = s.cxl.tsp := by unfold arrStart; (repeat' split) <;> simp [h0]

@[simp] theorem arrStart_cxl_rings (s : State) (g l k : Nat) (t : Nat → Nat → Bool) (body : Nat → State → Bytes → Bool → State) (h0 : ∀ n u d b, (body n u d b).cxl.rings = u.cxl.rings) :
    (arrStart s g l k t body).cxl.rings = s.cxl.rings := by unfold arrStart; (repeat' split) <;> simp [h0]

@[simp] theorem arrStart_hal (s : State) (g l k : Nat) (t : Nat → Nat → Bool) (body : Nat → State → Bytes → Bool → State) (h0 : ∀ n u d b, (body n u d b).hal = u.hal) :
    (arrStart s g l k t body).hal = s.hal := by unfold arrStart; (repeat' split) <;> simp [h0]

@[simp] theorem arrStart_lamp (s : State) (g l k : Nat) (t : Nat → Nat → Bool) (body : Nat → State → Bytes → Bool → State) (h0 : ∀ n u d b, (body n u d b).lamp = u.lamp) :
    (arrStart s g l k t body).lamp = s.lamp := by unfold arrStart; (repeat' split) <;> simp [h0]

@[simp] theorem arrStart_power (s : State) (g l k : Nat) (t : Nat → Nat → Bool) (body : Nat → State → Bytes → Bool → State) (h0 : ∀ n u d b, (body n u d b).power = u.power) :
    (arrStart s g l k t body).power = s.power := by unfold arrStart; (repeat' split) <;> simp [h0]

@[simp] theorem arrStart_fault (s : State) (g l k : Nat) (t : Nat → Nat → Bool) (body : Nat → State → Bytes → Bool → State) (h0 : ∀ n u d b, (body n u d b).fault = u.fault) :
    (arrStart s g l k t body).fault = s.fault := by unfold arrStart; (repeat' split) <;> simp [h0]

@[simp] theorem arrStart_boot_stage (s : State) (g l k : Nat) (t : Nat → Nat → Bool) (body : Nat → State → Bytes → Bool → State) (h0 : ∀ n u d b, (body n u d b).boot.stage = u.boot.stage) :
    (arrStart s g l k t body).boot.stage = s.boot.stage := by unfold arrStart; (repeat' split) <;> simp [h0]

@[simp] theorem arrStart_clock_now (s : State) (g l k : Nat) (t : Nat → Nat → Bool) (body : Nat → State → Bytes → Bool → State) (h0 : ∀ n u d b, (body n u d b).clock.now = u.clock.now) :
    (arrStart s g l k t body).clock.now = s.clock.now := by unfold arrStart; (repeat' split) <;> simp [h0]

@[simp] theorem arrStart_dram_mem (s : State) (g l k : Nat) (t : Nat → Nat → Bool) (body : Nat → State → Bytes → Bool → State) (h0 : ∀ n u d b, (body n u d b).dram.mem = u.dram.mem) :
    (arrStart s g l k t body).dram.mem = s.dram.mem := by unfold arrStart; (repeat' split) <;> simp [h0]

@[simp] theorem arrStart_hal_dict (s : State) (g l k : Nat) (t : Nat → Nat → Bool) (body : Nat → State → Bytes → Bool → State) (h0 : ∀ n u d b, (body n u d b).hal.dict = u.hal.dict) :
    (arrStart s g l k t body).hal.dict = s.hal.dict := by unfold arrStart; (repeat' split) <;> simp [h0]

@[simp] theorem arrStart_hal_serving (s : State) (g l k : Nat) (t : Nat → Nat → Bool) (body : Nat → State → Bytes → Bool → State) (h0 : ∀ n u d b, (body n u d b).hal.serving = u.hal.serving) :
    (arrStart s g l k t body).hal.serving = s.hal.serving := by unfold arrStart; (repeat' split) <;> simp [h0]

@[simp] theorem arrStart_hal_sess (s : State) (g l k : Nat) (t : Nat → Nat → Bool) (body : Nat → State → Bytes → Bool → State) (h0 : ∀ n u d b, (body n u d b).hal.sess = u.hal.sess) :
    (arrStart s g l k t body).hal.sess = s.hal.sess := by unfold arrStart; (repeat' split) <;> simp [h0]

@[simp] theorem arrStart_lamp_fuses (s : State) (g l k : Nat) (t : Nat → Nat → Bool) (body : Nat → State → Bytes → Bool → State) (h0 : ∀ n u d b, (body n u d b).lamp.fuses = u.lamp.fuses) :
    (arrStart s g l k t body).lamp.fuses = s.lamp.fuses := by unfold arrStart; (repeat' split) <;> simp [h0]

@[simp] theorem loadBody_keeps (g l : Nat) (at_ : Nat) (s : State) (d : Bytes) (gang : Bool) :
    (loadBody g l at_ s d gang).pending = s.pending ∧ (loadBody g l at_ s d gang).free = s.free ∧ (loadBody g l at_ s d gang).pins = s.pins ∧ (loadBody g l at_ s d gang).clock = s.clock ∧ (loadBody g l at_ s d gang).plan = s.plan ∧ (loadBody g l at_ s d gang).roll = s.roll ∧ (loadBody g l at_ s d gang).changes = s.changes ∧ (loadBody g l at_ s d gang).galx = s.galx ∧ (loadBody g l at_ s d gang).dram = s.dram ∧ (loadBody g l at_ s d gang).net = s.net ∧ (loadBody g l at_ s d gang).hal = s.hal ∧ (loadBody g l at_ s d gang).lamp.fuses = s.lamp.fuses ∧ (loadBody g l at_ s d gang).power = s.power ∧ (loadBody g l at_ s d gang).cxl.up = s.cxl.up ∧ (loadBody g l at_ s d gang).cxl.tsp = s.cxl.tsp ∧ (loadBody g l at_ s d gang).cxl.rings = s.cxl.rings := by unfold loadBody; (repeat' split) <;> simp

@[simp] theorem runBody_keeps (g l : Nat) (at_ : Nat) (s : State) (d : Bytes) (gang : Bool) :
    (runBody g l at_ s d gang).pending = s.pending ∧ (runBody g l at_ s d gang).free = s.free ∧ (runBody g l at_ s d gang).pins = s.pins ∧ (runBody g l at_ s d gang).clock = s.clock ∧ (runBody g l at_ s d gang).plan = s.plan ∧ (runBody g l at_ s d gang).roll = s.roll ∧ (runBody g l at_ s d gang).changes = s.changes ∧ (runBody g l at_ s d gang).galx = s.galx ∧ (runBody g l at_ s d gang).dram = s.dram ∧ (runBody g l at_ s d gang).net = s.net ∧ (runBody g l at_ s d gang).hal = s.hal ∧ (runBody g l at_ s d gang).lamp.fuses = s.lamp.fuses ∧ (runBody g l at_ s d gang).power = s.power ∧ (runBody g l at_ s d gang).cxl.up = s.cxl.up ∧ (runBody g l at_ s d gang).cxl.tsp = s.cxl.tsp ∧ (runBody g l at_ s d gang).cxl.rings = s.cxl.rings := by unfold runBody; (repeat' split) <;> simp

@[simp] theorem drainBody_keeps (g l : Nat) (seqs : Nat → W16) (at_ : Nat) (s : State) (d : Bytes) (gang : Bool) :
    (drainBody g l seqs at_ s d gang).pending = s.pending ∧ (drainBody g l seqs at_ s d gang).free = s.free ∧ (drainBody g l seqs at_ s d gang).pins = s.pins ∧ (drainBody g l seqs at_ s d gang).clock = s.clock ∧ (drainBody g l seqs at_ s d gang).plan = s.plan ∧ (drainBody g l seqs at_ s d gang).roll = s.roll ∧ (drainBody g l seqs at_ s d gang).changes = s.changes ∧ (drainBody g l seqs at_ s d gang).galx = s.galx ∧ (drainBody g l seqs at_ s d gang).dram = s.dram ∧ (drainBody g l seqs at_ s d gang).net = s.net ∧ (drainBody g l seqs at_ s d gang).hal = s.hal ∧ (drainBody g l seqs at_ s d gang).lamp.fuses = s.lamp.fuses ∧ (drainBody g l seqs at_ s d gang).power = s.power ∧ (drainBody g l seqs at_ s d gang).cxl.up = s.cxl.up ∧ (drainBody g l seqs at_ s d gang).cxl.tsp = s.cxl.tsp ∧ (drainBody g l seqs at_ s d gang).cxl.rings = s.cxl.rings := by unfold drainBody; (repeat' split) <;> simp

@[simp] theorem touchSess_keeps (s : State) (q : Req) :
    (touchSess s q).pending = s.pending ∧ (touchSess s q).free = s.free ∧ (touchSess s q).out = s.out ∧ (touchSess s q).pins = s.pins ∧ (touchSess s q).boot = s.boot ∧ (touchSess s q).clock = s.clock ∧ (touchSess s q).plan = s.plan ∧ (touchSess s q).roll = s.roll ∧ (touchSess s q).changes = s.changes ∧ (touchSess s q).hall = s.hall ∧ (touchSess s q).gal = s.gal ∧ (touchSess s q).galx = s.galx ∧ (touchSess s q).dram = s.dram ∧ (touchSess s q).net = s.net ∧ (touchSess s q).cxl = s.cxl ∧ (touchSess s q).hal.dict = s.hal.dict ∧ (touchSess s q).hal.serving = s.hal.serving ∧ (touchSess s q).lamp = s.lamp ∧ (touchSess s q).power = s.power ∧ (touchSess s q).fault = s.fault := by simp [touchSess]

@[simp] theorem keepAsked_keeps (index sub : Nat) (v : Bytes) (s : State) :
    (keepAsked index sub v s).pending = s.pending ∧ (keepAsked index sub v s).free = s.free ∧ (keepAsked index sub v s).out = s.out ∧ (keepAsked index sub v s).pins = s.pins ∧ (keepAsked index sub v s).boot = s.boot ∧ (keepAsked index sub v s).clock = s.clock ∧ (keepAsked index sub v s).plan = s.plan ∧ (keepAsked index sub v s).roll = s.roll ∧ (keepAsked index sub v s).changes = s.changes ∧ (keepAsked index sub v s).hall = s.hall ∧ (keepAsked index sub v s).gal = s.gal ∧ (keepAsked index sub v s).galx = s.galx ∧ (keepAsked index sub v s).dram = s.dram ∧ (keepAsked index sub v s).net = s.net ∧ (keepAsked index sub v s).cxl = s.cxl ∧ (keepAsked index sub v s).hal.serving = s.hal.serving ∧ (keepAsked index sub v s).hal.sess = s.hal.sess ∧ (keepAsked index sub v s).lamp = s.lamp ∧ (keepAsked index sub v s).power = s.power ∧ (keepAsked index sub v s).fault = s.fault := by simp [keepAsked]

@[simp] theorem writeWith_pending (s : State) (q : Req) (i k : Nat) (v : Bytes) (part : Option Nat) (j : JChange → JChange) (f : State → Who → Applied) (h0 : ∀ u w t o n, f u w = .ok (t, o, n) → t.pending = u.pending) :
    (writeWith s q i k v part j f).1.pending = s.pending := by
  unfold writeWith
  cases hw : whoOf s q with
  | error e => simp
  | ok w =>
    cases hf : f (touchSess s q) w with
    | error e => simp only [hf]; (repeat' split) <;> simp
    | ok r => obtain ⟨t, o, n⟩ := r; have e := h0 _ _ _ _ _ hf; simp only [hf]; (repeat' split) <;> simp [e]

@[simp] theorem writeWith_free (s : State) (q : Req) (i k : Nat) (v : Bytes) (part : Option Nat) (j : JChange → JChange) (f : State → Who → Applied) (h0 : ∀ u w t o n, f u w = .ok (t, o, n) → t.free = u.free) :
    (writeWith s q i k v part j f).1.free = s.free := by
  unfold writeWith
  cases hw : whoOf s q with
  | error e => simp
  | ok w =>
    cases hf : f (touchSess s q) w with
    | error e => simp only [hf]; (repeat' split) <;> simp
    | ok r => obtain ⟨t, o, n⟩ := r; have e := h0 _ _ _ _ _ hf; simp only [hf]; (repeat' split) <;> simp [e]

@[simp] theorem writeWith_out (s : State) (q : Req) (i k : Nat) (v : Bytes) (part : Option Nat) (j : JChange → JChange) (f : State → Who → Applied) (h0 : ∀ u w t o n, f u w = .ok (t, o, n) → t.out = u.out) :
    (writeWith s q i k v part j f).1.out = s.out := by
  unfold writeWith
  cases hw : whoOf s q with
  | error e => simp
  | ok w =>
    cases hf : f (touchSess s q) w with
    | error e => simp only [hf]; (repeat' split) <;> simp
    | ok r => obtain ⟨t, o, n⟩ := r; have e := h0 _ _ _ _ _ hf; simp only [hf]; (repeat' split) <;> simp [e]

@[simp] theorem writeWith_pins (s : State) (q : Req) (i k : Nat) (v : Bytes) (part : Option Nat) (j : JChange → JChange) (f : State → Who → Applied) (h0 : ∀ u w t o n, f u w = .ok (t, o, n) → t.pins = u.pins) :
    (writeWith s q i k v part j f).1.pins = s.pins := by
  unfold writeWith
  cases hw : whoOf s q with
  | error e => simp
  | ok w =>
    cases hf : f (touchSess s q) w with
    | error e => simp only [hf]; (repeat' split) <;> simp
    | ok r => obtain ⟨t, o, n⟩ := r; have e := h0 _ _ _ _ _ hf; simp only [hf]; (repeat' split) <;> simp [e]

@[simp] theorem writeWith_boot (s : State) (q : Req) (i k : Nat) (v : Bytes) (part : Option Nat) (j : JChange → JChange) (f : State → Who → Applied) (h0 : ∀ u w t o n, f u w = .ok (t, o, n) → t.boot = u.boot) :
    (writeWith s q i k v part j f).1.boot = s.boot := by
  unfold writeWith
  cases hw : whoOf s q with
  | error e => simp
  | ok w =>
    cases hf : f (touchSess s q) w with
    | error e => simp only [hf]; (repeat' split) <;> simp
    | ok r => obtain ⟨t, o, n⟩ := r; have e := h0 _ _ _ _ _ hf; simp only [hf]; (repeat' split) <;> simp [e]

@[simp] theorem writeWith_clock (s : State) (q : Req) (i k : Nat) (v : Bytes) (part : Option Nat) (j : JChange → JChange) (f : State → Who → Applied) (h0 : ∀ u w t o n, f u w = .ok (t, o, n) → t.clock = u.clock) :
    (writeWith s q i k v part j f).1.clock = s.clock := by
  unfold writeWith
  cases hw : whoOf s q with
  | error e => simp
  | ok w =>
    cases hf : f (touchSess s q) w with
    | error e => simp only [hf]; (repeat' split) <;> simp
    | ok r => obtain ⟨t, o, n⟩ := r; have e := h0 _ _ _ _ _ hf; simp only [hf]; (repeat' split) <;> simp [e]

@[simp] theorem writeWith_plan (s : State) (q : Req) (i k : Nat) (v : Bytes) (part : Option Nat) (j : JChange → JChange) (f : State → Who → Applied) (h0 : ∀ u w t o n, f u w = .ok (t, o, n) → t.plan = u.plan) :
    (writeWith s q i k v part j f).1.plan = s.plan := by
  unfold writeWith
  cases hw : whoOf s q with
  | error e => simp
  | ok w =>
    cases hf : f (touchSess s q) w with
    | error e => simp only [hf]; (repeat' split) <;> simp
    | ok r => obtain ⟨t, o, n⟩ := r; have e := h0 _ _ _ _ _ hf; simp only [hf]; (repeat' split) <;> simp [e]

@[simp] theorem writeWith_roll (s : State) (q : Req) (i k : Nat) (v : Bytes) (part : Option Nat) (j : JChange → JChange) (f : State → Who → Applied) (h0 : ∀ u w t o n, f u w = .ok (t, o, n) → t.roll = u.roll) :
    (writeWith s q i k v part j f).1.roll = s.roll := by
  unfold writeWith
  cases hw : whoOf s q with
  | error e => simp
  | ok w =>
    cases hf : f (touchSess s q) w with
    | error e => simp only [hf]; (repeat' split) <;> simp
    | ok r => obtain ⟨t, o, n⟩ := r; have e := h0 _ _ _ _ _ hf; simp only [hf]; (repeat' split) <;> simp [e]

@[simp] theorem writeWith_changes (s : State) (q : Req) (i k : Nat) (v : Bytes) (part : Option Nat) (j : JChange → JChange) (f : State → Who → Applied) (h0 : ∀ u w t o n, f u w = .ok (t, o, n) → t.changes = u.changes) :
    (writeWith s q i k v part j f).1.changes = s.changes := by
  unfold writeWith
  cases hw : whoOf s q with
  | error e => simp
  | ok w =>
    cases hf : f (touchSess s q) w with
    | error e => simp only [hf]; (repeat' split) <;> simp
    | ok r => obtain ⟨t, o, n⟩ := r; have e := h0 _ _ _ _ _ hf; simp only [hf]; (repeat' split) <;> simp [e]

@[simp] theorem writeWith_hall (s : State) (q : Req) (i k : Nat) (v : Bytes) (part : Option Nat) (j : JChange → JChange) (f : State → Who → Applied) (h0 : ∀ u w t o n, f u w = .ok (t, o, n) → t.hall = u.hall) :
    (writeWith s q i k v part j f).1.hall = s.hall := by
  unfold writeWith
  cases hw : whoOf s q with
  | error e => simp
  | ok w =>
    cases hf : f (touchSess s q) w with
    | error e => simp only [hf]; (repeat' split) <;> simp
    | ok r => obtain ⟨t, o, n⟩ := r; have e := h0 _ _ _ _ _ hf; simp only [hf]; (repeat' split) <;> simp [e]

@[simp] theorem writeWith_gal (s : State) (q : Req) (i k : Nat) (v : Bytes) (part : Option Nat) (j : JChange → JChange) (f : State → Who → Applied) (h0 : ∀ u w t o n, f u w = .ok (t, o, n) → t.gal = u.gal) :
    (writeWith s q i k v part j f).1.gal = s.gal := by
  unfold writeWith
  cases hw : whoOf s q with
  | error e => simp
  | ok w =>
    cases hf : f (touchSess s q) w with
    | error e => simp only [hf]; (repeat' split) <;> simp
    | ok r => obtain ⟨t, o, n⟩ := r; have e := h0 _ _ _ _ _ hf; simp only [hf]; (repeat' split) <;> simp [e]

@[simp] theorem writeWith_galx (s : State) (q : Req) (i k : Nat) (v : Bytes) (part : Option Nat) (j : JChange → JChange) (f : State → Who → Applied) (h0 : ∀ u w t o n, f u w = .ok (t, o, n) → t.galx = u.galx) :
    (writeWith s q i k v part j f).1.galx = s.galx := by
  unfold writeWith
  cases hw : whoOf s q with
  | error e => simp
  | ok w =>
    cases hf : f (touchSess s q) w with
    | error e => simp only [hf]; (repeat' split) <;> simp
    | ok r => obtain ⟨t, o, n⟩ := r; have e := h0 _ _ _ _ _ hf; simp only [hf]; (repeat' split) <;> simp [e]

@[simp] theorem writeWith_dram (s : State) (q : Req) (i k : Nat) (v : Bytes) (part : Option Nat) (j : JChange → JChange) (f : State → Who → Applied) (h0 : ∀ u w t o n, f u w = .ok (t, o, n) → t.dram = u.dram) :
    (writeWith s q i k v part j f).1.dram = s.dram := by
  unfold writeWith
  cases hw : whoOf s q with
  | error e => simp
  | ok w =>
    cases hf : f (touchSess s q) w with
    | error e => simp only [hf]; (repeat' split) <;> simp
    | ok r => obtain ⟨t, o, n⟩ := r; have e := h0 _ _ _ _ _ hf; simp only [hf]; (repeat' split) <;> simp [e]

@[simp] theorem writeWith_dram_spaces (s : State) (q : Req) (i k : Nat) (v : Bytes) (part : Option Nat) (j : JChange → JChange) (f : State → Who → Applied) (h0 : ∀ u w t o n, f u w = .ok (t, o, n) → t.dram.spaces = u.dram.spaces) :
    (writeWith s q i k v part j f).1.dram.spaces = s.dram.spaces := by
  unfold writeWith
  cases hw : whoOf s q with
  | error e => simp
  | ok w =>
    cases hf : f (touchSess s q) w with
    | error e => simp only [hf]; (repeat' split) <;> simp
    | ok r => obtain ⟨t, o, n⟩ := r; have e := h0 _ _ _ _ _ hf; simp only [hf]; (repeat' split) <;> simp [e]

@[simp] theorem writeWith_dram_psets (s : State) (q : Req) (i k : Nat) (v : Bytes) (part : Option Nat) (j : JChange → JChange) (f : State → Who → Applied) (h0 : ∀ u w t o n, f u w = .ok (t, o, n) → t.dram.psets = u.dram.psets) :
    (writeWith s q i k v part j f).1.dram.psets = s.dram.psets := by
  unfold writeWith
  cases hw : whoOf s q with
  | error e => simp
  | ok w =>
    cases hf : f (touchSess s q) w with
    | error e => simp only [hf]; (repeat' split) <;> simp
    | ok r => obtain ⟨t, o, n⟩ := r; have e := h0 _ _ _ _ _ hf; simp only [hf]; (repeat' split) <;> simp [e]

@[simp] theorem writeWith_dram_ksets (s : State) (q : Req) (i k : Nat) (v : Bytes) (part : Option Nat) (j : JChange → JChange) (f : State → Who → Applied) (h0 : ∀ u w t o n, f u w = .ok (t, o, n) → t.dram.ksets = u.dram.ksets) :
    (writeWith s q i k v part j f).1.dram.ksets = s.dram.ksets := by
  unfold writeWith
  cases hw : whoOf s q with
  | error e => simp
  | ok w =>
    cases hf : f (touchSess s q) w with
    | error e => simp only [hf]; (repeat' split) <;> simp
    | ok r => obtain ⟨t, o, n⟩ := r; have e := h0 _ _ _ _ _ hf; simp only [hf]; (repeat' split) <;> simp [e]

@[simp] theorem writeWith_net (s : State) (q : Req) (i k : Nat) (v : Bytes) (part : Option Nat) (j : JChange → JChange) (f : State → Who → Applied) (h0 : ∀ u w t o n, f u w = .ok (t, o, n) → t.net = u.net) :
    (writeWith s q i k v part j f).1.net = s.net := by
  unfold writeWith
  cases hw : whoOf s q with
  | error e => simp
  | ok w =>
    cases hf : f (touchSess s q) w with
    | error e => simp only [hf]; (repeat' split) <;> simp
    | ok r => obtain ⟨t, o, n⟩ := r; have e := h0 _ _ _ _ _ hf; simp only [hf]; (repeat' split) <;> simp [e]

@[simp] theorem writeWith_cxl (s : State) (q : Req) (i k : Nat) (v : Bytes) (part : Option Nat) (j : JChange → JChange) (f : State → Who → Applied) (h0 : ∀ u w t o n, f u w = .ok (t, o, n) → t.cxl = u.cxl) :
    (writeWith s q i k v part j f).1.cxl = s.cxl := by
  unfold writeWith
  cases hw : whoOf s q with
  | error e => simp
  | ok w =>
    cases hf : f (touchSess s q) w with
    | error e => simp only [hf]; (repeat' split) <;> simp
    | ok r => obtain ⟨t, o, n⟩ := r; have e := h0 _ _ _ _ _ hf; simp only [hf]; (repeat' split) <;> simp [e]

@[simp] theorem writeWith_cxl_up (s : State) (q : Req) (i k : Nat) (v : Bytes) (part : Option Nat) (j : JChange → JChange) (f : State → Who → Applied) (h0 : ∀ u w t o n, f u w = .ok (t, o, n) → t.cxl.up = u.cxl.up) :
    (writeWith s q i k v part j f).1.cxl.up = s.cxl.up := by
  unfold writeWith
  cases hw : whoOf s q with
  | error e => simp
  | ok w =>
    cases hf : f (touchSess s q) w with
    | error e => simp only [hf]; (repeat' split) <;> simp
    | ok r => obtain ⟨t, o, n⟩ := r; have e := h0 _ _ _ _ _ hf; simp only [hf]; (repeat' split) <;> simp [e]

@[simp] theorem writeWith_cxl_tsp (s : State) (q : Req) (i k : Nat) (v : Bytes) (part : Option Nat) (j : JChange → JChange) (f : State → Who → Applied) (h0 : ∀ u w t o n, f u w = .ok (t, o, n) → t.cxl.tsp = u.cxl.tsp) :
    (writeWith s q i k v part j f).1.cxl.tsp = s.cxl.tsp := by
  unfold writeWith
  cases hw : whoOf s q with
  | error e => simp
  | ok w =>
    cases hf : f (touchSess s q) w with
    | error e => simp only [hf]; (repeat' split) <;> simp
    | ok r => obtain ⟨t, o, n⟩ := r; have e := h0 _ _ _ _ _ hf; simp only [hf]; (repeat' split) <;> simp [e]

@[simp] theorem writeWith_cxl_rings (s : State) (q : Req) (i k : Nat) (v : Bytes) (part : Option Nat) (j : JChange → JChange) (f : State → Who → Applied) (h0 : ∀ u w t o n, f u w = .ok (t, o, n) → t.cxl.rings = u.cxl.rings) :
    (writeWith s q i k v part j f).1.cxl.rings = s.cxl.rings := by
  unfold writeWith
  cases hw : whoOf s q with
  | error e => simp
  | ok w =>
    cases hf : f (touchSess s q) w with
    | error e => simp only [hf]; (repeat' split) <;> simp
    | ok r => obtain ⟨t, o, n⟩ := r; have e := h0 _ _ _ _ _ hf; simp only [hf]; (repeat' split) <;> simp [e]

@[simp] theorem writeWith_lamp (s : State) (q : Req) (i k : Nat) (v : Bytes) (part : Option Nat) (j : JChange → JChange) (f : State → Who → Applied) (h0 : ∀ u w t o n, f u w = .ok (t, o, n) → t.lamp = u.lamp) :
    (writeWith s q i k v part j f).1.lamp = s.lamp := by
  unfold writeWith
  cases hw : whoOf s q with
  | error e => simp
  | ok w =>
    cases hf : f (touchSess s q) w with
    | error e => simp only [hf]; (repeat' split) <;> simp
    | ok r => obtain ⟨t, o, n⟩ := r; have e := h0 _ _ _ _ _ hf; simp only [hf]; (repeat' split) <;> simp [e]

@[simp] theorem writeWith_power (s : State) (q : Req) (i k : Nat) (v : Bytes) (part : Option Nat) (j : JChange → JChange) (f : State → Who → Applied) (h0 : ∀ u w t o n, f u w = .ok (t, o, n) → t.power = u.power) :
    (writeWith s q i k v part j f).1.power = s.power := by
  unfold writeWith
  cases hw : whoOf s q with
  | error e => simp
  | ok w =>
    cases hf : f (touchSess s q) w with
    | error e => simp only [hf]; (repeat' split) <;> simp
    | ok r => obtain ⟨t, o, n⟩ := r; have e := h0 _ _ _ _ _ hf; simp only [hf]; (repeat' split) <;> simp [e]

@[simp] theorem writeWith_fault (s : State) (q : Req) (i k : Nat) (v : Bytes) (part : Option Nat) (j : JChange → JChange) (f : State → Who → Applied) (h0 : ∀ u w t o n, f u w = .ok (t, o, n) → t.fault = u.fault) :
    (writeWith s q i k v part j f).1.fault = s.fault := by
  unfold writeWith
  cases hw : whoOf s q with
  | error e => simp
  | ok w =>
    cases hf : f (touchSess s q) w with
    | error e => simp only [hf]; (repeat' split) <;> simp
    | ok r => obtain ⟨t, o, n⟩ := r; have e := h0 _ _ _ _ _ hf; simp only [hf]; (repeat' split) <;> simp [e]

@[simp] theorem writeWith_boot_stage (s : State) (q : Req) (i k : Nat) (v : Bytes) (part : Option Nat) (j : JChange → JChange) (f : State → Who → Applied) (h0 : ∀ u w t o n, f u w = .ok (t, o, n) → t.boot.stage = u.boot.stage) :
    (writeWith s q i k v part j f).1.boot.stage = s.boot.stage := by
  unfold writeWith
  cases hw : whoOf s q with
  | error e => simp
  | ok w =>
    cases hf : f (touchSess s q) w with
    | error e => simp only [hf]; (repeat' split) <;> simp
    | ok r => obtain ⟨t, o, n⟩ := r; have e := h0 _ _ _ _ _ hf; simp only [hf]; (repeat' split) <;> simp [e]

@[simp] theorem writeWith_clock_now (s : State) (q : Req) (i k : Nat) (v : Bytes) (part : Option Nat) (j : JChange → JChange) (f : State → Who → Applied) (h0 : ∀ u w t o n, f u w = .ok (t, o, n) → t.clock.now = u.clock.now) :
    (writeWith s q i k v part j f).1.clock.now = s.clock.now := by
  unfold writeWith
  cases hw : whoOf s q with
  | error e => simp
  | ok w =>
    cases hf : f (touchSess s q) w with
    | error e => simp only [hf]; (repeat' split) <;> simp
    | ok r => obtain ⟨t, o, n⟩ := r; have e := h0 _ _ _ _ _ hf; simp only [hf]; (repeat' split) <;> simp [e]

@[simp] theorem writeWith_dram_mem (s : State) (q : Req) (i k : Nat) (v : Bytes) (part : Option Nat) (j : JChange → JChange) (f : State → Who → Applied) (h0 : ∀ u w t o n, f u w = .ok (t, o, n) → t.dram.mem = u.dram.mem) :
    (writeWith s q i k v part j f).1.dram.mem = s.dram.mem := by
  unfold writeWith
  cases hw : whoOf s q with
  | error e => simp
  | ok w =>
    cases hf : f (touchSess s q) w with
    | error e => simp only [hf]; (repeat' split) <;> simp
    | ok r => obtain ⟨t, o, n⟩ := r; have e := h0 _ _ _ _ _ hf; simp only [hf]; (repeat' split) <;> simp [e]

@[simp] theorem writeWith_hal_serving (s : State) (q : Req) (i k : Nat) (v : Bytes) (part : Option Nat) (j : JChange → JChange) (f : State → Who → Applied) (h0 : ∀ u w t o n, f u w = .ok (t, o, n) → t.hal.serving = u.hal.serving) :
    (writeWith s q i k v part j f).1.hal.serving = s.hal.serving := by
  unfold writeWith
  cases hw : whoOf s q with
  | error e => simp
  | ok w =>
    cases hf : f (touchSess s q) w with
    | error e => simp only [hf]; (repeat' split) <;> simp
    | ok r => obtain ⟨t, o, n⟩ := r; have e := h0 _ _ _ _ _ hf; simp only [hf]; (repeat' split) <;> simp [e]

@[simp] theorem writeWith_lamp_fuses (s : State) (q : Req) (i k : Nat) (v : Bytes) (part : Option Nat) (j : JChange → JChange) (f : State → Who → Applied) (h0 : ∀ u w t o n, f u w = .ok (t, o, n) → t.lamp.fuses = u.lamp.fuses) :
    (writeWith s q i k v part j f).1.lamp.fuses = s.lamp.fuses := by
  unfold writeWith
  cases hw : whoOf s q with
  | error e => simp
  | ok w =>
    cases hf : f (touchSess s q) w with
    | error e => simp only [hf]; (repeat' split) <;> simp
    | ok r => obtain ⟨t, o, n⟩ := r; have e := h0 _ _ _ _ _ hf; simp only [hf]; (repeat' split) <;> simp [e]

@[simp] theorem askObj_pending (s : State) (q : Req) (i k : Nat) (v : Bytes) (part : Option Nat) (f : State → Who → Except Nat State) (h0 : ∀ u w t, f u w = .ok t → t.pending = u.pending) :
    (askObj s q i k v part f).1.pending = s.pending := by
  unfold askObj
  cases hw : whoOf s q with
  | error e => simp
  | ok w =>
    cases hf : f (touchSess s q) w with
    | error e => simp only [hf]; (repeat' split) <;> simp
    | ok t => have e := h0 _ _ _ hf; simp only [hf]; (repeat' split) <;> simp [e]

@[simp] theorem askObj_free (s : State) (q : Req) (i k : Nat) (v : Bytes) (part : Option Nat) (f : State → Who → Except Nat State) (h0 : ∀ u w t, f u w = .ok t → t.free = u.free) :
    (askObj s q i k v part f).1.free = s.free := by
  unfold askObj
  cases hw : whoOf s q with
  | error e => simp
  | ok w =>
    cases hf : f (touchSess s q) w with
    | error e => simp only [hf]; (repeat' split) <;> simp
    | ok t => have e := h0 _ _ _ hf; simp only [hf]; (repeat' split) <;> simp [e]

@[simp] theorem askObj_out (s : State) (q : Req) (i k : Nat) (v : Bytes) (part : Option Nat) (f : State → Who → Except Nat State) (h0 : ∀ u w t, f u w = .ok t → t.out = u.out) :
    (askObj s q i k v part f).1.out = s.out := by
  unfold askObj
  cases hw : whoOf s q with
  | error e => simp
  | ok w =>
    cases hf : f (touchSess s q) w with
    | error e => simp only [hf]; (repeat' split) <;> simp
    | ok t => have e := h0 _ _ _ hf; simp only [hf]; (repeat' split) <;> simp [e]

@[simp] theorem askObj_pins (s : State) (q : Req) (i k : Nat) (v : Bytes) (part : Option Nat) (f : State → Who → Except Nat State) (h0 : ∀ u w t, f u w = .ok t → t.pins = u.pins) :
    (askObj s q i k v part f).1.pins = s.pins := by
  unfold askObj
  cases hw : whoOf s q with
  | error e => simp
  | ok w =>
    cases hf : f (touchSess s q) w with
    | error e => simp only [hf]; (repeat' split) <;> simp
    | ok t => have e := h0 _ _ _ hf; simp only [hf]; (repeat' split) <;> simp [e]

@[simp] theorem askObj_boot (s : State) (q : Req) (i k : Nat) (v : Bytes) (part : Option Nat) (f : State → Who → Except Nat State) (h0 : ∀ u w t, f u w = .ok t → t.boot = u.boot) :
    (askObj s q i k v part f).1.boot = s.boot := by
  unfold askObj
  cases hw : whoOf s q with
  | error e => simp
  | ok w =>
    cases hf : f (touchSess s q) w with
    | error e => simp only [hf]; (repeat' split) <;> simp
    | ok t => have e := h0 _ _ _ hf; simp only [hf]; (repeat' split) <;> simp [e]

@[simp] theorem askObj_clock (s : State) (q : Req) (i k : Nat) (v : Bytes) (part : Option Nat) (f : State → Who → Except Nat State) (h0 : ∀ u w t, f u w = .ok t → t.clock = u.clock) :
    (askObj s q i k v part f).1.clock = s.clock := by
  unfold askObj
  cases hw : whoOf s q with
  | error e => simp
  | ok w =>
    cases hf : f (touchSess s q) w with
    | error e => simp only [hf]; (repeat' split) <;> simp
    | ok t => have e := h0 _ _ _ hf; simp only [hf]; (repeat' split) <;> simp [e]

@[simp] theorem askObj_plan (s : State) (q : Req) (i k : Nat) (v : Bytes) (part : Option Nat) (f : State → Who → Except Nat State) (h0 : ∀ u w t, f u w = .ok t → t.plan = u.plan) :
    (askObj s q i k v part f).1.plan = s.plan := by
  unfold askObj
  cases hw : whoOf s q with
  | error e => simp
  | ok w =>
    cases hf : f (touchSess s q) w with
    | error e => simp only [hf]; (repeat' split) <;> simp
    | ok t => have e := h0 _ _ _ hf; simp only [hf]; (repeat' split) <;> simp [e]

@[simp] theorem askObj_roll (s : State) (q : Req) (i k : Nat) (v : Bytes) (part : Option Nat) (f : State → Who → Except Nat State) (h0 : ∀ u w t, f u w = .ok t → t.roll = u.roll) :
    (askObj s q i k v part f).1.roll = s.roll := by
  unfold askObj
  cases hw : whoOf s q with
  | error e => simp
  | ok w =>
    cases hf : f (touchSess s q) w with
    | error e => simp only [hf]; (repeat' split) <;> simp
    | ok t => have e := h0 _ _ _ hf; simp only [hf]; (repeat' split) <;> simp [e]

@[simp] theorem askObj_changes (s : State) (q : Req) (i k : Nat) (v : Bytes) (part : Option Nat) (f : State → Who → Except Nat State) (h0 : ∀ u w t, f u w = .ok t → t.changes = u.changes) :
    (askObj s q i k v part f).1.changes = s.changes := by
  unfold askObj
  cases hw : whoOf s q with
  | error e => simp
  | ok w =>
    cases hf : f (touchSess s q) w with
    | error e => simp only [hf]; (repeat' split) <;> simp
    | ok t => have e := h0 _ _ _ hf; simp only [hf]; (repeat' split) <;> simp [e]

@[simp] theorem askObj_hall (s : State) (q : Req) (i k : Nat) (v : Bytes) (part : Option Nat) (f : State → Who → Except Nat State) (h0 : ∀ u w t, f u w = .ok t → t.hall = u.hall) :
    (askObj s q i k v part f).1.hall = s.hall := by
  unfold askObj
  cases hw : whoOf s q with
  | error e => simp
  | ok w =>
    cases hf : f (touchSess s q) w with
    | error e => simp only [hf]; (repeat' split) <;> simp
    | ok t => have e := h0 _ _ _ hf; simp only [hf]; (repeat' split) <;> simp [e]

@[simp] theorem askObj_gal (s : State) (q : Req) (i k : Nat) (v : Bytes) (part : Option Nat) (f : State → Who → Except Nat State) (h0 : ∀ u w t, f u w = .ok t → t.gal = u.gal) :
    (askObj s q i k v part f).1.gal = s.gal := by
  unfold askObj
  cases hw : whoOf s q with
  | error e => simp
  | ok w =>
    cases hf : f (touchSess s q) w with
    | error e => simp only [hf]; (repeat' split) <;> simp
    | ok t => have e := h0 _ _ _ hf; simp only [hf]; (repeat' split) <;> simp [e]

@[simp] theorem askObj_galx (s : State) (q : Req) (i k : Nat) (v : Bytes) (part : Option Nat) (f : State → Who → Except Nat State) (h0 : ∀ u w t, f u w = .ok t → t.galx = u.galx) :
    (askObj s q i k v part f).1.galx = s.galx := by
  unfold askObj
  cases hw : whoOf s q with
  | error e => simp
  | ok w =>
    cases hf : f (touchSess s q) w with
    | error e => simp only [hf]; (repeat' split) <;> simp
    | ok t => have e := h0 _ _ _ hf; simp only [hf]; (repeat' split) <;> simp [e]

@[simp] theorem askObj_dram (s : State) (q : Req) (i k : Nat) (v : Bytes) (part : Option Nat) (f : State → Who → Except Nat State) (h0 : ∀ u w t, f u w = .ok t → t.dram = u.dram) :
    (askObj s q i k v part f).1.dram = s.dram := by
  unfold askObj
  cases hw : whoOf s q with
  | error e => simp
  | ok w =>
    cases hf : f (touchSess s q) w with
    | error e => simp only [hf]; (repeat' split) <;> simp
    | ok t => have e := h0 _ _ _ hf; simp only [hf]; (repeat' split) <;> simp [e]

@[simp] theorem askObj_dram_spaces (s : State) (q : Req) (i k : Nat) (v : Bytes) (part : Option Nat) (f : State → Who → Except Nat State) (h0 : ∀ u w t, f u w = .ok t → t.dram.spaces = u.dram.spaces) :
    (askObj s q i k v part f).1.dram.spaces = s.dram.spaces := by
  unfold askObj
  cases hw : whoOf s q with
  | error e => simp
  | ok w =>
    cases hf : f (touchSess s q) w with
    | error e => simp only [hf]; (repeat' split) <;> simp
    | ok t => have e := h0 _ _ _ hf; simp only [hf]; (repeat' split) <;> simp [e]

@[simp] theorem askObj_dram_psets (s : State) (q : Req) (i k : Nat) (v : Bytes) (part : Option Nat) (f : State → Who → Except Nat State) (h0 : ∀ u w t, f u w = .ok t → t.dram.psets = u.dram.psets) :
    (askObj s q i k v part f).1.dram.psets = s.dram.psets := by
  unfold askObj
  cases hw : whoOf s q with
  | error e => simp
  | ok w =>
    cases hf : f (touchSess s q) w with
    | error e => simp only [hf]; (repeat' split) <;> simp
    | ok t => have e := h0 _ _ _ hf; simp only [hf]; (repeat' split) <;> simp [e]

@[simp] theorem askObj_dram_ksets (s : State) (q : Req) (i k : Nat) (v : Bytes) (part : Option Nat) (f : State → Who → Except Nat State) (h0 : ∀ u w t, f u w = .ok t → t.dram.ksets = u.dram.ksets) :
    (askObj s q i k v part f).1.dram.ksets = s.dram.ksets := by
  unfold askObj
  cases hw : whoOf s q with
  | error e => simp
  | ok w =>
    cases hf : f (touchSess s q) w with
    | error e => simp only [hf]; (repeat' split) <;> simp
    | ok t => have e := h0 _ _ _ hf; simp only [hf]; (repeat' split) <;> simp [e]

@[simp] theorem askObj_net (s : State) (q : Req) (i k : Nat) (v : Bytes) (part : Option Nat) (f : State → Who → Except Nat State) (h0 : ∀ u w t, f u w = .ok t → t.net = u.net) :
    (askObj s q i k v part f).1.net = s.net := by
  unfold askObj
  cases hw : whoOf s q with
  | error e => simp
  | ok w =>
    cases hf : f (touchSess s q) w with
    | error e => simp only [hf]; (repeat' split) <;> simp
    | ok t => have e := h0 _ _ _ hf; simp only [hf]; (repeat' split) <;> simp [e]

@[simp] theorem askObj_cxl (s : State) (q : Req) (i k : Nat) (v : Bytes) (part : Option Nat) (f : State → Who → Except Nat State) (h0 : ∀ u w t, f u w = .ok t → t.cxl = u.cxl) :
    (askObj s q i k v part f).1.cxl = s.cxl := by
  unfold askObj
  cases hw : whoOf s q with
  | error e => simp
  | ok w =>
    cases hf : f (touchSess s q) w with
    | error e => simp only [hf]; (repeat' split) <;> simp
    | ok t => have e := h0 _ _ _ hf; simp only [hf]; (repeat' split) <;> simp [e]

@[simp] theorem askObj_cxl_up (s : State) (q : Req) (i k : Nat) (v : Bytes) (part : Option Nat) (f : State → Who → Except Nat State) (h0 : ∀ u w t, f u w = .ok t → t.cxl.up = u.cxl.up) :
    (askObj s q i k v part f).1.cxl.up = s.cxl.up := by
  unfold askObj
  cases hw : whoOf s q with
  | error e => simp
  | ok w =>
    cases hf : f (touchSess s q) w with
    | error e => simp only [hf]; (repeat' split) <;> simp
    | ok t => have e := h0 _ _ _ hf; simp only [hf]; (repeat' split) <;> simp [e]

@[simp] theorem askObj_cxl_tsp (s : State) (q : Req) (i k : Nat) (v : Bytes) (part : Option Nat) (f : State → Who → Except Nat State) (h0 : ∀ u w t, f u w = .ok t → t.cxl.tsp = u.cxl.tsp) :
    (askObj s q i k v part f).1.cxl.tsp = s.cxl.tsp := by
  unfold askObj
  cases hw : whoOf s q with
  | error e => simp
  | ok w =>
    cases hf : f (touchSess s q) w with
    | error e => simp only [hf]; (repeat' split) <;> simp
    | ok t => have e := h0 _ _ _ hf; simp only [hf]; (repeat' split) <;> simp [e]

@[simp] theorem askObj_cxl_rings (s : State) (q : Req) (i k : Nat) (v : Bytes) (part : Option Nat) (f : State → Who → Except Nat State) (h0 : ∀ u w t, f u w = .ok t → t.cxl.rings = u.cxl.rings) :
    (askObj s q i k v part f).1.cxl.rings = s.cxl.rings := by
  unfold askObj
  cases hw : whoOf s q with
  | error e => simp
  | ok w =>
    cases hf : f (touchSess s q) w with
    | error e => simp only [hf]; (repeat' split) <;> simp
    | ok t => have e := h0 _ _ _ hf; simp only [hf]; (repeat' split) <;> simp [e]

@[simp] theorem askObj_lamp (s : State) (q : Req) (i k : Nat) (v : Bytes) (part : Option Nat) (f : State → Who → Except Nat State) (h0 : ∀ u w t, f u w = .ok t → t.lamp = u.lamp) :
    (askObj s q i k v part f).1.lamp = s.lamp := by
  unfold askObj
  cases hw : whoOf s q with
  | error e => simp
  | ok w =>
    cases hf : f (touchSess s q) w with
    | error e => simp only [hf]; (repeat' split) <;> simp
    | ok t => have e := h0 _ _ _ hf; simp only [hf]; (repeat' split) <;> simp [e]

@[simp] theorem askObj_power (s : State) (q : Req) (i k : Nat) (v : Bytes) (part : Option Nat) (f : State → Who → Except Nat State) (h0 : ∀ u w t, f u w = .ok t → t.power = u.power) :
    (askObj s q i k v part f).1.power = s.power := by
  unfold askObj
  cases hw : whoOf s q with
  | error e => simp
  | ok w =>
    cases hf : f (touchSess s q) w with
    | error e => simp only [hf]; (repeat' split) <;> simp
    | ok t => have e := h0 _ _ _ hf; simp only [hf]; (repeat' split) <;> simp [e]

@[simp] theorem askObj_fault (s : State) (q : Req) (i k : Nat) (v : Bytes) (part : Option Nat) (f : State → Who → Except Nat State) (h0 : ∀ u w t, f u w = .ok t → t.fault = u.fault) :
    (askObj s q i k v part f).1.fault = s.fault := by
  unfold askObj
  cases hw : whoOf s q with
  | error e => simp
  | ok w =>
    cases hf : f (touchSess s q) w with
    | error e => simp only [hf]; (repeat' split) <;> simp
    | ok t => have e := h0 _ _ _ hf; simp only [hf]; (repeat' split) <;> simp [e]

@[simp] theorem askObj_boot_stage (s : State) (q : Req) (i k : Nat) (v : Bytes) (part : Option Nat) (f : State → Who → Except Nat State) (h0 : ∀ u w t, f u w = .ok t → t.boot.stage = u.boot.stage) :
    (askObj s q i k v part f).1.boot.stage = s.boot.stage := by
  unfold askObj
  cases hw : whoOf s q with
  | error e => simp
  | ok w =>
    cases hf : f (touchSess s q) w with
    | error e => simp only [hf]; (repeat' split) <;> simp
    | ok t => have e := h0 _ _ _ hf; simp only [hf]; (repeat' split) <;> simp [e]

@[simp] theorem askObj_clock_now (s : State) (q : Req) (i k : Nat) (v : Bytes) (part : Option Nat) (f : State → Who → Except Nat State) (h0 : ∀ u w t, f u w = .ok t → t.clock.now = u.clock.now) :
    (askObj s q i k v part f).1.clock.now = s.clock.now := by
  unfold askObj
  cases hw : whoOf s q with
  | error e => simp
  | ok w =>
    cases hf : f (touchSess s q) w with
    | error e => simp only [hf]; (repeat' split) <;> simp
    | ok t => have e := h0 _ _ _ hf; simp only [hf]; (repeat' split) <;> simp [e]

@[simp] theorem askObj_dram_mem (s : State) (q : Req) (i k : Nat) (v : Bytes) (part : Option Nat) (f : State → Who → Except Nat State) (h0 : ∀ u w t, f u w = .ok t → t.dram.mem = u.dram.mem) :
    (askObj s q i k v part f).1.dram.mem = s.dram.mem := by
  unfold askObj
  cases hw : whoOf s q with
  | error e => simp
  | ok w =>
    cases hf : f (touchSess s q) w with
    | error e => simp only [hf]; (repeat' split) <;> simp
    | ok t => have e := h0 _ _ _ hf; simp only [hf]; (repeat' split) <;> simp [e]

@[simp] theorem askObj_hal_serving (s : State) (q : Req) (i k : Nat) (v : Bytes) (part : Option Nat) (f : State → Who → Except Nat State) (h0 : ∀ u w t, f u w = .ok t → t.hal.serving = u.hal.serving) :
    (askObj s q i k v part f).1.hal.serving = s.hal.serving := by
  unfold askObj
  cases hw : whoOf s q with
  | error e => simp
  | ok w =>
    cases hf : f (touchSess s q) w with
    | error e => simp only [hf]; (repeat' split) <;> simp
    | ok t => have e := h0 _ _ _ hf; simp only [hf]; (repeat' split) <;> simp [e]

@[simp] theorem askObj_lamp_fuses (s : State) (q : Req) (i k : Nat) (v : Bytes) (part : Option Nat) (f : State → Who → Except Nat State) (h0 : ∀ u w t, f u w = .ok t → t.lamp.fuses = u.lamp.fuses) :
    (askObj s q i k v part f).1.lamp.fuses = s.lamp.fuses := by
  unfold askObj
  cases hw : whoOf s q with
  | error e => simp
  | ok w =>
    cases hf : f (touchSess s q) w with
    | error e => simp only [hf]; (repeat' split) <;> simp
    | ok t => have e := h0 _ _ _ hf; simp only [hf]; (repeat' split) <;> simp [e]

@[simp] theorem writeObj_pending (s : State) (q : Req) (i k : Nat) (v : Bytes) (part : Option Nat) (f : State → Who → Applied) (h0 : ∀ u w t o n, f u w = .ok (t, o, n) → t.pending = u.pending) :
    (writeObj s q i k v part f).1.pending = s.pending := by unfold writeObj; exact writeWith_pending s q i k v part id f h0

@[simp] theorem writeObj_free (s : State) (q : Req) (i k : Nat) (v : Bytes) (part : Option Nat) (f : State → Who → Applied) (h0 : ∀ u w t o n, f u w = .ok (t, o, n) → t.free = u.free) :
    (writeObj s q i k v part f).1.free = s.free := by unfold writeObj; exact writeWith_free s q i k v part id f h0

@[simp] theorem writeObj_out (s : State) (q : Req) (i k : Nat) (v : Bytes) (part : Option Nat) (f : State → Who → Applied) (h0 : ∀ u w t o n, f u w = .ok (t, o, n) → t.out = u.out) :
    (writeObj s q i k v part f).1.out = s.out := by unfold writeObj; exact writeWith_out s q i k v part id f h0

@[simp] theorem writeObj_pins (s : State) (q : Req) (i k : Nat) (v : Bytes) (part : Option Nat) (f : State → Who → Applied) (h0 : ∀ u w t o n, f u w = .ok (t, o, n) → t.pins = u.pins) :
    (writeObj s q i k v part f).1.pins = s.pins := by unfold writeObj; exact writeWith_pins s q i k v part id f h0

@[simp] theorem writeObj_boot (s : State) (q : Req) (i k : Nat) (v : Bytes) (part : Option Nat) (f : State → Who → Applied) (h0 : ∀ u w t o n, f u w = .ok (t, o, n) → t.boot = u.boot) :
    (writeObj s q i k v part f).1.boot = s.boot := by unfold writeObj; exact writeWith_boot s q i k v part id f h0

@[simp] theorem writeObj_clock (s : State) (q : Req) (i k : Nat) (v : Bytes) (part : Option Nat) (f : State → Who → Applied) (h0 : ∀ u w t o n, f u w = .ok (t, o, n) → t.clock = u.clock) :
    (writeObj s q i k v part f).1.clock = s.clock := by unfold writeObj; exact writeWith_clock s q i k v part id f h0

@[simp] theorem writeObj_plan (s : State) (q : Req) (i k : Nat) (v : Bytes) (part : Option Nat) (f : State → Who → Applied) (h0 : ∀ u w t o n, f u w = .ok (t, o, n) → t.plan = u.plan) :
    (writeObj s q i k v part f).1.plan = s.plan := by unfold writeObj; exact writeWith_plan s q i k v part id f h0

@[simp] theorem writeObj_roll (s : State) (q : Req) (i k : Nat) (v : Bytes) (part : Option Nat) (f : State → Who → Applied) (h0 : ∀ u w t o n, f u w = .ok (t, o, n) → t.roll = u.roll) :
    (writeObj s q i k v part f).1.roll = s.roll := by unfold writeObj; exact writeWith_roll s q i k v part id f h0

@[simp] theorem writeObj_changes (s : State) (q : Req) (i k : Nat) (v : Bytes) (part : Option Nat) (f : State → Who → Applied) (h0 : ∀ u w t o n, f u w = .ok (t, o, n) → t.changes = u.changes) :
    (writeObj s q i k v part f).1.changes = s.changes := by unfold writeObj; exact writeWith_changes s q i k v part id f h0

@[simp] theorem writeObj_hall (s : State) (q : Req) (i k : Nat) (v : Bytes) (part : Option Nat) (f : State → Who → Applied) (h0 : ∀ u w t o n, f u w = .ok (t, o, n) → t.hall = u.hall) :
    (writeObj s q i k v part f).1.hall = s.hall := by unfold writeObj; exact writeWith_hall s q i k v part id f h0

@[simp] theorem writeObj_gal (s : State) (q : Req) (i k : Nat) (v : Bytes) (part : Option Nat) (f : State → Who → Applied) (h0 : ∀ u w t o n, f u w = .ok (t, o, n) → t.gal = u.gal) :
    (writeObj s q i k v part f).1.gal = s.gal := by unfold writeObj; exact writeWith_gal s q i k v part id f h0

@[simp] theorem writeObj_galx (s : State) (q : Req) (i k : Nat) (v : Bytes) (part : Option Nat) (f : State → Who → Applied) (h0 : ∀ u w t o n, f u w = .ok (t, o, n) → t.galx = u.galx) :
    (writeObj s q i k v part f).1.galx = s.galx := by unfold writeObj; exact writeWith_galx s q i k v part id f h0

@[simp] theorem writeObj_dram (s : State) (q : Req) (i k : Nat) (v : Bytes) (part : Option Nat) (f : State → Who → Applied) (h0 : ∀ u w t o n, f u w = .ok (t, o, n) → t.dram = u.dram) :
    (writeObj s q i k v part f).1.dram = s.dram := by unfold writeObj; exact writeWith_dram s q i k v part id f h0

@[simp] theorem writeObj_net (s : State) (q : Req) (i k : Nat) (v : Bytes) (part : Option Nat) (f : State → Who → Applied) (h0 : ∀ u w t o n, f u w = .ok (t, o, n) → t.net = u.net) :
    (writeObj s q i k v part f).1.net = s.net := by unfold writeObj; exact writeWith_net s q i k v part id f h0

@[simp] theorem writeObj_cxl (s : State) (q : Req) (i k : Nat) (v : Bytes) (part : Option Nat) (f : State → Who → Applied) (h0 : ∀ u w t o n, f u w = .ok (t, o, n) → t.cxl = u.cxl) :
    (writeObj s q i k v part f).1.cxl = s.cxl := by unfold writeObj; exact writeWith_cxl s q i k v part id f h0

@[simp] theorem writeObj_lamp (s : State) (q : Req) (i k : Nat) (v : Bytes) (part : Option Nat) (f : State → Who → Applied) (h0 : ∀ u w t o n, f u w = .ok (t, o, n) → t.lamp = u.lamp) :
    (writeObj s q i k v part f).1.lamp = s.lamp := by unfold writeObj; exact writeWith_lamp s q i k v part id f h0

@[simp] theorem writeObj_power (s : State) (q : Req) (i k : Nat) (v : Bytes) (part : Option Nat) (f : State → Who → Applied) (h0 : ∀ u w t o n, f u w = .ok (t, o, n) → t.power = u.power) :
    (writeObj s q i k v part f).1.power = s.power := by unfold writeObj; exact writeWith_power s q i k v part id f h0

@[simp] theorem writeObj_fault (s : State) (q : Req) (i k : Nat) (v : Bytes) (part : Option Nat) (f : State → Who → Applied) (h0 : ∀ u w t o n, f u w = .ok (t, o, n) → t.fault = u.fault) :
    (writeObj s q i k v part f).1.fault = s.fault := by unfold writeObj; exact writeWith_fault s q i k v part id f h0

@[simp] theorem writeObj_boot_stage (s : State) (q : Req) (i k : Nat) (v : Bytes) (part : Option Nat) (f : State → Who → Applied) (h0 : ∀ u w t o n, f u w = .ok (t, o, n) → t.boot.stage = u.boot.stage) :
    (writeObj s q i k v part f).1.boot.stage = s.boot.stage := by unfold writeObj; exact writeWith_boot_stage s q i k v part id f h0

@[simp] theorem writeObj_clock_now (s : State) (q : Req) (i k : Nat) (v : Bytes) (part : Option Nat) (f : State → Who → Applied) (h0 : ∀ u w t o n, f u w = .ok (t, o, n) → t.clock.now = u.clock.now) :
    (writeObj s q i k v part f).1.clock.now = s.clock.now := by unfold writeObj; exact writeWith_clock_now s q i k v part id f h0

@[simp] theorem writeObj_dram_mem (s : State) (q : Req) (i k : Nat) (v : Bytes) (part : Option Nat) (f : State → Who → Applied) (h0 : ∀ u w t o n, f u w = .ok (t, o, n) → t.dram.mem = u.dram.mem) :
    (writeObj s q i k v part f).1.dram.mem = s.dram.mem := by unfold writeObj; exact writeWith_dram_mem s q i k v part id f h0

@[simp] theorem writeObj_hal_serving (s : State) (q : Req) (i k : Nat) (v : Bytes) (part : Option Nat) (f : State → Who → Applied) (h0 : ∀ u w t o n, f u w = .ok (t, o, n) → t.hal.serving = u.hal.serving) :
    (writeObj s q i k v part f).1.hal.serving = s.hal.serving := by unfold writeObj; exact writeWith_hal_serving s q i k v part id f h0

@[simp] theorem writeObj_lamp_fuses (s : State) (q : Req) (i k : Nat) (v : Bytes) (part : Option Nat) (f : State → Who → Applied) (h0 : ∀ u w t o n, f u w = .ok (t, o, n) → t.lamp.fuses = u.lamp.fuses) :
    (writeObj s q i k v part f).1.lamp.fuses = s.lamp.fuses := by unfold writeObj; exact writeWith_lamp_fuses s q i k v part id f h0

@[simp] theorem respondFrame_keeps (s : State) (q : Req) (key f : Bytes) (st : Nat) (data : Bytes) (fflags offset total : Nat) :
    (respondFrame s q key f st data fflags offset total).pending = s.pending ∧ (respondFrame s q key f st data fflags offset total).free = s.free ∧ (respondFrame s q key f st data fflags offset total).pins = s.pins ∧ (respondFrame s q key f st data fflags offset total).boot = s.boot ∧ (respondFrame s q key f st data fflags offset total).clock = s.clock ∧ (respondFrame s q key f st data fflags offset total).plan = s.plan ∧ (respondFrame s q key f st data fflags offset total).roll = s.roll ∧ (respondFrame s q key f st data fflags offset total).changes = s.changes ∧ (respondFrame s q key f st data fflags offset total).hall = s.hall ∧ (respondFrame s q key f st data fflags offset total).gal = s.gal ∧ (respondFrame s q key f st data fflags offset total).galx = s.galx ∧ (respondFrame s q key f st data fflags offset total).dram = s.dram ∧ (respondFrame s q key f st data fflags offset total).net = s.net ∧ (respondFrame s q key f st data fflags offset total).cxl = s.cxl ∧ (respondFrame s q key f st data fflags offset total).hal.dict = s.hal.dict ∧ (respondFrame s q key f st data fflags offset total).hal.serving = s.hal.serving ∧ (respondFrame s q key f st data fflags offset total).lamp = s.lamp ∧ (respondFrame s q key f st data fflags offset total).power = s.power ∧ (respondFrame s q key f st data fflags offset total).fault = s.fault := by simp [respondFrame]

@[simp] theorem answer_keeps (s : State) (q : Req) (st : Nat) :
    (answer s q st).pending = s.pending ∧ (answer s q st).free = s.free ∧ (answer s q st).pins = s.pins ∧ (answer s q st).boot = s.boot ∧ (answer s q st).clock = s.clock ∧ (answer s q st).plan = s.plan ∧ (answer s q st).roll = s.roll ∧ (answer s q st).changes = s.changes ∧ (answer s q st).hall = s.hall ∧ (answer s q st).gal = s.gal ∧ (answer s q st).galx = s.galx ∧ (answer s q st).dram = s.dram ∧ (answer s q st).net = s.net ∧ (answer s q st).cxl = s.cxl ∧ (answer s q st).hal.dict = s.hal.dict ∧ (answer s q st).lamp = s.lamp ∧ (answer s q st).power = s.power ∧ (answer s q st).fault = s.fault := by unfold answer; (repeat' split) <;> simp

@[simp] theorem defer_keeps (s : State) (q : Req) :
    (defer s q).pending = s.pending ∧ (defer s q).free = s.free ∧ (defer s q).out = s.out ∧ (defer s q).pins = s.pins ∧ (defer s q).boot = s.boot ∧ (defer s q).clock = s.clock ∧ (defer s q).plan = s.plan ∧ (defer s q).roll = s.roll ∧ (defer s q).changes = s.changes ∧ (defer s q).hall = s.hall ∧ (defer s q).gal = s.gal ∧ (defer s q).galx = s.galx ∧ (defer s q).dram = s.dram ∧ (defer s q).net = s.net ∧ (defer s q).cxl = s.cxl ∧ (defer s q).hal.dict = s.hal.dict ∧ (defer s q).hal.sess = s.hal.sess ∧ (defer s q).lamp = s.lamp ∧ (defer s q).power = s.power ∧ (defer s q).fault = s.fault := by unfold defer; (repeat' split) <;> simp

@[simp] theorem answerLater_keeps (s : State) (q : Req) (p : Bytes → Bool) (st : Nat) :
    (answerLater s q p st).pending = s.pending ∧ (answerLater s q p st).free = s.free ∧ (answerLater s q p st).pins = s.pins ∧ (answerLater s q p st).boot = s.boot ∧ (answerLater s q p st).clock = s.clock ∧ (answerLater s q p st).plan = s.plan ∧ (answerLater s q p st).roll = s.roll ∧ (answerLater s q p st).changes = s.changes ∧ (answerLater s q p st).hall = s.hall ∧ (answerLater s q p st).gal = s.gal ∧ (answerLater s q p st).galx = s.galx ∧ (answerLater s q p st).dram = s.dram ∧ (answerLater s q p st).net = s.net ∧ (answerLater s q p st).cxl = s.cxl ∧ (answerLater s q p st).hal.dict = s.hal.dict ∧ (answerLater s q p st).hal.serving = s.hal.serving ∧ (answerLater s q p st).lamp = s.lamp ∧ (answerLater s q p st).power = s.power ∧ (answerLater s q p st).fault = s.fault := by unfold answerLater; (repeat' split) <;> simp

@[simp] theorem request_pending (s : State) (q : Req) (f : State → State) (h0 : ∀ u, (f u).pending = u.pending) :
    (request s q f).pending = s.pending := by unfold request; (repeat' split) <;> simp [h0]

@[simp] theorem request_free (s : State) (q : Req) (f : State → State) (h0 : ∀ u, (f u).free = u.free) :
    (request s q f).free = s.free := by unfold request; (repeat' split) <;> simp [h0]

@[simp] theorem request_pins (s : State) (q : Req) (f : State → State) (h0 : ∀ u, (f u).pins = u.pins) :
    (request s q f).pins = s.pins := by unfold request; (repeat' split) <;> simp [h0]

@[simp] theorem request_boot (s : State) (q : Req) (f : State → State) (h0 : ∀ u, (f u).boot = u.boot) :
    (request s q f).boot = s.boot := by unfold request; (repeat' split) <;> simp [h0]

@[simp] theorem request_clock (s : State) (q : Req) (f : State → State) (h0 : ∀ u, (f u).clock = u.clock) :
    (request s q f).clock = s.clock := by unfold request; (repeat' split) <;> simp [h0]

@[simp] theorem request_plan (s : State) (q : Req) (f : State → State) (h0 : ∀ u, (f u).plan = u.plan) :
    (request s q f).plan = s.plan := by unfold request; (repeat' split) <;> simp [h0]

@[simp] theorem request_roll (s : State) (q : Req) (f : State → State) (h0 : ∀ u, (f u).roll = u.roll) :
    (request s q f).roll = s.roll := by unfold request; (repeat' split) <;> simp [h0]

@[simp] theorem request_changes (s : State) (q : Req) (f : State → State) (h0 : ∀ u, (f u).changes = u.changes) :
    (request s q f).changes = s.changes := by unfold request; (repeat' split) <;> simp [h0]

@[simp] theorem request_hall (s : State) (q : Req) (f : State → State) (h0 : ∀ u, (f u).hall = u.hall) :
    (request s q f).hall = s.hall := by unfold request; (repeat' split) <;> simp [h0]

@[simp] theorem request_gal (s : State) (q : Req) (f : State → State) (h0 : ∀ u, (f u).gal = u.gal) :
    (request s q f).gal = s.gal := by unfold request; (repeat' split) <;> simp [h0]

@[simp] theorem request_galx (s : State) (q : Req) (f : State → State) (h0 : ∀ u, (f u).galx = u.galx) :
    (request s q f).galx = s.galx := by unfold request; (repeat' split) <;> simp [h0]

@[simp] theorem request_dram (s : State) (q : Req) (f : State → State) (h0 : ∀ u, (f u).dram = u.dram) :
    (request s q f).dram = s.dram := by unfold request; (repeat' split) <;> simp [h0]

@[simp] theorem request_dram_spaces (s : State) (q : Req) (f : State → State) (h0 : ∀ u, (f u).dram.spaces = u.dram.spaces) :
    (request s q f).dram.spaces = s.dram.spaces := by unfold request; (repeat' split) <;> simp [h0]

@[simp] theorem request_dram_psets (s : State) (q : Req) (f : State → State) (h0 : ∀ u, (f u).dram.psets = u.dram.psets) :
    (request s q f).dram.psets = s.dram.psets := by unfold request; (repeat' split) <;> simp [h0]

@[simp] theorem request_dram_ksets (s : State) (q : Req) (f : State → State) (h0 : ∀ u, (f u).dram.ksets = u.dram.ksets) :
    (request s q f).dram.ksets = s.dram.ksets := by unfold request; (repeat' split) <;> simp [h0]

@[simp] theorem request_net (s : State) (q : Req) (f : State → State) (h0 : ∀ u, (f u).net = u.net) :
    (request s q f).net = s.net := by unfold request; (repeat' split) <;> simp [h0]

@[simp] theorem request_cxl (s : State) (q : Req) (f : State → State) (h0 : ∀ u, (f u).cxl = u.cxl) :
    (request s q f).cxl = s.cxl := by unfold request; (repeat' split) <;> simp [h0]

@[simp] theorem request_cxl_up (s : State) (q : Req) (f : State → State) (h0 : ∀ u, (f u).cxl.up = u.cxl.up) :
    (request s q f).cxl.up = s.cxl.up := by unfold request; (repeat' split) <;> simp [h0]

@[simp] theorem request_cxl_tsp (s : State) (q : Req) (f : State → State) (h0 : ∀ u, (f u).cxl.tsp = u.cxl.tsp) :
    (request s q f).cxl.tsp = s.cxl.tsp := by unfold request; (repeat' split) <;> simp [h0]

@[simp] theorem request_cxl_rings (s : State) (q : Req) (f : State → State) (h0 : ∀ u, (f u).cxl.rings = u.cxl.rings) :
    (request s q f).cxl.rings = s.cxl.rings := by unfold request; (repeat' split) <;> simp [h0]

@[simp] theorem request_hal (s : State) (q : Req) (f : State → State) (h0 : ∀ u, (f u).hal = u.hal) :
    (request s q f).hal = s.hal := by unfold request; (repeat' split) <;> simp [h0]

@[simp] theorem request_lamp (s : State) (q : Req) (f : State → State) (h0 : ∀ u, (f u).lamp = u.lamp) :
    (request s q f).lamp = s.lamp := by unfold request; (repeat' split) <;> simp [h0]

@[simp] theorem request_power (s : State) (q : Req) (f : State → State) (h0 : ∀ u, (f u).power = u.power) :
    (request s q f).power = s.power := by unfold request; (repeat' split) <;> simp [h0]

@[simp] theorem request_fault (s : State) (q : Req) (f : State → State) (h0 : ∀ u, (f u).fault = u.fault) :
    (request s q f).fault = s.fault := by unfold request; (repeat' split) <;> simp [h0]

@[simp] theorem request_boot_stage (s : State) (q : Req) (f : State → State) (h0 : ∀ u, (f u).boot.stage = u.boot.stage) :
    (request s q f).boot.stage = s.boot.stage := by unfold request; (repeat' split) <;> simp [h0]

@[simp] theorem request_clock_now (s : State) (q : Req) (f : State → State) (h0 : ∀ u, (f u).clock.now = u.clock.now) :
    (request s q f).clock.now = s.clock.now := by unfold request; (repeat' split) <;> simp [h0]

@[simp] theorem request_dram_mem (s : State) (q : Req) (f : State → State) (h0 : ∀ u, (f u).dram.mem = u.dram.mem) :
    (request s q f).dram.mem = s.dram.mem := by unfold request; (repeat' split) <;> simp [h0]

@[simp] theorem request_hal_dict (s : State) (q : Req) (f : State → State) (h0 : ∀ u, (f u).hal.dict = u.hal.dict) :
    (request s q f).hal.dict = s.hal.dict := by unfold request; (repeat' split) <;> simp [h0]

@[simp] theorem request_hal_serving (s : State) (q : Req) (f : State → State) (h0 : ∀ u, (f u).hal.serving = u.hal.serving) :
    (request s q f).hal.serving = s.hal.serving := by unfold request; (repeat' split) <;> simp [h0]

@[simp] theorem request_hal_sess (s : State) (q : Req) (f : State → State) (h0 : ∀ u, (f u).hal.sess = u.hal.sess) :
    (request s q f).hal.sess = s.hal.sess := by unfold request; (repeat' split) <;> simp [h0]

@[simp] theorem request_lamp_fuses (s : State) (q : Req) (f : State → State) (h0 : ∀ u, (f u).lamp.fuses = u.lamp.fuses) :
    (request s q f).lamp.fuses = s.lamp.fuses := by unfold request; (repeat' split) <;> simp [h0]

@[simp] theorem reqWrite_pending (s : State) (q : Req) (i k : Nat) (v : Bytes) (part : Option Nat) (f : State → Who → Applied) (h0 : ∀ u w t o n, f u w = .ok (t, o, n) → t.pending = u.pending) :
    (reqWrite s q i k v part f).pending = s.pending := by
  unfold reqWrite; apply request_pending; intro u; (try split) <;> simp [writeObj_pending _ _ _ _ _ _ _ h0]

@[simp] theorem reqWrite_free (s : State) (q : Req) (i k : Nat) (v : Bytes) (part : Option Nat) (f : State → Who → Applied) (h0 : ∀ u w t o n, f u w = .ok (t, o, n) → t.free = u.free) :
    (reqWrite s q i k v part f).free = s.free := by
  unfold reqWrite; apply request_free; intro u; (try split) <;> simp [writeObj_free _ _ _ _ _ _ _ h0]

@[simp] theorem reqWrite_pins (s : State) (q : Req) (i k : Nat) (v : Bytes) (part : Option Nat) (f : State → Who → Applied) (h0 : ∀ u w t o n, f u w = .ok (t, o, n) → t.pins = u.pins) :
    (reqWrite s q i k v part f).pins = s.pins := by
  unfold reqWrite; apply request_pins; intro u; (try split) <;> simp [writeObj_pins _ _ _ _ _ _ _ h0]

@[simp] theorem reqWrite_boot (s : State) (q : Req) (i k : Nat) (v : Bytes) (part : Option Nat) (f : State → Who → Applied) (h0 : ∀ u w t o n, f u w = .ok (t, o, n) → t.boot = u.boot) :
    (reqWrite s q i k v part f).boot = s.boot := by
  unfold reqWrite; apply request_boot; intro u; (try split) <;> simp [writeObj_boot _ _ _ _ _ _ _ h0]

@[simp] theorem reqWrite_clock (s : State) (q : Req) (i k : Nat) (v : Bytes) (part : Option Nat) (f : State → Who → Applied) (h0 : ∀ u w t o n, f u w = .ok (t, o, n) → t.clock = u.clock) :
    (reqWrite s q i k v part f).clock = s.clock := by
  unfold reqWrite; apply request_clock; intro u; (try split) <;> simp [writeObj_clock _ _ _ _ _ _ _ h0]

@[simp] theorem reqWrite_plan (s : State) (q : Req) (i k : Nat) (v : Bytes) (part : Option Nat) (f : State → Who → Applied) (h0 : ∀ u w t o n, f u w = .ok (t, o, n) → t.plan = u.plan) :
    (reqWrite s q i k v part f).plan = s.plan := by
  unfold reqWrite; apply request_plan; intro u; (try split) <;> simp [writeObj_plan _ _ _ _ _ _ _ h0]

@[simp] theorem reqWrite_roll (s : State) (q : Req) (i k : Nat) (v : Bytes) (part : Option Nat) (f : State → Who → Applied) (h0 : ∀ u w t o n, f u w = .ok (t, o, n) → t.roll = u.roll) :
    (reqWrite s q i k v part f).roll = s.roll := by
  unfold reqWrite; apply request_roll; intro u; (try split) <;> simp [writeObj_roll _ _ _ _ _ _ _ h0]

@[simp] theorem reqWrite_changes (s : State) (q : Req) (i k : Nat) (v : Bytes) (part : Option Nat) (f : State → Who → Applied) (h0 : ∀ u w t o n, f u w = .ok (t, o, n) → t.changes = u.changes) :
    (reqWrite s q i k v part f).changes = s.changes := by
  unfold reqWrite; apply request_changes; intro u; (try split) <;> simp [writeObj_changes _ _ _ _ _ _ _ h0]

@[simp] theorem reqWrite_hall (s : State) (q : Req) (i k : Nat) (v : Bytes) (part : Option Nat) (f : State → Who → Applied) (h0 : ∀ u w t o n, f u w = .ok (t, o, n) → t.hall = u.hall) :
    (reqWrite s q i k v part f).hall = s.hall := by
  unfold reqWrite; apply request_hall; intro u; (try split) <;> simp [writeObj_hall _ _ _ _ _ _ _ h0]

@[simp] theorem reqWrite_gal (s : State) (q : Req) (i k : Nat) (v : Bytes) (part : Option Nat) (f : State → Who → Applied) (h0 : ∀ u w t o n, f u w = .ok (t, o, n) → t.gal = u.gal) :
    (reqWrite s q i k v part f).gal = s.gal := by
  unfold reqWrite; apply request_gal; intro u; (try split) <;> simp [writeObj_gal _ _ _ _ _ _ _ h0]

@[simp] theorem reqWrite_galx (s : State) (q : Req) (i k : Nat) (v : Bytes) (part : Option Nat) (f : State → Who → Applied) (h0 : ∀ u w t o n, f u w = .ok (t, o, n) → t.galx = u.galx) :
    (reqWrite s q i k v part f).galx = s.galx := by
  unfold reqWrite; apply request_galx; intro u; (try split) <;> simp [writeObj_galx _ _ _ _ _ _ _ h0]

@[simp] theorem reqWrite_dram (s : State) (q : Req) (i k : Nat) (v : Bytes) (part : Option Nat) (f : State → Who → Applied) (h0 : ∀ u w t o n, f u w = .ok (t, o, n) → t.dram = u.dram) :
    (reqWrite s q i k v part f).dram = s.dram := by
  unfold reqWrite; apply request_dram; intro u; (try split) <;> simp [writeObj_dram _ _ _ _ _ _ _ h0]

@[simp] theorem reqWrite_net (s : State) (q : Req) (i k : Nat) (v : Bytes) (part : Option Nat) (f : State → Who → Applied) (h0 : ∀ u w t o n, f u w = .ok (t, o, n) → t.net = u.net) :
    (reqWrite s q i k v part f).net = s.net := by
  unfold reqWrite; apply request_net; intro u; (try split) <;> simp [writeObj_net _ _ _ _ _ _ _ h0]

@[simp] theorem reqWrite_cxl (s : State) (q : Req) (i k : Nat) (v : Bytes) (part : Option Nat) (f : State → Who → Applied) (h0 : ∀ u w t o n, f u w = .ok (t, o, n) → t.cxl = u.cxl) :
    (reqWrite s q i k v part f).cxl = s.cxl := by
  unfold reqWrite; apply request_cxl; intro u; (try split) <;> simp [writeObj_cxl _ _ _ _ _ _ _ h0]

@[simp] theorem reqWrite_lamp (s : State) (q : Req) (i k : Nat) (v : Bytes) (part : Option Nat) (f : State → Who → Applied) (h0 : ∀ u w t o n, f u w = .ok (t, o, n) → t.lamp = u.lamp) :
    (reqWrite s q i k v part f).lamp = s.lamp := by
  unfold reqWrite; apply request_lamp; intro u; (try split) <;> simp [writeObj_lamp _ _ _ _ _ _ _ h0]

@[simp] theorem reqWrite_power (s : State) (q : Req) (i k : Nat) (v : Bytes) (part : Option Nat) (f : State → Who → Applied) (h0 : ∀ u w t o n, f u w = .ok (t, o, n) → t.power = u.power) :
    (reqWrite s q i k v part f).power = s.power := by
  unfold reqWrite; apply request_power; intro u; (try split) <;> simp [writeObj_power _ _ _ _ _ _ _ h0]

@[simp] theorem reqWrite_fault (s : State) (q : Req) (i k : Nat) (v : Bytes) (part : Option Nat) (f : State → Who → Applied) (h0 : ∀ u w t o n, f u w = .ok (t, o, n) → t.fault = u.fault) :
    (reqWrite s q i k v part f).fault = s.fault := by
  unfold reqWrite; apply request_fault; intro u; (try split) <;> simp [writeObj_fault _ _ _ _ _ _ _ h0]

@[simp] theorem reqWrite_boot_stage (s : State) (q : Req) (i k : Nat) (v : Bytes) (part : Option Nat) (f : State → Who → Applied) (h0 : ∀ u w t o n, f u w = .ok (t, o, n) → t.boot.stage = u.boot.stage) :
    (reqWrite s q i k v part f).boot.stage = s.boot.stage := by
  unfold reqWrite; apply request_boot_stage; intro u; (try split) <;> simp [writeObj_boot_stage _ _ _ _ _ _ _ h0]

@[simp] theorem reqWrite_clock_now (s : State) (q : Req) (i k : Nat) (v : Bytes) (part : Option Nat) (f : State → Who → Applied) (h0 : ∀ u w t o n, f u w = .ok (t, o, n) → t.clock.now = u.clock.now) :
    (reqWrite s q i k v part f).clock.now = s.clock.now := by
  unfold reqWrite; apply request_clock_now; intro u; (try split) <;> simp [writeObj_clock_now _ _ _ _ _ _ _ h0]

@[simp] theorem reqWrite_dram_mem (s : State) (q : Req) (i k : Nat) (v : Bytes) (part : Option Nat) (f : State → Who → Applied) (h0 : ∀ u w t o n, f u w = .ok (t, o, n) → t.dram.mem = u.dram.mem) :
    (reqWrite s q i k v part f).dram.mem = s.dram.mem := by
  unfold reqWrite; apply request_dram_mem; intro u; (try split) <;> simp [writeObj_dram_mem _ _ _ _ _ _ _ h0]

@[simp] theorem reqWrite_lamp_fuses (s : State) (q : Req) (i k : Nat) (v : Bytes) (part : Option Nat) (f : State → Who → Applied) (h0 : ∀ u w t o n, f u w = .ok (t, o, n) → t.lamp.fuses = u.lamp.fuses) :
    (reqWrite s q i k v part f).lamp.fuses = s.lamp.fuses := by
  unfold reqWrite; apply request_lamp_fuses; intro u; (try split) <;> simp [writeObj_lamp_fuses _ _ _ _ _ _ _ h0]

@[simp] theorem reqWriteLater_pending (s : State) (q : Req) (i k : Nat) (v : Bytes) (part : Option Nat) (f : State → Who → Applied) (h0 : ∀ u w t o n, f u w = .ok (t, o, n) → t.pending = u.pending) :
    (reqWriteLater s q i k v part f).pending = s.pending := by
  unfold reqWriteLater; apply request_pending; intro u; (try split) <;> simp [writeObj_pending _ _ _ _ _ _ _ h0]

@[simp] theorem reqWriteLater_free (s : State) (q : Req) (i k : Nat) (v : Bytes) (part : Option Nat) (f : State → Who → Applied) (h0 : ∀ u w t o n, f u w = .ok (t, o, n) → t.free = u.free) :
    (reqWriteLater s q i k v part f).free = s.free := by
  unfold reqWriteLater; apply request_free; intro u; (try split) <;> simp [writeObj_free _ _ _ _ _ _ _ h0]

@[simp] theorem reqWriteLater_pins (s : State) (q : Req) (i k : Nat) (v : Bytes) (part : Option Nat) (f : State → Who → Applied) (h0 : ∀ u w t o n, f u w = .ok (t, o, n) → t.pins = u.pins) :
    (reqWriteLater s q i k v part f).pins = s.pins := by
  unfold reqWriteLater; apply request_pins; intro u; (try split) <;> simp [writeObj_pins _ _ _ _ _ _ _ h0]

@[simp] theorem reqWriteLater_boot (s : State) (q : Req) (i k : Nat) (v : Bytes) (part : Option Nat) (f : State → Who → Applied) (h0 : ∀ u w t o n, f u w = .ok (t, o, n) → t.boot = u.boot) :
    (reqWriteLater s q i k v part f).boot = s.boot := by
  unfold reqWriteLater; apply request_boot; intro u; (try split) <;> simp [writeObj_boot _ _ _ _ _ _ _ h0]

@[simp] theorem reqWriteLater_clock (s : State) (q : Req) (i k : Nat) (v : Bytes) (part : Option Nat) (f : State → Who → Applied) (h0 : ∀ u w t o n, f u w = .ok (t, o, n) → t.clock = u.clock) :
    (reqWriteLater s q i k v part f).clock = s.clock := by
  unfold reqWriteLater; apply request_clock; intro u; (try split) <;> simp [writeObj_clock _ _ _ _ _ _ _ h0]

@[simp] theorem reqWriteLater_plan (s : State) (q : Req) (i k : Nat) (v : Bytes) (part : Option Nat) (f : State → Who → Applied) (h0 : ∀ u w t o n, f u w = .ok (t, o, n) → t.plan = u.plan) :
    (reqWriteLater s q i k v part f).plan = s.plan := by
  unfold reqWriteLater; apply request_plan; intro u; (try split) <;> simp [writeObj_plan _ _ _ _ _ _ _ h0]

@[simp] theorem reqWriteLater_roll (s : State) (q : Req) (i k : Nat) (v : Bytes) (part : Option Nat) (f : State → Who → Applied) (h0 : ∀ u w t o n, f u w = .ok (t, o, n) → t.roll = u.roll) :
    (reqWriteLater s q i k v part f).roll = s.roll := by
  unfold reqWriteLater; apply request_roll; intro u; (try split) <;> simp [writeObj_roll _ _ _ _ _ _ _ h0]

@[simp] theorem reqWriteLater_changes (s : State) (q : Req) (i k : Nat) (v : Bytes) (part : Option Nat) (f : State → Who → Applied) (h0 : ∀ u w t o n, f u w = .ok (t, o, n) → t.changes = u.changes) :
    (reqWriteLater s q i k v part f).changes = s.changes := by
  unfold reqWriteLater; apply request_changes; intro u; (try split) <;> simp [writeObj_changes _ _ _ _ _ _ _ h0]

@[simp] theorem reqWriteLater_hall (s : State) (q : Req) (i k : Nat) (v : Bytes) (part : Option Nat) (f : State → Who → Applied) (h0 : ∀ u w t o n, f u w = .ok (t, o, n) → t.hall = u.hall) :
    (reqWriteLater s q i k v part f).hall = s.hall := by
  unfold reqWriteLater; apply request_hall; intro u; (try split) <;> simp [writeObj_hall _ _ _ _ _ _ _ h0]

@[simp] theorem reqWriteLater_gal (s : State) (q : Req) (i k : Nat) (v : Bytes) (part : Option Nat) (f : State → Who → Applied) (h0 : ∀ u w t o n, f u w = .ok (t, o, n) → t.gal = u.gal) :
    (reqWriteLater s q i k v part f).gal = s.gal := by
  unfold reqWriteLater; apply request_gal; intro u; (try split) <;> simp [writeObj_gal _ _ _ _ _ _ _ h0]

@[simp] theorem reqWriteLater_galx (s : State) (q : Req) (i k : Nat) (v : Bytes) (part : Option Nat) (f : State → Who → Applied) (h0 : ∀ u w t o n, f u w = .ok (t, o, n) → t.galx = u.galx) :
    (reqWriteLater s q i k v part f).galx = s.galx := by
  unfold reqWriteLater; apply request_galx; intro u; (try split) <;> simp [writeObj_galx _ _ _ _ _ _ _ h0]

@[simp] theorem reqWriteLater_dram (s : State) (q : Req) (i k : Nat) (v : Bytes) (part : Option Nat) (f : State → Who → Applied) (h0 : ∀ u w t o n, f u w = .ok (t, o, n) → t.dram = u.dram) :
    (reqWriteLater s q i k v part f).dram = s.dram := by
  unfold reqWriteLater; apply request_dram; intro u; (try split) <;> simp [writeObj_dram _ _ _ _ _ _ _ h0]

@[simp] theorem reqWriteLater_net (s : State) (q : Req) (i k : Nat) (v : Bytes) (part : Option Nat) (f : State → Who → Applied) (h0 : ∀ u w t o n, f u w = .ok (t, o, n) → t.net = u.net) :
    (reqWriteLater s q i k v part f).net = s.net := by
  unfold reqWriteLater; apply request_net; intro u; (try split) <;> simp [writeObj_net _ _ _ _ _ _ _ h0]

@[simp] theorem reqWriteLater_cxl (s : State) (q : Req) (i k : Nat) (v : Bytes) (part : Option Nat) (f : State → Who → Applied) (h0 : ∀ u w t o n, f u w = .ok (t, o, n) → t.cxl = u.cxl) :
    (reqWriteLater s q i k v part f).cxl = s.cxl := by
  unfold reqWriteLater; apply request_cxl; intro u; (try split) <;> simp [writeObj_cxl _ _ _ _ _ _ _ h0]

@[simp] theorem reqWriteLater_lamp (s : State) (q : Req) (i k : Nat) (v : Bytes) (part : Option Nat) (f : State → Who → Applied) (h0 : ∀ u w t o n, f u w = .ok (t, o, n) → t.lamp = u.lamp) :
    (reqWriteLater s q i k v part f).lamp = s.lamp := by
  unfold reqWriteLater; apply request_lamp; intro u; (try split) <;> simp [writeObj_lamp _ _ _ _ _ _ _ h0]

@[simp] theorem reqWriteLater_power (s : State) (q : Req) (i k : Nat) (v : Bytes) (part : Option Nat) (f : State → Who → Applied) (h0 : ∀ u w t o n, f u w = .ok (t, o, n) → t.power = u.power) :
    (reqWriteLater s q i k v part f).power = s.power := by
  unfold reqWriteLater; apply request_power; intro u; (try split) <;> simp [writeObj_power _ _ _ _ _ _ _ h0]

@[simp] theorem reqWriteLater_fault (s : State) (q : Req) (i k : Nat) (v : Bytes) (part : Option Nat) (f : State → Who → Applied) (h0 : ∀ u w t o n, f u w = .ok (t, o, n) → t.fault = u.fault) :
    (reqWriteLater s q i k v part f).fault = s.fault := by
  unfold reqWriteLater; apply request_fault; intro u; (try split) <;> simp [writeObj_fault _ _ _ _ _ _ _ h0]

@[simp] theorem reqWriteLater_boot_stage (s : State) (q : Req) (i k : Nat) (v : Bytes) (part : Option Nat) (f : State → Who → Applied) (h0 : ∀ u w t o n, f u w = .ok (t, o, n) → t.boot.stage = u.boot.stage) :
    (reqWriteLater s q i k v part f).boot.stage = s.boot.stage := by
  unfold reqWriteLater; apply request_boot_stage; intro u; (try split) <;> simp [writeObj_boot_stage _ _ _ _ _ _ _ h0]

@[simp] theorem reqWriteLater_clock_now (s : State) (q : Req) (i k : Nat) (v : Bytes) (part : Option Nat) (f : State → Who → Applied) (h0 : ∀ u w t o n, f u w = .ok (t, o, n) → t.clock.now = u.clock.now) :
    (reqWriteLater s q i k v part f).clock.now = s.clock.now := by
  unfold reqWriteLater; apply request_clock_now; intro u; (try split) <;> simp [writeObj_clock_now _ _ _ _ _ _ _ h0]

@[simp] theorem reqWriteLater_dram_mem (s : State) (q : Req) (i k : Nat) (v : Bytes) (part : Option Nat) (f : State → Who → Applied) (h0 : ∀ u w t o n, f u w = .ok (t, o, n) → t.dram.mem = u.dram.mem) :
    (reqWriteLater s q i k v part f).dram.mem = s.dram.mem := by
  unfold reqWriteLater; apply request_dram_mem; intro u; (try split) <;> simp [writeObj_dram_mem _ _ _ _ _ _ _ h0]

@[simp] theorem reqWriteLater_lamp_fuses (s : State) (q : Req) (i k : Nat) (v : Bytes) (part : Option Nat) (f : State → Who → Applied) (h0 : ∀ u w t o n, f u w = .ok (t, o, n) → t.lamp.fuses = u.lamp.fuses) :
    (reqWriteLater s q i k v part f).lamp.fuses = s.lamp.fuses := by
  unfold reqWriteLater; apply request_lamp_fuses; intro u; (try split) <;> simp [writeObj_lamp_fuses _ _ _ _ _ _ _ h0]

@[simp] theorem deviceChange_keeps (s : State) (origin index sub : Nat) (old new : Bytes) :
    (deviceChange s origin index sub old new).pending = s.pending ∧ (deviceChange s origin index sub old new).free = s.free ∧ (deviceChange s origin index sub old new).out = s.out ∧ (deviceChange s origin index sub old new).pins = s.pins ∧ (deviceChange s origin index sub old new).boot = s.boot ∧ (deviceChange s origin index sub old new).clock = s.clock ∧ (deviceChange s origin index sub old new).plan = s.plan ∧ (deviceChange s origin index sub old new).roll = s.roll ∧ (deviceChange s origin index sub old new).changes = s.changes ∧ (deviceChange s origin index sub old new).hall = s.hall ∧ (deviceChange s origin index sub old new).gal = s.gal ∧ (deviceChange s origin index sub old new).galx = s.galx ∧ (deviceChange s origin index sub old new).dram = s.dram ∧ (deviceChange s origin index sub old new).net = s.net ∧ (deviceChange s origin index sub old new).cxl = s.cxl ∧ (deviceChange s origin index sub old new).hal.dict = s.hal.dict ∧ (deviceChange s origin index sub old new).hal.serving = s.hal.serving ∧ (deviceChange s origin index sub old new).hal.sess = s.hal.sess ∧ (deviceChange s origin index sub old new).lamp = s.lamp ∧ (deviceChange s origin index sub old new).power = s.power ∧ (deviceChange s origin index sub old new).fault = s.fault := by simp [deviceChange]

@[simp] theorem enableFlight_keeps (s : State) (f : Nat) (on : Bool) :
    (enableFlight s f on).pending = s.pending ∧ (enableFlight s f on).free = s.free ∧ (enableFlight s f on).pins = s.pins ∧ (enableFlight s f on).clock = s.clock ∧ (enableFlight s f on).plan = s.plan ∧ (enableFlight s f on).changes = s.changes ∧ (enableFlight s f on).gal = s.gal ∧ (enableFlight s f on).galx = s.galx ∧ (enableFlight s f on).dram = s.dram ∧ (enableFlight s f on).hal = s.hal ∧ (enableFlight s f on).lamp.fuses = s.lamp.fuses ∧ (enableFlight s f on).power = s.power := by simp [enableFlight]

@[simp] theorem remapLine_keeps (s : State) (g k : Nat) :
    (remapLine s g k).pending = s.pending ∧ (remapLine s g k).pins = s.pins ∧ (remapLine s g k).clock = s.clock ∧ (remapLine s g k).plan = s.plan ∧ (remapLine s g k).roll = s.roll ∧ (remapLine s g k).changes = s.changes ∧ (remapLine s g k).gal = s.gal ∧ (remapLine s g k).dram = s.dram ∧ (remapLine s g k).net = s.net ∧ (remapLine s g k).hal = s.hal ∧ (remapLine s g k).lamp.fuses = s.lamp.fuses ∧ (remapLine s g k).power = s.power ∧ (remapLine s g k).cxl.up = s.cxl.up ∧ (remapLine s g k).cxl.tsp = s.cxl.tsp ∧ (remapLine s g k).cxl.rings = s.cxl.rings := by unfold remapLine; simp only []; (repeat' split) <;> simp

@[simp] theorem padLine_keeps (s : State) (g k : Nat) :
    (padLine s g k).pending = s.pending ∧ (padLine s g k).pins = s.pins ∧ (padLine s g k).clock = s.clock ∧ (padLine s g k).plan = s.plan ∧ (padLine s g k).changes = s.changes ∧ (padLine s g k).net = s.net ∧ (padLine s g k).hal.dict = s.hal.dict ∧ (padLine s g k).hal.serving = s.hal.serving ∧ (padLine s g k).hal.sess = s.hal.sess ∧ (padLine s g k).lamp.fuses = s.lamp.fuses ∧ (padLine s g k).power = s.power := by unfold padLine; (repeat' split) <;> simp

@[simp] theorem checkLines_keeps (s : State) (g : Nat) :
    (checkLines s g).pending = s.pending ∧ (checkLines s g).pins = s.pins ∧ (checkLines s g).clock = s.clock ∧ (checkLines s g).plan = s.plan ∧ (checkLines s g).changes = s.changes ∧ (checkLines s g).net = s.net ∧ (checkLines s g).hal.dict = s.hal.dict ∧ (checkLines s g).hal.serving = s.hal.serving ∧ (checkLines s g).hal.sess = s.hal.sess ∧ (checkLines s g).lamp.fuses = s.lamp.fuses ∧ (checkLines s g).power = s.power := by simp [checkLines]

@[simp] theorem correctedError_keeps (s : State) (m : Space1) (a : Nat) (vote : Bool) :
    (correctedError s m a vote).pending = s.pending ∧ (correctedError s m a vote).pins = s.pins ∧ (correctedError s m a vote).clock = s.clock ∧ (correctedError s m a vote).plan = s.plan ∧ (correctedError s m a vote).changes = s.changes ∧ (correctedError s m a vote).net = s.net ∧ (correctedError s m a vote).hal.dict = s.hal.dict ∧ (correctedError s m a vote).hal.serving = s.hal.serving ∧ (correctedError s m a vote).hal.sess = s.hal.sess ∧ (correctedError s m a vote).lamp.fuses = s.lamp.fuses ∧ (correctedError s m a vote).power = s.power := by simp [correctedError]

@[simp] theorem eccError_keeps (s : State) (m : Space1) (a word : Nat) :
    (eccError s m a word).pending = s.pending ∧ (eccError s m a word).free = s.free ∧ (eccError s m a word).pins = s.pins ∧ (eccError s m a word).clock = s.clock ∧ (eccError s m a word).plan = s.plan ∧ (eccError s m a word).roll = s.roll ∧ (eccError s m a word).changes = s.changes ∧ (eccError s m a word).dram = s.dram ∧ (eccError s m a word).net = s.net ∧ (eccError s m a word).hal = s.hal ∧ (eccError s m a word).lamp.fuses = s.lamp.fuses ∧ (eccError s m a word).power = s.power ∧ (eccError s m a word).cxl.up = s.cxl.up ∧ (eccError s m a word).cxl.tsp = s.cxl.tsp ∧ (eccError s m a word).cxl.rings = s.cxl.rings := by unfold eccError; simp only []; (repeat' split) <;> simp

@[simp] theorem galBank_keeps (s : State) (g : Nat) (b : Bank) (on : Bool) :
    (galBank s g b on).pending = s.pending ∧ (galBank s g b on).free = s.free ∧ (galBank s g b on).out = s.out ∧ (galBank s g b on).pins = s.pins ∧ (galBank s g b on).boot = s.boot ∧ (galBank s g b on).clock = s.clock ∧ (galBank s g b on).plan = s.plan ∧ (galBank s g b on).roll = s.roll ∧ (galBank s g b on).changes = s.changes ∧ (galBank s g b on).hall = s.hall ∧ (galBank s g b on).gal = s.gal ∧ (galBank s g b on).dram = s.dram ∧ (galBank s g b on).net = s.net ∧ (galBank s g b on).cxl = s.cxl ∧ (galBank s g b on).hal = s.hal ∧ (galBank s g b on).lamp = s.lamp ∧ (galBank s g b on).power = s.power ∧ (galBank s g b on).fault = s.fault := by simp [galBank]

@[simp] theorem setRetained_keeps (s : State) (b : Bank) (on : Bool) :
    (setRetained s b on).pending = s.pending ∧ (setRetained s b on).free = s.free ∧ (setRetained s b on).out = s.out ∧ (setRetained s b on).pins = s.pins ∧ (setRetained s b on).boot = s.boot ∧ (setRetained s b on).clock = s.clock ∧ (setRetained s b on).plan = s.plan ∧ (setRetained s b on).roll = s.roll ∧ (setRetained s b on).changes = s.changes ∧ (setRetained s b on).gal = s.gal ∧ (setRetained s b on).dram = s.dram ∧ (setRetained s b on).net = s.net ∧ (setRetained s b on).cxl = s.cxl ∧ (setRetained s b on).hal = s.hal ∧ (setRetained s b on).lamp = s.lamp ∧ (setRetained s b on).power = s.power ∧ (setRetained s b on).fault = s.fault := by unfold setRetained; (repeat' split) <;> simp

@[simp] theorem dispatchLost_keeps (s : State) (h : Nat) :
    (dispatchLost s h).pending = s.pending ∧ (dispatchLost s h).pins = s.pins ∧ (dispatchLost s h).clock = s.clock ∧ (dispatchLost s h).plan = s.plan ∧ (dispatchLost s h).changes = s.changes ∧ (dispatchLost s h).hal.dict = s.hal.dict ∧ (dispatchLost s h).hal.serving = s.hal.serving ∧ (dispatchLost s h).hal.sess = s.hal.sess ∧ (dispatchLost s h).lamp.fuses = s.lamp.fuses ∧ (dispatchLost s h).power = s.power := by simp [dispatchLost]

@[simp] theorem deepError_keeps (s : State) (h bank sid : Nat) :
    (deepError s h bank sid).pending = s.pending ∧ (deepError s h bank sid).pins = s.pins ∧ (deepError s h bank sid).clock = s.clock ∧ (deepError s h bank sid).plan = s.plan ∧ (deepError s h bank sid).changes = s.changes ∧ (deepError s h bank sid).hal.dict = s.hal.dict ∧ (deepError s h bank sid).hal.serving = s.hal.serving ∧ (deepError s h bank sid).hal.sess = s.hal.sess ∧ (deepError s h bank sid).lamp.fuses = s.lamp.fuses ∧ (deepError s h bank sid).power = s.power := by simp [deepError]

@[simp] theorem raiseFree_keeps (s : State) (p : Rep) (d0 d1 : Option Nat) :
    (raiseFree s p d0 d1).pending = s.pending ∧ (raiseFree s p d0 d1).pins = s.pins ∧ (raiseFree s p d0 d1).clock = s.clock ∧ (raiseFree s p d0 d1).plan = s.plan ∧ (raiseFree s p d0 d1).changes = s.changes ∧ (raiseFree s p d0 d1).hal.dict = s.hal.dict ∧ (raiseFree s p d0 d1).hal.serving = s.hal.serving ∧ (raiseFree s p d0 d1).hal.sess = s.hal.sess ∧ (raiseFree s p d0 d1).lamp.fuses = s.lamp.fuses ∧ (raiseFree s p d0 d1).power = s.power := by simp [raiseFree]

@[simp] theorem lowerTo_keeps (s : State) (h v : Nat) :
    (lowerTo s h v).pending = s.pending ∧ (lowerTo s h v).free = s.free ∧ (lowerTo s h v).out = s.out ∧ (lowerTo s h v).pins = s.pins ∧ (lowerTo s h v).boot = s.boot ∧ (lowerTo s h v).clock = s.clock ∧ (lowerTo s h v).plan = s.plan ∧ (lowerTo s h v).roll = s.roll ∧ (lowerTo s h v).changes = s.changes ∧ (lowerTo s h v).gal = s.gal ∧ (lowerTo s h v).galx = s.galx ∧ (lowerTo s h v).dram = s.dram ∧ (lowerTo s h v).net = s.net ∧ (lowerTo s h v).cxl = s.cxl ∧ (lowerTo s h v).hal = s.hal ∧ (lowerTo s h v).lamp = s.lamp ∧ (lowerTo s h v).power = s.power ∧ (lowerTo s h v).fault = s.fault := by simp [lowerTo]

@[simp] theorem moveSet_keeps (s : State) (h v : Nat) (granted : Bool) :
    (moveSet s h v granted).pending = s.pending ∧ (moveSet s h v granted).free = s.free ∧ (moveSet s h v granted).out = s.out ∧ (moveSet s h v granted).pins = s.pins ∧ (moveSet s h v granted).boot = s.boot ∧ (moveSet s h v granted).clock = s.clock ∧ (moveSet s h v granted).plan = s.plan ∧ (moveSet s h v granted).roll = s.roll ∧ (moveSet s h v granted).changes = s.changes ∧ (moveSet s h v granted).gal = s.gal ∧ (moveSet s h v granted).galx = s.galx ∧ (moveSet s h v granted).dram = s.dram ∧ (moveSet s h v granted).net = s.net ∧ (moveSet s h v granted).cxl = s.cxl ∧ (moveSet s h v granted).hal = s.hal ∧ (moveSet s h v granted).lamp = s.lamp ∧ (moveSet s h v granted).power = s.power ∧ (moveSet s h v granted).fault = s.fault := by simp [moveSet]

@[simp] theorem gateHot_keeps (s : State) (h : Nat) :
    (gateHot s h).pending = s.pending ∧ (gateHot s h).free = s.free ∧ (gateHot s h).out = s.out ∧ (gateHot s h).pins = s.pins ∧ (gateHot s h).boot = s.boot ∧ (gateHot s h).clock = s.clock ∧ (gateHot s h).plan = s.plan ∧ (gateHot s h).roll = s.roll ∧ (gateHot s h).changes = s.changes ∧ (gateHot s h).hall = s.hall ∧ (gateHot s h).galx = s.galx ∧ (gateHot s h).dram = s.dram ∧ (gateHot s h).net = s.net ∧ (gateHot s h).cxl = s.cxl ∧ (gateHot s h).hal = s.hal ∧ (gateHot s h).lamp = s.lamp ∧ (gateHot s h).power = s.power ∧ (gateHot s h).fault = s.fault := by simp [gateHot]

@[simp] theorem thermTrip_keeps (s : State) (r : Int) :
    (thermTrip s r).pending = s.pending ∧ (thermTrip s r).clock = s.clock ∧ (thermTrip s r).plan = s.plan ∧ (thermTrip s r).changes = s.changes ∧ (thermTrip s r).hal.dict = s.hal.dict ∧ (thermTrip s r).hal.serving = s.hal.serving ∧ (thermTrip s r).hal.sess = s.hal.sess ∧ (thermTrip s r).lamp.fuses = s.lamp.fuses ∧ (thermTrip s r).power = s.power := by simp [thermTrip]

@[simp] theorem tripHall_keeps (s : State) (h st : Nat) (d0 : Option Nat) (r : Int) :
    (tripHall s h st d0 r).pending = s.pending ∧ (tripHall s h st d0 r).pins = s.pins ∧ (tripHall s h st d0 r).clock = s.clock ∧ (tripHall s h st d0 r).plan = s.plan ∧ (tripHall s h st d0 r).changes = s.changes ∧ (tripHall s h st d0 r).hal.dict = s.hal.dict ∧ (tripHall s h st d0 r).hal.serving = s.hal.serving ∧ (tripHall s h st d0 r).hal.sess = s.hal.sess ∧ (tripHall s h st d0 r).lamp.fuses = s.lamp.fuses ∧ (tripHall s h st d0 r).power = s.power := by simp [tripHall]

@[simp] theorem holdHot_keeps (s : State) (h : Nat) :
    (holdHot s h).pending = s.pending ∧ (holdHot s h).free = s.free ∧ (holdHot s h).out = s.out ∧ (holdHot s h).pins = s.pins ∧ (holdHot s h).boot = s.boot ∧ (holdHot s h).clock = s.clock ∧ (holdHot s h).plan = s.plan ∧ (holdHot s h).roll = s.roll ∧ (holdHot s h).changes = s.changes ∧ (holdHot s h).galx = s.galx ∧ (holdHot s h).dram = s.dram ∧ (holdHot s h).net = s.net ∧ (holdHot s h).cxl = s.cxl ∧ (holdHot s h).hal = s.hal ∧ (holdHot s h).lamp = s.lamp ∧ (holdHot s h).power = s.power ∧ (holdHot s h).fault = s.fault := by simp [holdHot]

@[simp] theorem junctionRows_keeps (s : State) (h : Nat) (j : Int) :
    (junctionRows s h j).pending = s.pending ∧ (junctionRows s h j).clock = s.clock ∧ (junctionRows s h j).plan = s.plan ∧ (junctionRows s h j).changes = s.changes ∧ (junctionRows s h j).hal.dict = s.hal.dict ∧ (junctionRows s h j).hal.serving = s.hal.serving ∧ (junctionRows s h j).hal.sess = s.hal.sess ∧ (junctionRows s h j).lamp.fuses = s.lamp.fuses ∧ (junctionRows s h j).power = s.power := by simp only [junctionRows]; (repeat' split) <;> simp

@[simp] theorem dramSense_keeps (s : State) (k : Nat) (r : Int) :
    (dramSense s k r).pending = s.pending ∧ (dramSense s k r).clock = s.clock ∧ (dramSense s k r).plan = s.plan ∧ (dramSense s k r).changes = s.changes ∧ (dramSense s k r).hal.dict = s.hal.dict ∧ (dramSense s k r).hal.serving = s.hal.serving ∧ (dramSense s k r).hal.sess = s.hal.sess ∧ (dramSense s k r).lamp.fuses = s.lamp.fuses ∧ (dramSense s k r).power = s.power := by simp [dramSense]

@[simp] theorem coolHall_keeps (s : State) (h : Nat) (j : Int) :
    (coolHall s h j).pending = s.pending ∧ (coolHall s h j).free = s.free ∧ (coolHall s h j).out = s.out ∧ (coolHall s h j).pins = s.pins ∧ (coolHall s h j).boot = s.boot ∧ (coolHall s h j).clock = s.clock ∧ (coolHall s h j).plan = s.plan ∧ (coolHall s h j).roll = s.roll ∧ (coolHall s h j).changes = s.changes ∧ (coolHall s h j).gal = s.gal ∧ (coolHall s h j).galx = s.galx ∧ (coolHall s h j).dram = s.dram ∧ (coolHall s h j).net = s.net ∧ (coolHall s h j).cxl = s.cxl ∧ (coolHall s h j).hal = s.hal ∧ (coolHall s h j).lamp = s.lamp ∧ (coolHall s h j).power = s.power ∧ (coolHall s h j).fault = s.fault := by simp [coolHall]

@[simp] theorem thermalCycle_keeps (s : State) (h : Nat) (js ds : Ints) :
    (thermalCycle s h js ds).pending = s.pending ∧ (thermalCycle s h js ds).clock = s.clock ∧ (thermalCycle s h js ds).plan = s.plan ∧ (thermalCycle s h js ds).changes = s.changes ∧ (thermalCycle s h js ds).hal.dict = s.hal.dict ∧ (thermalCycle s h js ds).hal.serving = s.hal.serving ∧ (thermalCycle s h js ds).hal.sess = s.hal.sess ∧ (thermalCycle s h js ds).lamp.fuses = s.lamp.fuses ∧ (thermalCycle s h js ds).power = s.power := by simp [thermalCycle]

@[simp] theorem sensorTrip_keeps (s : State) (v : SensorReading) :
    (sensorTrip s v).pending = s.pending ∧ (sensorTrip s v).clock = s.clock ∧ (sensorTrip s v).plan = s.plan ∧ (sensorTrip s v).changes = s.changes ∧ (sensorTrip s v).hal.dict = s.hal.dict ∧ (sensorTrip s v).hal.serving = s.hal.serving ∧ (sensorTrip s v).hal.sess = s.hal.sess ∧ (sensorTrip s v).lamp.fuses = s.lamp.fuses ∧ (sensorTrip s v).power = s.power := by unfold sensorTrip; (repeat' split) <;> simp

@[simp] theorem gateGallery_keeps (s : State) (g share draw : Nat) :
    (gateGallery s g share draw).pending = s.pending ∧ (gateGallery s g share draw).free = s.free ∧ (gateGallery s g share draw).out = s.out ∧ (gateGallery s g share draw).pins = s.pins ∧ (gateGallery s g share draw).boot = s.boot ∧ (gateGallery s g share draw).clock = s.clock ∧ (gateGallery s g share draw).plan = s.plan ∧ (gateGallery s g share draw).roll = s.roll ∧ (gateGallery s g share draw).changes = s.changes ∧ (gateGallery s g share draw).hall = s.hall ∧ (gateGallery s g share draw).galx = s.galx ∧ (gateGallery s g share draw).dram = s.dram ∧ (gateGallery s g share draw).net = s.net ∧ (gateGallery s g share draw).cxl = s.cxl ∧ (gateGallery s g share draw).hal = s.hal ∧ (gateGallery s g share draw).lamp = s.lamp ∧ (gateGallery s g share draw).power = s.power ∧ (gateGallery s g share draw).fault = s.fault := by simp [gateGallery]

@[simp] theorem arbitrateHall_keeps (rd : Readings) (allowance total : Nat) (s : State) (h : Nat) :
    (arbitrateHall rd allowance total s h).pending = s.pending ∧ (arbitrateHall rd allowance total s h).pins = s.pins ∧ (arbitrateHall rd allowance total s h).clock = s.clock ∧ (arbitrateHall rd allowance total s h).plan = s.plan ∧ (arbitrateHall rd allowance total s h).changes = s.changes ∧ (arbitrateHall rd allowance total s h).hal.dict = s.hal.dict ∧ (arbitrateHall rd allowance total s h).hal.serving = s.hal.serving ∧ (arbitrateHall rd allowance total s h).hal.sess = s.hal.sess ∧ (arbitrateHall rd allowance total s h).lamp.fuses = s.lamp.fuses ∧ (arbitrateHall rd allowance total s h).power = s.power := by simp [arbitrateHall]

@[simp] theorem floorStep_keeps (s : State) (draw budget : Nat) :
    (floorStep s draw budget).pending = s.pending ∧ (floorStep s draw budget).pins = s.pins ∧ (floorStep s draw budget).clock = s.clock ∧ (floorStep s draw budget).plan = s.plan ∧ (floorStep s draw budget).changes = s.changes ∧ (floorStep s draw budget).hal.dict = s.hal.dict ∧ (floorStep s draw budget).hal.serving = s.hal.serving ∧ (floorStep s draw budget).hal.sess = s.hal.sess ∧ (floorStep s draw budget).lamp.fuses = s.lamp.fuses := by simp [floorStep]

@[simp] theorem arbiterCycle_keeps (s : State) (rd : Readings) :
    (arbiterCycle s rd).pending = s.pending ∧ (arbiterCycle s rd).pins = s.pins ∧ (arbiterCycle s rd).clock = s.clock ∧ (arbiterCycle s rd).plan = s.plan ∧ (arbiterCycle s rd).changes = s.changes ∧ (arbiterCycle s rd).hal.dict = s.hal.dict ∧ (arbiterCycle s rd).hal.serving = s.hal.serving ∧ (arbiterCycle s rd).hal.sess = s.hal.sess ∧ (arbiterCycle s rd).lamp.fuses = s.lamp.fuses := by simp [arbiterCycle]

@[simp] theorem railDown_keeps (s : State) (h st : Nat) :
    (railDown s h st).pending = s.pending ∧ (railDown s h st).pins = s.pins ∧ (railDown s h st).clock = s.clock ∧ (railDown s h st).plan = s.plan ∧ (railDown s h st).changes = s.changes ∧ (railDown s h st).hal.dict = s.hal.dict ∧ (railDown s h st).hal.serving = s.hal.serving ∧ (railDown s h st).hal.sess = s.hal.sess ∧ (railDown s h st).lamp.fuses = s.lamp.fuses ∧ (railDown s h st).power = s.power := by simp [railDown]

@[simp] theorem keepReading_keeps (s : State) (sn : Sensor) (r : Int) :
    (keepReading s sn r).pending = s.pending ∧ (keepReading s sn r).free = s.free ∧ (keepReading s sn r).out = s.out ∧ (keepReading s sn r).pins = s.pins ∧ (keepReading s sn r).boot = s.boot ∧ (keepReading s sn r).clock = s.clock ∧ (keepReading s sn r).plan = s.plan ∧ (keepReading s sn r).roll = s.roll ∧ (keepReading s sn r).changes = s.changes ∧ (keepReading s sn r).hall = s.hall ∧ (keepReading s sn r).gal = s.gal ∧ (keepReading s sn r).dram = s.dram ∧ (keepReading s sn r).net = s.net ∧ (keepReading s sn r).cxl = s.cxl ∧ (keepReading s sn r).hal = s.hal ∧ (keepReading s sn r).lamp = s.lamp ∧ (keepReading s sn r).fault = s.fault := by unfold keepReading; (repeat' split) <;> simp

@[simp] theorem selfCheck_keeps (s : State) (sn : Sensor) (r : Int) (others : Ints) :
    (selfCheck s sn r others).pending = s.pending ∧ (selfCheck s sn r others).pins = s.pins ∧ (selfCheck s sn r others).clock = s.clock ∧ (selfCheck s sn r others).plan = s.plan ∧ (selfCheck s sn r others).changes = s.changes ∧ (selfCheck s sn r others).hal.dict = s.hal.dict ∧ (selfCheck s sn r others).hal.serving = s.hal.serving ∧ (selfCheck s sn r others).hal.sess = s.hal.sess ∧ (selfCheck s sn r others).lamp.fuses = s.lamp.fuses := by simp [selfCheck]

@[simp] theorem registrationDone_keeps (s : State) (ps : Nat) :
    (registrationDone s ps).pending = s.pending ∧ (registrationDone s ps).free = s.free ∧ (registrationDone s ps).pins = s.pins ∧ (registrationDone s ps).boot = s.boot ∧ (registrationDone s ps).clock = s.clock ∧ (registrationDone s ps).plan = s.plan ∧ (registrationDone s ps).roll = s.roll ∧ (registrationDone s ps).changes = s.changes ∧ (registrationDone s ps).hall = s.hall ∧ (registrationDone s ps).gal = s.gal ∧ (registrationDone s ps).galx = s.galx ∧ (registrationDone s ps).net = s.net ∧ (registrationDone s ps).cxl = s.cxl ∧ (registrationDone s ps).hal.dict = s.hal.dict ∧ (registrationDone s ps).hal.serving = s.hal.serving ∧ (registrationDone s ps).lamp = s.lamp ∧ (registrationDone s ps).power = s.power ∧ (registrationDone s ps).fault = s.fault := by unfold registrationDone; (repeat' split) <;> simp

@[simp] theorem drawRequest_keeps (s : State) (g n : Nat) :
    (drawRequest s g n).2.pending = s.pending ∧ (drawRequest s g n).2.out = s.out ∧ (drawRequest s g n).2.pins = s.pins ∧ (drawRequest s g n).2.boot = s.boot ∧ (drawRequest s g n).2.clock = s.clock ∧ (drawRequest s g n).2.plan = s.plan ∧ (drawRequest s g n).2.roll = s.roll ∧ (drawRequest s g n).2.changes = s.changes ∧ (drawRequest s g n).2.hall = s.hall ∧ (drawRequest s g n).2.gal = s.gal ∧ (drawRequest s g n).2.dram = s.dram ∧ (drawRequest s g n).2.net = s.net ∧ (drawRequest s g n).2.cxl = s.cxl ∧ (drawRequest s g n).2.hal = s.hal ∧ (drawRequest s g n).2.lamp = s.lamp ∧ (drawRequest s g n).2.power = s.power ∧ (drawRequest s g n).2.fault = s.fault := by unfold drawRequest; simp only []; (repeat' split) <;> simp

@[simp] theorem updRecord_keeps (s : State) (g st cls : Nat) (d0 d1 : Option Nat) :
    (updRecord s g st cls d0 d1).pending = s.pending ∧ (updRecord s g st cls d0 d1).pins = s.pins ∧ (updRecord s g st cls d0 d1).clock = s.clock ∧ (updRecord s g st cls d0 d1).plan = s.plan ∧ (updRecord s g st cls d0 d1).roll = s.roll ∧ (updRecord s g st cls d0 d1).changes = s.changes ∧ (updRecord s g st cls d0 d1).dram = s.dram ∧ (updRecord s g st cls d0 d1).net = s.net ∧ (updRecord s g st cls d0 d1).hal = s.hal ∧ (updRecord s g st cls d0 d1).lamp.fuses = s.lamp.fuses ∧ (updRecord s g st cls d0 d1).power = s.power ∧ (updRecord s g st cls d0 d1).cxl.up = s.cxl.up ∧ (updRecord s g st cls d0 d1).cxl.tsp = s.cxl.tsp ∧ (updRecord s g st cls d0 d1).cxl.rings = s.cxl.rings := by unfold updRecord; simp only []; (repeat' split) <;> simp

@[simp] theorem updFault_keeps (s : State) (g : Nat) (flt : Option (Nat × Bool)) :
    (updFault s g flt).pending = s.pending ∧ (updFault s g flt).pins = s.pins ∧ (updFault s g flt).clock = s.clock ∧ (updFault s g flt).plan = s.plan ∧ (updFault s g flt).roll = s.roll ∧ (updFault s g flt).changes = s.changes ∧ (updFault s g flt).dram = s.dram ∧ (updFault s g flt).net = s.net ∧ (updFault s g flt).hal = s.hal ∧ (updFault s g flt).lamp.fuses = s.lamp.fuses ∧ (updFault s g flt).power = s.power ∧ (updFault s g flt).cxl.up = s.cxl.up ∧ (updFault s g flt).cxl.tsp = s.cxl.tsp ∧ (updFault s g flt).cxl.rings = s.cxl.rings := by unfold updFault; (repeat' split) <;> simp

@[simp] theorem jobWrite_keeps (s : State) (g : Nat) (ws : UWrites) :
    (jobWrite s g ws).pending = s.pending ∧ (jobWrite s g ws).pins = s.pins ∧ (jobWrite s g ws).clock = s.clock ∧ (jobWrite s g ws).plan = s.plan ∧ (jobWrite s g ws).roll = s.roll ∧ (jobWrite s g ws).changes = s.changes ∧ (jobWrite s g ws).net = s.net ∧ (jobWrite s g ws).hal = s.hal ∧ (jobWrite s g ws).power = s.power ∧ (jobWrite s g ws).lamp.fuses = s.lamp.fuses := by simp [jobWrite]

@[simp] theorem stageFree_keeps (s : State) (g : Nat) (b : Bytes) :
    (stageFree s g b).pending = s.pending ∧ (stageFree s g b).out = s.out ∧ (stageFree s g b).pins = s.pins ∧ (stageFree s g b).boot = s.boot ∧ (stageFree s g b).clock = s.clock ∧ (stageFree s g b).plan = s.plan ∧ (stageFree s g b).roll = s.roll ∧ (stageFree s g b).changes = s.changes ∧ (stageFree s g b).hall = s.hall ∧ (stageFree s g b).galx = s.galx ∧ (stageFree s g b).dram = s.dram ∧ (stageFree s g b).net = s.net ∧ (stageFree s g b).cxl = s.cxl ∧ (stageFree s g b).hal = s.hal ∧ (stageFree s g b).lamp = s.lamp ∧ (stageFree s g b).power = s.power ∧ (stageFree s g b).fault = s.fault := by simp [stageFree]

@[simp] theorem updStart_keeps (s : State) (g va : Nat) :
    (updStart s g va).pending = s.pending ∧ (updStart s g va).pins = s.pins ∧ (updStart s g va).clock = s.clock ∧ (updStart s g va).plan = s.plan ∧ (updStart s g va).roll = s.roll ∧ (updStart s g va).changes = s.changes ∧ (updStart s g va).net = s.net ∧ (updStart s g va).hal = s.hal ∧ (updStart s g va).power = s.power ∧ (updStart s g va).lamp.fuses = s.lamp.fuses := by unfold updStart; simp only []; (repeat' split) <;> simp

@[simp] theorem updEnd_keeps (s : State) (g : Nat) (j : UpdJob) (done : Nat) (ends : Option Nat) :
    (updEnd s g j done ends).pending = s.pending ∧ (updEnd s g j done ends).pins = s.pins ∧ (updEnd s g j done ends).clock = s.clock ∧ (updEnd s g j done ends).plan = s.plan ∧ (updEnd s g j done ends).roll = s.roll ∧ (updEnd s g j done ends).changes = s.changes ∧ (updEnd s g j done ends).net = s.net ∧ (updEnd s g j done ends).hal = s.hal ∧ (updEnd s g j done ends).power = s.power := by simp [updEnd]

@[simp] theorem writeNorm_keeps (s : State) (g : Nat) (j : UpdJob) (v : FVal) (bad : Bool) :
    (writeNorm s g j v bad).pending = s.pending ∧ (writeNorm s g j v bad).pins = s.pins ∧ (writeNorm s g j v bad).clock = s.clock ∧ (writeNorm s g j v bad).plan = s.plan ∧ (writeNorm s g j v bad).roll = s.roll ∧ (writeNorm s g j v bad).changes = s.changes ∧ (writeNorm s g j v bad).net = s.net ∧ (writeNorm s g j v bad).hal = s.hal ∧ (writeNorm s g j v bad).lamp.fuses = s.lamp.fuses ∧ (writeNorm s g j v bad).power = s.power := by simp [writeNorm]

@[simp] theorem updCount_keeps (s : State) (g : Nat) (u : UPass) :
    (updCount s g u).pending = s.pending ∧ (updCount s g u).free = s.free ∧ (updCount s g u).out = s.out ∧ (updCount s g u).pins = s.pins ∧ (updCount s g u).boot = s.boot ∧ (updCount s g u).clock = s.clock ∧ (updCount s g u).plan = s.plan ∧ (updCount s g u).roll = s.roll ∧ (updCount s g u).changes = s.changes ∧ (updCount s g u).hall = s.hall ∧ (updCount s g u).gal = s.gal ∧ (updCount s g u).dram = s.dram ∧ (updCount s g u).net = s.net ∧ (updCount s g u).cxl = s.cxl ∧ (updCount s g u).hal = s.hal ∧ (updCount s g u).lamp = s.lamp ∧ (updCount s g u).power = s.power ∧ (updCount s g u).fault = s.fault := by simp [updCount]

@[simp] theorem passStep_keeps (s : State) (g : Nat) (j : UpdJob) (p : UpdPos) :
    (passStep s g j p).pending = s.pending ∧ (passStep s g j p).pins = s.pins ∧ (passStep s g j p).clock = s.clock ∧ (passStep s g j p).plan = s.plan ∧ (passStep s g j p).roll = s.roll ∧ (passStep s g j p).changes = s.changes ∧ (passStep s g j p).net = s.net ∧ (passStep s g j p).hal = s.hal ∧ (passStep s g j p).power = s.power := by unfold passStep; simp only []; (repeat' split) <;> simp

@[simp] theorem passGo_keeps (s : State) (g : Nat) :
    (passGo s g).pending = s.pending ∧ (passGo s g).pins = s.pins ∧ (passGo s g).clock = s.clock ∧ (passGo s g).plan = s.plan ∧ (passGo s g).roll = s.roll ∧ (passGo s g).changes = s.changes ∧ (passGo s g).net = s.net ∧ (passGo s g).power = s.power ∧ (passGo s g).hal.serving = s.hal.serving ∧ (passGo s g).hal.sess = s.hal.sess := by unfold passGo; (repeat' split) <;> simp

@[simp] theorem strBump_keeps (g l : Nat) (s : State) :
    (strBump g l s).pending = s.pending ∧ (strBump g l s).free = s.free ∧ (strBump g l s).out = s.out ∧ (strBump g l s).pins = s.pins ∧ (strBump g l s).boot = s.boot ∧ (strBump g l s).clock = s.clock ∧ (strBump g l s).plan = s.plan ∧ (strBump g l s).roll = s.roll ∧ (strBump g l s).changes = s.changes ∧ (strBump g l s).hall = s.hall ∧ (strBump g l s).galx = s.galx ∧ (strBump g l s).dram = s.dram ∧ (strBump g l s).net = s.net ∧ (strBump g l s).cxl = s.cxl ∧ (strBump g l s).hal = s.hal ∧ (strBump g l s).lamp = s.lamp ∧ (strBump g l s).power = s.power ∧ (strBump g l s).fault = s.fault := by simp [strBump]

@[simp] theorem strRecord_keeps (s : State) (g l st cls d0 d1 : Nat) :
    (strRecord s g l st cls d0 d1).pending = s.pending ∧ (strRecord s g l st cls d0 d1).free = s.free ∧ (strRecord s g l st cls d0 d1).pins = s.pins ∧ (strRecord s g l st cls d0 d1).clock = s.clock ∧ (strRecord s g l st cls d0 d1).plan = s.plan ∧ (strRecord s g l st cls d0 d1).roll = s.roll ∧ (strRecord s g l st cls d0 d1).changes = s.changes ∧ (strRecord s g l st cls d0 d1).galx = s.galx ∧ (strRecord s g l st cls d0 d1).dram = s.dram ∧ (strRecord s g l st cls d0 d1).net = s.net ∧ (strRecord s g l st cls d0 d1).hal = s.hal ∧ (strRecord s g l st cls d0 d1).lamp.fuses = s.lamp.fuses ∧ (strRecord s g l st cls d0 d1).power = s.power ∧ (strRecord s g l st cls d0 d1).cxl.up = s.cxl.up ∧ (strRecord s g l st cls d0 d1).cxl.tsp = s.cxl.tsp ∧ (strRecord s g l st cls d0 d1).cxl.rings = s.cxl.rings := by simp [strRecord]

@[simp] theorem strOnce_keeps (s : State) (g l st cls d0 d1 : Nat) :
    (strOnce s g l st cls d0 d1).pending = s.pending ∧ (strOnce s g l st cls d0 d1).free = s.free ∧ (strOnce s g l st cls d0 d1).pins = s.pins ∧ (strOnce s g l st cls d0 d1).clock = s.clock ∧ (strOnce s g l st cls d0 d1).plan = s.plan ∧ (strOnce s g l st cls d0 d1).roll = s.roll ∧ (strOnce s g l st cls d0 d1).changes = s.changes ∧ (strOnce s g l st cls d0 d1).galx = s.galx ∧ (strOnce s g l st cls d0 d1).dram = s.dram ∧ (strOnce s g l st cls d0 d1).net = s.net ∧ (strOnce s g l st cls d0 d1).hal = s.hal ∧ (strOnce s g l st cls d0 d1).lamp.fuses = s.lamp.fuses ∧ (strOnce s g l st cls d0 d1).power = s.power ∧ (strOnce s g l st cls d0 d1).cxl.up = s.cxl.up ∧ (strOnce s g l st cls d0 d1).cxl.tsp = s.cxl.tsp ∧ (strOnce s g l st cls d0 d1).cxl.rings = s.cxl.rings := by unfold strOnce; (repeat' split) <;> simp

@[simp] theorem strOnceFree_keeps (s : State) (g l st cls : Nat) :
    (strOnceFree s g l st cls).pending = s.pending ∧ (strOnceFree s g l st cls).pins = s.pins ∧ (strOnceFree s g l st cls).clock = s.clock ∧ (strOnceFree s g l st cls).plan = s.plan ∧ (strOnceFree s g l st cls).roll = s.roll ∧ (strOnceFree s g l st cls).changes = s.changes ∧ (strOnceFree s g l st cls).galx = s.galx ∧ (strOnceFree s g l st cls).dram = s.dram ∧ (strOnceFree s g l st cls).net = s.net ∧ (strOnceFree s g l st cls).hal = s.hal ∧ (strOnceFree s g l st cls).lamp.fuses = s.lamp.fuses ∧ (strOnceFree s g l st cls).power = s.power ∧ (strOnceFree s g l st cls).cxl.up = s.cxl.up ∧ (strOnceFree s g l st cls).cxl.tsp = s.cxl.tsp ∧ (strOnceFree s g l st cls).cxl.rings = s.cxl.rings := by simp [strOnceFree]

@[simp] theorem strSkip_keeps (s : State) (g l : Nat) (d : Bytes) (e : Nat × Nat × Nat) :
    (strSkip s g l d e).pending = s.pending ∧ (strSkip s g l d e).free = s.free ∧ (strSkip s g l d e).pins = s.pins ∧ (strSkip s g l d e).clock = s.clock ∧ (strSkip s g l d e).plan = s.plan ∧ (strSkip s g l d e).roll = s.roll ∧ (strSkip s g l d e).changes = s.changes ∧ (strSkip s g l d e).galx = s.galx ∧ (strSkip s g l d e).dram = s.dram ∧ (strSkip s g l d e).net = s.net ∧ (strSkip s g l d e).hal = s.hal ∧ (strSkip s g l d e).lamp.fuses = s.lamp.fuses ∧ (strSkip s g l d e).power = s.power ∧ (strSkip s g l d e).cxl.up = s.cxl.up ∧ (strSkip s g l d e).cxl.tsp = s.cxl.tsp ∧ (strSkip s g l d e).cxl.rings = s.cxl.rings := by simp [strSkip]

@[simp] theorem strPoison_keeps (s : State) (g l : Nat) (grs : List Nat) :
    (strPoison s g l grs).pending = s.pending ∧ (strPoison s g l grs).free = s.free ∧ (strPoison s g l grs).pins = s.pins ∧ (strPoison s g l grs).clock = s.clock ∧ (strPoison s g l grs).plan = s.plan ∧ (strPoison s g l grs).roll = s.roll ∧ (strPoison s g l grs).changes = s.changes ∧ (strPoison s g l grs).galx = s.galx ∧ (strPoison s g l grs).dram = s.dram ∧ (strPoison s g l grs).net = s.net ∧ (strPoison s g l grs).hal = s.hal ∧ (strPoison s g l grs).lamp.fuses = s.lamp.fuses ∧ (strPoison s g l grs).power = s.power ∧ (strPoison s g l grs).cxl.up = s.cxl.up ∧ (strPoison s g l grs).cxl.tsp = s.cxl.tsp ∧ (strPoison s g l grs).cxl.rings = s.cxl.rings := by unfold strPoison; (repeat' split) <;> simp

@[simp] theorem strFault_keeps (s : State) (g l : Nat) (b : Burst) (wr : Bool) :
    (strFault s g l b wr).pending = s.pending ∧ (strFault s g l b wr).free = s.free ∧ (strFault s g l b wr).pins = s.pins ∧ (strFault s g l b wr).clock = s.clock ∧ (strFault s g l b wr).plan = s.plan ∧ (strFault s g l b wr).roll = s.roll ∧ (strFault s g l b wr).changes = s.changes ∧ (strFault s g l b wr).galx = s.galx ∧ (strFault s g l b wr).dram = s.dram ∧ (strFault s g l b wr).net = s.net ∧ (strFault s g l b wr).hal = s.hal ∧ (strFault s g l b wr).lamp.fuses = s.lamp.fuses ∧ (strFault s g l b wr).power = s.power ∧ (strFault s g l b wr).cxl.up = s.cxl.up ∧ (strFault s g l b wr).cxl.tsp = s.cxl.tsp ∧ (strFault s g l b wr).cxl.rings = s.cxl.rings := by simp [strFault]

@[simp] theorem Port1.cover_s (p : Port1) (space b w : Nat) (bad : Bool) : (p.cover space b w bad).s = p.s := by
  unfold Port1.cover; simp only []; split <;> rfl

@[simp] theorem Port1.putBits_keeps (p : Port1) (m : Space1) (b w v : Nat) (bad : Bool) :
    (p.putBits m b w v bad).s.pending = p.s.pending ∧ (p.putBits m b w v bad).s.free = p.s.free ∧ (p.putBits m b w v bad).s.out = p.s.out ∧ (p.putBits m b w v bad).s.pins = p.s.pins ∧ (p.putBits m b w v bad).s.boot = p.s.boot ∧ (p.putBits m b w v bad).s.clock = p.s.clock ∧ (p.putBits m b w v bad).s.plan = p.s.plan ∧ (p.putBits m b w v bad).s.roll = p.s.roll ∧ (p.putBits m b w v bad).s.changes = p.s.changes ∧ (p.putBits m b w v bad).s.hall = p.s.hall ∧ (p.putBits m b w v bad).s.galx = p.s.galx ∧ (p.putBits m b w v bad).s.dram = p.s.dram ∧ (p.putBits m b w v bad).s.net = p.s.net ∧ (p.putBits m b w v bad).s.cxl = p.s.cxl ∧ (p.putBits m b w v bad).s.hal = p.s.hal ∧ (p.putBits m b w v bad).s.lamp = p.s.lamp ∧ (p.putBits m b w v bad).s.power = p.s.power ∧ (p.putBits m b w v bad).s.fault = p.s.fault := by
  unfold Port1.putBits; simp only [Port1.cover_s]; split <;> simp

@[simp] theorem updBurst_keeps (s : State) (g l k : Nat) (f : Burst → Burst) :
    (updBurst s g l k f).pending = s.pending ∧ (updBurst s g l k f).free = s.free ∧ (updBurst s g l k f).out = s.out ∧ (updBurst s g l k f).pins = s.pins ∧ (updBurst s g l k f).boot = s.boot ∧ (updBurst s g l k f).clock = s.clock ∧ (updBurst s g l k f).plan = s.plan ∧ (updBurst s g l k f).roll = s.roll ∧ (updBurst s g l k f).changes = s.changes ∧ (updBurst s g l k f).hall = s.hall ∧ (updBurst s g l k f).galx = s.galx ∧ (updBurst s g l k f).dram = s.dram ∧ (updBurst s g l k f).net = s.net ∧ (updBurst s g l k f).cxl = s.cxl ∧ (updBurst s g l k f).hal = s.hal ∧ (updBurst s g l k f).lamp = s.lamp ∧ (updBurst s g l k f).power = s.power ∧ (updBurst s g l k f).fault = s.fault := by simp [updBurst]

@[simp] theorem burstDone_keeps (s : State) (g l k : Nat) :
    (burstDone s g l k).pending = s.pending ∧ (burstDone s g l k).free = s.free ∧ (burstDone s g l k).out = s.out ∧ (burstDone s g l k).pins = s.pins ∧ (burstDone s g l k).boot = s.boot ∧ (burstDone s g l k).clock = s.clock ∧ (burstDone s g l k).plan = s.plan ∧ (burstDone s g l k).roll = s.roll ∧ (burstDone s g l k).changes = s.changes ∧ (burstDone s g l k).hall = s.hall ∧ (burstDone s g l k).galx = s.galx ∧ (burstDone s g l k).dram = s.dram ∧ (burstDone s g l k).net = s.net ∧ (burstDone s g l k).cxl = s.cxl ∧ (burstDone s g l k).hal = s.hal ∧ (burstDone s g l k).lamp = s.lamp ∧ (burstDone s g l k).power = s.power ∧ (burstDone s g l k).fault = s.fault := by simp only [burstDone]; (repeat' split) <;> simp

@[simp] theorem landPiece_keeps (r : StrRun) (m : Space1) (p : Port1) (e : Piece) (v : Nat) (bad : Bool) :
    (landPiece r m p e v bad).s.pending = p.s.pending ∧ (landPiece r m p e v bad).s.free = p.s.free ∧ (landPiece r m p e v bad).s.out = p.s.out ∧ (landPiece r m p e v bad).s.pins = p.s.pins ∧ (landPiece r m p e v bad).s.boot = p.s.boot ∧ (landPiece r m p e v bad).s.clock = p.s.clock ∧ (landPiece r m p e v bad).s.plan = p.s.plan ∧ (landPiece r m p e v bad).s.roll = p.s.roll ∧ (landPiece r m p e v bad).s.changes = p.s.changes ∧ (landPiece r m p e v bad).s.hall = p.s.hall ∧ (landPiece r m p e v bad).s.galx = p.s.galx ∧ (landPiece r m p e v bad).s.dram = p.s.dram ∧ (landPiece r m p e v bad).s.net = p.s.net ∧ (landPiece r m p e v bad).s.cxl = p.s.cxl ∧ (landPiece r m p e v bad).s.hal = p.s.hal ∧ (landPiece r m p e v bad).s.lamp = p.s.lamp ∧ (landPiece r m p e v bad).s.power = p.s.power ∧ (landPiece r m p e v bad).s.fault = p.s.fault := by
  unfold landPiece; simp only []; (repeat' split) <;> simp

@[simp] theorem port_foldl_pending {α : Type} (f : Port1 → α → Port1) (h : ∀ u a, (f u a).s.pending = u.s.pending) (l : List α) (q : Port1) : (l.foldl f q).s.pending = q.s.pending := by
  induction l generalizing q with
  | nil => rfl
  | cons a l ih => exact (ih (f q a)).trans (h q a)

@[simp] theorem port_foldl_free {α : Type} (f : Port1 → α → Port1) (h : ∀ u a, (f u a).s.free = u.s.free) (l : List α) (q : Port1) : (l.foldl f q).s.free = q.s.free := by
  induction l generalizing q with
  | nil => rfl
  | cons a l ih => exact (ih (f q a)).trans (h q a)

@[simp] theorem port_foldl_out {α : Type} (f : Port1 → α → Port1) (h : ∀ u a, (f u a).s.out = u.s.out) (l : List α) (q : Port1) : (l.foldl f q).s.out = q.s.out := by
  induction l generalizing q with
  | nil => rfl
  | cons a l ih => exact (ih (f q a)).trans (h q a)

@[simp] theorem port_foldl_pins {α : Type} (f : Port1 → α → Port1) (h : ∀ u a, (f u a).s.pins = u.s.pins) (l : List α) (q : Port1) : (l.foldl f q).s.pins = q.s.pins := by
  induction l generalizing q with
  | nil => rfl
  | cons a l ih => exact (ih (f q a)).trans (h q a)

@[simp] theorem port_foldl_boot {α : Type} (f : Port1 → α → Port1) (h : ∀ u a, (f u a).s.boot = u.s.boot) (l : List α) (q : Port1) : (l.foldl f q).s.boot = q.s.boot := by
  induction l generalizing q with
  | nil => rfl
  | cons a l ih => exact (ih (f q a)).trans (h q a)

@[simp] theorem port_foldl_clock {α : Type} (f : Port1 → α → Port1) (h : ∀ u a, (f u a).s.clock = u.s.clock) (l : List α) (q : Port1) : (l.foldl f q).s.clock = q.s.clock := by
  induction l generalizing q with
  | nil => rfl
  | cons a l ih => exact (ih (f q a)).trans (h q a)

@[simp] theorem port_foldl_clock_now {α : Type} (f : Port1 → α → Port1) (h : ∀ u a, (f u a).s.clock.now = u.s.clock.now) (l : List α) (q : Port1) : (l.foldl f q).s.clock.now = q.s.clock.now := by
  induction l generalizing q with
  | nil => rfl
  | cons a l ih => exact (ih (f q a)).trans (h q a)

@[simp] theorem port_foldl_plan {α : Type} (f : Port1 → α → Port1) (h : ∀ u a, (f u a).s.plan = u.s.plan) (l : List α) (q : Port1) : (l.foldl f q).s.plan = q.s.plan := by
  induction l generalizing q with
  | nil => rfl
  | cons a l ih => exact (ih (f q a)).trans (h q a)

@[simp] theorem port_foldl_roll {α : Type} (f : Port1 → α → Port1) (h : ∀ u a, (f u a).s.roll = u.s.roll) (l : List α) (q : Port1) : (l.foldl f q).s.roll = q.s.roll := by
  induction l generalizing q with
  | nil => rfl
  | cons a l ih => exact (ih (f q a)).trans (h q a)

@[simp] theorem port_foldl_changes {α : Type} (f : Port1 → α → Port1) (h : ∀ u a, (f u a).s.changes = u.s.changes) (l : List α) (q : Port1) : (l.foldl f q).s.changes = q.s.changes := by
  induction l generalizing q with
  | nil => rfl
  | cons a l ih => exact (ih (f q a)).trans (h q a)

@[simp] theorem port_foldl_hall {α : Type} (f : Port1 → α → Port1) (h : ∀ u a, (f u a).s.hall = u.s.hall) (l : List α) (q : Port1) : (l.foldl f q).s.hall = q.s.hall := by
  induction l generalizing q with
  | nil => rfl
  | cons a l ih => exact (ih (f q a)).trans (h q a)

@[simp] theorem port_foldl_galx {α : Type} (f : Port1 → α → Port1) (h : ∀ u a, (f u a).s.galx = u.s.galx) (l : List α) (q : Port1) : (l.foldl f q).s.galx = q.s.galx := by
  induction l generalizing q with
  | nil => rfl
  | cons a l ih => exact (ih (f q a)).trans (h q a)

@[simp] theorem port_foldl_dram {α : Type} (f : Port1 → α → Port1) (h : ∀ u a, (f u a).s.dram = u.s.dram) (l : List α) (q : Port1) : (l.foldl f q).s.dram = q.s.dram := by
  induction l generalizing q with
  | nil => rfl
  | cons a l ih => exact (ih (f q a)).trans (h q a)

@[simp] theorem port_foldl_net {α : Type} (f : Port1 → α → Port1) (h : ∀ u a, (f u a).s.net = u.s.net) (l : List α) (q : Port1) : (l.foldl f q).s.net = q.s.net := by
  induction l generalizing q with
  | nil => rfl
  | cons a l ih => exact (ih (f q a)).trans (h q a)

@[simp] theorem port_foldl_cxl {α : Type} (f : Port1 → α → Port1) (h : ∀ u a, (f u a).s.cxl = u.s.cxl) (l : List α) (q : Port1) : (l.foldl f q).s.cxl = q.s.cxl := by
  induction l generalizing q with
  | nil => rfl
  | cons a l ih => exact (ih (f q a)).trans (h q a)

@[simp] theorem port_foldl_hal {α : Type} (f : Port1 → α → Port1) (h : ∀ u a, (f u a).s.hal = u.s.hal) (l : List α) (q : Port1) : (l.foldl f q).s.hal = q.s.hal := by
  induction l generalizing q with
  | nil => rfl
  | cons a l ih => exact (ih (f q a)).trans (h q a)

@[simp] theorem port_foldl_hal_dict {α : Type} (f : Port1 → α → Port1) (h : ∀ u a, (f u a).s.hal.dict = u.s.hal.dict) (l : List α) (q : Port1) : (l.foldl f q).s.hal.dict = q.s.hal.dict := by
  induction l generalizing q with
  | nil => rfl
  | cons a l ih => exact (ih (f q a)).trans (h q a)

@[simp] theorem port_foldl_hal_serving {α : Type} (f : Port1 → α → Port1) (h : ∀ u a, (f u a).s.hal.serving = u.s.hal.serving) (l : List α) (q : Port1) : (l.foldl f q).s.hal.serving = q.s.hal.serving := by
  induction l generalizing q with
  | nil => rfl
  | cons a l ih => exact (ih (f q a)).trans (h q a)

@[simp] theorem port_foldl_hal_sess {α : Type} (f : Port1 → α → Port1) (h : ∀ u a, (f u a).s.hal.sess = u.s.hal.sess) (l : List α) (q : Port1) : (l.foldl f q).s.hal.sess = q.s.hal.sess := by
  induction l generalizing q with
  | nil => rfl
  | cons a l ih => exact (ih (f q a)).trans (h q a)

@[simp] theorem port_foldl_lamp {α : Type} (f : Port1 → α → Port1) (h : ∀ u a, (f u a).s.lamp = u.s.lamp) (l : List α) (q : Port1) : (l.foldl f q).s.lamp = q.s.lamp := by
  induction l generalizing q with
  | nil => rfl
  | cons a l ih => exact (ih (f q a)).trans (h q a)

@[simp] theorem port_foldl_lamp_fuses {α : Type} (f : Port1 → α → Port1) (h : ∀ u a, (f u a).s.lamp.fuses = u.s.lamp.fuses) (l : List α) (q : Port1) : (l.foldl f q).s.lamp.fuses = q.s.lamp.fuses := by
  induction l generalizing q with
  | nil => rfl
  | cons a l ih => exact (ih (f q a)).trans (h q a)

@[simp] theorem port_foldl_power {α : Type} (f : Port1 → α → Port1) (h : ∀ u a, (f u a).s.power = u.s.power) (l : List α) (q : Port1) : (l.foldl f q).s.power = q.s.power := by
  induction l generalizing q with
  | nil => rfl
  | cons a l ih => exact (ih (f q a)).trans (h q a)

@[simp] theorem port_foldl_fault {α : Type} (f : Port1 → α → Port1) (h : ∀ u a, (f u a).s.fault = u.s.fault) (l : List α) (q : Port1) : (l.foldl f q).s.fault = q.s.fault := by
  induction l generalizing q with
  | nil => rfl
  | cons a l ih => exact (ih (f q a)).trans (h q a)

@[simp] theorem port_foldl_cxl_up {α : Type} (f : Port1 → α → Port1) (h : ∀ u a, (f u a).s.cxl.up = u.s.cxl.up) (l : List α) (q : Port1) : (l.foldl f q).s.cxl.up = q.s.cxl.up := by
  induction l generalizing q with
  | nil => rfl
  | cons a l ih => exact (ih (f q a)).trans (h q a)

@[simp] theorem port_foldl_cxl_tsp {α : Type} (f : Port1 → α → Port1) (h : ∀ u a, (f u a).s.cxl.tsp = u.s.cxl.tsp) (l : List α) (q : Port1) : (l.foldl f q).s.cxl.tsp = q.s.cxl.tsp := by
  induction l generalizing q with
  | nil => rfl
  | cons a l ih => exact (ih (f q a)).trans (h q a)

@[simp] theorem port_foldl_cxl_rings {α : Type} (f : Port1 → α → Port1) (h : ∀ u a, (f u a).s.cxl.rings = u.s.cxl.rings) (l : List α) (q : Port1) : (l.foldl f q).s.cxl.rings = q.s.cxl.rings := by
  induction l generalizing q with
  | nil => rfl
  | cons a l ih => exact (ih (f q a)).trans (h q a)

@[simp] theorem port_settle_pending (p : Port1) : p.settle.pending = p.s.pending := by
  unfold Port1.settle
  refine foldl_keeps (·.pending) _ (fun u a => ?_) _ _
  simp only []; (repeat' split) <;> simp

@[simp] theorem port_settle_free (p : Port1) : p.settle.free = p.s.free := by
  unfold Port1.settle
  refine foldl_keeps (·.free) _ (fun u a => ?_) _ _
  simp only []; (repeat' split) <;> simp

@[simp] theorem port_settle_out (p : Port1) : p.settle.out = p.s.out := by
  unfold Port1.settle
  refine foldl_keeps (·.out) _ (fun u a => ?_) _ _
  simp only []; (repeat' split) <;> simp

@[simp] theorem port_settle_pins (p : Port1) : p.settle.pins = p.s.pins := by
  unfold Port1.settle
  refine foldl_keeps (·.pins) _ (fun u a => ?_) _ _
  simp only []; (repeat' split) <;> simp

@[simp] theorem port_settle_boot (p : Port1) : p.settle.boot = p.s.boot := by
  unfold Port1.settle
  refine foldl_keeps (·.boot) _ (fun u a => ?_) _ _
  simp only []; (repeat' split) <;> simp

@[simp] theorem port_settle_clock (p : Port1) : p.settle.clock = p.s.clock := by
  unfold Port1.settle
  refine foldl_keeps (·.clock) _ (fun u a => ?_) _ _
  simp only []; (repeat' split) <;> simp

@[simp] theorem port_settle_clock_now (p : Port1) : p.settle.clock.now = p.s.clock.now := by
  unfold Port1.settle
  refine foldl_keeps (·.clock.now) _ (fun u a => ?_) _ _
  simp only []; (repeat' split) <;> simp

@[simp] theorem port_settle_plan (p : Port1) : p.settle.plan = p.s.plan := by
  unfold Port1.settle
  refine foldl_keeps (·.plan) _ (fun u a => ?_) _ _
  simp only []; (repeat' split) <;> simp

@[simp] theorem port_settle_roll (p : Port1) : p.settle.roll = p.s.roll := by
  unfold Port1.settle
  refine foldl_keeps (·.roll) _ (fun u a => ?_) _ _
  simp only []; (repeat' split) <;> simp

@[simp] theorem port_settle_changes (p : Port1) : p.settle.changes = p.s.changes := by
  unfold Port1.settle
  refine foldl_keeps (·.changes) _ (fun u a => ?_) _ _
  simp only []; (repeat' split) <;> simp

@[simp] theorem port_settle_hall (p : Port1) : p.settle.hall = p.s.hall := by
  unfold Port1.settle
  refine foldl_keeps (·.hall) _ (fun u a => ?_) _ _
  simp only []; (repeat' split) <;> simp

@[simp] theorem port_settle_galx (p : Port1) : p.settle.galx = p.s.galx := by
  unfold Port1.settle
  refine foldl_keeps (·.galx) _ (fun u a => ?_) _ _
  simp only []; (repeat' split) <;> simp

@[simp] theorem port_settle_net (p : Port1) : p.settle.net = p.s.net := by
  unfold Port1.settle
  refine foldl_keeps (·.net) _ (fun u a => ?_) _ _
  simp only []; (repeat' split) <;> simp

@[simp] theorem port_settle_cxl (p : Port1) : p.settle.cxl = p.s.cxl := by
  unfold Port1.settle
  refine foldl_keeps (·.cxl) _ (fun u a => ?_) _ _
  simp only []; (repeat' split) <;> simp

@[simp] theorem port_settle_hal (p : Port1) : p.settle.hal = p.s.hal := by
  unfold Port1.settle
  refine foldl_keeps (·.hal) _ (fun u a => ?_) _ _
  simp only []; (repeat' split) <;> simp

@[simp] theorem port_settle_hal_dict (p : Port1) : p.settle.hal.dict = p.s.hal.dict := by
  unfold Port1.settle
  refine foldl_keeps (·.hal.dict) _ (fun u a => ?_) _ _
  simp only []; (repeat' split) <;> simp

@[simp] theorem port_settle_hal_serving (p : Port1) : p.settle.hal.serving = p.s.hal.serving := by
  unfold Port1.settle
  refine foldl_keeps (·.hal.serving) _ (fun u a => ?_) _ _
  simp only []; (repeat' split) <;> simp

@[simp] theorem port_settle_hal_sess (p : Port1) : p.settle.hal.sess = p.s.hal.sess := by
  unfold Port1.settle
  refine foldl_keeps (·.hal.sess) _ (fun u a => ?_) _ _
  simp only []; (repeat' split) <;> simp

@[simp] theorem port_settle_lamp (p : Port1) : p.settle.lamp = p.s.lamp := by
  unfold Port1.settle
  refine foldl_keeps (·.lamp) _ (fun u a => ?_) _ _
  simp only []; (repeat' split) <;> simp

@[simp] theorem port_settle_lamp_fuses (p : Port1) : p.settle.lamp.fuses = p.s.lamp.fuses := by
  unfold Port1.settle
  refine foldl_keeps (·.lamp.fuses) _ (fun u a => ?_) _ _
  simp only []; (repeat' split) <;> simp

@[simp] theorem port_settle_power (p : Port1) : p.settle.power = p.s.power := by
  unfold Port1.settle
  refine foldl_keeps (·.power) _ (fun u a => ?_) _ _
  simp only []; (repeat' split) <;> simp

@[simp] theorem port_settle_fault (p : Port1) : p.settle.fault = p.s.fault := by
  unfold Port1.settle
  refine foldl_keeps (·.fault) _ (fun u a => ?_) _ _
  simp only []; (repeat' split) <;> simp

@[simp] theorem port_settle_cxl_up (p : Port1) : p.settle.cxl.up = p.s.cxl.up := by
  unfold Port1.settle
  refine foldl_keeps (·.cxl.up) _ (fun u a => ?_) _ _
  simp only []; (repeat' split) <;> simp

@[simp] theorem port_settle_cxl_tsp (p : Port1) : p.settle.cxl.tsp = p.s.cxl.tsp := by
  unfold Port1.settle
  refine foldl_keeps (·.cxl.tsp) _ (fun u a => ?_) _ _
  simp only []; (repeat' split) <;> simp

@[simp] theorem port_settle_cxl_rings (p : Port1) : p.settle.cxl.rings = p.s.cxl.rings := by
  unfold Port1.settle
  refine foldl_keeps (·.cxl.rings) _ (fun u a => ?_) _ _
  simp only []; (repeat' split) <;> simp

@[simp] theorem port_new_s (s : State) (g l : Nat) : (Port1.new s g l).s = s := rfl

@[simp] theorem strLand_keeps (s : State) (g l k : Nat) (data : Bytes) (bad : Nat → Bool) :
    (strLand s g l k data bad).pending = s.pending ∧ (strLand s g l k data bad).free = s.free ∧ (strLand s g l k data bad).pins = s.pins ∧ (strLand s g l k data bad).clock = s.clock ∧ (strLand s g l k data bad).plan = s.plan ∧ (strLand s g l k data bad).roll = s.roll ∧ (strLand s g l k data bad).changes = s.changes ∧ (strLand s g l k data bad).galx = s.galx ∧ (strLand s g l k data bad).net = s.net ∧ (strLand s g l k data bad).hal = s.hal ∧ (strLand s g l k data bad).lamp.fuses = s.lamp.fuses ∧ (strLand s g l k data bad).power = s.power ∧ (strLand s g l k data bad).cxl.up = s.cxl.up ∧ (strLand s g l k data bad).cxl.tsp = s.cxl.tsp ∧ (strLand s g l k data bad).cxl.rings = s.cxl.rings := by unfold strLand; (repeat' split) <;> simp

@[simp] theorem strLandBad_keeps (s : State) (g l k : Nat) :
    (strLandBad s g l k).pending = s.pending ∧ (strLandBad s g l k).free = s.free ∧ (strLandBad s g l k).pins = s.pins ∧ (strLandBad s g l k).clock = s.clock ∧ (strLandBad s g l k).plan = s.plan ∧ (strLandBad s g l k).roll = s.roll ∧ (strLandBad s g l k).changes = s.changes ∧ (strLandBad s g l k).galx = s.galx ∧ (strLandBad s g l k).net = s.net ∧ (strLandBad s g l k).hal = s.hal ∧ (strLandBad s g l k).lamp.fuses = s.lamp.fuses ∧ (strLandBad s g l k).power = s.power ∧ (strLandBad s g l k).cxl.up = s.cxl.up ∧ (strLandBad s g l k).cxl.tsp = s.cxl.tsp ∧ (strLandBad s g l k).cxl.rings = s.cxl.rings := by simp [strLandBad]

@[simp] theorem strWrite_keeps (s : State) (g l : Nat) (r : StrRun) (b : Burst) :
    (strWrite s g l r b).pending = s.pending ∧ (strWrite s g l r b).free = s.free ∧ (strWrite s g l r b).pins = s.pins ∧ (strWrite s g l r b).clock = s.clock ∧ (strWrite s g l r b).plan = s.plan ∧ (strWrite s g l r b).roll = s.roll ∧ (strWrite s g l r b).changes = s.changes ∧ (strWrite s g l r b).galx = s.galx ∧ (strWrite s g l r b).net = s.net ∧ (strWrite s g l r b).hal = s.hal ∧ (strWrite s g l r b).lamp.fuses = s.lamp.fuses ∧ (strWrite s g l r b).power = s.power := by unfold strWrite; (repeat' split) <;> simp

@[simp] theorem strGetDone_keeps (s : State) (g l k : Nat) (m : Msg) :
    (strGetDone s g l k m).pending = s.pending ∧ (strGetDone s g l k m).pins = s.pins ∧ (strGetDone s g l k m).clock = s.clock ∧ (strGetDone s g l k m).plan = s.plan ∧ (strGetDone s g l k m).roll = s.roll ∧ (strGetDone s g l k m).changes = s.changes ∧ (strGetDone s g l k m).galx = s.galx ∧ (strGetDone s g l k m).net = s.net ∧ (strGetDone s g l k m).hal = s.hal ∧ (strGetDone s g l k m).lamp.fuses = s.lamp.fuses ∧ (strGetDone s g l k m).power = s.power ∧ (strGetDone s g l k m).cxl.up = s.cxl.up ∧ (strGetDone s g l k m).cxl.tsp = s.cxl.tsp ∧ (strGetDone s g l k m).cxl.rings = s.cxl.rings := by unfold strGetDone; (repeat' split) <;> simp

@[simp] theorem strPutDone_keeps (s : State) (g l k : Nat) (m : Msg) :
    (strPutDone s g l k m).pending = s.pending ∧ (strPutDone s g l k m).pins = s.pins ∧ (strPutDone s g l k m).clock = s.clock ∧ (strPutDone s g l k m).plan = s.plan ∧ (strPutDone s g l k m).roll = s.roll ∧ (strPutDone s g l k m).changes = s.changes ∧ (strPutDone s g l k m).galx = s.galx ∧ (strPutDone s g l k m).dram = s.dram ∧ (strPutDone s g l k m).net = s.net ∧ (strPutDone s g l k m).hal = s.hal ∧ (strPutDone s g l k m).lamp.fuses = s.lamp.fuses ∧ (strPutDone s g l k m).power = s.power ∧ (strPutDone s g l k m).cxl.up = s.cxl.up ∧ (strPutDone s g l k m).cxl.tsp = s.cxl.tsp ∧ (strPutDone s g l k m).cxl.rings = s.cxl.rings := by unfold strPutDone; (repeat' split) <;> simp

@[simp] theorem strPeer_keeps (s : State) (g l k : Nat) (r : StrRun) (b : Burst) :
    (strPeer s g l k r b).pending = s.pending ∧ (strPeer s g l k r b).pins = s.pins ∧ (strPeer s g l k r b).clock = s.clock ∧ (strPeer s g l k r b).plan = s.plan ∧ (strPeer s g l k r b).changes = s.changes ∧ (strPeer s g l k r b).lamp.fuses = s.lamp.fuses ∧ (strPeer s g l k r b).power = s.power := by simp [strPeer]

@[simp] theorem strGrant_keeps (s : State) (g l : Nat) (r : StrRun) (b : Burst) :
    (strGrant s g l r b).pending = s.pending ∧ (strGrant s g l r b).free = s.free ∧ (strGrant s g l r b).out = s.out ∧ (strGrant s g l r b).pins = s.pins ∧ (strGrant s g l r b).boot = s.boot ∧ (strGrant s g l r b).clock = s.clock ∧ (strGrant s g l r b).plan = s.plan ∧ (strGrant s g l r b).roll = s.roll ∧ (strGrant s g l r b).changes = s.changes ∧ (strGrant s g l r b).hall = s.hall ∧ (strGrant s g l r b).galx = s.galx ∧ (strGrant s g l r b).dram = s.dram ∧ (strGrant s g l r b).net = s.net ∧ (strGrant s g l r b).cxl = s.cxl ∧ (strGrant s g l r b).hal = s.hal ∧ (strGrant s g l r b).lamp = s.lamp ∧ (strGrant s g l r b).power = s.power ∧ (strGrant s g l r b).fault = s.fault := by simp [strGrant]

@[simp] theorem strTake_keeps (s : State) (g l k : Nat) :
    (strTake s g l k).pending = s.pending ∧ (strTake s g l k).free = s.free ∧ (strTake s g l k).out = s.out ∧ (strTake s g l k).pins = s.pins ∧ (strTake s g l k).boot = s.boot ∧ (strTake s g l k).clock = s.clock ∧ (strTake s g l k).plan = s.plan ∧ (strTake s g l k).roll = s.roll ∧ (strTake s g l k).changes = s.changes ∧ (strTake s g l k).hall = s.hall ∧ (strTake s g l k).galx = s.galx ∧ (strTake s g l k).dram = s.dram ∧ (strTake s g l k).net = s.net ∧ (strTake s g l k).cxl = s.cxl ∧ (strTake s g l k).hal = s.hal ∧ (strTake s g l k).lamp = s.lamp ∧ (strTake s g l k).power = s.power ∧ (strTake s g l k).fault = s.fault := by unfold strTake; (repeat' split) <;> simp

@[simp] theorem strGo_keeps (s : State) (g l k : Nat) (r : StrRun) (b : Burst) :
    (strGo s g l k r b).pending = s.pending ∧ (strGo s g l k r b).pins = s.pins ∧ (strGo s g l k r b).clock = s.clock ∧ (strGo s g l k r b).plan = s.plan ∧ (strGo s g l k r b).changes = s.changes ∧ (strGo s g l k r b).lamp.fuses = s.lamp.fuses ∧ (strGo s g l k r b).power = s.power := by simp [strGo]

@[simp] theorem strIssueOne_keeps (s : State) (g l : Nat) :
    (strIssueOne s g l).pending = s.pending ∧ (strIssueOne s g l).pins = s.pins ∧ (strIssueOne s g l).clock = s.clock ∧ (strIssueOne s g l).plan = s.plan ∧ (strIssueOne s g l).changes = s.changes ∧ (strIssueOne s g l).lamp.fuses = s.lamp.fuses ∧ (strIssueOne s g l).power = s.power := by unfold strIssueOne; (repeat' split) <;> simp

@[simp] theorem strEnd_keeps (s : State) (g l : Nat) :
    (strEnd s g l).pending = s.pending ∧ (strEnd s g l).free = s.free ∧ (strEnd s g l).pins = s.pins ∧ (strEnd s g l).clock = s.clock ∧ (strEnd s g l).plan = s.plan ∧ (strEnd s g l).roll = s.roll ∧ (strEnd s g l).changes = s.changes ∧ (strEnd s g l).galx = s.galx ∧ (strEnd s g l).dram = s.dram ∧ (strEnd s g l).net = s.net ∧ (strEnd s g l).hal = s.hal ∧ (strEnd s g l).lamp.fuses = s.lamp.fuses ∧ (strEnd s g l).power = s.power ∧ (strEnd s g l).cxl.up = s.cxl.up ∧ (strEnd s g l).cxl.tsp = s.cxl.tsp ∧ (strEnd s g l).cxl.rings = s.cxl.rings := by unfold strEnd; (repeat' split) <;> simp

@[simp] theorem strRound_pending (s : State) (g n : Nat) : (strRound s g n).pending = s.pending := by
  induction n generalizing s with
  | zero => rfl
  | succ n ih => simp only [strRound]; split <;> simp [ih]

@[simp] theorem strRound_pins (s : State) (g n : Nat) : (strRound s g n).pins = s.pins := by
  induction n generalizing s with
  | zero => rfl
  | succ n ih => simp only [strRound]; split <;> simp [ih]

@[simp] theorem strRound_clock (s : State) (g n : Nat) : (strRound s g n).clock = s.clock := by
  induction n generalizing s with
  | zero => rfl
  | succ n ih => simp only [strRound]; split <;> simp [ih]

@[simp] theorem strRound_plan (s : State) (g n : Nat) : (strRound s g n).plan = s.plan := by
  induction n generalizing s with
  | zero => rfl
  | succ n ih => simp only [strRound]; split <;> simp [ih]

@[simp] theorem strRound_changes (s : State) (g n : Nat) : (strRound s g n).changes = s.changes := by
  induction n generalizing s with
  | zero => rfl
  | succ n ih => simp only [strRound]; split <;> simp [ih]

@[simp] theorem strRound_lamp_fuses (s : State) (g n : Nat) : (strRound s g n).lamp.fuses = s.lamp.fuses := by
  induction n generalizing s with
  | zero => rfl
  | succ n ih => simp only [strRound]; split <;> simp [ih]

@[simp] theorem strRound_power (s : State) (g n : Nat) : (strRound s g n).power = s.power := by
  induction n generalizing s with
  | zero => rfl
  | succ n ih => simp only [strRound]; split <;> simp [ih]

@[simp] theorem strIssue_keeps (s : State) (g : Nat) :
    (strIssue s g).pending = s.pending ∧ (strIssue s g).pins = s.pins ∧ (strIssue s g).clock = s.clock ∧ (strIssue s g).plan = s.plan ∧ (strIssue s g).changes = s.changes ∧ (strIssue s g).lamp.fuses = s.lamp.fuses ∧ (strIssue s g).power = s.power := by simp [strIssue]

@[simp] theorem strAgain_keeps (s : State) (g : Nat) :
    (strAgain s g).pending = s.pending ∧ (strAgain s g).pins = s.pins ∧ (strAgain s g).clock = s.clock ∧ (strAgain s g).plan = s.plan ∧ (strAgain s g).changes = s.changes ∧ (strAgain s g).lamp.fuses = s.lamp.fuses ∧ (strAgain s g).power = s.power := by simp [strAgain]

@[simp] theorem landBurst_keeps (s : State) (b : LandBurst) :
    (landBurst s b).pending = s.pending ∧ (landBurst s b).pins = s.pins ∧ (landBurst s b).clock = s.clock ∧ (landBurst s b).plan = s.plan ∧ (landBurst s b).changes = s.changes ∧ (landBurst s b).lamp.fuses = s.lamp.fuses ∧ (landBurst s b).power = s.power := by unfold landBurst; (repeat' split) <;> simp

@[simp] theorem passBurst_keeps (s : State) (hops : List (Nat × LandBuf)) (x : LandBurst) :
    (passBurst s hops x).pending = s.pending ∧ (passBurst s hops x).pins = s.pins ∧ (passBurst s hops x).clock = s.clock ∧ (passBurst s hops x).plan = s.plan ∧ (passBurst s hops x).changes = s.changes ∧ (passBurst s hops x).lamp.fuses = s.lamp.fuses ∧ (passBurst s hops x).power = s.power := by unfold passBurst; (repeat' split) <;> simp

@[simp] theorem drainBuf_keeps (s : State) (h : Nat) (b : LandBuf) :
    (drainBuf s h b).pending = s.pending ∧ (drainBuf s h b).pins = s.pins ∧ (drainBuf s h b).clock = s.clock ∧ (drainBuf s h b).plan = s.plan ∧ (drainBuf s h b).changes = s.changes ∧ (drainBuf s h b).lamp.fuses = s.lamp.fuses ∧ (drainBuf s h b).power = s.power := by simp [drainBuf]

@[simp] theorem drainBursts_keeps (s : State) (h : Nat) :
    (drainBursts s h).pending = s.pending ∧ (drainBursts s h).pins = s.pins ∧ (drainBursts s h).clock = s.clock ∧ (drainBursts s h).plan = s.plan ∧ (drainBursts s h).changes = s.changes ∧ (drainBursts s h).lamp.fuses = s.lamp.fuses ∧ (drainBursts s h).power = s.power := by simp [drainBursts]

@[simp] theorem burstAck_keeps (s : State) (g l k : Nat) :
    (burstAck s g l k).pending = s.pending ∧ (burstAck s g l k).pins = s.pins ∧ (burstAck s g l k).clock = s.clock ∧ (burstAck s g l k).plan = s.plan ∧ (burstAck s g l k).changes = s.changes ∧ (burstAck s g l k).lamp.fuses = s.lamp.fuses ∧ (burstAck s g l k).power = s.power := by unfold burstAck; (repeat' split) <;> simp

@[simp] theorem burstRelease_keeps (s : State) (g l k : Nat) :
    (burstRelease s g l k).pending = s.pending ∧ (burstRelease s g l k).pins = s.pins ∧ (burstRelease s g l k).clock = s.clock ∧ (burstRelease s g l k).plan = s.plan ∧ (burstRelease s g l k).changes = s.changes ∧ (burstRelease s g l k).lamp.fuses = s.lamp.fuses ∧ (burstRelease s g l k).power = s.power := by unfold burstRelease; (repeat' split) <;> simp

@[simp] theorem responseIn_keeps (s : State) (f : Option Nat) (m : Msg) (write : Bool) :
    (responseIn s f m write).pending = s.pending ∧ (responseIn s f m write).pins = s.pins ∧ (responseIn s f m write).clock = s.clock ∧ (responseIn s f m write).plan = s.plan ∧ (responseIn s f m write).changes = s.changes ∧ (responseIn s f m write).lamp.fuses = s.lamp.fuses ∧ (responseIn s f m write).power = s.power := by unfold responseIn; (repeat' split) <;> simp

@[simp] theorem messageTimeout_keeps (s : State) (g : Nat) (tag : W16) :
    (messageTimeout s g tag).pending = s.pending ∧ (messageTimeout s g tag).pins = s.pins ∧ (messageTimeout s g tag).clock = s.clock ∧ (messageTimeout s g tag).plan = s.plan ∧ (messageTimeout s g tag).changes = s.changes ∧ (messageTimeout s g tag).lamp.fuses = s.lamp.fuses ∧ (messageTimeout s g tag).power = s.power := by unfold messageTimeout; (repeat' split) <;> simp

@[simp] theorem putIn_keeps (s : State) (f : Option Nat) (m : Msg) :
    (putIn s f m).pending = s.pending ∧ (putIn s f m).pins = s.pins ∧ (putIn s f m).clock = s.clock ∧ (putIn s f m).plan = s.plan ∧ (putIn s f m).changes = s.changes ∧ (putIn s f m).gal = s.gal ∧ (putIn s f m).galx = s.galx ∧ (putIn s f m).power = s.power ∧ (putIn s f m).lamp.fuses = s.lamp.fuses := by simp [putIn]

@[simp] theorem getIn_keeps (s : State) (f : Option Nat) (m : Msg) :
    (getIn s f m).pending = s.pending ∧ (getIn s f m).pins = s.pins ∧ (getIn s f m).clock = s.clock ∧ (getIn s f m).plan = s.plan ∧ (getIn s f m).changes = s.changes ∧ (getIn s f m).gal = s.gal ∧ (getIn s f m).galx = s.galx ∧ (getIn s f m).dram = s.dram ∧ (getIn s f m).power = s.power ∧ (getIn s f m).lamp.fuses = s.lamp.fuses := by simp [getIn]

@[simp] theorem dirSnoop_keeps (s : State) (asid : Nat) (probes : List Nat) :
    (dirSnoop s asid probes).pending = s.pending ∧ (dirSnoop s asid probes).free = s.free ∧ (dirSnoop s asid probes).pins = s.pins ∧ (dirSnoop s asid probes).boot = s.boot ∧ (dirSnoop s asid probes).clock = s.clock ∧ (dirSnoop s asid probes).plan = s.plan ∧ (dirSnoop s asid probes).roll = s.roll ∧ (dirSnoop s asid probes).changes = s.changes ∧ (dirSnoop s asid probes).hall = s.hall ∧ (dirSnoop s asid probes).gal = s.gal ∧ (dirSnoop s asid probes).galx = s.galx ∧ (dirSnoop s asid probes).dram = s.dram ∧ (dirSnoop s asid probes).net = s.net ∧ (dirSnoop s asid probes).hal = s.hal ∧ (dirSnoop s asid probes).lamp = s.lamp ∧ (dirSnoop s asid probes).power = s.power ∧ (dirSnoop s asid probes).fault = s.fault := by simp [dirSnoop]

@[simp] theorem updMac_keeps (s : State) (g : Nat) (f : MacroRun → MacroRun) :
    (updMac s g f).pending = s.pending ∧ (updMac s g f).free = s.free ∧ (updMac s g f).out = s.out ∧ (updMac s g f).pins = s.pins ∧ (updMac s g f).boot = s.boot ∧ (updMac s g f).clock = s.clock ∧ (updMac s g f).plan = s.plan ∧ (updMac s g f).roll = s.roll ∧ (updMac s g f).changes = s.changes ∧ (updMac s g f).hall = s.hall ∧ (updMac s g f).gal = s.gal ∧ (updMac s g f).dram = s.dram ∧ (updMac s g f).net = s.net ∧ (updMac s g f).cxl = s.cxl ∧ (updMac s g f).hal = s.hal ∧ (updMac s g f).lamp = s.lamp ∧ (updMac s g f).power = s.power ∧ (updMac s g f).fault = s.fault := by simp [updMac]

@[simp] theorem updCnt_keeps (s : State) (g : Nat) (f : GalCnt → GalCnt) :
    (updCnt s g f).pending = s.pending ∧ (updCnt s g f).free = s.free ∧ (updCnt s g f).out = s.out ∧ (updCnt s g f).pins = s.pins ∧ (updCnt s g f).boot = s.boot ∧ (updCnt s g f).clock = s.clock ∧ (updCnt s g f).plan = s.plan ∧ (updCnt s g f).roll = s.roll ∧ (updCnt s g f).changes = s.changes ∧ (updCnt s g f).hall = s.hall ∧ (updCnt s g f).gal = s.gal ∧ (updCnt s g f).dram = s.dram ∧ (updCnt s g f).net = s.net ∧ (updCnt s g f).cxl = s.cxl ∧ (updCnt s g f).hal = s.hal ∧ (updCnt s g f).lamp = s.lamp ∧ (updCnt s g f).power = s.power ∧ (updCnt s g f).fault = s.fault := by simp [updCnt]

@[simp] theorem blockStatus_keeps (s : State) (g addr st : Nat) :
    (blockStatus s g addr st).pending = s.pending ∧ (blockStatus s g addr st).free = s.free ∧ (blockStatus s g addr st).out = s.out ∧ (blockStatus s g addr st).pins = s.pins ∧ (blockStatus s g addr st).boot = s.boot ∧ (blockStatus s g addr st).clock = s.clock ∧ (blockStatus s g addr st).plan = s.plan ∧ (blockStatus s g addr st).roll = s.roll ∧ (blockStatus s g addr st).changes = s.changes ∧ (blockStatus s g addr st).hall = s.hall ∧ (blockStatus s g addr st).galx = s.galx ∧ (blockStatus s g addr st).dram = s.dram ∧ (blockStatus s g addr st).net = s.net ∧ (blockStatus s g addr st).cxl = s.cxl ∧ (blockStatus s g addr st).hal = s.hal ∧ (blockStatus s g addr st).lamp = s.lamp ∧ (blockStatus s g addr st).power = s.power ∧ (blockStatus s g addr st).fault = s.fault := by simp [blockStatus]

@[simp] theorem macroEnds_keeps (s : State) (g addr : Nat) (flag : Option Nat) (st : Option Nat) :
    (macroEnds s g addr flag st).pending = s.pending ∧ (macroEnds s g addr flag st).free = s.free ∧ (macroEnds s g addr flag st).pins = s.pins ∧ (macroEnds s g addr flag st).clock = s.clock ∧ (macroEnds s g addr flag st).plan = s.plan ∧ (macroEnds s g addr flag st).roll = s.roll ∧ (macroEnds s g addr flag st).changes = s.changes ∧ (macroEnds s g addr flag st).dram = s.dram ∧ (macroEnds s g addr flag st).net = s.net ∧ (macroEnds s g addr flag st).hal = s.hal ∧ (macroEnds s g addr flag st).lamp.fuses = s.lamp.fuses ∧ (macroEnds s g addr flag st).power = s.power ∧ (macroEnds s g addr flag st).cxl.up = s.cxl.up ∧ (macroEnds s g addr flag st).cxl.tsp = s.cxl.tsp ∧ (macroEnds s g addr flag st).cxl.rings = s.cxl.rings := by unfold macroEnds; (repeat' split) <;> simp

@[simp] theorem writeHeader_keeps (s : State) (g va level scale form ncomp flags st : Nat) :
    (writeHeader s g va level scale form ncomp flags st).pending = s.pending ∧ (writeHeader s g va level scale form ncomp flags st).free = s.free ∧ (writeHeader s g va level scale form ncomp flags st).pins = s.pins ∧ (writeHeader s g va level scale form ncomp flags st).boot = s.boot ∧ (writeHeader s g va level scale form ncomp flags st).clock = s.clock ∧ (writeHeader s g va level scale form ncomp flags st).plan = s.plan ∧ (writeHeader s g va level scale form ncomp flags st).roll = s.roll ∧ (writeHeader s g va level scale form ncomp flags st).changes = s.changes ∧ (writeHeader s g va level scale form ncomp flags st).hall = s.hall ∧ (writeHeader s g va level scale form ncomp flags st).gal = s.gal ∧ (writeHeader s g va level scale form ncomp flags st).galx = s.galx ∧ (writeHeader s g va level scale form ncomp flags st).net = s.net ∧ (writeHeader s g va level scale form ncomp flags st).hal = s.hal ∧ (writeHeader s g va level scale form ncomp flags st).lamp = s.lamp ∧ (writeHeader s g va level scale form ncomp flags st).power = s.power ∧ (writeHeader s g va level scale form ncomp flags st).fault = s.fault := by unfold writeHeader; (repeat' split) <;> simp

@[simp] theorem countHeader_keeps (s : State) (g flags : Nat) :
    (countHeader s g flags).pending = s.pending ∧ (countHeader s g flags).free = s.free ∧ (countHeader s g flags).out = s.out ∧ (countHeader s g flags).pins = s.pins ∧ (countHeader s g flags).boot = s.boot ∧ (countHeader s g flags).clock = s.clock ∧ (countHeader s g flags).plan = s.plan ∧ (countHeader s g flags).roll = s.roll ∧ (countHeader s g flags).changes = s.changes ∧ (countHeader s g flags).hall = s.hall ∧ (countHeader s g flags).gal = s.gal ∧ (countHeader s g flags).dram = s.dram ∧ (countHeader s g flags).net = s.net ∧ (countHeader s g flags).cxl = s.cxl ∧ (countHeader s g flags).hal = s.hal ∧ (countHeader s g flags).lamp = s.lamp ∧ (countHeader s g flags).power = s.power ∧ (countHeader s g flags).fault = s.fault := by simp [countHeader]

@[simp] theorem memberHeaders_keeps (s : State) (g flags st : Nat) (m : Member) :
    (memberHeaders s g flags st m).pending = s.pending ∧ (memberHeaders s g flags st m).free = s.free ∧ (memberHeaders s g flags st m).pins = s.pins ∧ (memberHeaders s g flags st m).boot = s.boot ∧ (memberHeaders s g flags st m).clock = s.clock ∧ (memberHeaders s g flags st m).plan = s.plan ∧ (memberHeaders s g flags st m).roll = s.roll ∧ (memberHeaders s g flags st m).changes = s.changes ∧ (memberHeaders s g flags st m).hall = s.hall ∧ (memberHeaders s g flags st m).gal = s.gal ∧ (memberHeaders s g flags st m).galx = s.galx ∧ (memberHeaders s g flags st m).net = s.net ∧ (memberHeaders s g flags st m).hal = s.hal ∧ (memberHeaders s g flags st m).lamp = s.lamp ∧ (memberHeaders s g flags st m).power = s.power ∧ (memberHeaders s g flags st m).fault = s.fault := by simp [memberHeaders]

@[simp] theorem taintAll_keeps (s : State) (g st : Nat) (ms : List Member) :
    (taintAll s g st ms).pending = s.pending ∧ (taintAll s g st ms).free = s.free ∧ (taintAll s g st ms).pins = s.pins ∧ (taintAll s g st ms).boot = s.boot ∧ (taintAll s g st ms).clock = s.clock ∧ (taintAll s g st ms).plan = s.plan ∧ (taintAll s g st ms).roll = s.roll ∧ (taintAll s g st ms).changes = s.changes ∧ (taintAll s g st ms).hall = s.hall ∧ (taintAll s g st ms).gal = s.gal ∧ (taintAll s g st ms).net = s.net ∧ (taintAll s g st ms).hal = s.hal ∧ (taintAll s g st ms).lamp = s.lamp ∧ (taintAll s g st ms).power = s.power ∧ (taintAll s g st ms).fault = s.fault := by simp [taintAll]

@[simp] theorem taperRecord_keeps (s : State) (g st d0 d1 : Nat) :
    (taperRecord s g st d0 d1).pending = s.pending ∧ (taperRecord s g st d0 d1).free = s.free ∧ (taperRecord s g st d0 d1).pins = s.pins ∧ (taperRecord s g st d0 d1).clock = s.clock ∧ (taperRecord s g st d0 d1).plan = s.plan ∧ (taperRecord s g st d0 d1).roll = s.roll ∧ (taperRecord s g st d0 d1).changes = s.changes ∧ (taperRecord s g st d0 d1).dram = s.dram ∧ (taperRecord s g st d0 d1).net = s.net ∧ (taperRecord s g st d0 d1).hal = s.hal ∧ (taperRecord s g st d0 d1).lamp.fuses = s.lamp.fuses ∧ (taperRecord s g st d0 d1).power = s.power ∧ (taperRecord s g st d0 d1).cxl.up = s.cxl.up ∧ (taperRecord s g st d0 d1).cxl.tsp = s.cxl.tsp ∧ (taperRecord s g st d0 d1).cxl.rings = s.cxl.rings := by unfold taperRecord; (repeat' split) <;> simp

@[simp] theorem stopStream_keeps (s : State) (g part fp st k code d1 : Nat) :
    (stopStream s g part fp st k code d1).pending = s.pending ∧ (stopStream s g part fp st k code d1).free = s.free ∧ (stopStream s g part fp st k code d1).pins = s.pins ∧ (stopStream s g part fp st k code d1).clock = s.clock ∧ (stopStream s g part fp st k code d1).plan = s.plan ∧ (stopStream s g part fp st k code d1).roll = s.roll ∧ (stopStream s g part fp st k code d1).changes = s.changes ∧ (stopStream s g part fp st k code d1).net = s.net ∧ (stopStream s g part fp st k code d1).hal = s.hal ∧ (stopStream s g part fp st k code d1).lamp.fuses = s.lamp.fuses ∧ (stopStream s g part fp st k code d1).power = s.power := by unfold stopStream; (repeat' split) <;> simp

@[simp] theorem stopOpen_keeps (s : State) (g : Nat) (t : Stream) (st k code d1 : Nat) :
    (stopOpen s g t st k code d1).pending = s.pending ∧ (stopOpen s g t st k code d1).free = s.free ∧ (stopOpen s g t st k code d1).pins = s.pins ∧ (stopOpen s g t st k code d1).clock = s.clock ∧ (stopOpen s g t st k code d1).plan = s.plan ∧ (stopOpen s g t st k code d1).roll = s.roll ∧ (stopOpen s g t st k code d1).changes = s.changes ∧ (stopOpen s g t st k code d1).net = s.net ∧ (stopOpen s g t st k code d1).hal = s.hal ∧ (stopOpen s g t st k code d1).lamp.fuses = s.lamp.fuses ∧ (stopOpen s g t st k code d1).power = s.power := by simp [stopOpen]

@[simp] theorem updStream_keeps (s : State) (g k : Nat) (f : Stream → Stream) :
    (updStream s g k f).pending = s.pending ∧ (updStream s g k f).free = s.free ∧ (updStream s g k f).out = s.out ∧ (updStream s g k f).pins = s.pins ∧ (updStream s g k f).boot = s.boot ∧ (updStream s g k f).clock = s.clock ∧ (updStream s g k f).plan = s.plan ∧ (updStream s g k f).roll = s.roll ∧ (updStream s g k f).changes = s.changes ∧ (updStream s g k f).hall = s.hall ∧ (updStream s g k f).gal = s.gal ∧ (updStream s g k f).dram = s.dram ∧ (updStream s g k f).net = s.net ∧ (updStream s g k f).cxl = s.cxl ∧ (updStream s g k f).hal = s.hal ∧ (updStream s g k f).lamp = s.lamp ∧ (updStream s g k f).power = s.power ∧ (updStream s g k f).fault = s.fault := by simp [updStream]

@[simp] theorem releasePairs_keeps (s : State) (g : Nat) (m : MacroRun) (p : PSet) (a n : Nat) :
    (releasePairs s g m p a n).pending = s.pending ∧ (releasePairs s g m p a n).free = s.free ∧ (releasePairs s g m p a n).out = s.out ∧ (releasePairs s g m p a n).pins = s.pins ∧ (releasePairs s g m p a n).boot = s.boot ∧ (releasePairs s g m p a n).clock = s.clock ∧ (releasePairs s g m p a n).plan = s.plan ∧ (releasePairs s g m p a n).roll = s.roll ∧ (releasePairs s g m p a n).changes = s.changes ∧ (releasePairs s g m p a n).hall = s.hall ∧ (releasePairs s g m p a n).dram = s.dram ∧ (releasePairs s g m p a n).net = s.net ∧ (releasePairs s g m p a n).cxl = s.cxl ∧ (releasePairs s g m p a n).hal = s.hal ∧ (releasePairs s g m p a n).lamp = s.lamp ∧ (releasePairs s g m p a n).power = s.power ∧ (releasePairs s g m p a n).fault = s.fault := by simp [releasePairs]

@[simp] theorem askOnce_keeps (s : State) (g k : Nat) :
    (askOnce s g k).pending = s.pending ∧ (askOnce s g k).free = s.free ∧ (askOnce s g k).pins = s.pins ∧ (askOnce s g k).clock = s.clock ∧ (askOnce s g k).plan = s.plan ∧ (askOnce s g k).changes = s.changes ∧ (askOnce s g k).hal = s.hal ∧ (askOnce s g k).lamp.fuses = s.lamp.fuses ∧ (askOnce s g k).power = s.power := by simp only [askOnce]; (repeat' split) <;> simp

@[simp] theorem askAll_keeps (s : State) (g k : Nat) :
    (askAll s g k).pending = s.pending ∧ (askAll s g k).free = s.free ∧ (askAll s g k).pins = s.pins ∧ (askAll s g k).clock = s.clock ∧ (askAll s g k).plan = s.plan ∧ (askAll s g k).changes = s.changes ∧ (askAll s g k).hal = s.hal ∧ (askAll s g k).lamp.fuses = s.lamp.fuses ∧ (askAll s g k).power = s.power := by simp [askAll]

@[simp] theorem openStream_keeps (s : State) (g gal level : Nat) :
    (openStream s g gal level).pending = s.pending ∧ (openStream s g gal level).free = s.free ∧ (openStream s g gal level).pins = s.pins ∧ (openStream s g gal level).clock = s.clock ∧ (openStream s g gal level).plan = s.plan ∧ (openStream s g gal level).changes = s.changes ∧ (openStream s g gal level).hal = s.hal ∧ (openStream s g gal level).lamp.fuses = s.lamp.fuses ∧ (openStream s g gal level).power = s.power := by simp only [openStream]; (repeat' split) <;> simp

@[simp] theorem openNext_keeps (s : State) (g : Nat) :
    (openNext s g).pending = s.pending ∧ (openNext s g).free = s.free ∧ (openNext s g).pins = s.pins ∧ (openNext s g).clock = s.clock ∧ (openNext s g).plan = s.plan ∧ (openNext s g).changes = s.changes ∧ (openNext s g).hal.serving = s.hal.serving ∧ (openNext s g).hal.sess = s.hal.sess ∧ (openNext s g).lamp.fuses = s.lamp.fuses ∧ (openNext s g).power = s.power := by unfold openNext; (repeat' split) <;> simp

@[simp] theorem headerIn_keeps (s : State) (g k : Nat) (t : Stream) (p : PSet) (h : Bytes) (poisoned : Bool) :
    (headerIn s g k t p h poisoned).pending = s.pending ∧ (headerIn s g k t p h poisoned).free = s.free ∧ (headerIn s g k t p h poisoned).pins = s.pins ∧ (headerIn s g k t p h poisoned).clock = s.clock ∧ (headerIn s g k t p h poisoned).plan = s.plan ∧ (headerIn s g k t p h poisoned).roll = s.roll ∧ (headerIn s g k t p h poisoned).changes = s.changes ∧ (headerIn s g k t p h poisoned).net = s.net ∧ (headerIn s g k t p h poisoned).hal = s.hal ∧ (headerIn s g k t p h poisoned).lamp.fuses = s.lamp.fuses ∧ (headerIn s g k t p h poisoned).power = s.power := by unfold headerIn; (repeat' split) <;> simp

@[simp] theorem openHeld_keeps (s : State) (g : Nat) :
    (openHeld s g).pending = s.pending ∧ (openHeld s g).free = s.free ∧ (openHeld s g).pins = s.pins ∧ (openHeld s g).clock = s.clock ∧ (openHeld s g).plan = s.plan ∧ (openHeld s g).changes = s.changes ∧ (openHeld s g).hal.serving = s.hal.serving ∧ (openHeld s g).hal.sess = s.hal.sess ∧ (openHeld s g).lamp.fuses = s.lamp.fuses ∧ (openHeld s g).power = s.power := by simp [openHeld]

@[simp] theorem headerRead_keeps (s : State) (g k : Nat) :
    (headerRead s g k).pending = s.pending ∧ (headerRead s g k).free = s.free ∧ (headerRead s g k).pins = s.pins ∧ (headerRead s g k).clock = s.clock ∧ (headerRead s g k).plan = s.plan ∧ (headerRead s g k).roll = s.roll ∧ (headerRead s g k).changes = s.changes ∧ (headerRead s g k).net = s.net ∧ (headerRead s g k).hal.serving = s.hal.serving ∧ (headerRead s g k).hal.sess = s.hal.sess ∧ (headerRead s g k).lamp.fuses = s.lamp.fuses ∧ (headerRead s g k).power = s.power := by unfold headerRead; simp only []; (repeat' split) <;> simp

@[simp] theorem blockHeaderRead_keeps (s : State) (g k : Nat) :
    (blockHeaderRead s g k).pending = s.pending ∧ (blockHeaderRead s g k).free = s.free ∧ (blockHeaderRead s g k).pins = s.pins ∧ (blockHeaderRead s g k).clock = s.clock ∧ (blockHeaderRead s g k).plan = s.plan ∧ (blockHeaderRead s g k).changes = s.changes ∧ (blockHeaderRead s g k).lamp.fuses = s.lamp.fuses ∧ (blockHeaderRead s g k).power = s.power := by simp [blockHeaderRead]

@[simp] theorem ringWrite_keeps (s : State) (g at_ : Nat) (v : Bytes) (bad : List Nat) :
    (ringWrite s g at_ v bad).pending = s.pending ∧ (ringWrite s g at_ v bad).free = s.free ∧ (ringWrite s g at_ v bad).out = s.out ∧ (ringWrite s g at_ v bad).pins = s.pins ∧ (ringWrite s g at_ v bad).boot = s.boot ∧ (ringWrite s g at_ v bad).clock = s.clock ∧ (ringWrite s g at_ v bad).plan = s.plan ∧ (ringWrite s g at_ v bad).roll = s.roll ∧ (ringWrite s g at_ v bad).changes = s.changes ∧ (ringWrite s g at_ v bad).hall = s.hall ∧ (ringWrite s g at_ v bad).galx = s.galx ∧ (ringWrite s g at_ v bad).dram = s.dram ∧ (ringWrite s g at_ v bad).net = s.net ∧ (ringWrite s g at_ v bad).cxl = s.cxl ∧ (ringWrite s g at_ v bad).hal = s.hal ∧ (ringWrite s g at_ v bad).lamp = s.lamp ∧ (ringWrite s g at_ v bad).power = s.power ∧ (ringWrite s g at_ v bad).fault = s.fault := by simp [ringWrite]

@[simp] theorem keepWords_keeps (s : State) (g : Nat) (t : Stream) (b : Nat × Nat × Nat × Nat) (comp : Nat) (ws : List W32) (poison : Bool) :
    (keepWords s g t b comp ws poison).pending = s.pending ∧ (keepWords s g t b comp ws poison).free = s.free ∧ (keepWords s g t b comp ws poison).out = s.out ∧ (keepWords s g t b comp ws poison).pins = s.pins ∧ (keepWords s g t b comp ws poison).boot = s.boot ∧ (keepWords s g t b comp ws poison).clock = s.clock ∧ (keepWords s g t b comp ws poison).plan = s.plan ∧ (keepWords s g t b comp ws poison).roll = s.roll ∧ (keepWords s g t b comp ws poison).changes = s.changes ∧ (keepWords s g t b comp ws poison).hall = s.hall ∧ (keepWords s g t b comp ws poison).gal = s.gal ∧ (keepWords s g t b comp ws poison).dram = s.dram ∧ (keepWords s g t b comp ws poison).net = s.net ∧ (keepWords s g t b comp ws poison).cxl = s.cxl ∧ (keepWords s g t b comp ws poison).hal = s.hal ∧ (keepWords s g t b comp ws poison).lamp = s.lamp ∧ (keepWords s g t b comp ws poison).power = s.power ∧ (keepWords s g t b comp ws poison).fault = s.fault := by simp [keepWords]

@[simp] theorem saveSponge_keeps (s : State) (g : Nat) (x : Sponge) :
    (saveSponge s g x).pending = s.pending ∧ (saveSponge s g x).free = s.free ∧ (saveSponge s g x).out = s.out ∧ (saveSponge s g x).pins = s.pins ∧ (saveSponge s g x).boot = s.boot ∧ (saveSponge s g x).clock = s.clock ∧ (saveSponge s g x).plan = s.plan ∧ (saveSponge s g x).roll = s.roll ∧ (saveSponge s g x).changes = s.changes ∧ (saveSponge s g x).hall = s.hall ∧ (saveSponge s g x).gal = s.gal ∧ (saveSponge s g x).dram = s.dram ∧ (saveSponge s g x).net = s.net ∧ (saveSponge s g x).cxl = s.cxl ∧ (saveSponge s g x).hal = s.hal ∧ (saveSponge s g x).lamp = s.lamp ∧ (saveSponge s g x).power = s.power ∧ (saveSponge s g x).fault = s.fault := by simp [saveSponge]

@[simp] theorem expandHalf_keeps (s : State) (g : Nat) (t : Stream) (p : PSet) (at_ : Nat) (b : Nat × Nat × Nat × Nat) :
    (expandHalf s g t p at_ b).pending = s.pending ∧ (expandHalf s g t p at_ b).free = s.free ∧ (expandHalf s g t p at_ b).out = s.out ∧ (expandHalf s g t p at_ b).pins = s.pins ∧ (expandHalf s g t p at_ b).boot = s.boot ∧ (expandHalf s g t p at_ b).clock = s.clock ∧ (expandHalf s g t p at_ b).plan = s.plan ∧ (expandHalf s g t p at_ b).roll = s.roll ∧ (expandHalf s g t p at_ b).changes = s.changes ∧ (expandHalf s g t p at_ b).hall = s.hall ∧ (expandHalf s g t p at_ b).dram = s.dram ∧ (expandHalf s g t p at_ b).net = s.net ∧ (expandHalf s g t p at_ b).cxl = s.cxl ∧ (expandHalf s g t p at_ b).hal = s.hal ∧ (expandHalf s g t p at_ b).lamp = s.lamp ∧ (expandHalf s g t p at_ b).power = s.power ∧ (expandHalf s g t p at_ b).fault = s.fault := by simp [expandHalf]

@[simp] theorem restartWaits_keeps (s : State) (g : Nat) :
    (restartWaits s g).pending = s.pending ∧ (restartWaits s g).free = s.free ∧ (restartWaits s g).out = s.out ∧ (restartWaits s g).pins = s.pins ∧ (restartWaits s g).boot = s.boot ∧ (restartWaits s g).clock = s.clock ∧ (restartWaits s g).plan = s.plan ∧ (restartWaits s g).roll = s.roll ∧ (restartWaits s g).changes = s.changes ∧ (restartWaits s g).hall = s.hall ∧ (restartWaits s g).gal = s.gal ∧ (restartWaits s g).dram = s.dram ∧ (restartWaits s g).net = s.net ∧ (restartWaits s g).cxl = s.cxl ∧ (restartWaits s g).hal = s.hal ∧ (restartWaits s g).lamp = s.lamp ∧ (restartWaits s g).power = s.power ∧ (restartWaits s g).fault = s.fault := by exact ⟨by unfold restartWaits; (repeat' split) <;> first | (refine foldl_keeps (·.pending) _ (fun u a => ?_) _ _; (try simp only []); (repeat' split) <;> simp) | simp, by unfold restartWaits; (repeat' split) <;> first | (refine foldl_keeps (·.free) _ (fun u a => ?_) _ _; (try simp only []); (repeat' split) <;> simp) | simp, by unfold restartWaits; (repeat' split) <;> first | (refine foldl_keeps (·.out) _ (fun u a => ?_) _ _; (try simp only []); (repeat' split) <;> simp) | simp, by unfold restartWaits; (repeat' split) <;> first | (refine foldl_keeps (·.pins) _ (fun u a => ?_) _ _; (try simp only []); (repeat' split) <;> simp) | simp, by unfold restartWaits; (repeat' split) <;> first | (refine foldl_keeps (·.boot) _ (fun u a => ?_) _ _; (try simp only []); (repeat' split) <;> simp) | simp, by unfold restartWaits; (repeat' split) <;> first | (refine foldl_keeps (·.clock) _ (fun u a => ?_) _ _; (try simp only []); (repeat' split) <;> simp) | simp, by unfold restartWaits; (repeat' split) <;> first | (refine foldl_keeps (·.plan) _ (fun u a => ?_) _ _; (try simp only []); (repeat' split) <;> simp) | simp, by unfold restartWaits; (repeat' split) <;> first | (refine foldl_keeps (·.roll) _ (fun u a => ?_) _ _; (try simp only []); (repeat' split) <;> simp) | simp, by unfold restartWaits; (repeat' split) <;> first | (refine foldl_keeps (·.changes) _ (fun u a => ?_) _ _; (try simp only []); (repeat' split) <;> simp) | simp, by unfold restartWaits; (repeat' split) <;> first | (refine foldl_keeps (·.hall) _ (fun u a => ?_) _ _; (try simp only []); (repeat' split) <;> simp) | simp, by unfold restartWaits; (repeat' split) <;> first | (refine foldl_keeps (·.gal) _ (fun u a => ?_) _ _; (try simp only []); (repeat' split) <;> simp) | simp, by unfold restartWaits; (repeat' split) <;> first | (refine foldl_keeps (·.dram) _ (fun u a => ?_) _ _; (try simp only []); (repeat' split) <;> simp) | simp, by unfold restartWaits; (repeat' split) <;> first | (refine foldl_keeps (·.net) _ (fun u a => ?_) _ _; (try simp only []); (repeat' split) <;> simp) | simp, by unfold restartWaits; (repeat' split) <;> first | (refine foldl_keeps (·.cxl) _ (fun u a => ?_) _ _; (try simp only []); (repeat' split) <;> simp) | simp, by unfold restartWaits; (repeat' split) <;> first | (refine foldl_keeps (·.hal) _ (fun u a => ?_) _ _; (try simp only []); (repeat' split) <;> simp) | simp, by unfold restartWaits; (repeat' split) <;> first | (refine foldl_keeps (·.lamp) _ (fun u a => ?_) _ _; (try simp only []); (repeat' split) <;> simp) | simp, by unfold restartWaits; (repeat' split) <;> first | (refine foldl_keeps (·.power) _ (fun u a => ?_) _ _; (try simp only []); (repeat' split) <;> simp) | simp, by unfold restartWaits; (repeat' split) <;> first | (refine foldl_keeps (·.fault) _ (fun u a => ?_) _ _; (try simp only []); (repeat' split) <;> simp) | simp⟩

@[simp] theorem afterBlock_keeps (s : State) (g k : Nat) :
    (afterBlock s g k).pending = s.pending ∧ (afterBlock s g k).free = s.free ∧ (afterBlock s g k).pins = s.pins ∧ (afterBlock s g k).clock = s.clock ∧ (afterBlock s g k).plan = s.plan ∧ (afterBlock s g k).changes = s.changes ∧ (afterBlock s g k).hal.serving = s.hal.serving ∧ (afterBlock s g k).hal.sess = s.hal.sess ∧ (afterBlock s g k).lamp.fuses = s.lamp.fuses ∧ (afterBlock s g k).power = s.power := by unfold afterBlock; (repeat' split) <;> simp

@[simp] theorem payloadIn_keeps (s : State) (g k : Nat) (t : Stream) (m : MacroRun) (p : PSet) (b : Nat × Nat × Nat × Nat) (off : Nat) (v : Bytes) (bad : List Nat) (last : Bool) :
    (payloadIn s g k t m p b off v bad last).pending = s.pending ∧ (payloadIn s g k t m p b off v bad last).pins = s.pins ∧ (payloadIn s g k t m p b off v bad last).clock = s.clock ∧ (payloadIn s g k t m p b off v bad last).plan = s.plan ∧ (payloadIn s g k t m p b off v bad last).changes = s.changes ∧ (payloadIn s g k t m p b off v bad last).lamp.fuses = s.lamp.fuses ∧ (payloadIn s g k t m p b off v bad last).power = s.power := by simp [payloadIn]

@[simp] theorem taperLand_keeps (s : State) (g k : Nat) :
    (taperLand s g k).pending = s.pending ∧ (taperLand s g k).pins = s.pins ∧ (taperLand s g k).clock = s.clock ∧ (taperLand s g k).plan = s.plan ∧ (taperLand s g k).changes = s.changes ∧ (taperLand s g k).lamp.fuses = s.lamp.fuses ∧ (taperLand s g k).power = s.power := by unfold taperLand; (repeat' split) <;> simp

@[simp] theorem keyTimeout_keeps (s : State) (g k : Nat) :
    (keyTimeout s g k).pending = s.pending ∧ (keyTimeout s g k).free = s.free ∧ (keyTimeout s g k).pins = s.pins ∧ (keyTimeout s g k).clock = s.clock ∧ (keyTimeout s g k).plan = s.plan ∧ (keyTimeout s g k).roll = s.roll ∧ (keyTimeout s g k).changes = s.changes ∧ (keyTimeout s g k).net = s.net ∧ (keyTimeout s g k).hal = s.hal ∧ (keyTimeout s g k).lamp.fuses = s.lamp.fuses ∧ (keyTimeout s g k).power = s.power := by unfold keyTimeout; (repeat' split) <;> simp

@[simp] theorem keyCost_keeps (s : State) (f : Option Nat) (m : Msg) (answers : List Msg) :
    (keyCost s f m answers).pending = s.pending ∧ (keyCost s f m answers).free = s.free ∧ (keyCost s f m answers).pins = s.pins ∧ (keyCost s f m answers).boot = s.boot ∧ (keyCost s f m answers).clock = s.clock ∧ (keyCost s f m answers).plan = s.plan ∧ (keyCost s f m answers).roll = s.roll ∧ (keyCost s f m answers).changes = s.changes ∧ (keyCost s f m answers).gal = s.gal ∧ (keyCost s f m answers).galx = s.galx ∧ (keyCost s f m answers).dram = s.dram ∧ (keyCost s f m answers).hal.serving = s.hal.serving ∧ (keyCost s f m answers).hal.sess = s.hal.sess ∧ (keyCost s f m answers).lamp = s.lamp ∧ (keyCost s f m answers).power = s.power ∧ (keyCost s f m answers).fault = s.fault := by simp [keyCost]

@[simp] theorem keyRequestIn_keeps (s : State) (f : Option Nat) (m : Msg) :
    (keyRequestIn s f m).pending = s.pending ∧ (keyRequestIn s f m).free = s.free ∧ (keyRequestIn s f m).pins = s.pins ∧ (keyRequestIn s f m).clock = s.clock ∧ (keyRequestIn s f m).plan = s.plan ∧ (keyRequestIn s f m).changes = s.changes ∧ (keyRequestIn s f m).gal = s.gal ∧ (keyRequestIn s f m).galx = s.galx ∧ (keyRequestIn s f m).dram = s.dram ∧ (keyRequestIn s f m).lamp.fuses = s.lamp.fuses ∧ (keyRequestIn s f m).power = s.power := by simp [keyRequestIn]

@[simp] theorem keyHeaderIn_keeps (s : State) (f : Option Nat) (m : Msg) :
    (keyHeaderIn s f m).pending = s.pending ∧ (keyHeaderIn s f m).free = s.free ∧ (keyHeaderIn s f m).pins = s.pins ∧ (keyHeaderIn s f m).clock = s.clock ∧ (keyHeaderIn s f m).plan = s.plan ∧ (keyHeaderIn s f m).roll = s.roll ∧ (keyHeaderIn s f m).changes = s.changes ∧ (keyHeaderIn s f m).hal = s.hal ∧ (keyHeaderIn s f m).lamp.fuses = s.lamp.fuses ∧ (keyHeaderIn s f m).power = s.power := by unfold keyHeaderIn; (repeat' split) <;> simp

@[simp] theorem keyPayloadIn_keeps (s : State) (f : Option Nat) (m : Msg) :
    (keyPayloadIn s f m).pending = s.pending ∧ (keyPayloadIn s f m).pins = s.pins ∧ (keyPayloadIn s f m).clock = s.clock ∧ (keyPayloadIn s f m).plan = s.plan ∧ (keyPayloadIn s f m).changes = s.changes ∧ (keyPayloadIn s f m).lamp.fuses = s.lamp.fuses ∧ (keyPayloadIn s f m).power = s.power := by unfold keyPayloadIn; (repeat' split) <;> simp

@[simp] theorem keyRefusalIn_keeps (s : State) (f : Option Nat) (m : Msg) :
    (keyRefusalIn s f m).pending = s.pending ∧ (keyRefusalIn s f m).free = s.free ∧ (keyRefusalIn s f m).pins = s.pins ∧ (keyRefusalIn s f m).clock = s.clock ∧ (keyRefusalIn s f m).plan = s.plan ∧ (keyRefusalIn s f m).roll = s.roll ∧ (keyRefusalIn s f m).changes = s.changes ∧ (keyRefusalIn s f m).hal = s.hal ∧ (keyRefusalIn s f m).lamp.fuses = s.lamp.fuses ∧ (keyRefusalIn s f m).power = s.power := by unfold keyRefusalIn; (repeat' split) <;> simp

@[simp] theorem takeResponse_keeps (s : State) (f : Option Nat) (m : Msg) :
    (takeResponse s f m).pending = s.pending ∧ (takeResponse s f m).pins = s.pins ∧ (takeResponse s f m).clock = s.clock ∧ (takeResponse s f m).plan = s.plan ∧ (takeResponse s f m).changes = s.changes ∧ (takeResponse s f m).lamp.fuses = s.lamp.fuses ∧ (takeResponse s f m).power = s.power := by unfold takeResponse; (repeat' split) <;> simp

@[simp] theorem takeAny_keeps (s : State) (f : Option Nat) (m : Msg) :
    (takeAny s f m).pending = s.pending ∧ (takeAny s f m).pins = s.pins ∧ (takeAny s f m).clock = s.clock ∧ (takeAny s f m).plan = s.plan ∧ (takeAny s f m).changes = s.changes ∧ (takeAny s f m).lamp.fuses = s.lamp.fuses ∧ (takeAny s f m).power = s.power := by unfold takeAny; (repeat' split) <;> simp

@[simp] theorem freeSlots_keeps (s : State) (f : Option Nat) (cs : List (Nat × Bool)) :
    (freeSlots s f cs).pending = s.pending ∧ (freeSlots s f cs).free = s.free ∧ (freeSlots s f cs).out = s.out ∧ (freeSlots s f cs).pins = s.pins ∧ (freeSlots s f cs).boot = s.boot ∧ (freeSlots s f cs).clock = s.clock ∧ (freeSlots s f cs).plan = s.plan ∧ (freeSlots s f cs).roll = s.roll ∧ (freeSlots s f cs).changes = s.changes ∧ (freeSlots s f cs).hall = s.hall ∧ (freeSlots s f cs).gal = s.gal ∧ (freeSlots s f cs).galx = s.galx ∧ (freeSlots s f cs).dram = s.dram ∧ (freeSlots s f cs).cxl = s.cxl ∧ (freeSlots s f cs).hal = s.hal ∧ (freeSlots s f cs).lamp = s.lamp ∧ (freeSlots s f cs).power = s.power ∧ (freeSlots s f cs).fault = s.fault := by unfold freeSlots; (repeat' split) <;> simp

@[simp] theorem park_keeps (s : State) (x : StuckMsg) :
    (park s x).pending = s.pending ∧ (park s x).free = s.free ∧ (park s x).out = s.out ∧ (park s x).pins = s.pins ∧ (park s x).boot = s.boot ∧ (park s x).clock = s.clock ∧ (park s x).plan = s.plan ∧ (park s x).roll = s.roll ∧ (park s x).changes = s.changes ∧ (park s x).hall = s.hall ∧ (park s x).gal = s.gal ∧ (park s x).galx = s.galx ∧ (park s x).dram = s.dram ∧ (park s x).cxl = s.cxl ∧ (park s x).hal = s.hal ∧ (park s x).lamp = s.lamp ∧ (park s x).power = s.power ∧ (park s x).fault = s.fault := by simp [park]

@[simp] theorem landMsg_keeps (s : State) (f : Option Nat) (cs : List (Nat × Bool)) (m : Msg) :
    (landMsg s f cs m).pending = s.pending ∧ (landMsg s f cs m).pins = s.pins ∧ (landMsg s f cs m).clock = s.clock ∧ (landMsg s f cs m).plan = s.plan ∧ (landMsg s f cs m).changes = s.changes ∧ (landMsg s f cs m).lamp.fuses = s.lamp.fuses ∧ (landMsg s f cs m).power = s.power := by unfold landMsg; (repeat' split) <;> simp

@[simp] theorem landAgain_keeps (s : State) (x : StuckMsg) :
    (landAgain s x).pending = s.pending ∧ (landAgain s x).pins = s.pins ∧ (landAgain s x).clock = s.clock ∧ (landAgain s x).plan = s.plan ∧ (landAgain s x).changes = s.changes ∧ (landAgain s x).lamp.fuses = s.lamp.fuses ∧ (landAgain s x).power = s.power := by simp [landAgain]

@[simp] theorem settleFor_pending (n : Nat) (s : State) : (settleFor n s).pending = s.pending := by
  induction n generalizing s with
  | zero => rfl
  | succ n ih => simp only [settleFor]; split <;> simp [ih]

@[simp] theorem settleFor_pins (n : Nat) (s : State) : (settleFor n s).pins = s.pins := by
  induction n generalizing s with
  | zero => rfl
  | succ n ih => simp only [settleFor]; split <;> simp [ih]

@[simp] theorem settleFor_clock (n : Nat) (s : State) : (settleFor n s).clock = s.clock := by
  induction n generalizing s with
  | zero => rfl
  | succ n ih => simp only [settleFor]; split <;> simp [ih]

@[simp] theorem settleFor_plan (n : Nat) (s : State) : (settleFor n s).plan = s.plan := by
  induction n generalizing s with
  | zero => rfl
  | succ n ih => simp only [settleFor]; split <;> simp [ih]

@[simp] theorem settleFor_changes (n : Nat) (s : State) : (settleFor n s).changes = s.changes := by
  induction n generalizing s with
  | zero => rfl
  | succ n ih => simp only [settleFor]; split <;> simp [ih]

@[simp] theorem settleFor_lamp_fuses (n : Nat) (s : State) : (settleFor n s).lamp.fuses = s.lamp.fuses := by
  induction n generalizing s with
  | zero => rfl
  | succ n ih => simp only [settleFor]; split <;> simp [ih]

@[simp] theorem settleFor_power (n : Nat) (s : State) : (settleFor n s).power = s.power := by
  induction n generalizing s with
  | zero => rfl
  | succ n ih => simp only [settleFor]; split <;> simp [ih]

@[simp] theorem unpark_keeps (s : State) :
    (unpark s).pending = s.pending ∧ (unpark s).pins = s.pins ∧ (unpark s).clock = s.clock ∧ (unpark s).plan = s.plan ∧ (unpark s).changes = s.changes ∧ (unpark s).lamp.fuses = s.lamp.fuses ∧ (unpark s).power = s.power := by simp [unpark]

@[simp] theorem hostLine_keeps (s : State) (x : HostAcc) :
    (hostLine s x).pending = s.pending ∧ (hostLine s x).free = s.free ∧ (hostLine s x).pins = s.pins ∧ (hostLine s x).boot = s.boot ∧ (hostLine s x).clock = s.clock ∧ (hostLine s x).plan = s.plan ∧ (hostLine s x).roll = s.roll ∧ (hostLine s x).changes = s.changes ∧ (hostLine s x).gal = s.gal ∧ (hostLine s x).galx = s.galx ∧ (hostLine s x).net = s.net ∧ (hostLine s x).hal = s.hal ∧ (hostLine s x).lamp = s.lamp ∧ (hostLine s x).power = s.power ∧ (hostLine s x).fault = s.fault := by unfold hostLine; (repeat' split) <;> simp

@[simp] theorem settleLoop_keeps (s : State) :
    (settleLoop s).pending = s.pending ∧ (settleLoop s).pins = s.pins ∧ (settleLoop s).clock = s.clock ∧ (settleLoop s).plan = s.plan ∧ (settleLoop s).changes = s.changes ∧ (settleLoop s).lamp.fuses = s.lamp.fuses ∧ (settleLoop s).power = s.power := by simp [settleLoop]

@[simp] theorem settle_keeps (s : State) :
    (settle s).pending = s.pending ∧ (settle s).pins = s.pins ∧ (settle s).clock = s.clock ∧ (settle s).plan = s.plan ∧ (settle s).changes = s.changes ∧ (settle s).lamp.fuses = s.lamp.fuses ∧ (settle s).power = s.power := by simp [settle]

@[simp] theorem brownoutDetect_keeps (s : State) (h : Nat) :
    (brownoutDetect s h).pending = s.pending ∧ (brownoutDetect s h).free = s.free ∧ (brownoutDetect s h).out = s.out ∧ (brownoutDetect s h).pins = s.pins ∧ (brownoutDetect s h).boot = s.boot ∧ (brownoutDetect s h).clock = s.clock ∧ (brownoutDetect s h).plan = s.plan ∧ (brownoutDetect s h).roll = s.roll ∧ (brownoutDetect s h).changes = s.changes ∧ (brownoutDetect s h).gal = s.gal ∧ (brownoutDetect s h).galx = s.galx ∧ (brownoutDetect s h).dram = s.dram ∧ (brownoutDetect s h).net = s.net ∧ (brownoutDetect s h).cxl = s.cxl ∧ (brownoutDetect s h).hal = s.hal ∧ (brownoutDetect s h).lamp = s.lamp ∧ (brownoutDetect s h).power = s.power ∧ (brownoutDetect s h).fault = s.fault := by simp [brownoutDetect]

@[simp] theorem drainMsgs_keeps (s : State) (h : Nat) :
    (drainMsgs s h).pending = s.pending ∧ (drainMsgs s h).pins = s.pins ∧ (drainMsgs s h).clock = s.clock ∧ (drainMsgs s h).plan = s.plan ∧ (drainMsgs s h).changes = s.changes ∧ (drainMsgs s h).lamp.fuses = s.lamp.fuses ∧ (drainMsgs s h).power = s.power := by simp [drainMsgs]

@[simp] theorem tryAgain_keeps (s : State) :
    (tryAgain s).pending = s.pending ∧ (tryAgain s).pins = s.pins ∧ (tryAgain s).clock = s.clock ∧ (tryAgain s).plan = s.plan ∧ (tryAgain s).changes = s.changes ∧ (tryAgain s).lamp.fuses = s.lamp.fuses ∧ (tryAgain s).power = s.power := by simp [tryAgain]

@[simp] theorem resume_keeps (s : State) (h : Nat) :
    (resume s h).pending = s.pending ∧ (resume s h).pins = s.pins ∧ (resume s h).clock = s.clock ∧ (resume s h).plan = s.plan ∧ (resume s h).changes = s.changes ∧ (resume s h).lamp.fuses = s.lamp.fuses ∧ (resume s h).power = s.power := by simp [resume]

@[simp] theorem brownoutRecover_keeps (s : State) (h : Nat) :
    (brownoutRecover s h).pending = s.pending ∧ (brownoutRecover s h).pins = s.pins ∧ (brownoutRecover s h).clock = s.clock ∧ (brownoutRecover s h).plan = s.plan ∧ (brownoutRecover s h).changes = s.changes ∧ (brownoutRecover s h).lamp.fuses = s.lamp.fuses ∧ (brownoutRecover s h).power = s.power := by unfold brownoutRecover; (repeat' split) <;> simp

@[simp] theorem faultPath_keeps (s : State) :
    (faultPath s).pending = s.pending ∧ (faultPath s).pins = s.pins ∧ (faultPath s).clock = s.clock ∧ (faultPath s).plan = s.plan ∧ (faultPath s).roll = s.roll ∧ (faultPath s).changes = s.changes ∧ (faultPath s).gal = s.gal ∧ (faultPath s).galx = s.galx ∧ (faultPath s).dram = s.dram ∧ (faultPath s).net = s.net ∧ (faultPath s).hal = s.hal ∧ (faultPath s).lamp.fuses = s.lamp.fuses ∧ (faultPath s).power = s.power ∧ (faultPath s).cxl.up = s.cxl.up ∧ (faultPath s).cxl.tsp = s.cxl.tsp ∧ (faultPath s).cxl.rings = s.cxl.rings := by unfold faultPath; simp only []; (repeat' split) <;> simp

@[simp] theorem startFatal_keeps (s : State) :
    (startFatal s).pending = s.pending ∧ (startFatal s).pins = s.pins ∧ (startFatal s).clock = s.clock ∧ (startFatal s).plan = s.plan ∧ (startFatal s).roll = s.roll ∧ (startFatal s).changes = s.changes ∧ (startFatal s).gal = s.gal ∧ (startFatal s).galx = s.galx ∧ (startFatal s).dram.mem = s.dram.mem ∧ (startFatal s).net = s.net ∧ (startFatal s).hal = s.hal ∧ (startFatal s).lamp.fuses = s.lamp.fuses ∧ (startFatal s).power = s.power ∧ (startFatal s).cxl.up = s.cxl.up ∧ (startFatal s).cxl.tsp = s.cxl.tsp ∧ (startFatal s).cxl.rings = s.cxl.rings := by unfold startFatal; simp

@[simp] theorem loseChannel_keeps (s : State) (k ch : Nat) :
    (loseChannel s k ch).pending = s.pending ∧ (loseChannel s k ch).pins = s.pins ∧ (loseChannel s k ch).clock = s.clock ∧ (loseChannel s k ch).plan = s.plan ∧ (loseChannel s k ch).roll = s.roll ∧ (loseChannel s k ch).changes = s.changes ∧ (loseChannel s k ch).gal = s.gal ∧ (loseChannel s k ch).galx = s.galx ∧ (loseChannel s k ch).net = s.net ∧ (loseChannel s k ch).hal = s.hal ∧ (loseChannel s k ch).lamp.fuses = s.lamp.fuses ∧ (loseChannel s k ch).power = s.power ∧ (loseChannel s k ch).cxl.up = s.cxl.up ∧ (loseChannel s k ch).cxl.tsp = s.cxl.tsp ∧ (loseChannel s k ch).cxl.rings = s.cxl.rings := by unfold loseChannel; simp only []; (repeat' split) <;> simp

@[simp] theorem badGranule_keeps (s : State) (a st : Nat) :
    (badGranule s a st).pending = s.pending ∧ (badGranule s a st).free = s.free ∧ (badGranule s a st).pins = s.pins ∧ (badGranule s a st).clock = s.clock ∧ (badGranule s a st).plan = s.plan ∧ (badGranule s a st).roll = s.roll ∧ (badGranule s a st).changes = s.changes ∧ (badGranule s a st).gal = s.gal ∧ (badGranule s a st).galx = s.galx ∧ (badGranule s a st).dram.mem = s.dram.mem ∧ (badGranule s a st).net = s.net ∧ (badGranule s a st).hal = s.hal ∧ (badGranule s a st).lamp.fuses = s.lamp.fuses ∧ (badGranule s a st).power = s.power ∧ (badGranule s a st).cxl.up = s.cxl.up ∧ (badGranule s a st).cxl.tsp = s.cxl.tsp ∧ (badGranule s a st).cxl.rings = s.cxl.rings := by simp [badGranule]

@[simp] theorem bondFail_keeps (s : State) (a : Nat) :
    (bondFail s a).pending = s.pending ∧ (bondFail s a).pins = s.pins ∧ (bondFail s a).clock = s.clock ∧ (bondFail s a).plan = s.plan ∧ (bondFail s a).roll = s.roll ∧ (bondFail s a).changes = s.changes ∧ (bondFail s a).gal = s.gal ∧ (bondFail s a).galx = s.galx ∧ (bondFail s a).net = s.net ∧ (bondFail s a).hal = s.hal ∧ (bondFail s a).lamp.fuses = s.lamp.fuses ∧ (bondFail s a).power = s.power ∧ (bondFail s a).cxl.up = s.cxl.up ∧ (bondFail s a).cxl.tsp = s.cxl.tsp ∧ (bondFail s a).cxl.rings = s.cxl.rings := by unfold bondFail; simp only []; (repeat' split) <;> simp

@[simp] theorem scrubRow_keeps (s : State) (a : Nat) :
    (scrubRow s a).pending = s.pending ∧ (scrubRow s a).pins = s.pins ∧ (scrubRow s a).clock = s.clock ∧ (scrubRow s a).plan = s.plan ∧ (scrubRow s a).roll = s.roll ∧ (scrubRow s a).changes = s.changes ∧ (scrubRow s a).gal = s.gal ∧ (scrubRow s a).galx = s.galx ∧ (scrubRow s a).dram.mem = s.dram.mem ∧ (scrubRow s a).net = s.net ∧ (scrubRow s a).hal = s.hal ∧ (scrubRow s a).lamp.fuses = s.lamp.fuses ∧ (scrubRow s a).power = s.power ∧ (scrubRow s a).cxl.up = s.cxl.up ∧ (scrubRow s a).cxl.tsp = s.cxl.tsp ∧ (scrubRow s a).cxl.rings = s.cxl.rings := by unfold scrubRow; simp only []; (repeat' split) <;> simp

@[simp] theorem wipeDone_keeps (s : State) :
    (wipeDone s).pending = s.pending ∧ (wipeDone s).free = s.free ∧ (wipeDone s).out = s.out ∧ (wipeDone s).pins = s.pins ∧ (wipeDone s).boot.stage = s.boot.stage ∧ (wipeDone s).clock = s.clock ∧ (wipeDone s).plan = s.plan ∧ (wipeDone s).roll = s.roll ∧ (wipeDone s).changes = s.changes ∧ (wipeDone s).hall = s.hall ∧ (wipeDone s).gal = s.gal ∧ (wipeDone s).galx = s.galx ∧ (wipeDone s).net = s.net ∧ (wipeDone s).cxl = s.cxl ∧ (wipeDone s).hal = s.hal ∧ (wipeDone s).lamp = s.lamp ∧ (wipeDone s).power = s.power ∧ (wipeDone s).fault = s.fault := by simp [wipeDone]

@[simp] theorem releaseHeld_keeps (s : State) :
    (releaseHeld s).pending = s.pending ∧ (releaseHeld s).free = s.free ∧ (releaseHeld s).pins = s.pins ∧ (releaseHeld s).boot = s.boot ∧ (releaseHeld s).clock = s.clock ∧ (releaseHeld s).plan = s.plan ∧ (releaseHeld s).roll = s.roll ∧ (releaseHeld s).changes = s.changes ∧ (releaseHeld s).gal = s.gal ∧ (releaseHeld s).galx = s.galx ∧ (releaseHeld s).net = s.net ∧ (releaseHeld s).hal = s.hal ∧ (releaseHeld s).lamp = s.lamp ∧ (releaseHeld s).power = s.power ∧ (releaseHeld s).fault = s.fault := by simp [releaseHeld]

@[simp] theorem decoderCommit_keeps (s : State) (dec base size : Nat) :
    (decoderCommit s dec base size).pending = s.pending ∧ (decoderCommit s dec base size).free = s.free ∧ (decoderCommit s dec base size).out = s.out ∧ (decoderCommit s dec base size).pins = s.pins ∧ (decoderCommit s dec base size).boot = s.boot ∧ (decoderCommit s dec base size).clock = s.clock ∧ (decoderCommit s dec base size).plan = s.plan ∧ (decoderCommit s dec base size).roll = s.roll ∧ (decoderCommit s dec base size).changes = s.changes ∧ (decoderCommit s dec base size).hall = s.hall ∧ (decoderCommit s dec base size).gal = s.gal ∧ (decoderCommit s dec base size).galx = s.galx ∧ (decoderCommit s dec base size).dram = s.dram ∧ (decoderCommit s dec base size).net = s.net ∧ (decoderCommit s dec base size).hal = s.hal ∧ (decoderCommit s dec base size).lamp = s.lamp ∧ (decoderCommit s dec base size).power = s.power ∧ (decoderCommit s dec base size).fault = s.fault := by simp [decoderCommit]

@[simp] theorem releaseWaits_keeps (s : State) (waits : List Nat) :
    (releaseWaits s waits).pending = s.pending ∧ (releaseWaits s waits).pins = s.pins ∧ (releaseWaits s waits).clock = s.clock ∧ (releaseWaits s waits).plan = s.plan ∧ (releaseWaits s waits).changes = s.changes ∧ (releaseWaits s waits).lamp.fuses = s.lamp.fuses ∧ (releaseWaits s waits).power = s.power := by simp [releaseWaits]

@[simp] theorem biTimeout_keeps (s : State) (line : Nat) :
    (biTimeout s line).pending = s.pending ∧ (biTimeout s line).pins = s.pins ∧ (biTimeout s line).clock = s.clock ∧ (biTimeout s line).plan = s.plan ∧ (biTimeout s line).changes = s.changes ∧ (biTimeout s line).hal.dict = s.hal.dict ∧ (biTimeout s line).hal.serving = s.hal.serving ∧ (biTimeout s line).hal.sess = s.hal.sess ∧ (biTimeout s line).lamp.fuses = s.lamp.fuses ∧ (biTimeout s line).power = s.power := by simp [biTimeout]

@[simp] theorem endMailbox_keeps (s : State) :
    (endMailbox s).pending = s.pending ∧ (endMailbox s).free = s.free ∧ (endMailbox s).out = s.out ∧ (endMailbox s).pins = s.pins ∧ (endMailbox s).boot = s.boot ∧ (endMailbox s).clock = s.clock ∧ (endMailbox s).plan = s.plan ∧ (endMailbox s).roll = s.roll ∧ (endMailbox s).changes = s.changes ∧ (endMailbox s).hall = s.hall ∧ (endMailbox s).gal = s.gal ∧ (endMailbox s).galx = s.galx ∧ (endMailbox s).dram = s.dram ∧ (endMailbox s).net = s.net ∧ (endMailbox s).cxl = s.cxl ∧ (endMailbox s).hal.dict = s.hal.dict ∧ (endMailbox s).hal.serving = s.hal.serving ∧ (endMailbox s).lamp = s.lamp ∧ (endMailbox s).power = s.power ∧ (endMailbox s).fault = s.fault := by simp [endMailbox]

@[simp] theorem portDown_keeps (s : State) :
    (portDown s).pending = s.pending ∧ (portDown s).free = s.free ∧ (portDown s).out = s.out ∧ (portDown s).pins = s.pins ∧ (portDown s).boot = s.boot ∧ (portDown s).clock = s.clock ∧ (portDown s).plan = s.plan ∧ (portDown s).roll = s.roll ∧ (portDown s).changes = s.changes ∧ (portDown s).hall = s.hall ∧ (portDown s).gal = s.gal ∧ (portDown s).galx = s.galx ∧ (portDown s).dram = s.dram ∧ (portDown s).net = s.net ∧ (portDown s).hal = s.hal ∧ (portDown s).lamp = s.lamp ∧ (portDown s).power = s.power ∧ (portDown s).fault = s.fault := by simp [portDown]

@[simp] theorem portReset_keeps (s : State) :
    (portReset s).pending = s.pending ∧ (portReset s).free = s.free ∧ (portReset s).out = s.out ∧ (portReset s).pins = s.pins ∧ (portReset s).boot = s.boot ∧ (portReset s).clock = s.clock ∧ (portReset s).plan = s.plan ∧ (portReset s).roll = s.roll ∧ (portReset s).changes = s.changes ∧ (portReset s).hall = s.hall ∧ (portReset s).gal = s.gal ∧ (portReset s).galx = s.galx ∧ (portReset s).dram = s.dram ∧ (portReset s).net = s.net ∧ (portReset s).hal.dict = s.hal.dict ∧ (portReset s).hal.serving = s.hal.serving ∧ (portReset s).lamp = s.lamp ∧ (portReset s).power = s.power ∧ (portReset s).fault = s.fault := by simp [portReset]

@[simp] theorem linkDown_keeps (s : State) :
    (linkDown s).pending = s.pending ∧ (linkDown s).pins = s.pins ∧ (linkDown s).clock = s.clock ∧ (linkDown s).plan = s.plan ∧ (linkDown s).changes = s.changes ∧ (linkDown s).lamp.fuses = s.lamp.fuses ∧ (linkDown s).power = s.power := by simp [linkDown]

@[simp] theorem tspBind_keeps (s : State) (mask : W64) (sess : Nat) :
    (tspBind s mask sess).pending = s.pending ∧ (tspBind s mask sess).free = s.free ∧ (tspBind s mask sess).pins = s.pins ∧ (tspBind s mask sess).boot = s.boot ∧ (tspBind s mask sess).clock = s.clock ∧ (tspBind s mask sess).plan = s.plan ∧ (tspBind s mask sess).roll = s.roll ∧ (tspBind s mask sess).changes = s.changes ∧ (tspBind s mask sess).hall = s.hall ∧ (tspBind s mask sess).gal = s.gal ∧ (tspBind s mask sess).galx = s.galx ∧ (tspBind s mask sess).dram = s.dram ∧ (tspBind s mask sess).net = s.net ∧ (tspBind s mask sess).hal = s.hal ∧ (tspBind s mask sess).lamp = s.lamp ∧ (tspBind s mask sess).power = s.power ∧ (tspBind s mask sess).fault = s.fault := by simp [tspBind]

@[simp] theorem mailboxDo_pending (s : State) (f : State → State) (h0 : ∀ u, (f u).pending = u.pending) :
    (mailboxDo s f).pending = s.pending := by unfold mailboxDo; (repeat' split) <;> simp [h0]

@[simp] theorem mailboxDo_free (s : State) (f : State → State) (h0 : ∀ u, (f u).free = u.free) :
    (mailboxDo s f).free = s.free := by unfold mailboxDo; (repeat' split) <;> simp [h0]

@[simp] theorem mailboxDo_pins (s : State) (f : State → State) (h0 : ∀ u, (f u).pins = u.pins) :
    (mailboxDo s f).pins = s.pins := by unfold mailboxDo; (repeat' split) <;> simp [h0]

@[simp] theorem mailboxDo_boot (s : State) (f : State → State) (h0 : ∀ u, (f u).boot = u.boot) :
    (mailboxDo s f).boot = s.boot := by unfold mailboxDo; (repeat' split) <;> simp [h0]

@[simp] theorem mailboxDo_clock (s : State) (f : State → State) (h0 : ∀ u, (f u).clock = u.clock) :
    (mailboxDo s f).clock = s.clock := by unfold mailboxDo; (repeat' split) <;> simp [h0]

@[simp] theorem mailboxDo_plan (s : State) (f : State → State) (h0 : ∀ u, (f u).plan = u.plan) :
    (mailboxDo s f).plan = s.plan := by unfold mailboxDo; (repeat' split) <;> simp [h0]

@[simp] theorem mailboxDo_roll (s : State) (f : State → State) (h0 : ∀ u, (f u).roll = u.roll) :
    (mailboxDo s f).roll = s.roll := by unfold mailboxDo; (repeat' split) <;> simp [h0]

@[simp] theorem mailboxDo_changes (s : State) (f : State → State) (h0 : ∀ u, (f u).changes = u.changes) :
    (mailboxDo s f).changes = s.changes := by unfold mailboxDo; (repeat' split) <;> simp [h0]

@[simp] theorem mailboxDo_hall (s : State) (f : State → State) (h0 : ∀ u, (f u).hall = u.hall) :
    (mailboxDo s f).hall = s.hall := by unfold mailboxDo; (repeat' split) <;> simp [h0]

@[simp] theorem mailboxDo_gal (s : State) (f : State → State) (h0 : ∀ u, (f u).gal = u.gal) :
    (mailboxDo s f).gal = s.gal := by unfold mailboxDo; (repeat' split) <;> simp [h0]

@[simp] theorem mailboxDo_galx (s : State) (f : State → State) (h0 : ∀ u, (f u).galx = u.galx) :
    (mailboxDo s f).galx = s.galx := by unfold mailboxDo; (repeat' split) <;> simp [h0]

@[simp] theorem mailboxDo_dram (s : State) (f : State → State) (h0 : ∀ u, (f u).dram = u.dram) :
    (mailboxDo s f).dram = s.dram := by unfold mailboxDo; (repeat' split) <;> simp [h0]

@[simp] theorem mailboxDo_dram_spaces (s : State) (f : State → State) (h0 : ∀ u, (f u).dram.spaces = u.dram.spaces) :
    (mailboxDo s f).dram.spaces = s.dram.spaces := by unfold mailboxDo; (repeat' split) <;> simp [h0]

@[simp] theorem mailboxDo_dram_psets (s : State) (f : State → State) (h0 : ∀ u, (f u).dram.psets = u.dram.psets) :
    (mailboxDo s f).dram.psets = s.dram.psets := by unfold mailboxDo; (repeat' split) <;> simp [h0]

@[simp] theorem mailboxDo_dram_ksets (s : State) (f : State → State) (h0 : ∀ u, (f u).dram.ksets = u.dram.ksets) :
    (mailboxDo s f).dram.ksets = s.dram.ksets := by unfold mailboxDo; (repeat' split) <;> simp [h0]

@[simp] theorem mailboxDo_net (s : State) (f : State → State) (h0 : ∀ u, (f u).net = u.net) :
    (mailboxDo s f).net = s.net := by unfold mailboxDo; (repeat' split) <;> simp [h0]

@[simp] theorem mailboxDo_cxl (s : State) (f : State → State) (h0 : ∀ u, (f u).cxl = u.cxl) :
    (mailboxDo s f).cxl = s.cxl := by unfold mailboxDo; (repeat' split) <;> simp [h0]

@[simp] theorem mailboxDo_cxl_up (s : State) (f : State → State) (h0 : ∀ u, (f u).cxl.up = u.cxl.up) :
    (mailboxDo s f).cxl.up = s.cxl.up := by unfold mailboxDo; (repeat' split) <;> simp [h0]

@[simp] theorem mailboxDo_cxl_tsp (s : State) (f : State → State) (h0 : ∀ u, (f u).cxl.tsp = u.cxl.tsp) :
    (mailboxDo s f).cxl.tsp = s.cxl.tsp := by unfold mailboxDo; (repeat' split) <;> simp [h0]

@[simp] theorem mailboxDo_cxl_rings (s : State) (f : State → State) (h0 : ∀ u, (f u).cxl.rings = u.cxl.rings) :
    (mailboxDo s f).cxl.rings = s.cxl.rings := by unfold mailboxDo; (repeat' split) <;> simp [h0]

@[simp] theorem mailboxDo_hal (s : State) (f : State → State) (h0 : ∀ u, (f u).hal = u.hal) :
    (mailboxDo s f).hal = s.hal := by unfold mailboxDo; (repeat' split) <;> simp [h0]

@[simp] theorem mailboxDo_lamp (s : State) (f : State → State) (h0 : ∀ u, (f u).lamp = u.lamp) :
    (mailboxDo s f).lamp = s.lamp := by unfold mailboxDo; (repeat' split) <;> simp [h0]

@[simp] theorem mailboxDo_power (s : State) (f : State → State) (h0 : ∀ u, (f u).power = u.power) :
    (mailboxDo s f).power = s.power := by unfold mailboxDo; (repeat' split) <;> simp [h0]

@[simp] theorem mailboxDo_fault (s : State) (f : State → State) (h0 : ∀ u, (f u).fault = u.fault) :
    (mailboxDo s f).fault = s.fault := by unfold mailboxDo; (repeat' split) <;> simp [h0]

@[simp] theorem mailboxDo_boot_stage (s : State) (f : State → State) (h0 : ∀ u, (f u).boot.stage = u.boot.stage) :
    (mailboxDo s f).boot.stage = s.boot.stage := by unfold mailboxDo; (repeat' split) <;> simp [h0]

@[simp] theorem mailboxDo_clock_now (s : State) (f : State → State) (h0 : ∀ u, (f u).clock.now = u.clock.now) :
    (mailboxDo s f).clock.now = s.clock.now := by unfold mailboxDo; (repeat' split) <;> simp [h0]

@[simp] theorem mailboxDo_dram_mem (s : State) (f : State → State) (h0 : ∀ u, (f u).dram.mem = u.dram.mem) :
    (mailboxDo s f).dram.mem = s.dram.mem := by unfold mailboxDo; (repeat' split) <;> simp [h0]

@[simp] theorem mailboxDo_hal_dict (s : State) (f : State → State) (h0 : ∀ u, (f u).hal.dict = u.hal.dict) :
    (mailboxDo s f).hal.dict = s.hal.dict := by unfold mailboxDo; (repeat' split) <;> simp [h0]

@[simp] theorem mailboxDo_hal_serving (s : State) (f : State → State) (h0 : ∀ u, (f u).hal.serving = u.hal.serving) :
    (mailboxDo s f).hal.serving = s.hal.serving := by unfold mailboxDo; (repeat' split) <;> simp [h0]

@[simp] theorem mailboxDo_hal_sess (s : State) (f : State → State) (h0 : ∀ u, (f u).hal.sess = u.hal.sess) :
    (mailboxDo s f).hal.sess = s.hal.sess := by unfold mailboxDo; (repeat' split) <;> simp [h0]

@[simp] theorem mailboxDo_lamp_fuses (s : State) (f : State → State) (h0 : ∀ u, (f u).lamp.fuses = u.lamp.fuses) :
    (mailboxDo s f).lamp.fuses = s.lamp.fuses := by unfold mailboxDo; (repeat' split) <;> simp [h0]

@[simp] theorem clearEvents_keeps (s : State) (l : EventLog) (n : Nat) :
    (clearEvents s l n).pending = s.pending ∧ (clearEvents s l n).free = s.free ∧ (clearEvents s l n).pins = s.pins ∧ (clearEvents s l n).boot = s.boot ∧ (clearEvents s l n).clock = s.clock ∧ (clearEvents s l n).plan = s.plan ∧ (clearEvents s l n).roll = s.roll ∧ (clearEvents s l n).changes = s.changes ∧ (clearEvents s l n).hall = s.hall ∧ (clearEvents s l n).gal = s.gal ∧ (clearEvents s l n).galx = s.galx ∧ (clearEvents s l n).dram = s.dram ∧ (clearEvents s l n).net = s.net ∧ (clearEvents s l n).hal = s.hal ∧ (clearEvents s l n).lamp = s.lamp ∧ (clearEvents s l n).power = s.power ∧ (clearEvents s l n).fault = s.fault := by unfold clearEvents; (repeat' split) <;> simp

@[simp] theorem setIde_keeps (s : State) (k : IdeKeys) :
    (setIde s k).pending = s.pending ∧ (setIde s k).free = s.free ∧ (setIde s k).out = s.out ∧ (setIde s k).pins = s.pins ∧ (setIde s k).boot = s.boot ∧ (setIde s k).clock = s.clock ∧ (setIde s k).plan = s.plan ∧ (setIde s k).roll = s.roll ∧ (setIde s k).changes = s.changes ∧ (setIde s k).hall = s.hall ∧ (setIde s k).gal = s.gal ∧ (setIde s k).galx = s.galx ∧ (setIde s k).dram = s.dram ∧ (setIde s k).net = s.net ∧ (setIde s k).hal = s.hal ∧ (setIde s k).lamp = s.lamp ∧ (setIde s k).power = s.power ∧ (setIde s k).fault = s.fault ∧ (setIde s k).cxl.up = s.cxl.up ∧ (setIde s k).cxl.tsp = s.cxl.tsp ∧ (setIde s k).cxl.rings = s.cxl.rings := by unfold setIde; (repeat' split) <;> simp

@[simp] theorem adoptPlan_keeps (s : State) (g : Nat) :
    (adoptPlan s g).pending = s.pending ∧ (adoptPlan s g).free = s.free ∧ (adoptPlan s g).out = s.out ∧ (adoptPlan s g).pins = s.pins ∧ (adoptPlan s g).boot = s.boot ∧ (adoptPlan s g).clock = s.clock ∧ (adoptPlan s g).plan = s.plan ∧ (adoptPlan s g).roll = s.roll ∧ (adoptPlan s g).changes = s.changes ∧ (adoptPlan s g).hall = s.hall ∧ (adoptPlan s g).galx = s.galx ∧ (adoptPlan s g).dram = s.dram ∧ (adoptPlan s g).net = s.net ∧ (adoptPlan s g).cxl = s.cxl ∧ (adoptPlan s g).hal = s.hal ∧ (adoptPlan s g).lamp = s.lamp ∧ (adoptPlan s g).power = s.power ∧ (adoptPlan s g).fault = s.fault := by simp [adoptPlan]

@[simp] theorem acceptPlan_keeps (s : State) (v : Bytes) :
    (acceptPlan s v).pending = s.pending ∧ (acceptPlan s v).free = s.free ∧ (acceptPlan s v).out = s.out ∧ (acceptPlan s v).pins = s.pins ∧ (acceptPlan s v).boot = s.boot ∧ (acceptPlan s v).clock = s.clock ∧ (acceptPlan s v).roll = s.roll ∧ (acceptPlan s v).changes = s.changes ∧ (acceptPlan s v).hall = s.hall ∧ (acceptPlan s v).galx = s.galx ∧ (acceptPlan s v).dram = s.dram ∧ (acceptPlan s v).net = s.net ∧ (acceptPlan s v).cxl = s.cxl ∧ (acceptPlan s v).hal = s.hal ∧ (acceptPlan s v).lamp = s.lamp ∧ (acceptPlan s v).power = s.power ∧ (acceptPlan s v).fault = s.fault := by simp [acceptPlan]

@[simp] theorem enterMode_keeps (s : State) (g : Nat) (forced : Bool) :
    (enterMode s g forced).pending = s.pending ∧ (enterMode s g forced).free = s.free ∧ (enterMode s g forced).out = s.out ∧ (enterMode s g forced).pins = s.pins ∧ (enterMode s g forced).boot = s.boot ∧ (enterMode s g forced).clock = s.clock ∧ (enterMode s g forced).plan = s.plan ∧ (enterMode s g forced).roll = s.roll ∧ (enterMode s g forced).changes = s.changes ∧ (enterMode s g forced).hall = s.hall ∧ (enterMode s g forced).dram = s.dram ∧ (enterMode s g forced).net = s.net ∧ (enterMode s g forced).cxl = s.cxl ∧ (enterMode s g forced).hal = s.hal ∧ (enterMode s g forced).lamp = s.lamp ∧ (enterMode s g forced).power = s.power ∧ (enterMode s g forced).fault = s.fault := by simp [enterMode]

@[simp] theorem forceDrain_keeps (s : State) (g : Nat) :
    (forceDrain s g).pending = s.pending ∧ (forceDrain s g).pins = s.pins ∧ (forceDrain s g).clock = s.clock ∧ (forceDrain s g).plan = s.plan ∧ (forceDrain s g).changes = s.changes ∧ (forceDrain s g).net = s.net ∧ (forceDrain s g).hal.dict = s.hal.dict ∧ (forceDrain s g).hal.serving = s.hal.serving ∧ (forceDrain s g).hal.sess = s.hal.sess ∧ (forceDrain s g).lamp.fuses = s.lamp.fuses ∧ (forceDrain s g).power = s.power := by simp [forceDrain]

@[simp] theorem passNs_keeps (s : State) :
    (passNs s).pending = s.pending ∧ (passNs s).free = s.free ∧ (passNs s).out = s.out ∧ (passNs s).pins = s.pins ∧ (passNs s).boot = s.boot ∧ (passNs s).plan = s.plan ∧ (passNs s).roll = s.roll ∧ (passNs s).changes = s.changes ∧ (passNs s).hall = s.hall ∧ (passNs s).gal = s.gal ∧ (passNs s).galx = s.galx ∧ (passNs s).dram = s.dram ∧ (passNs s).net = s.net ∧ (passNs s).cxl = s.cxl ∧ (passNs s).hal = s.hal ∧ (passNs s).lamp = s.lamp ∧ (passNs s).power = s.power ∧ (passNs s).fault = s.fault := by simp [passNs]

@[simp] theorem broadcast_keeps (s : State) :
    (broadcast s).pending = s.pending ∧ (broadcast s).free = s.free ∧ (broadcast s).out = s.out ∧ (broadcast s).pins = s.pins ∧ (broadcast s).boot = s.boot ∧ (broadcast s).plan = s.plan ∧ (broadcast s).roll = s.roll ∧ (broadcast s).changes = s.changes ∧ (broadcast s).hall = s.hall ∧ (broadcast s).gal = s.gal ∧ (broadcast s).galx = s.galx ∧ (broadcast s).dram = s.dram ∧ (broadcast s).net = s.net ∧ (broadcast s).cxl = s.cxl ∧ (broadcast s).hal = s.hal ∧ (broadcast s).lamp = s.lamp ∧ (broadcast s).power = s.power ∧ (broadcast s).fault = s.fault := by simp [broadcast]

@[simp] theorem paceSample_keeps (s : State) (h k : Nat) (ps : Words) :
    (paceSample s h k ps).pending = s.pending ∧ (paceSample s h k ps).free = s.free ∧ (paceSample s h k ps).out = s.out ∧ (paceSample s h k ps).pins = s.pins ∧ (paceSample s h k ps).boot = s.boot ∧ (paceSample s h k ps).clock = s.clock ∧ (paceSample s h k ps).plan = s.plan ∧ (paceSample s h k ps).roll = s.roll ∧ (paceSample s h k ps).changes = s.changes ∧ (paceSample s h k ps).hall = s.hall ∧ (paceSample s h k ps).gal = s.gal ∧ (paceSample s h k ps).dram = s.dram ∧ (paceSample s h k ps).net = s.net ∧ (paceSample s h k ps).cxl = s.cxl ∧ (paceSample s h k ps).hal = s.hal ∧ (paceSample s h k ps).lamp = s.lamp ∧ (paceSample s h k ps).power = s.power ∧ (paceSample s h k ps).fault = s.fault := by simp [paceSample]

@[simp] theorem paceHall_keeps (s : State) (h : Nat) (ps : Words) :
    (paceHall s h ps).pending = s.pending ∧ (paceHall s h ps).free = s.free ∧ (paceHall s h ps).out = s.out ∧ (paceHall s h ps).pins = s.pins ∧ (paceHall s h ps).boot = s.boot ∧ (paceHall s h ps).clock = s.clock ∧ (paceHall s h ps).plan = s.plan ∧ (paceHall s h ps).roll = s.roll ∧ (paceHall s h ps).changes = s.changes ∧ (paceHall s h ps).hall = s.hall ∧ (paceHall s h ps).gal = s.gal ∧ (paceHall s h ps).dram = s.dram ∧ (paceHall s h ps).net = s.net ∧ (paceHall s h ps).cxl = s.cxl ∧ (paceHall s h ps).hal = s.hal ∧ (paceHall s h ps).lamp = s.lamp ∧ (paceHall s h ps).power = s.power ∧ (paceHall s h ps).fault = s.fault := by simp [paceHall]

@[simp] theorem macRecord_keeps (s : State) (g st cls d0 d1 : Nat) :
    (macRecord s g st cls d0 d1).pending = s.pending ∧ (macRecord s g st cls d0 d1).free = s.free ∧ (macRecord s g st cls d0 d1).pins = s.pins ∧ (macRecord s g st cls d0 d1).clock = s.clock ∧ (macRecord s g st cls d0 d1).plan = s.plan ∧ (macRecord s g st cls d0 d1).roll = s.roll ∧ (macRecord s g st cls d0 d1).changes = s.changes ∧ (macRecord s g st cls d0 d1).dram = s.dram ∧ (macRecord s g st cls d0 d1).net = s.net ∧ (macRecord s g st cls d0 d1).hal = s.hal ∧ (macRecord s g st cls d0 d1).lamp.fuses = s.lamp.fuses ∧ (macRecord s g st cls d0 d1).power = s.power ∧ (macRecord s g st cls d0 d1).cxl.up = s.cxl.up ∧ (macRecord s g st cls d0 d1).cxl.tsp = s.cxl.tsp ∧ (macRecord s g st cls d0 d1).cxl.rings = s.cxl.rings := by unfold macRecord; (repeat' split) <;> simp

@[simp] theorem ctRecord_keeps (s : State) (g num : Nat) (f : CtFail) :
    (ctRecord s g num f).pending = s.pending ∧ (ctRecord s g num f).free = s.free ∧ (ctRecord s g num f).pins = s.pins ∧ (ctRecord s g num f).clock = s.clock ∧ (ctRecord s g num f).plan = s.plan ∧ (ctRecord s g num f).roll = s.roll ∧ (ctRecord s g num f).changes = s.changes ∧ (ctRecord s g num f).dram = s.dram ∧ (ctRecord s g num f).net = s.net ∧ (ctRecord s g num f).hal = s.hal ∧ (ctRecord s g num f).lamp.fuses = s.lamp.fuses ∧ (ctRecord s g num f).power = s.power ∧ (ctRecord s g num f).cxl.up = s.cxl.up ∧ (ctRecord s g num f).cxl.tsp = s.cxl.tsp ∧ (ctRecord s g num f).cxl.rings = s.cxl.rings := by unfold ctRecord; (repeat' split) <;> simp

@[simp] theorem failMember_keeps (s : State) (g num : Nat) (x : Heads) (f : CtFail) :
    (failMember s g num x f).pending = s.pending ∧ (failMember s g num x f).pins = s.pins ∧ (failMember s g num x f).clock = s.clock ∧ (failMember s g num x f).plan = s.plan ∧ (failMember s g num x f).roll = s.roll ∧ (failMember s g num x f).changes = s.changes ∧ (failMember s g num x f).net = s.net ∧ (failMember s g num x f).hal = s.hal ∧ (failMember s g num x f).lamp.fuses = s.lamp.fuses ∧ (failMember s g num x f).power = s.power := by simp [failMember]

@[simp] theorem checkMembers_keeps (s : State) (g num : Nat) (it : Item) (p : PSet) (a : MacArgs) (block : Bytes) :
    (checkMembers s g num it p a block).1.pending = s.pending ∧ (checkMembers s g num it p a block).1.pins = s.pins ∧ (checkMembers s g num it p a block).1.clock = s.clock ∧ (checkMembers s g num it p a block).1.plan = s.plan ∧ (checkMembers s g num it p a block).1.roll = s.roll ∧ (checkMembers s g num it p a block).1.changes = s.changes ∧ (checkMembers s g num it p a block).1.net = s.net ∧ (checkMembers s g num it p a block).1.hal = s.hal ∧ (checkMembers s g num it p a block).1.lamp.fuses = s.lamp.fuses ∧ (checkMembers s g num it p a block).1.power = s.power := by simp (disch := (first | (intro u a; (repeat' split) <;> simp; done) | (rintro ⟨u, b⟩ a; dsimp only; (repeat' split) <;> simp; done) | (intro u w t o n e; (try dsimp only at e); (repeat' split at e) <;> (cases e; try simp); done) | (intro u a b; (repeat' split) <;> simp; done) | (intro u a b e; (try dsimp only at e); (repeat' split at e) <;> (cases e; try simp); done) | (intro u a e; (try dsimp only at e); (repeat' split at e) <;> (cases e; try simp); done))) [checkMembers]

@[simp] theorem popCall_keeps (s : State) (g : Nat) :
    (popCall s g).pending = s.pending ∧ (popCall s g).free = s.free ∧ (popCall s g).out = s.out ∧ (popCall s g).pins = s.pins ∧ (popCall s g).boot = s.boot ∧ (popCall s g).clock = s.clock ∧ (popCall s g).plan = s.plan ∧ (popCall s g).roll = s.roll ∧ (popCall s g).changes = s.changes ∧ (popCall s g).hall = s.hall ∧ (popCall s g).galx = s.galx ∧ (popCall s g).dram = s.dram ∧ (popCall s g).net = s.net ∧ (popCall s g).cxl = s.cxl ∧ (popCall s g).hal = s.hal ∧ (popCall s g).lamp = s.lamp ∧ (popCall s g).power = s.power ∧ (popCall s g).fault = s.fault := by simp [popCall]

@[simp] theorem freeRange_keeps (s : State) (asid va n : Nat) :
    (freeRange s asid va n).pending = s.pending ∧ (freeRange s asid va n).pins = s.pins ∧ (freeRange s asid va n).boot = s.boot ∧ (freeRange s asid va n).clock = s.clock ∧ (freeRange s asid va n).plan = s.plan ∧ (freeRange s asid va n).roll = s.roll ∧ (freeRange s asid va n).changes = s.changes ∧ (freeRange s asid va n).hall = s.hall ∧ (freeRange s asid va n).gal = s.gal ∧ (freeRange s asid va n).galx = s.galx ∧ (freeRange s asid va n).net = s.net ∧ (freeRange s asid va n).hal = s.hal ∧ (freeRange s asid va n).lamp = s.lamp ∧ (freeRange s asid va n).power = s.power ∧ (freeRange s asid va n).fault = s.fault := by simp (disch := (first | (intro u a; (repeat' split) <;> simp; done) | (rintro ⟨u, b⟩ a; dsimp only; (repeat' split) <;> simp; done) | (intro u w t o n e; (try dsimp only at e); (repeat' split at e) <;> (cases e; try simp); done) | (intro u a b; (repeat' split) <;> simp; done) | (intro u a b e; (try dsimp only at e); (repeat' split at e) <;> (cases e; try simp); done) | (intro u a e; (try dsimp only at e); (repeat' split at e) <;> (cases e; try simp); done))) [freeRange]

@[simp] theorem freeWork_keeps (s : State) (g : Nat) (w : Nat × Nat) :
    (freeWork s g w).pending = s.pending ∧ (freeWork s g w).pins = s.pins ∧ (freeWork s g w).boot = s.boot ∧ (freeWork s g w).clock = s.clock ∧ (freeWork s g w).plan = s.plan ∧ (freeWork s g w).roll = s.roll ∧ (freeWork s g w).changes = s.changes ∧ (freeWork s g w).hall = s.hall ∧ (freeWork s g w).gal = s.gal ∧ (freeWork s g w).galx = s.galx ∧ (freeWork s g w).net = s.net ∧ (freeWork s g w).hal = s.hal ∧ (freeWork s g w).lamp = s.lamp ∧ (freeWork s g w).power = s.power ∧ (freeWork s g w).fault = s.fault := by simp [freeWork]

@[simp] theorem freeDst_keeps (s : State) (g n : Nat) (m : Member) :
    (freeDst s g n m).pending = s.pending ∧ (freeDst s g n m).pins = s.pins ∧ (freeDst s g n m).boot = s.boot ∧ (freeDst s g n m).clock = s.clock ∧ (freeDst s g n m).plan = s.plan ∧ (freeDst s g n m).roll = s.roll ∧ (freeDst s g n m).changes = s.changes ∧ (freeDst s g n m).hall = s.hall ∧ (freeDst s g n m).gal = s.gal ∧ (freeDst s g n m).galx = s.galx ∧ (freeDst s g n m).net = s.net ∧ (freeDst s g n m).hal = s.hal ∧ (freeDst s g n m).lamp = s.lamp ∧ (freeDst s g n m).power = s.power ∧ (freeDst s g n m).fault = s.fault := by simp (disch := (first | (intro u a; (repeat' split) <;> simp; done) | (rintro ⟨u, b⟩ a; dsimp only; (repeat' split) <;> simp; done) | (intro u w t o n e; (try dsimp only at e); (repeat' split at e) <;> (cases e; try simp); done) | (intro u a b; (repeat' split) <;> simp; done) | (intro u a b e; (try dsimp only at e); (repeat' split at e) <;> (cases e; try simp); done) | (intro u a e; (try dsimp only at e); (repeat' split at e) <;> (cases e; try simp); done))) [freeDst]

@[simp] theorem skewNotice_keeps (s : State) (g num : Nat) (m : Member) :
    (skewNotice s g num m).pending = s.pending ∧ (skewNotice s g num m).free = s.free ∧ (skewNotice s g num m).pins = s.pins ∧ (skewNotice s g num m).clock = s.clock ∧ (skewNotice s g num m).plan = s.plan ∧ (skewNotice s g num m).roll = s.roll ∧ (skewNotice s g num m).changes = s.changes ∧ (skewNotice s g num m).dram = s.dram ∧ (skewNotice s g num m).net = s.net ∧ (skewNotice s g num m).hal = s.hal ∧ (skewNotice s g num m).lamp.fuses = s.lamp.fuses ∧ (skewNotice s g num m).power = s.power ∧ (skewNotice s g num m).cxl.up = s.cxl.up ∧ (skewNotice s g num m).cxl.tsp = s.cxl.tsp ∧ (skewNotice s g num m).cxl.rings = s.cxl.rings := by unfold skewNotice; simp only []; (repeat' split) <;> simp

@[simp] theorem noNoise_keeps (s : State) (g addr : Nat) (flag : Option Nat) (ms : List Member) :
    (noNoise s g addr flag ms).pending = s.pending ∧ (noNoise s g addr flag ms).pins = s.pins ∧ (noNoise s g addr flag ms).clock = s.clock ∧ (noNoise s g addr flag ms).plan = s.plan ∧ (noNoise s g addr flag ms).roll = s.roll ∧ (noNoise s g addr flag ms).changes = s.changes ∧ (noNoise s g addr flag ms).net = s.net ∧ (noNoise s g addr flag ms).hal = s.hal ∧ (noNoise s g addr flag ms).lamp.fuses = s.lamp.fuses ∧ (noNoise s g addr flag ms).power = s.power := by simp [noNoise]

@[simp] theorem vputs_keeps (s : State) (asid va : Nat) (v : Bytes) (bad : Bool) :
    (vputs s asid va v bad).pending = s.pending ∧ (vputs s asid va v bad).free = s.free ∧ (vputs s asid va v bad).pins = s.pins ∧ (vputs s asid va v bad).boot = s.boot ∧ (vputs s asid va v bad).clock = s.clock ∧ (vputs s asid va v bad).plan = s.plan ∧ (vputs s asid va v bad).roll = s.roll ∧ (vputs s asid va v bad).changes = s.changes ∧ (vputs s asid va v bad).hall = s.hall ∧ (vputs s asid va v bad).gal = s.gal ∧ (vputs s asid va v bad).galx = s.galx ∧ (vputs s asid va v bad).net = s.net ∧ (vputs s asid va v bad).hal = s.hal ∧ (vputs s asid va v bad).lamp = s.lamp ∧ (vputs s asid va v bad).power = s.power ∧ (vputs s asid va v bad).fault = s.fault := by simp (disch := (first | (intro u a; (repeat' split) <;> simp; done) | (rintro ⟨u, b⟩ a; dsimp only; (repeat' split) <;> simp; done) | (intro u w t o n e; (try dsimp only at e); (repeat' split at e) <;> (cases e; try simp); done) | (intro u a b; (repeat' split) <;> simp; done) | (intro u a b e; (try dsimp only at e); (repeat' split at e) <;> (cases e; try simp); done) | (intro u a e; (try dsimp only at e); (repeat' split at e) <;> (cases e; try simp); done))) [vputs]

@[simp] theorem writeCt_keeps (s : State) (asid : Nat) (h : Bytes) (ct : List Poly) (bad : Bool) :
    (writeCt s asid h ct bad).pending = s.pending ∧ (writeCt s asid h ct bad).free = s.free ∧ (writeCt s asid h ct bad).pins = s.pins ∧ (writeCt s asid h ct bad).boot = s.boot ∧ (writeCt s asid h ct bad).clock = s.clock ∧ (writeCt s asid h ct bad).plan = s.plan ∧ (writeCt s asid h ct bad).roll = s.roll ∧ (writeCt s asid h ct bad).changes = s.changes ∧ (writeCt s asid h ct bad).hall = s.hall ∧ (writeCt s asid h ct bad).gal = s.gal ∧ (writeCt s asid h ct bad).galx = s.galx ∧ (writeCt s asid h ct bad).net = s.net ∧ (writeCt s asid h ct bad).hal = s.hal ∧ (writeCt s asid h ct bad).lamp = s.lamp ∧ (writeCt s asid h ct bad).power = s.power ∧ (writeCt s asid h ct bad).fault = s.fault := by simp [writeCt]

@[simp] theorem tablesGone_keeps (s : State) (g : Nat) (r : MacroRun) :
    (tablesGone s g r).pending = s.pending ∧ (tablesGone s g r).free = s.free ∧ (tablesGone s g r).pins = s.pins ∧ (tablesGone s g r).clock = s.clock ∧ (tablesGone s g r).plan = s.plan ∧ (tablesGone s g r).roll = s.roll ∧ (tablesGone s g r).changes = s.changes ∧ (tablesGone s g r).net = s.net ∧ (tablesGone s g r).hal = s.hal ∧ (tablesGone s g r).power = s.power ∧ (tablesGone s g r).lamp.fuses = s.lamp.fuses := by simp [tablesGone]

@[simp] theorem rngFail_keeps (s : State) (h test : Nat) :
    (rngFail s h test).pending = s.pending ∧ (rngFail s h test).free = s.free ∧ (rngFail s h test).pins = s.pins ∧ (rngFail s h test).clock = s.clock ∧ (rngFail s h test).plan = s.plan ∧ (rngFail s h test).roll = s.roll ∧ (rngFail s h test).changes = s.changes ∧ (rngFail s h test).gal = s.gal ∧ (rngFail s h test).galx = s.galx ∧ (rngFail s h test).dram = s.dram ∧ (rngFail s h test).net = s.net ∧ (rngFail s h test).hal = s.hal ∧ (rngFail s h test).lamp.fuses = s.lamp.fuses ∧ (rngFail s h test).power = s.power ∧ (rngFail s h test).cxl.up = s.cxl.up ∧ (rngFail s h test).cxl.tsp = s.cxl.tsp ∧ (rngFail s h test).cxl.rings = s.cxl.rings := by simp [rngFail]

@[simp] theorem stopRelease_keeps (s : State) (g : Nat) :
    (stopRelease s g).pending = s.pending ∧ (stopRelease s g).pins = s.pins ∧ (stopRelease s g).clock = s.clock ∧ (stopRelease s g).plan = s.plan ∧ (stopRelease s g).roll = s.roll ∧ (stopRelease s g).changes = s.changes ∧ (stopRelease s g).net = s.net ∧ (stopRelease s g).hal = s.hal ∧ (stopRelease s g).lamp.fuses = s.lamp.fuses ∧ (stopRelease s g).power = s.power := by unfold stopRelease; (repeat' split) <;> simp

@[simp] theorem stopUpdate_keeps (s : State) (g : Nat) :
    (stopUpdate s g).pending = s.pending ∧ (stopUpdate s g).pins = s.pins ∧ (stopUpdate s g).clock = s.clock ∧ (stopUpdate s g).plan = s.plan ∧ (stopUpdate s g).roll = s.roll ∧ (stopUpdate s g).changes = s.changes ∧ (stopUpdate s g).net = s.net ∧ (stopUpdate s g).hal = s.hal ∧ (stopUpdate s g).power = s.power := by unfold stopUpdate; (repeat' split) <;> simp

@[simp] theorem reseedHall_keeps (s : State) (h : Nat) :
    (reseedHall s h).pending = s.pending ∧ (reseedHall s h).free = s.free ∧ (reseedHall s h).out = s.out ∧ (reseedHall s h).pins = s.pins ∧ (reseedHall s h).boot = s.boot ∧ (reseedHall s h).clock = s.clock ∧ (reseedHall s h).plan = s.plan ∧ (reseedHall s h).roll = s.roll ∧ (reseedHall s h).changes = s.changes ∧ (reseedHall s h).hall = s.hall ∧ (reseedHall s h).gal = s.gal ∧ (reseedHall s h).dram = s.dram ∧ (reseedHall s h).net = s.net ∧ (reseedHall s h).cxl = s.cxl ∧ (reseedHall s h).hal = s.hal ∧ (reseedHall s h).lamp = s.lamp ∧ (reseedHall s h).power = s.power ∧ (reseedHall s h).fault = s.fault := by simp [reseedHall]

@[simp] theorem trngRetry_keeps (s : State) (h : Nat) (l : List Bool) :
    (trngRetry s h l).pending = s.pending ∧ (trngRetry s h l).pins = s.pins ∧ (trngRetry s h l).clock = s.clock ∧ (trngRetry s h l).plan = s.plan ∧ (trngRetry s h l).roll = s.roll ∧ (trngRetry s h l).changes = s.changes ∧ (trngRetry s h l).gal = s.gal ∧ (trngRetry s h l).dram = s.dram ∧ (trngRetry s h l).net = s.net ∧ (trngRetry s h l).hal = s.hal ∧ (trngRetry s h l).lamp.fuses = s.lamp.fuses ∧ (trngRetry s h l).power = s.power ∧ (trngRetry s h l).cxl.up = s.cxl.up ∧ (trngRetry s h l).cxl.tsp = s.cxl.tsp ∧ (trngRetry s h l).cxl.rings = s.cxl.rings := by unfold trngRetry; simp only []; (repeat' split) <;> simp

@[simp] theorem checkImage_keeps (s : State) :
    (checkImage s).pending = s.pending ∧ (checkImage s).free = s.free ∧ (checkImage s).out = s.out ∧ (checkImage s).pins = s.pins ∧ (checkImage s).clock = s.clock ∧ (checkImage s).plan = s.plan ∧ (checkImage s).roll = s.roll ∧ (checkImage s).changes = s.changes ∧ (checkImage s).hall = s.hall ∧ (checkImage s).gal = s.gal ∧ (checkImage s).galx = s.galx ∧ (checkImage s).dram = s.dram ∧ (checkImage s).net = s.net ∧ (checkImage s).cxl = s.cxl ∧ (checkImage s).hal = s.hal ∧ (checkImage s).lamp.fuses = s.lamp.fuses ∧ (checkImage s).power = s.power ∧ (checkImage s).fault = s.fault := by unfold checkImage; (repeat' split) <;> simp

@[simp] theorem checkCal_keeps (s : State) :
    (checkCal s).pending = s.pending ∧ (checkCal s).pins = s.pins ∧ (checkCal s).clock = s.clock ∧ (checkCal s).plan = s.plan ∧ (checkCal s).changes = s.changes ∧ (checkCal s).hal.dict = s.hal.dict ∧ (checkCal s).hal.serving = s.hal.serving ∧ (checkCal s).hal.sess = s.hal.sess ∧ (checkCal s).lamp.fuses = s.lamp.fuses ∧ (checkCal s).power = s.power := by simp [checkCal]

@[simp] theorem bootLine_keeps (s : State) (c : Nat × Nat) :
    (bootLine s c).pending = s.pending ∧ (bootLine s c).pins = s.pins ∧ (bootLine s c).clock = s.clock ∧ (bootLine s c).plan = s.plan ∧ (bootLine s c).changes = s.changes ∧ (bootLine s c).net = s.net ∧ (bootLine s c).hal.dict = s.hal.dict ∧ (bootLine s c).hal.serving = s.hal.serving ∧ (bootLine s c).hal.sess = s.hal.sess ∧ (bootLine s c).lamp.fuses = s.lamp.fuses ∧ (bootLine s c).power = s.power := by simp [bootLine]

@[simp] theorem bootGallery_keeps (s : State) (g : Nat) :
    (bootGallery s g).pending = s.pending ∧ (bootGallery s g).pins = s.pins ∧ (bootGallery s g).clock = s.clock ∧ (bootGallery s g).plan = s.plan ∧ (bootGallery s g).changes = s.changes ∧ (bootGallery s g).net = s.net ∧ (bootGallery s g).hal.dict = s.hal.dict ∧ (bootGallery s g).hal.serving = s.hal.serving ∧ (bootGallery s g).hal.sess = s.hal.sess ∧ (bootGallery s g).lamp.fuses = s.lamp.fuses ∧ (bootGallery s g).power = s.power := by simp [bootGallery]

@[simp] theorem bootLantern_keeps (s : State) (c : Nat × Nat) :
    (bootLantern s c).pending = s.pending ∧ (bootLantern s c).pins = s.pins ∧ (bootLantern s c).clock = s.clock ∧ (bootLantern s c).plan = s.plan ∧ (bootLantern s c).changes = s.changes ∧ (bootLantern s c).net = s.net ∧ (bootLantern s c).hal.dict = s.hal.dict ∧ (bootLantern s c).hal.serving = s.hal.serving ∧ (bootLantern s c).hal.sess = s.hal.sess ∧ (bootLantern s c).lamp.fuses = s.lamp.fuses ∧ (bootLantern s c).power = s.power := by simp [bootLantern]

@[simp] theorem bootWick_keeps (s : State) (c : Nat × Nat) :
    (bootWick s c).pending = s.pending ∧ (bootWick s c).pins = s.pins ∧ (bootWick s c).clock = s.clock ∧ (bootWick s c).plan = s.plan ∧ (bootWick s c).changes = s.changes ∧ (bootWick s c).net = s.net ∧ (bootWick s c).hal.dict = s.hal.dict ∧ (bootWick s c).hal.serving = s.hal.serving ∧ (bootWick s c).hal.sess = s.hal.sess ∧ (bootWick s c).lamp.fuses = s.lamp.fuses ∧ (bootWick s c).power = s.power := by simp [bootWick]

@[simp] theorem bootHall_keeps (s : State) (c : Nat × Nat) :
    (bootHall s c).pending = s.pending ∧ (bootHall s c).pins = s.pins ∧ (bootHall s c).clock = s.clock ∧ (bootHall s c).plan = s.plan ∧ (bootHall s c).changes = s.changes ∧ (bootHall s c).hal.dict = s.hal.dict ∧ (bootHall s c).hal.serving = s.hal.serving ∧ (bootHall s c).hal.sess = s.hal.sess ∧ (bootHall s c).lamp.fuses = s.lamp.fuses ∧ (bootHall s c).power = s.power := by simp [bootHall]

@[simp] theorem bootTests_keeps (s : State) (b : BootReport) :
    (bootTests s b).pending = s.pending ∧ (bootTests s b).pins = s.pins ∧ (bootTests s b).clock = s.clock ∧ (bootTests s b).plan = s.plan ∧ (bootTests s b).changes = s.changes ∧ (bootTests s b).hal.dict = s.hal.dict ∧ (bootTests s b).hal.serving = s.hal.serving ∧ (bootTests s b).hal.sess = s.hal.sess ∧ (bootTests s b).lamp.fuses = s.lamp.fuses ∧ (bootTests s b).power = s.power := by simp [bootTests]

@[simp] theorem startFlights_keeps (s : State) :
    (startFlights s).pending = s.pending ∧ (startFlights s).free = s.free ∧ (startFlights s).out = s.out ∧ (startFlights s).pins = s.pins ∧ (startFlights s).boot = s.boot ∧ (startFlights s).clock = s.clock ∧ (startFlights s).plan = s.plan ∧ (startFlights s).roll = s.roll ∧ (startFlights s).changes = s.changes ∧ (startFlights s).hall = s.hall ∧ (startFlights s).gal = s.gal ∧ (startFlights s).galx = s.galx ∧ (startFlights s).dram = s.dram ∧ (startFlights s).cxl = s.cxl ∧ (startFlights s).hal = s.hal ∧ (startFlights s).lamp = s.lamp ∧ (startFlights s).power = s.power ∧ (startFlights s).fault = s.fault := by simp [startFlights]

@[simp] theorem bootTrng_keeps (b : BootReport) (s : State) (h : Nat) :
    (bootTrng b s h).pending = s.pending ∧ (bootTrng b s h).free = s.free ∧ (bootTrng b s h).pins = s.pins ∧ (bootTrng b s h).clock = s.clock ∧ (bootTrng b s h).plan = s.plan ∧ (bootTrng b s h).roll = s.roll ∧ (bootTrng b s h).changes = s.changes ∧ (bootTrng b s h).gal = s.gal ∧ (bootTrng b s h).galx = s.galx ∧ (bootTrng b s h).dram = s.dram ∧ (bootTrng b s h).net = s.net ∧ (bootTrng b s h).hal = s.hal ∧ (bootTrng b s h).lamp.fuses = s.lamp.fuses ∧ (bootTrng b s h).power = s.power ∧ (bootTrng b s h).cxl.up = s.cxl.up ∧ (bootTrng b s h).cxl.tsp = s.cxl.tsp ∧ (bootTrng b s h).cxl.rings = s.cxl.rings := by unfold bootTrng; simp only []; (repeat' split) <;> simp

@[simp] theorem resetEntry_keeps (s : State) :
    (resetEntry s).pending = s.pending ∧ (resetEntry s).free = s.free ∧ (resetEntry s).out = s.out ∧ (resetEntry s).pins = s.pins ∧ (resetEntry s).clock = s.clock ∧ (resetEntry s).plan = s.plan ∧ (resetEntry s).roll = s.roll ∧ (resetEntry s).changes = s.changes ∧ (resetEntry s).hall = s.hall ∧ (resetEntry s).gal = s.gal ∧ (resetEntry s).galx = s.galx ∧ (resetEntry s).dram = s.dram ∧ (resetEntry s).net = s.net ∧ (resetEntry s).cxl = s.cxl ∧ (resetEntry s).hal.dict = s.hal.dict ∧ (resetEntry s).hal.serving = s.hal.serving ∧ (resetEntry s).hal.sess = s.hal.sess ∧ (resetEntry s).lamp = s.lamp ∧ (resetEntry s).power = s.power ∧ (resetEntry s).fault = s.fault := by simp [resetEntry]

@[simp] theorem startSteps_keeps (s : State) (b : BootReport) :
    (startSteps s b).pending = s.pending ∧ (startSteps s b).pins = s.pins ∧ (startSteps s b).clock = s.clock ∧ (startSteps s b).plan = s.plan ∧ (startSteps s b).changes = s.changes ∧ (startSteps s b).hal.dict = s.hal.dict ∧ (startSteps s b).hal.serving = s.hal.serving ∧ (startSteps s b).hal.sess = s.hal.sess ∧ (startSteps s b).lamp.fuses = s.lamp.fuses ∧ (startSteps s b).power = s.power := by simp [startSteps]

@[simp] theorem powerless_keeps (s : State) :
    (powerless s).pending = s.pending ∧ (powerless s).free = s.free ∧ (powerless s).out = s.out ∧ (powerless s).lamp.fuses = s.lamp.fuses := by simp [powerless]

@[simp] theorem pwrgoodRise_keeps (s : State) (straps : Byte) (b : BootReport) :
    (pwrgoodRise s straps b).pending = s.pending ∧ (pwrgoodRise s straps b).lamp.fuses = s.lamp.fuses := by simp [pwrgoodRise]

@[simp] theorem warmState_keeps (s : State) (cause : Nat) :
    (warmState s cause).pending = s.pending ∧ (warmState s cause).free = s.free ∧ (warmState s cause).out = s.out ∧ (warmState s cause).pins = s.pins ∧ (warmState s cause).clock.now = s.clock.now ∧ (warmState s cause).dram.mem = s.dram.mem ∧ (warmState s cause).lamp.fuses = s.lamp.fuses := by simp [warmState]

@[simp] theorem warmReset_keeps (s : State) (cause : Nat) :
    (warmReset s cause).pending = s.pending ∧ (warmReset s cause).free = s.free ∧ (warmReset s cause).out = s.out ∧ (warmReset s cause).pins = s.pins ∧ (warmReset s cause).clock.now = s.clock.now ∧ (warmReset s cause).dram.mem = s.dram.mem ∧ (warmReset s cause).lamp.fuses = s.lamp.fuses := by simp [warmReset]

@[simp] theorem hallLate_keeps (s : State) (h : Nat) :
    (hallLate s h).pending = s.pending ∧ (hallLate s h).pins = s.pins ∧ (hallLate s h).clock = s.clock ∧ (hallLate s h).plan = s.plan ∧ (hallLate s h).changes = s.changes ∧ (hallLate s h).hal.dict = s.hal.dict ∧ (hallLate s h).hal.serving = s.hal.serving ∧ (hallLate s h).hal.sess = s.hal.sess ∧ (hallLate s h).lamp.fuses = s.lamp.fuses ∧ (hallLate s h).power = s.power := by simp [hallLate]

@[simp] theorem becomeReady_keeps (s : State) :
    (becomeReady s).pending = s.pending ∧ (becomeReady s).free = s.free ∧ (becomeReady s).out = s.out ∧ (becomeReady s).pins = s.pins ∧ (becomeReady s).clock = s.clock ∧ (becomeReady s).plan = s.plan ∧ (becomeReady s).roll = s.roll ∧ (becomeReady s).changes = s.changes ∧ (becomeReady s).hall = s.hall ∧ (becomeReady s).gal = s.gal ∧ (becomeReady s).galx = s.galx ∧ (becomeReady s).dram = s.dram ∧ (becomeReady s).net = s.net ∧ (becomeReady s).cxl = s.cxl ∧ (becomeReady s).hal.dict = s.hal.dict ∧ (becomeReady s).hal.serving = s.hal.serving ∧ (becomeReady s).hal.sess = s.hal.sess ∧ (becomeReady s).lamp.fuses = s.lamp.fuses ∧ (becomeReady s).power = s.power ∧ (becomeReady s).fault = s.fault := by simp [becomeReady]

@[simp] theorem startupReady_keeps (s : State) (boot : BootReport) :
    (startupReady s boot).pending = s.pending ∧ (startupReady s boot).pins = s.pins ∧ (startupReady s boot).clock = s.clock ∧ (startupReady s boot).plan = s.plan ∧ (startupReady s boot).changes = s.changes ∧ (startupReady s boot).hal.dict = s.hal.dict ∧ (startupReady s boot).hal.serving = s.hal.serving ∧ (startupReady s boot).hal.sess = s.hal.sess ∧ (startupReady s boot).lamp.fuses = s.lamp.fuses ∧ (startupReady s boot).power = s.power := by simp [startupReady]

@[simp] theorem abortUnit_keeps (s : State) (r : FRec) :
    (abortUnit s r).pending = s.pending ∧ (abortUnit s r).pins = s.pins ∧ (abortUnit s r).clock = s.clock ∧ (abortUnit s r).plan = s.plan ∧ (abortUnit s r).changes = s.changes ∧ (abortUnit s r).net = s.net ∧ (abortUnit s r).hal.dict = s.hal.dict ∧ (abortUnit s r).hal.serving = s.hal.serving ∧ (abortUnit s r).hal.sess = s.hal.sess ∧ (abortUnit s r).lamp.fuses = s.lamp.fuses ∧ (abortUnit s r).power = s.power := by simp [abortUnit]

@[simp] theorem unitLost_keeps (s : State) (r : FRec) :
    (unitLost s r).pending = s.pending ∧ (unitLost s r).pins = s.pins ∧ (unitLost s r).clock = s.clock ∧ (unitLost s r).plan = s.plan ∧ (unitLost s r).changes = s.changes ∧ (unitLost s r).lamp.fuses = s.lamp.fuses ∧ (unitLost s r).power = s.power := by simp [unitLost]

@[simp] theorem consequence_keeps (s : State) (r : FRec) :
    (consequence s r).pending = s.pending ∧ (consequence s r).pins = s.pins ∧ (consequence s r).clock = s.clock ∧ (consequence s r).plan = s.plan ∧ (consequence s r).changes = s.changes ∧ (consequence s r).lamp.fuses = s.lamp.fuses ∧ (consequence s r).power = s.power := by simp [consequence]

@[simp] theorem postEvent_keeps (s : State) (r : FRec) :
    (postEvent s r).pending = s.pending ∧ (postEvent s r).free = s.free ∧ (postEvent s r).out = s.out ∧ (postEvent s r).pins = s.pins ∧ (postEvent s r).boot = s.boot ∧ (postEvent s r).clock = s.clock ∧ (postEvent s r).plan = s.plan ∧ (postEvent s r).roll = s.roll ∧ (postEvent s r).changes = s.changes ∧ (postEvent s r).hall = s.hall ∧ (postEvent s r).gal = s.gal ∧ (postEvent s r).galx = s.galx ∧ (postEvent s r).dram = s.dram ∧ (postEvent s r).net = s.net ∧ (postEvent s r).hal = s.hal ∧ (postEvent s r).lamp = s.lamp ∧ (postEvent s r).power = s.power ∧ (postEvent s r).fault = s.fault := by simp [postEvent]

@[simp] theorem copyRecord_keeps (s : State) :
    (copyRecord s).pending = s.pending ∧ (copyRecord s).free = s.free ∧ (copyRecord s).pins = s.pins ∧ (copyRecord s).boot = s.boot ∧ (copyRecord s).clock = s.clock ∧ (copyRecord s).plan = s.plan ∧ (copyRecord s).roll = s.roll ∧ (copyRecord s).changes = s.changes ∧ (copyRecord s).hall = s.hall ∧ (copyRecord s).gal = s.gal ∧ (copyRecord s).galx = s.galx ∧ (copyRecord s).dram = s.dram ∧ (copyRecord s).net = s.net ∧ (copyRecord s).hal = s.hal ∧ (copyRecord s).lamp = s.lamp ∧ (copyRecord s).power = s.power := by unfold copyRecord; (repeat' split) <;> simp

@[simp] theorem lastServed_keeps (s : State) (g p : Nat) :
    ((lastServed s g p).2).pending = s.pending ∧ ((lastServed s g p).2).out = s.out ∧ ((lastServed s g p).2).pins = s.pins ∧ ((lastServed s g p).2).boot = s.boot ∧ ((lastServed s g p).2).clock = s.clock ∧ ((lastServed s g p).2).plan = s.plan ∧ ((lastServed s g p).2).roll = s.roll ∧ ((lastServed s g p).2).changes = s.changes ∧ ((lastServed s g p).2).hall = s.hall ∧ ((lastServed s g p).2).gal = s.gal ∧ ((lastServed s g p).2).galx = s.galx ∧ ((lastServed s g p).2).dram = s.dram ∧ ((lastServed s g p).2).net = s.net ∧ ((lastServed s g p).2).cxl = s.cxl ∧ ((lastServed s g p).2).hal = s.hal ∧ ((lastServed s g p).2).lamp = s.lamp ∧ ((lastServed s g p).2).power = s.power ∧ ((lastServed s g p).2).fault = s.fault := by unfold lastServed; simp only []; (repeat' split) <;> simp

@[simp] theorem refuseStale_keeps (s : State) (g p : Nat) (inc : W16) :
    (refuseStale s g p inc).pending = s.pending ∧ (refuseStale s g p inc).pins = s.pins ∧ (refuseStale s g p inc).clock = s.clock ∧ (refuseStale s g p inc).plan = s.plan ∧ (refuseStale s g p inc).roll = s.roll ∧ (refuseStale s g p inc).changes = s.changes ∧ (refuseStale s g p inc).gal = s.gal ∧ (refuseStale s g p inc).dram = s.dram ∧ (refuseStale s g p inc).net = s.net ∧ (refuseStale s g p inc).hal = s.hal ∧ (refuseStale s g p inc).lamp.fuses = s.lamp.fuses ∧ (refuseStale s g p inc).power = s.power ∧ (refuseStale s g p inc).cxl.up = s.cxl.up ∧ (refuseStale s g p inc).cxl.tsp = s.cxl.tsp ∧ (refuseStale s g p inc).cxl.rings = s.cxl.rings := by unfold refuseStale; simp only []; (repeat' split) <;> simp

@[simp] theorem readmitDone_keeps (s : State) (g p : Nat) (pass : Bool) :
    (readmitDone s g p pass).pending = s.pending ∧ (readmitDone s g p pass).free = s.free ∧ (readmitDone s g p pass).pins = s.pins ∧ (readmitDone s g p pass).boot = s.boot ∧ (readmitDone s g p pass).clock = s.clock ∧ (readmitDone s g p pass).plan = s.plan ∧ (readmitDone s g p pass).roll = s.roll ∧ (readmitDone s g p pass).changes = s.changes ∧ (readmitDone s g p pass).hall = s.hall ∧ (readmitDone s g p pass).gal = s.gal ∧ (readmitDone s g p pass).dram = s.dram ∧ (readmitDone s g p pass).net = s.net ∧ (readmitDone s g p pass).cxl = s.cxl ∧ (readmitDone s g p pass).hal.dict = s.hal.dict ∧ (readmitDone s g p pass).hal.serving = s.hal.serving ∧ (readmitDone s g p pass).lamp = s.lamp ∧ (readmitDone s g p pass).power = s.power ∧ (readmitDone s g p pass).fault = s.fault := by unfold readmitDone; (repeat' split) <;> simp

@[simp] theorem galleryReset_keeps (s : State) (g : Nat) :
    (galleryReset s g).pending = s.pending ∧ (galleryReset s g).pins = s.pins ∧ (galleryReset s g).clock = s.clock ∧ (galleryReset s g).plan = s.plan ∧ (galleryReset s g).changes = s.changes ∧ (galleryReset s g).net = s.net ∧ (galleryReset s g).hal.dict = s.hal.dict ∧ (galleryReset s g).hal.serving = s.hal.serving ∧ (galleryReset s g).hal.sess = s.hal.sess ∧ (galleryReset s g).lamp.fuses = s.lamp.fuses ∧ (galleryReset s g).power = s.power := by simp [galleryReset]

@[simp] theorem setTime_keeps (s : State) (v : Nat) :
    (setTime s v).pending = s.pending ∧ (setTime s v).free = s.free ∧ (setTime s v).out = s.out ∧ (setTime s v).pins = s.pins ∧ (setTime s v).boot = s.boot ∧ (setTime s v).clock = s.clock ∧ (setTime s v).plan = s.plan ∧ (setTime s v).roll = s.roll ∧ (setTime s v).changes = s.changes ∧ (setTime s v).hall = s.hall ∧ (setTime s v).gal = s.gal ∧ (setTime s v).galx = s.galx ∧ (setTime s v).dram = s.dram ∧ (setTime s v).net = s.net ∧ (setTime s v).cxl = s.cxl ∧ (setTime s v).hal.dict = s.hal.dict ∧ (setTime s v).hal.serving = s.hal.serving ∧ (setTime s v).hal.sess = s.hal.sess ∧ (setTime s v).lamp = s.lamp ∧ (setTime s v).power = s.power ∧ (setTime s v).fault = s.fault := by simp [setTime]

@[simp] theorem sourceLock_keeps (s : State) (src : TimeSource) (on : Bool) :
    (sourceLock s src on).pending = s.pending ∧ (sourceLock s src on).free = s.free ∧ (sourceLock s src on).out = s.out ∧ (sourceLock s src on).pins = s.pins ∧ (sourceLock s src on).boot = s.boot ∧ (sourceLock s src on).clock = s.clock ∧ (sourceLock s src on).plan = s.plan ∧ (sourceLock s src on).roll = s.roll ∧ (sourceLock s src on).changes = s.changes ∧ (sourceLock s src on).hall = s.hall ∧ (sourceLock s src on).gal = s.gal ∧ (sourceLock s src on).galx = s.galx ∧ (sourceLock s src on).dram = s.dram ∧ (sourceLock s src on).net = s.net ∧ (sourceLock s src on).cxl = s.cxl ∧ (sourceLock s src on).hal.dict = s.hal.dict ∧ (sourceLock s src on).hal.serving = s.hal.serving ∧ (sourceLock s src on).hal.sess = s.hal.sess ∧ (sourceLock s src on).lamp = s.lamp ∧ (sourceLock s src on).power = s.power ∧ (sourceLock s src on).fault = s.fault := by unfold sourceLock; (repeat' split) <;> simp

@[simp] theorem journalProgram_keeps (s : State) :
    (journalProgram s).pending = s.pending ∧ (journalProgram s).free = s.free ∧ (journalProgram s).out = s.out ∧ (journalProgram s).pins = s.pins ∧ (journalProgram s).boot = s.boot ∧ (journalProgram s).clock = s.clock ∧ (journalProgram s).plan = s.plan ∧ (journalProgram s).roll = s.roll ∧ (journalProgram s).changes = s.changes ∧ (journalProgram s).hall = s.hall ∧ (journalProgram s).gal = s.gal ∧ (journalProgram s).galx = s.galx ∧ (journalProgram s).dram = s.dram ∧ (journalProgram s).net = s.net ∧ (journalProgram s).cxl = s.cxl ∧ (journalProgram s).hal.dict = s.hal.dict ∧ (journalProgram s).hal.serving = s.hal.serving ∧ (journalProgram s).hal.sess = s.hal.sess ∧ (journalProgram s).lamp = s.lamp ∧ (journalProgram s).power = s.power ∧ (journalProgram s).fault = s.fault := by unfold journalProgram; (repeat' split) <;> simp

@[simp] theorem commitDone_keeps (s : State) (ok : Bool) :
    (commitDone s ok).pending = s.pending ∧ (commitDone s ok).pins = s.pins ∧ (commitDone s ok).clock = s.clock ∧ (commitDone s ok).plan = s.plan ∧ (commitDone s ok).changes = s.changes ∧ (commitDone s ok).hal.dict = s.hal.dict ∧ (commitDone s ok).hal.serving = s.hal.serving ∧ (commitDone s ok).lamp.fuses = s.lamp.fuses ∧ (commitDone s ok).power = s.power := by simp only [commitDone]; (repeat' split) <;> simp

@[simp] theorem endCred_keeps (s : State) (k : Nat) :
    (endCred s k).pending = s.pending ∧ (endCred s k).free = s.free ∧ (endCred s k).out = s.out ∧ (endCred s k).pins = s.pins ∧ (endCred s k).boot = s.boot ∧ (endCred s k).clock = s.clock ∧ (endCred s k).plan = s.plan ∧ (endCred s k).roll = s.roll ∧ (endCred s k).changes = s.changes ∧ (endCred s k).hall = s.hall ∧ (endCred s k).gal = s.gal ∧ (endCred s k).galx = s.galx ∧ (endCred s k).dram = s.dram ∧ (endCred s k).net = s.net ∧ (endCred s k).cxl = s.cxl ∧ (endCred s k).hal.dict = s.hal.dict ∧ (endCred s k).hal.serving = s.hal.serving ∧ (endCred s k).lamp = s.lamp ∧ (endCred s k).power = s.power ∧ (endCred s k).fault = s.fault := by simp [endCred]

@[simp] theorem putAnchor_keeps (s : State) (k : Nat) (v : Bytes) :
    (putAnchor s k v).pending = s.pending ∧ (putAnchor s k v).free = s.free ∧ (putAnchor s k v).out = s.out ∧ (putAnchor s k v).pins = s.pins ∧ (putAnchor s k v).boot = s.boot ∧ (putAnchor s k v).clock = s.clock ∧ (putAnchor s k v).plan = s.plan ∧ (putAnchor s k v).roll = s.roll ∧ (putAnchor s k v).changes = s.changes ∧ (putAnchor s k v).hall = s.hall ∧ (putAnchor s k v).gal = s.gal ∧ (putAnchor s k v).galx = s.galx ∧ (putAnchor s k v).dram = s.dram ∧ (putAnchor s k v).net = s.net ∧ (putAnchor s k v).cxl = s.cxl ∧ (putAnchor s k v).hal = s.hal ∧ (putAnchor s k v).power = s.power ∧ (putAnchor s k v).fault = s.fault := by simp [putAnchor]

@[simp] theorem burnFailed_keeps (s : State) (k : Nat) :
    (burnFailed s k).pending = s.pending ∧ (burnFailed s k).pins = s.pins ∧ (burnFailed s k).clock = s.clock ∧ (burnFailed s k).plan = s.plan ∧ (burnFailed s k).changes = s.changes ∧ (burnFailed s k).hal.dict = s.hal.dict ∧ (burnFailed s k).hal.serving = s.hal.serving ∧ (burnFailed s k).hal.sess = s.hal.sess ∧ (burnFailed s k).power = s.power := by simp [burnFailed]

@[simp] theorem setFw_keeps (s : State) (f : FwState → FwState) :
    (setFw s f).pending = s.pending ∧ (setFw s f).free = s.free ∧ (setFw s f).out = s.out ∧ (setFw s f).pins = s.pins ∧ (setFw s f).boot = s.boot ∧ (setFw s f).clock = s.clock ∧ (setFw s f).plan = s.plan ∧ (setFw s f).roll = s.roll ∧ (setFw s f).changes = s.changes ∧ (setFw s f).hall = s.hall ∧ (setFw s f).gal = s.gal ∧ (setFw s f).galx = s.galx ∧ (setFw s f).dram = s.dram ∧ (setFw s f).net = s.net ∧ (setFw s f).cxl = s.cxl ∧ (setFw s f).hal = s.hal ∧ (setFw s f).lamp.fuses = s.lamp.fuses ∧ (setFw s f).power = s.power ∧ (setFw s f).fault = s.fault := by simp [setFw]

@[simp] theorem fwRefused_keeps (s : State) (q : Req) (st : Nat) :
    (fwRefused s q st).pending = s.pending ∧ (fwRefused s q st).free = s.free ∧ (fwRefused s q st).out = s.out ∧ (fwRefused s q st).pins = s.pins ∧ (fwRefused s q st).boot = s.boot ∧ (fwRefused s q st).clock = s.clock ∧ (fwRefused s q st).plan = s.plan ∧ (fwRefused s q st).roll = s.roll ∧ (fwRefused s q st).changes = s.changes ∧ (fwRefused s q st).hall = s.hall ∧ (fwRefused s q st).gal = s.gal ∧ (fwRefused s q st).galx = s.galx ∧ (fwRefused s q st).dram = s.dram ∧ (fwRefused s q st).net = s.net ∧ (fwRefused s q st).cxl = s.cxl ∧ (fwRefused s q st).hal = s.hal ∧ (fwRefused s q st).lamp.fuses = s.lamp.fuses ∧ (fwRefused s q st).power = s.power ∧ (fwRefused s q st).fault = s.fault := by simp [fwRefused]

@[simp] theorem fwJournal_keeps (s : State) (j : JChange) :
    (fwJournal s j).pending = s.pending ∧ (fwJournal s j).free = s.free ∧ (fwJournal s j).out = s.out ∧ (fwJournal s j).pins = s.pins ∧ (fwJournal s j).boot = s.boot ∧ (fwJournal s j).clock = s.clock ∧ (fwJournal s j).plan = s.plan ∧ (fwJournal s j).roll = s.roll ∧ (fwJournal s j).changes = s.changes ∧ (fwJournal s j).hall = s.hall ∧ (fwJournal s j).gal = s.gal ∧ (fwJournal s j).galx = s.galx ∧ (fwJournal s j).dram = s.dram ∧ (fwJournal s j).net = s.net ∧ (fwJournal s j).cxl = s.cxl ∧ (fwJournal s j).hal.dict = s.hal.dict ∧ (fwJournal s j).hal.serving = s.hal.serving ∧ (fwJournal s j).hal.sess = s.hal.sess ∧ (fwJournal s j).lamp = s.lamp ∧ (fwJournal s j).power = s.power ∧ (fwJournal s j).fault = s.fault := by simp [fwJournal]

@[simp] theorem programDone_keeps (s : State) (ok : Bool) :
    (programDone s ok).pending = s.pending ∧ (programDone s ok).pins = s.pins ∧ (programDone s ok).clock.now = s.clock.now ∧ (programDone s ok).lamp.fuses = s.lamp.fuses := by simp [programDone]

@[simp] theorem burnLife_keeps (s : State) (n : Nat) :
    (burnLife s n).pending = s.pending ∧ (burnLife s n).free = s.free ∧ (burnLife s n).out = s.out ∧ (burnLife s n).pins = s.pins ∧ (burnLife s n).boot = s.boot ∧ (burnLife s n).clock = s.clock ∧ (burnLife s n).plan = s.plan ∧ (burnLife s n).roll = s.roll ∧ (burnLife s n).changes = s.changes ∧ (burnLife s n).hall = s.hall ∧ (burnLife s n).gal = s.gal ∧ (burnLife s n).galx = s.galx ∧ (burnLife s n).dram = s.dram ∧ (burnLife s n).net = s.net ∧ (burnLife s n).cxl = s.cxl ∧ (burnLife s n).hal = s.hal ∧ (burnLife s n).power = s.power ∧ (burnLife s n).fault = s.fault := by unfold burnLife; (repeat' split) <;> simp

@[simp] theorem spdmError_keeps (s : State) :
    (spdmError s).pending = s.pending ∧ (spdmError s).free = s.free ∧ (spdmError s).pins = s.pins ∧ (spdmError s).boot = s.boot ∧ (spdmError s).clock = s.clock ∧ (spdmError s).plan = s.plan ∧ (spdmError s).roll = s.roll ∧ (spdmError s).changes = s.changes ∧ (spdmError s).hall = s.hall ∧ (spdmError s).gal = s.gal ∧ (spdmError s).galx = s.galx ∧ (spdmError s).dram = s.dram ∧ (spdmError s).net = s.net ∧ (spdmError s).cxl = s.cxl ∧ (spdmError s).hal = s.hal ∧ (spdmError s).lamp = s.lamp ∧ (spdmError s).power = s.power ∧ (spdmError s).fault = s.fault := by simp [spdmError]

@[simp] theorem spdmSigned_keeps (s : State) (code : Nat) (v : Bytes) :
    (spdmSigned s code v).pending = s.pending ∧ (spdmSigned s code v).pins = s.pins ∧ (spdmSigned s code v).boot = s.boot ∧ (spdmSigned s code v).clock = s.clock ∧ (spdmSigned s code v).plan = s.plan ∧ (spdmSigned s code v).roll = s.roll ∧ (spdmSigned s code v).changes = s.changes ∧ (spdmSigned s code v).hall = s.hall ∧ (spdmSigned s code v).gal = s.gal ∧ (spdmSigned s code v).galx = s.galx ∧ (spdmSigned s code v).dram = s.dram ∧ (spdmSigned s code v).net = s.net ∧ (spdmSigned s code v).cxl = s.cxl ∧ (spdmSigned s code v).hal = s.hal ∧ (spdmSigned s code v).lamp = s.lamp ∧ (spdmSigned s code v).power = s.power ∧ (spdmSigned s code v).fault = s.fault := by simp [spdmSigned]

@[simp] theorem setSpdm_keeps (s : State) (l : List (Nat × Bool)) :
    (setSpdm s l).pending = s.pending ∧ (setSpdm s l).free = s.free ∧ (setSpdm s l).out = s.out ∧ (setSpdm s l).pins = s.pins ∧ (setSpdm s l).boot = s.boot ∧ (setSpdm s l).clock = s.clock ∧ (setSpdm s l).plan = s.plan ∧ (setSpdm s l).roll = s.roll ∧ (setSpdm s l).changes = s.changes ∧ (setSpdm s l).hall = s.hall ∧ (setSpdm s l).gal = s.gal ∧ (setSpdm s l).galx = s.galx ∧ (setSpdm s l).dram = s.dram ∧ (setSpdm s l).net = s.net ∧ (setSpdm s l).hal = s.hal ∧ (setSpdm s l).lamp = s.lamp ∧ (setSpdm s l).power = s.power ∧ (setSpdm s l).fault = s.fault := by simp [setSpdm]

@[simp] theorem spdm_keeps (s : State) (m : Spdm) :
    (spdm s m).pending = s.pending ∧ (spdm s m).pins = s.pins ∧ (spdm s m).boot = s.boot ∧ (spdm s m).clock = s.clock ∧ (spdm s m).plan = s.plan ∧ (spdm s m).roll = s.roll ∧ (spdm s m).changes = s.changes ∧ (spdm s m).hall = s.hall ∧ (spdm s m).gal = s.gal ∧ (spdm s m).galx = s.galx ∧ (spdm s m).dram = s.dram ∧ (spdm s m).net = s.net ∧ (spdm s m).hal = s.hal ∧ (spdm s m).lamp = s.lamp ∧ (spdm s m).power = s.power ∧ (spdm s m).fault = s.fault := by unfold spdm; (repeat' split) <;> simp

@[simp] theorem pkeSet_keeps (s : State) (o : Pke) (off : Nat) (curve : Option (Nat × Curve)) :
    (pkeSet s o off curve).pending = s.pending ∧ (pkeSet s o off curve).free = s.free ∧ (pkeSet s o off curve).out = s.out ∧ (pkeSet s o off curve).pins = s.pins ∧ (pkeSet s o off curve).boot = s.boot ∧ (pkeSet s o off curve).clock = s.clock ∧ (pkeSet s o off curve).plan = s.plan ∧ (pkeSet s o off curve).roll = s.roll ∧ (pkeSet s o off curve).changes = s.changes ∧ (pkeSet s o off curve).hall = s.hall ∧ (pkeSet s o off curve).gal = s.gal ∧ (pkeSet s o off curve).galx = s.galx ∧ (pkeSet s o off curve).dram = s.dram ∧ (pkeSet s o off curve).net = s.net ∧ (pkeSet s o off curve).cxl = s.cxl ∧ (pkeSet s o off curve).hal = s.hal ∧ (pkeSet s o off curve).lamp.fuses = s.lamp.fuses ∧ (pkeSet s o off curve).power = s.power ∧ (pkeSet s o off curve).fault = s.fault := by simp [pkeSet]

@[simp] theorem pkeReads_pending (s : State) (mine : Nat → Bool) (desc operands : Dma) (f : Bytes → Dma → State) (h0 : ∀ b d, (f b d).pending = s.pending) :
    (pkeReads s mine desc operands f).pending = s.pending := by
  unfold pkeReads; (repeat' split) <;> simp [h0]

@[simp] theorem pkeReads_free (s : State) (mine : Nat → Bool) (desc operands : Dma) (f : Bytes → Dma → State) (h0 : ∀ b d, (f b d).free = s.free) :
    (pkeReads s mine desc operands f).free = s.free := by
  unfold pkeReads; (repeat' split) <;> simp [h0]

@[simp] theorem pkeReads_out (s : State) (mine : Nat → Bool) (desc operands : Dma) (f : Bytes → Dma → State) (h0 : ∀ b d, (f b d).out = s.out) :
    (pkeReads s mine desc operands f).out = s.out := by
  unfold pkeReads; (repeat' split) <;> simp [h0]

@[simp] theorem pkeReads_pins (s : State) (mine : Nat → Bool) (desc operands : Dma) (f : Bytes → Dma → State) (h0 : ∀ b d, (f b d).pins = s.pins) :
    (pkeReads s mine desc operands f).pins = s.pins := by
  unfold pkeReads; (repeat' split) <;> simp [h0]

@[simp] theorem pkeReads_boot (s : State) (mine : Nat → Bool) (desc operands : Dma) (f : Bytes → Dma → State) (h0 : ∀ b d, (f b d).boot = s.boot) :
    (pkeReads s mine desc operands f).boot = s.boot := by
  unfold pkeReads; (repeat' split) <;> simp [h0]

@[simp] theorem pkeReads_clock (s : State) (mine : Nat → Bool) (desc operands : Dma) (f : Bytes → Dma → State) (h0 : ∀ b d, (f b d).clock = s.clock) :
    (pkeReads s mine desc operands f).clock = s.clock := by
  unfold pkeReads; (repeat' split) <;> simp [h0]

@[simp] theorem pkeReads_clock_now (s : State) (mine : Nat → Bool) (desc operands : Dma) (f : Bytes → Dma → State) (h0 : ∀ b d, (f b d).clock.now = s.clock.now) :
    (pkeReads s mine desc operands f).clock.now = s.clock.now := by
  unfold pkeReads; (repeat' split) <;> simp [h0]

@[simp] theorem pkeReads_plan (s : State) (mine : Nat → Bool) (desc operands : Dma) (f : Bytes → Dma → State) (h0 : ∀ b d, (f b d).plan = s.plan) :
    (pkeReads s mine desc operands f).plan = s.plan := by
  unfold pkeReads; (repeat' split) <;> simp [h0]

@[simp] theorem pkeReads_roll (s : State) (mine : Nat → Bool) (desc operands : Dma) (f : Bytes → Dma → State) (h0 : ∀ b d, (f b d).roll = s.roll) :
    (pkeReads s mine desc operands f).roll = s.roll := by
  unfold pkeReads; (repeat' split) <;> simp [h0]

@[simp] theorem pkeReads_changes (s : State) (mine : Nat → Bool) (desc operands : Dma) (f : Bytes → Dma → State) (h0 : ∀ b d, (f b d).changes = s.changes) :
    (pkeReads s mine desc operands f).changes = s.changes := by
  unfold pkeReads; (repeat' split) <;> simp [h0]

@[simp] theorem pkeReads_hall (s : State) (mine : Nat → Bool) (desc operands : Dma) (f : Bytes → Dma → State) (h0 : ∀ b d, (f b d).hall = s.hall) :
    (pkeReads s mine desc operands f).hall = s.hall := by
  unfold pkeReads; (repeat' split) <;> simp [h0]

@[simp] theorem pkeReads_gal (s : State) (mine : Nat → Bool) (desc operands : Dma) (f : Bytes → Dma → State) (h0 : ∀ b d, (f b d).gal = s.gal) :
    (pkeReads s mine desc operands f).gal = s.gal := by
  unfold pkeReads; (repeat' split) <;> simp [h0]

@[simp] theorem pkeReads_galx (s : State) (mine : Nat → Bool) (desc operands : Dma) (f : Bytes → Dma → State) (h0 : ∀ b d, (f b d).galx = s.galx) :
    (pkeReads s mine desc operands f).galx = s.galx := by
  unfold pkeReads; (repeat' split) <;> simp [h0]

@[simp] theorem pkeReads_dram (s : State) (mine : Nat → Bool) (desc operands : Dma) (f : Bytes → Dma → State) (h0 : ∀ b d, (f b d).dram = s.dram) :
    (pkeReads s mine desc operands f).dram = s.dram := by
  unfold pkeReads; (repeat' split) <;> simp [h0]

@[simp] theorem pkeReads_net (s : State) (mine : Nat → Bool) (desc operands : Dma) (f : Bytes → Dma → State) (h0 : ∀ b d, (f b d).net = s.net) :
    (pkeReads s mine desc operands f).net = s.net := by
  unfold pkeReads; (repeat' split) <;> simp [h0]

@[simp] theorem pkeReads_cxl (s : State) (mine : Nat → Bool) (desc operands : Dma) (f : Bytes → Dma → State) (h0 : ∀ b d, (f b d).cxl = s.cxl) :
    (pkeReads s mine desc operands f).cxl = s.cxl := by
  unfold pkeReads; (repeat' split) <;> simp [h0]

@[simp] theorem pkeReads_hal (s : State) (mine : Nat → Bool) (desc operands : Dma) (f : Bytes → Dma → State) (h0 : ∀ b d, (f b d).hal = s.hal) :
    (pkeReads s mine desc operands f).hal = s.hal := by
  unfold pkeReads; (repeat' split) <;> simp [h0]

@[simp] theorem pkeReads_hal_dict (s : State) (mine : Nat → Bool) (desc operands : Dma) (f : Bytes → Dma → State) (h0 : ∀ b d, (f b d).hal.dict = s.hal.dict) :
    (pkeReads s mine desc operands f).hal.dict = s.hal.dict := by
  unfold pkeReads; (repeat' split) <;> simp [h0]

@[simp] theorem pkeReads_hal_serving (s : State) (mine : Nat → Bool) (desc operands : Dma) (f : Bytes → Dma → State) (h0 : ∀ b d, (f b d).hal.serving = s.hal.serving) :
    (pkeReads s mine desc operands f).hal.serving = s.hal.serving := by
  unfold pkeReads; (repeat' split) <;> simp [h0]

@[simp] theorem pkeReads_hal_sess (s : State) (mine : Nat → Bool) (desc operands : Dma) (f : Bytes → Dma → State) (h0 : ∀ b d, (f b d).hal.sess = s.hal.sess) :
    (pkeReads s mine desc operands f).hal.sess = s.hal.sess := by
  unfold pkeReads; (repeat' split) <;> simp [h0]

@[simp] theorem pkeReads_lamp_fuses (s : State) (mine : Nat → Bool) (desc operands : Dma) (f : Bytes → Dma → State) (h0 : ∀ b d, (f b d).lamp.fuses = s.lamp.fuses) :
    (pkeReads s mine desc operands f).lamp.fuses = s.lamp.fuses := by
  unfold pkeReads; (repeat' split) <;> simp [h0]

@[simp] theorem pkeReads_power (s : State) (mine : Nat → Bool) (desc operands : Dma) (f : Bytes → Dma → State) (h0 : ∀ b d, (f b d).power = s.power) :
    (pkeReads s mine desc operands f).power = s.power := by
  unfold pkeReads; (repeat' split) <;> simp [h0]

@[simp] theorem pkeReads_fault (s : State) (mine : Nat → Bool) (desc operands : Dma) (f : Bytes → Dma → State) (h0 : ∀ b d, (f b d).fault = s.fault) :
    (pkeReads s mine desc operands f).fault = s.fault := by
  unfold pkeReads; (repeat' split) <;> simp [h0]

@[simp] theorem pkeReads_cxl_up (s : State) (mine : Nat → Bool) (desc operands : Dma) (f : Bytes → Dma → State) (h0 : ∀ b d, (f b d).cxl.up = s.cxl.up) :
    (pkeReads s mine desc operands f).cxl.up = s.cxl.up := by
  unfold pkeReads; (repeat' split) <;> simp [h0]

@[simp] theorem pkeReads_cxl_tsp (s : State) (mine : Nat → Bool) (desc operands : Dma) (f : Bytes → Dma → State) (h0 : ∀ b d, (f b d).cxl.tsp = s.cxl.tsp) :
    (pkeReads s mine desc operands f).cxl.tsp = s.cxl.tsp := by
  unfold pkeReads; (repeat' split) <;> simp [h0]

@[simp] theorem pkeReads_cxl_rings (s : State) (mine : Nat → Bool) (desc operands : Dma) (f : Bytes → Dma → State) (h0 : ∀ b d, (f b d).cxl.rings = s.cxl.rings) :
    (pkeReads s mine desc operands f).cxl.rings = s.cxl.rings := by
  unfold pkeReads; (repeat' split) <;> simp [h0]

@[simp] theorem pkeRun_keeps (s : State) (op : Nat) (desc operands : Dma) (f : Nat → Curve → Bytes → Pke) :
    (pkeRun s op desc operands f).pending = s.pending ∧ (pkeRun s op desc operands f).free = s.free ∧ (pkeRun s op desc operands f).out = s.out ∧ (pkeRun s op desc operands f).pins = s.pins ∧ (pkeRun s op desc operands f).boot = s.boot ∧ (pkeRun s op desc operands f).clock = s.clock ∧ (pkeRun s op desc operands f).plan = s.plan ∧ (pkeRun s op desc operands f).roll = s.roll ∧ (pkeRun s op desc operands f).changes = s.changes ∧ (pkeRun s op desc operands f).hall = s.hall ∧ (pkeRun s op desc operands f).gal = s.gal ∧ (pkeRun s op desc operands f).galx = s.galx ∧ (pkeRun s op desc operands f).dram = s.dram ∧ (pkeRun s op desc operands f).net = s.net ∧ (pkeRun s op desc operands f).cxl = s.cxl ∧ (pkeRun s op desc operands f).hal = s.hal ∧ (pkeRun s op desc operands f).power = s.power ∧ (pkeRun s op desc operands f).fault = s.fault := by exact ⟨by unfold pkeRun; refine pkeReads_pending _ _ _ _ _ (fun b d => ?_); (try simp only []); (repeat' split) <;> simp, by unfold pkeRun; refine pkeReads_free _ _ _ _ _ (fun b d => ?_); (try simp only []); (repeat' split) <;> simp, by unfold pkeRun; refine pkeReads_out _ _ _ _ _ (fun b d => ?_); (try simp only []); (repeat' split) <;> simp, by unfold pkeRun; refine pkeReads_pins _ _ _ _ _ (fun b d => ?_); (try simp only []); (repeat' split) <;> simp, by unfold pkeRun; refine pkeReads_boot _ _ _ _ _ (fun b d => ?_); (try simp only []); (repeat' split) <;> simp, by unfold pkeRun; refine pkeReads_clock _ _ _ _ _ (fun b d => ?_); (try simp only []); (repeat' split) <;> simp, by unfold pkeRun; refine pkeReads_plan _ _ _ _ _ (fun b d => ?_); (try simp only []); (repeat' split) <;> simp, by unfold pkeRun; refine pkeReads_roll _ _ _ _ _ (fun b d => ?_); (try simp only []); (repeat' split) <;> simp, by unfold pkeRun; refine pkeReads_changes _ _ _ _ _ (fun b d => ?_); (try simp only []); (repeat' split) <;> simp, by unfold pkeRun; refine pkeReads_hall _ _ _ _ _ (fun b d => ?_); (try simp only []); (repeat' split) <;> simp, by unfold pkeRun; refine pkeReads_gal _ _ _ _ _ (fun b d => ?_); (try simp only []); (repeat' split) <;> simp, by unfold pkeRun; refine pkeReads_galx _ _ _ _ _ (fun b d => ?_); (try simp only []); (repeat' split) <;> simp, by unfold pkeRun; refine pkeReads_dram _ _ _ _ _ (fun b d => ?_); (try simp only []); (repeat' split) <;> simp, by unfold pkeRun; refine pkeReads_net _ _ _ _ _ (fun b d => ?_); (try simp only []); (repeat' split) <;> simp, by unfold pkeRun; refine pkeReads_cxl _ _ _ _ _ (fun b d => ?_); (try simp only []); (repeat' split) <;> simp, by unfold pkeRun; refine pkeReads_hal _ _ _ _ _ (fun b d => ?_); (try simp only []); (repeat' split) <;> simp, by unfold pkeRun; refine pkeReads_power _ _ _ _ _ (fun b d => ?_); (try simp only []); (repeat' split) <;> simp, by unfold pkeRun; refine pkeReads_fault _ _ _ _ _ (fun b d => ?_); (try simp only []); (repeat' split) <;> simp⟩

@[simp] theorem loadCurve_keeps (s : State) (desc operands : Dma) :
    (loadCurve s desc operands).pending = s.pending ∧ (loadCurve s desc operands).free = s.free ∧ (loadCurve s desc operands).out = s.out ∧ (loadCurve s desc operands).pins = s.pins ∧ (loadCurve s desc operands).boot = s.boot ∧ (loadCurve s desc operands).clock = s.clock ∧ (loadCurve s desc operands).plan = s.plan ∧ (loadCurve s desc operands).roll = s.roll ∧ (loadCurve s desc operands).changes = s.changes ∧ (loadCurve s desc operands).hall = s.hall ∧ (loadCurve s desc operands).gal = s.gal ∧ (loadCurve s desc operands).galx = s.galx ∧ (loadCurve s desc operands).dram = s.dram ∧ (loadCurve s desc operands).net = s.net ∧ (loadCurve s desc operands).cxl = s.cxl ∧ (loadCurve s desc operands).hal = s.hal ∧ (loadCurve s desc operands).power = s.power ∧ (loadCurve s desc operands).fault = s.fault := by exact ⟨by unfold loadCurve; refine pkeReads_pending _ _ _ _ _ (fun b d => ?_); (try simp only []); (repeat' split) <;> simp, by unfold loadCurve; refine pkeReads_free _ _ _ _ _ (fun b d => ?_); (try simp only []); (repeat' split) <;> simp, by unfold loadCurve; refine pkeReads_out _ _ _ _ _ (fun b d => ?_); (try simp only []); (repeat' split) <;> simp, by unfold loadCurve; refine pkeReads_pins _ _ _ _ _ (fun b d => ?_); (try simp only []); (repeat' split) <;> simp, by unfold loadCurve; refine pkeReads_boot _ _ _ _ _ (fun b d => ?_); (try simp only []); (repeat' split) <;> simp, by unfold loadCurve; refine pkeReads_clock _ _ _ _ _ (fun b d => ?_); (try simp only []); (repeat' split) <;> simp, by unfold loadCurve; refine pkeReads_plan _ _ _ _ _ (fun b d => ?_); (try simp only []); (repeat' split) <;> simp, by unfold loadCurve; refine pkeReads_roll _ _ _ _ _ (fun b d => ?_); (try simp only []); (repeat' split) <;> simp, by unfold loadCurve; refine pkeReads_changes _ _ _ _ _ (fun b d => ?_); (try simp only []); (repeat' split) <;> simp, by unfold loadCurve; refine pkeReads_hall _ _ _ _ _ (fun b d => ?_); (try simp only []); (repeat' split) <;> simp, by unfold loadCurve; refine pkeReads_gal _ _ _ _ _ (fun b d => ?_); (try simp only []); (repeat' split) <;> simp, by unfold loadCurve; refine pkeReads_galx _ _ _ _ _ (fun b d => ?_); (try simp only []); (repeat' split) <;> simp, by unfold loadCurve; refine pkeReads_dram _ _ _ _ _ (fun b d => ?_); (try simp only []); (repeat' split) <;> simp, by unfold loadCurve; refine pkeReads_net _ _ _ _ _ (fun b d => ?_); (try simp only []); (repeat' split) <;> simp, by unfold loadCurve; refine pkeReads_cxl _ _ _ _ _ (fun b d => ?_); (try simp only []); (repeat' split) <;> simp, by unfold loadCurve; refine pkeReads_hal _ _ _ _ _ (fun b d => ?_); (try simp only []); (repeat' split) <;> simp, by unfold loadCurve; refine pkeReads_power _ _ _ _ _ (fun b d => ?_); (try simp only []); (repeat' split) <;> simp, by unfold loadCurve; refine pkeReads_fault _ _ _ _ _ (fun b d => ?_); (try simp only []); (repeat' split) <;> simp⟩

@[simp] theorem pkeSubmit_keeps (s : State) (hi : W32) :
    (pkeSubmit s hi).pending = s.pending ∧ (pkeSubmit s hi).free = s.free ∧ (pkeSubmit s hi).out = s.out ∧ (pkeSubmit s hi).pins = s.pins ∧ (pkeSubmit s hi).boot = s.boot ∧ (pkeSubmit s hi).clock = s.clock ∧ (pkeSubmit s hi).plan = s.plan ∧ (pkeSubmit s hi).roll = s.roll ∧ (pkeSubmit s hi).changes = s.changes ∧ (pkeSubmit s hi).hall = s.hall ∧ (pkeSubmit s hi).gal = s.gal ∧ (pkeSubmit s hi).galx = s.galx ∧ (pkeSubmit s hi).dram = s.dram ∧ (pkeSubmit s hi).net = s.net ∧ (pkeSubmit s hi).cxl = s.cxl ∧ (pkeSubmit s hi).hal = s.hal ∧ (pkeSubmit s hi).lamp.fuses = s.lamp.fuses ∧ (pkeSubmit s hi).power = s.power ∧ (pkeSubmit s hi).fault = s.fault := by simp [pkeSubmit]

@[simp] theorem pkeCount_keeps (s : State) (st : Nat) :
    (pkeCount s st).pending = s.pending ∧ (pkeCount s st).free = s.free ∧ (pkeCount s st).out = s.out ∧ (pkeCount s st).pins = s.pins ∧ (pkeCount s st).boot = s.boot ∧ (pkeCount s st).clock = s.clock ∧ (pkeCount s st).plan = s.plan ∧ (pkeCount s st).roll = s.roll ∧ (pkeCount s st).changes = s.changes ∧ (pkeCount s st).hall = s.hall ∧ (pkeCount s st).gal = s.gal ∧ (pkeCount s st).galx = s.galx ∧ (pkeCount s st).dram = s.dram ∧ (pkeCount s st).net = s.net ∧ (pkeCount s st).cxl = s.cxl ∧ (pkeCount s st).hal = s.hal ∧ (pkeCount s st).lamp.fuses = s.lamp.fuses ∧ (pkeCount s st).power = s.power ∧ (pkeCount s st).fault = s.fault := by simp [pkeCount]

@[simp] theorem pkeComplete_keeps (s : State) :
    (pkeComplete s).pending = s.pending ∧ (pkeComplete s).free = s.free ∧ (pkeComplete s).pins = s.pins ∧ (pkeComplete s).boot = s.boot ∧ (pkeComplete s).clock = s.clock ∧ (pkeComplete s).plan = s.plan ∧ (pkeComplete s).roll = s.roll ∧ (pkeComplete s).changes = s.changes ∧ (pkeComplete s).hall = s.hall ∧ (pkeComplete s).gal = s.gal ∧ (pkeComplete s).galx = s.galx ∧ (pkeComplete s).net = s.net ∧ (pkeComplete s).hal = s.hal ∧ (pkeComplete s).lamp.fuses = s.lamp.fuses ∧ (pkeComplete s).power = s.power ∧ (pkeComplete s).fault = s.fault := by unfold pkeComplete; (repeat' split) <;> simp

@[simp] theorem pkeDoneRead_keeps (s : State) :
    (pkeDoneRead s).pending = s.pending ∧ (pkeDoneRead s).free = s.free ∧ (pkeDoneRead s).pins = s.pins ∧ (pkeDoneRead s).boot = s.boot ∧ (pkeDoneRead s).clock = s.clock ∧ (pkeDoneRead s).plan = s.plan ∧ (pkeDoneRead s).roll = s.roll ∧ (pkeDoneRead s).changes = s.changes ∧ (pkeDoneRead s).hall = s.hall ∧ (pkeDoneRead s).gal = s.gal ∧ (pkeDoneRead s).galx = s.galx ∧ (pkeDoneRead s).dram = s.dram ∧ (pkeDoneRead s).net = s.net ∧ (pkeDoneRead s).cxl = s.cxl ∧ (pkeDoneRead s).hal = s.hal ∧ (pkeDoneRead s).lamp.fuses = s.lamp.fuses ∧ (pkeDoneRead s).power = s.power ∧ (pkeDoneRead s).fault = s.fault := by unfold pkeDoneRead; (repeat' split) <;> simp

@[simp] theorem mapAck_keeps (s : State) :
    (mapAck s).pending = s.pending ∧ (mapAck s).free = s.free ∧ (mapAck s).pins = s.pins ∧ (mapAck s).boot = s.boot ∧ (mapAck s).clock = s.clock ∧ (mapAck s).plan = s.plan ∧ (mapAck s).roll = s.roll ∧ (mapAck s).changes = s.changes ∧ (mapAck s).hall = s.hall ∧ (mapAck s).gal = s.gal ∧ (mapAck s).dram.mem = s.dram.mem ∧ (mapAck s).cxl = s.cxl ∧ (mapAck s).hal.dict = s.hal.dict ∧ (mapAck s).hal.serving = s.hal.serving ∧ (mapAck s).lamp = s.lamp ∧ (mapAck s).power = s.power ∧ (mapAck s).fault = s.fault := by unfold mapAck; (repeat' split) <;> simp

@[simp] theorem walk_keeps (s : State) (g asid va : Nat) :
    (walk s g asid va).pending = s.pending ∧ (walk s g asid va).free = s.free ∧ (walk s g asid va).out = s.out ∧ (walk s g asid va).pins = s.pins ∧ (walk s g asid va).boot = s.boot ∧ (walk s g asid va).clock = s.clock ∧ (walk s g asid va).plan = s.plan ∧ (walk s g asid va).roll = s.roll ∧ (walk s g asid va).changes = s.changes ∧ (walk s g asid va).hall = s.hall ∧ (walk s g asid va).gal = s.gal ∧ (walk s g asid va).dram = s.dram ∧ (walk s g asid va).net = s.net ∧ (walk s g asid va).cxl = s.cxl ∧ (walk s g asid va).hal = s.hal ∧ (walk s g asid va).lamp = s.lamp ∧ (walk s g asid va).power = s.power ∧ (walk s g asid va).fault = s.fault := by unfold walk; (repeat' split) <;> simp

@[simp] theorem setRing_keeps (s : State) (r st err : Nat) :
    (setRing s r st err).pending = s.pending ∧ (setRing s r st err).free = s.free ∧ (setRing s r st err).pins = s.pins ∧ (setRing s r st err).boot = s.boot ∧ (setRing s r st err).clock = s.clock ∧ (setRing s r st err).plan = s.plan ∧ (setRing s r st err).roll = s.roll ∧ (setRing s r st err).changes = s.changes ∧ (setRing s r st err).hall = s.hall ∧ (setRing s r st err).gal = s.gal ∧ (setRing s r st err).galx = s.galx ∧ (setRing s r st err).dram = s.dram ∧ (setRing s r st err).net = s.net ∧ (setRing s r st err).hal = s.hal ∧ (setRing s r st err).lamp = s.lamp ∧ (setRing s r st err).power = s.power ∧ (setRing s r st err).fault = s.fault := by simp [setRing]

@[simp] theorem startRing_keeps (s : State) (r : Nat) :
    (startRing s r).pending = s.pending ∧ (startRing s r).free = s.free ∧ (startRing s r).pins = s.pins ∧ (startRing s r).boot = s.boot ∧ (startRing s r).clock = s.clock ∧ (startRing s r).plan = s.plan ∧ (startRing s r).roll = s.roll ∧ (startRing s r).changes = s.changes ∧ (startRing s r).hall = s.hall ∧ (startRing s r).gal = s.gal ∧ (startRing s r).galx = s.galx ∧ (startRing s r).dram = s.dram ∧ (startRing s r).net = s.net ∧ (startRing s r).hal = s.hal ∧ (startRing s r).lamp = s.lamp ∧ (startRing s r).power = s.power ∧ (startRing s r).fault = s.fault := by simp [startRing]

@[simp] theorem wakeDeep_keeps (s : State) (h : Nat) :
    (wakeDeep s h).pending = s.pending ∧ (wakeDeep s h).free = s.free ∧ (wakeDeep s h).out = s.out ∧ (wakeDeep s h).pins = s.pins ∧ (wakeDeep s h).boot = s.boot ∧ (wakeDeep s h).clock = s.clock ∧ (wakeDeep s h).plan = s.plan ∧ (wakeDeep s h).roll = s.roll ∧ (wakeDeep s h).changes = s.changes ∧ (wakeDeep s h).gal = s.gal ∧ (wakeDeep s h).galx = s.galx ∧ (wakeDeep s h).dram = s.dram ∧ (wakeDeep s h).net = s.net ∧ (wakeDeep s h).cxl = s.cxl ∧ (wakeDeep s h).hal = s.hal ∧ (wakeDeep s h).lamp = s.lamp ∧ (wakeDeep s h).power = s.power ∧ (wakeDeep s h).fault = s.fault := by simp [wakeDeep]

@[simp] theorem doorbell_keeps (s : State) (r : Nat) (tail : W32) :
    (doorbell s r tail).pending = s.pending ∧ (doorbell s r tail).free = s.free ∧ (doorbell s r tail).pins = s.pins ∧ (doorbell s r tail).boot = s.boot ∧ (doorbell s r tail).clock = s.clock ∧ (doorbell s r tail).plan = s.plan ∧ (doorbell s r tail).roll = s.roll ∧ (doorbell s r tail).changes = s.changes ∧ (doorbell s r tail).gal = s.gal ∧ (doorbell s r tail).galx = s.galx ∧ (doorbell s r tail).dram = s.dram ∧ (doorbell s r tail).net = s.net ∧ (doorbell s r tail).hal = s.hal ∧ (doorbell s r tail).lamp = s.lamp ∧ (doorbell s r tail).power = s.power ∧ (doorbell s r tail).fault = s.fault := by simp [doorbell]

@[simp] theorem rebindHall_keeps (s : State) (h sid : Nat) (e : Option SessEntry) :
    (rebindHall s h sid e).pending = s.pending ∧ (rebindHall s h sid e).free = s.free ∧ (rebindHall s h sid e).pins = s.pins ∧ (rebindHall s h sid e).clock = s.clock ∧ (rebindHall s h sid e).plan = s.plan ∧ (rebindHall s h sid e).changes = s.changes ∧ (rebindHall s h sid e).gal = s.gal ∧ (rebindHall s h sid e).galx = s.galx ∧ (rebindHall s h sid e).dram = s.dram ∧ (rebindHall s h sid e).net = s.net ∧ (rebindHall s h sid e).hal = s.hal ∧ (rebindHall s h sid e).lamp.fuses = s.lamp.fuses ∧ (rebindHall s h sid e).power = s.power := by simp [rebindHall]

@[simp] theorem sessionAck_keeps (s : State) (sid : Nat) :
    (sessionAck s sid).pending = s.pending ∧ (sessionAck s sid).free = s.free ∧ (sessionAck s sid).pins = s.pins ∧ (sessionAck s sid).clock = s.clock ∧ (sessionAck s sid).plan = s.plan ∧ (sessionAck s sid).gal = s.gal ∧ (sessionAck s sid).galx = s.galx ∧ (sessionAck s sid).net = s.net ∧ (sessionAck s sid).hal.dict = s.hal.dict ∧ (sessionAck s sid).hal.serving = s.hal.serving ∧ (sessionAck s sid).lamp.fuses = s.lamp.fuses ∧ (sessionAck s sid).power = s.power := by unfold sessionAck; (repeat' split) <;> simp

@[simp] theorem readRecords_keeps (s : State) :
    (readRecords s).2.pending = s.pending ∧ (readRecords s).2.free = s.free ∧ (readRecords s).2.out = s.out ∧ (readRecords s).2.pins = s.pins ∧ (readRecords s).2.boot = s.boot ∧ (readRecords s).2.clock = s.clock ∧ (readRecords s).2.plan = s.plan ∧ (readRecords s).2.roll = s.roll ∧ (readRecords s).2.changes = s.changes ∧ (readRecords s).2.hall = s.hall ∧ (readRecords s).2.gal = s.gal ∧ (readRecords s).2.galx = s.galx ∧ (readRecords s).2.dram = s.dram ∧ (readRecords s).2.net = s.net ∧ (readRecords s).2.cxl = s.cxl ∧ (readRecords s).2.hal.serving = s.hal.serving ∧ (readRecords s).2.hal.sess = s.hal.sess ∧ (readRecords s).2.lamp = s.lamp ∧ (readRecords s).2.power = s.power ∧ (readRecords s).2.fault = s.fault := by simp only [readRecords]; (repeat' split) <;> simp

@[simp] theorem dropFrame_keeps (s : State) (p : Port) :
    (dropFrame s p).pending = s.pending ∧ (dropFrame s p).free = s.free ∧ (dropFrame s p).pins = s.pins ∧ (dropFrame s p).boot = s.boot ∧ (dropFrame s p).clock = s.clock ∧ (dropFrame s p).plan = s.plan ∧ (dropFrame s p).roll = s.roll ∧ (dropFrame s p).changes = s.changes ∧ (dropFrame s p).hall = s.hall ∧ (dropFrame s p).gal = s.gal ∧ (dropFrame s p).galx = s.galx ∧ (dropFrame s p).dram = s.dram ∧ (dropFrame s p).net = s.net ∧ (dropFrame s p).cxl = s.cxl ∧ (dropFrame s p).hal.dict = s.hal.dict ∧ (dropFrame s p).hal.serving = s.hal.serving ∧ (dropFrame s p).hal.sess = s.hal.sess ∧ (dropFrame s p).lamp = s.lamp ∧ (dropFrame s p).power = s.power ∧ (dropFrame s p).fault = s.fault := by unfold dropFrame; (repeat' split) <;> simp

@[simp] theorem takeFrame_keeps (s : State) (p : Port) :
    (takeFrame s p).pending = s.pending ∧ (takeFrame s p).free = s.free ∧ (takeFrame s p).out = s.out ∧ (takeFrame s p).pins = s.pins ∧ (takeFrame s p).boot = s.boot ∧ (takeFrame s p).clock = s.clock ∧ (takeFrame s p).plan = s.plan ∧ (takeFrame s p).roll = s.roll ∧ (takeFrame s p).changes = s.changes ∧ (takeFrame s p).hall = s.hall ∧ (takeFrame s p).gal = s.gal ∧ (takeFrame s p).galx = s.galx ∧ (takeFrame s p).dram = s.dram ∧ (takeFrame s p).net = s.net ∧ (takeFrame s p).cxl = s.cxl ∧ (takeFrame s p).hal.dict = s.hal.dict ∧ (takeFrame s p).hal.serving = s.hal.serving ∧ (takeFrame s p).hal.sess = s.hal.sess ∧ (takeFrame s p).lamp = s.lamp ∧ (takeFrame s p).power = s.power ∧ (takeFrame s p).fault = s.fault := by unfold takeFrame; (repeat' split) <;> simp

@[simp] theorem arrive_pending (s : State) (p : Port) (ty : Nat) (f : Bytes) (k : State → State) (h0 : ∀ u, (k u).pending = u.pending) :
    (arrive s p ty f k).pending = s.pending := by unfold arrive; (repeat' split) <;> simp [h0]

@[simp] theorem arrive_free (s : State) (p : Port) (ty : Nat) (f : Bytes) (k : State → State) (h0 : ∀ u, (k u).free = u.free) :
    (arrive s p ty f k).free = s.free := by unfold arrive; (repeat' split) <;> simp [h0]

@[simp] theorem arrive_pins (s : State) (p : Port) (ty : Nat) (f : Bytes) (k : State → State) (h0 : ∀ u, (k u).pins = u.pins) :
    (arrive s p ty f k).pins = s.pins := by unfold arrive; (repeat' split) <;> simp [h0]

@[simp] theorem arrive_boot (s : State) (p : Port) (ty : Nat) (f : Bytes) (k : State → State) (h0 : ∀ u, (k u).boot = u.boot) :
    (arrive s p ty f k).boot = s.boot := by unfold arrive; (repeat' split) <;> simp [h0]

@[simp] theorem arrive_clock (s : State) (p : Port) (ty : Nat) (f : Bytes) (k : State → State) (h0 : ∀ u, (k u).clock = u.clock) :
    (arrive s p ty f k).clock = s.clock := by unfold arrive; (repeat' split) <;> simp [h0]

@[simp] theorem arrive_plan (s : State) (p : Port) (ty : Nat) (f : Bytes) (k : State → State) (h0 : ∀ u, (k u).plan = u.plan) :
    (arrive s p ty f k).plan = s.plan := by unfold arrive; (repeat' split) <;> simp [h0]

@[simp] theorem arrive_roll (s : State) (p : Port) (ty : Nat) (f : Bytes) (k : State → State) (h0 : ∀ u, (k u).roll = u.roll) :
    (arrive s p ty f k).roll = s.roll := by unfold arrive; (repeat' split) <;> simp [h0]

@[simp] theorem arrive_changes (s : State) (p : Port) (ty : Nat) (f : Bytes) (k : State → State) (h0 : ∀ u, (k u).changes = u.changes) :
    (arrive s p ty f k).changes = s.changes := by unfold arrive; (repeat' split) <;> simp [h0]

@[simp] theorem arrive_hall (s : State) (p : Port) (ty : Nat) (f : Bytes) (k : State → State) (h0 : ∀ u, (k u).hall = u.hall) :
    (arrive s p ty f k).hall = s.hall := by unfold arrive; (repeat' split) <;> simp [h0]

@[simp] theorem arrive_gal (s : State) (p : Port) (ty : Nat) (f : Bytes) (k : State → State) (h0 : ∀ u, (k u).gal = u.gal) :
    (arrive s p ty f k).gal = s.gal := by unfold arrive; (repeat' split) <;> simp [h0]

@[simp] theorem arrive_galx (s : State) (p : Port) (ty : Nat) (f : Bytes) (k : State → State) (h0 : ∀ u, (k u).galx = u.galx) :
    (arrive s p ty f k).galx = s.galx := by unfold arrive; (repeat' split) <;> simp [h0]

@[simp] theorem arrive_dram (s : State) (p : Port) (ty : Nat) (f : Bytes) (k : State → State) (h0 : ∀ u, (k u).dram = u.dram) :
    (arrive s p ty f k).dram = s.dram := by unfold arrive; (repeat' split) <;> simp [h0]

@[simp] theorem arrive_dram_spaces (s : State) (p : Port) (ty : Nat) (f : Bytes) (k : State → State) (h0 : ∀ u, (k u).dram.spaces = u.dram.spaces) :
    (arrive s p ty f k).dram.spaces = s.dram.spaces := by unfold arrive; (repeat' split) <;> simp [h0]

@[simp] theorem arrive_dram_psets (s : State) (p : Port) (ty : Nat) (f : Bytes) (k : State → State) (h0 : ∀ u, (k u).dram.psets = u.dram.psets) :
    (arrive s p ty f k).dram.psets = s.dram.psets := by unfold arrive; (repeat' split) <;> simp [h0]

@[simp] theorem arrive_dram_ksets (s : State) (p : Port) (ty : Nat) (f : Bytes) (k : State → State) (h0 : ∀ u, (k u).dram.ksets = u.dram.ksets) :
    (arrive s p ty f k).dram.ksets = s.dram.ksets := by unfold arrive; (repeat' split) <;> simp [h0]

@[simp] theorem arrive_net (s : State) (p : Port) (ty : Nat) (f : Bytes) (k : State → State) (h0 : ∀ u, (k u).net = u.net) :
    (arrive s p ty f k).net = s.net := by unfold arrive; (repeat' split) <;> simp [h0]

@[simp] theorem arrive_cxl (s : State) (p : Port) (ty : Nat) (f : Bytes) (k : State → State) (h0 : ∀ u, (k u).cxl = u.cxl) :
    (arrive s p ty f k).cxl = s.cxl := by unfold arrive; (repeat' split) <;> simp [h0]

@[simp] theorem arrive_cxl_up (s : State) (p : Port) (ty : Nat) (f : Bytes) (k : State → State) (h0 : ∀ u, (k u).cxl.up = u.cxl.up) :
    (arrive s p ty f k).cxl.up = s.cxl.up := by unfold arrive; (repeat' split) <;> simp [h0]

@[simp] theorem arrive_cxl_tsp (s : State) (p : Port) (ty : Nat) (f : Bytes) (k : State → State) (h0 : ∀ u, (k u).cxl.tsp = u.cxl.tsp) :
    (arrive s p ty f k).cxl.tsp = s.cxl.tsp := by unfold arrive; (repeat' split) <;> simp [h0]

@[simp] theorem arrive_cxl_rings (s : State) (p : Port) (ty : Nat) (f : Bytes) (k : State → State) (h0 : ∀ u, (k u).cxl.rings = u.cxl.rings) :
    (arrive s p ty f k).cxl.rings = s.cxl.rings := by unfold arrive; (repeat' split) <;> simp [h0]

@[simp] theorem arrive_lamp (s : State) (p : Port) (ty : Nat) (f : Bytes) (k : State → State) (h0 : ∀ u, (k u).lamp = u.lamp) :
    (arrive s p ty f k).lamp = s.lamp := by unfold arrive; (repeat' split) <;> simp [h0]

@[simp] theorem arrive_power (s : State) (p : Port) (ty : Nat) (f : Bytes) (k : State → State) (h0 : ∀ u, (k u).power = u.power) :
    (arrive s p ty f k).power = s.power := by unfold arrive; (repeat' split) <;> simp [h0]

@[simp] theorem arrive_fault (s : State) (p : Port) (ty : Nat) (f : Bytes) (k : State → State) (h0 : ∀ u, (k u).fault = u.fault) :
    (arrive s p ty f k).fault = s.fault := by unfold arrive; (repeat' split) <;> simp [h0]

@[simp] theorem arrive_boot_stage (s : State) (p : Port) (ty : Nat) (f : Bytes) (k : State → State) (h0 : ∀ u, (k u).boot.stage = u.boot.stage) :
    (arrive s p ty f k).boot.stage = s.boot.stage := by unfold arrive; (repeat' split) <;> simp [h0]

@[simp] theorem arrive_clock_now (s : State) (p : Port) (ty : Nat) (f : Bytes) (k : State → State) (h0 : ∀ u, (k u).clock.now = u.clock.now) :
    (arrive s p ty f k).clock.now = s.clock.now := by unfold arrive; (repeat' split) <;> simp [h0]

@[simp] theorem arrive_dram_mem (s : State) (p : Port) (ty : Nat) (f : Bytes) (k : State → State) (h0 : ∀ u, (k u).dram.mem = u.dram.mem) :
    (arrive s p ty f k).dram.mem = s.dram.mem := by unfold arrive; (repeat' split) <;> simp [h0]

@[simp] theorem arrive_hal_dict (s : State) (p : Port) (ty : Nat) (f : Bytes) (k : State → State) (h0 : ∀ u, (k u).hal.dict = u.hal.dict) :
    (arrive s p ty f k).hal.dict = s.hal.dict := by unfold arrive; (repeat' split) <;> simp [h0]

@[simp] theorem arrive_hal_serving (s : State) (p : Port) (ty : Nat) (f : Bytes) (k : State → State) (h0 : ∀ u, (k u).hal.serving = u.hal.serving) :
    (arrive s p ty f k).hal.serving = s.hal.serving := by unfold arrive; (repeat' split) <;> simp [h0]

@[simp] theorem arrive_hal_sess (s : State) (p : Port) (ty : Nat) (f : Bytes) (k : State → State) (h0 : ∀ u, (k u).hal.sess = u.hal.sess) :
    (arrive s p ty f k).hal.sess = s.hal.sess := by unfold arrive; (repeat' split) <;> simp [h0]

@[simp] theorem arrive_lamp_fuses (s : State) (p : Port) (ty : Nat) (f : Bytes) (k : State → State) (h0 : ∀ u, (k u).lamp.fuses = u.lamp.fuses) :
    (arrive s p ty f k).lamp.fuses = s.lamp.fuses := by unfold arrive; (repeat' split) <;> simp [h0]

@[simp] theorem plainReply_keeps (s : State) (p : Port) (f : Bytes) (st : Nat) :
    (plainReply s p f st).pending = s.pending ∧ (plainReply s p f st).free = s.free ∧ (plainReply s p f st).pins = s.pins ∧ (plainReply s p f st).boot = s.boot ∧ (plainReply s p f st).clock = s.clock ∧ (plainReply s p f st).plan = s.plan ∧ (plainReply s p f st).roll = s.roll ∧ (plainReply s p f st).changes = s.changes ∧ (plainReply s p f st).hall = s.hall ∧ (plainReply s p f st).gal = s.gal ∧ (plainReply s p f st).galx = s.galx ∧ (plainReply s p f st).dram = s.dram ∧ (plainReply s p f st).net = s.net ∧ (plainReply s p f st).cxl = s.cxl ∧ (plainReply s p f st).hal.dict = s.hal.dict ∧ (plainReply s p f st).hal.serving = s.hal.serving ∧ (plainReply s p f st).hal.sess = s.hal.sess ∧ (plainReply s p f st).lamp = s.lamp ∧ (plainReply s p f st).power = s.power ∧ (plainReply s p f st).fault = s.fault := by simp [plainReply]

@[simp] theorem inSession_pending (s : State) (p : Port) (f : Bytes) (k : State → HSess → State) (h0 : ∀ u y, (k u y).pending = u.pending) :
    (inSession s p f k).pending = s.pending := by
  unfold inSession
  dsimp only
  cases liveSess s { port := p, sess := fld f 4 4 } with
  | none => simp
  | some y => cases p <;> dsimp only <;> (repeat' split) <;> simp [h0]

@[simp] theorem inSession_free (s : State) (p : Port) (f : Bytes) (k : State → HSess → State) (h0 : ∀ u y, (k u y).free = u.free) :
    (inSession s p f k).free = s.free := by
  unfold inSession
  dsimp only
  cases liveSess s { port := p, sess := fld f 4 4 } with
  | none => simp
  | some y => cases p <;> dsimp only <;> (repeat' split) <;> simp [h0]

@[simp] theorem inSession_pins (s : State) (p : Port) (f : Bytes) (k : State → HSess → State) (h0 : ∀ u y, (k u y).pins = u.pins) :
    (inSession s p f k).pins = s.pins := by
  unfold inSession
  dsimp only
  cases liveSess s { port := p, sess := fld f 4 4 } with
  | none => simp
  | some y => cases p <;> dsimp only <;> (repeat' split) <;> simp [h0]

@[simp] theorem inSession_boot (s : State) (p : Port) (f : Bytes) (k : State → HSess → State) (h0 : ∀ u y, (k u y).boot = u.boot) :
    (inSession s p f k).boot = s.boot := by
  unfold inSession
  dsimp only
  cases liveSess s { port := p, sess := fld f 4 4 } with
  | none => simp
  | some y => cases p <;> dsimp only <;> (repeat' split) <;> simp [h0]

@[simp] theorem inSession_clock (s : State) (p : Port) (f : Bytes) (k : State → HSess → State) (h0 : ∀ u y, (k u y).clock = u.clock) :
    (inSession s p f k).clock = s.clock := by
  unfold inSession
  dsimp only
  cases liveSess s { port := p, sess := fld f 4 4 } with
  | none => simp
  | some y => cases p <;> dsimp only <;> (repeat' split) <;> simp [h0]

@[simp] theorem inSession_plan (s : State) (p : Port) (f : Bytes) (k : State → HSess → State) (h0 : ∀ u y, (k u y).plan = u.plan) :
    (inSession s p f k).plan = s.plan := by
  unfold inSession
  dsimp only
  cases liveSess s { port := p, sess := fld f 4 4 } with
  | none => simp
  | some y => cases p <;> dsimp only <;> (repeat' split) <;> simp [h0]

@[simp] theorem inSession_roll (s : State) (p : Port) (f : Bytes) (k : State → HSess → State) (h0 : ∀ u y, (k u y).roll = u.roll) :
    (inSession s p f k).roll = s.roll := by
  unfold inSession
  dsimp only
  cases liveSess s { port := p, sess := fld f 4 4 } with
  | none => simp
  | some y => cases p <;> dsimp only <;> (repeat' split) <;> simp [h0]

@[simp] theorem inSession_changes (s : State) (p : Port) (f : Bytes) (k : State → HSess → State) (h0 : ∀ u y, (k u y).changes = u.changes) :
    (inSession s p f k).changes = s.changes := by
  unfold inSession
  dsimp only
  cases liveSess s { port := p, sess := fld f 4 4 } with
  | none => simp
  | some y => cases p <;> dsimp only <;> (repeat' split) <;> simp [h0]

@[simp] theorem inSession_hall (s : State) (p : Port) (f : Bytes) (k : State → HSess → State) (h0 : ∀ u y, (k u y).hall = u.hall) :
    (inSession s p f k).hall = s.hall := by
  unfold inSession
  dsimp only
  cases liveSess s { port := p, sess := fld f 4 4 } with
  | none => simp
  | some y => cases p <;> dsimp only <;> (repeat' split) <;> simp [h0]

@[simp] theorem inSession_gal (s : State) (p : Port) (f : Bytes) (k : State → HSess → State) (h0 : ∀ u y, (k u y).gal = u.gal) :
    (inSession s p f k).gal = s.gal := by
  unfold inSession
  dsimp only
  cases liveSess s { port := p, sess := fld f 4 4 } with
  | none => simp
  | some y => cases p <;> dsimp only <;> (repeat' split) <;> simp [h0]

@[simp] theorem inSession_galx (s : State) (p : Port) (f : Bytes) (k : State → HSess → State) (h0 : ∀ u y, (k u y).galx = u.galx) :
    (inSession s p f k).galx = s.galx := by
  unfold inSession
  dsimp only
  cases liveSess s { port := p, sess := fld f 4 4 } with
  | none => simp
  | some y => cases p <;> dsimp only <;> (repeat' split) <;> simp [h0]

@[simp] theorem inSession_dram (s : State) (p : Port) (f : Bytes) (k : State → HSess → State) (h0 : ∀ u y, (k u y).dram = u.dram) :
    (inSession s p f k).dram = s.dram := by
  unfold inSession
  dsimp only
  cases liveSess s { port := p, sess := fld f 4 4 } with
  | none => simp
  | some y => cases p <;> dsimp only <;> (repeat' split) <;> simp [h0]

@[simp] theorem inSession_dram_spaces (s : State) (p : Port) (f : Bytes) (k : State → HSess → State) (h0 : ∀ u y, (k u y).dram.spaces = u.dram.spaces) :
    (inSession s p f k).dram.spaces = s.dram.spaces := by
  unfold inSession
  dsimp only
  cases liveSess s { port := p, sess := fld f 4 4 } with
  | none => simp
  | some y => cases p <;> dsimp only <;> (repeat' split) <;> simp [h0]

@[simp] theorem inSession_dram_psets (s : State) (p : Port) (f : Bytes) (k : State → HSess → State) (h0 : ∀ u y, (k u y).dram.psets = u.dram.psets) :
    (inSession s p f k).dram.psets = s.dram.psets := by
  unfold inSession
  dsimp only
  cases liveSess s { port := p, sess := fld f 4 4 } with
  | none => simp
  | some y => cases p <;> dsimp only <;> (repeat' split) <;> simp [h0]

@[simp] theorem inSession_dram_ksets (s : State) (p : Port) (f : Bytes) (k : State → HSess → State) (h0 : ∀ u y, (k u y).dram.ksets = u.dram.ksets) :
    (inSession s p f k).dram.ksets = s.dram.ksets := by
  unfold inSession
  dsimp only
  cases liveSess s { port := p, sess := fld f 4 4 } with
  | none => simp
  | some y => cases p <;> dsimp only <;> (repeat' split) <;> simp [h0]

@[simp] theorem inSession_net (s : State) (p : Port) (f : Bytes) (k : State → HSess → State) (h0 : ∀ u y, (k u y).net = u.net) :
    (inSession s p f k).net = s.net := by
  unfold inSession
  dsimp only
  cases liveSess s { port := p, sess := fld f 4 4 } with
  | none => simp
  | some y => cases p <;> dsimp only <;> (repeat' split) <;> simp [h0]

@[simp] theorem inSession_cxl (s : State) (p : Port) (f : Bytes) (k : State → HSess → State) (h0 : ∀ u y, (k u y).cxl = u.cxl) :
    (inSession s p f k).cxl = s.cxl := by
  unfold inSession
  dsimp only
  cases liveSess s { port := p, sess := fld f 4 4 } with
  | none => simp
  | some y => cases p <;> dsimp only <;> (repeat' split) <;> simp [h0]

@[simp] theorem inSession_cxl_up (s : State) (p : Port) (f : Bytes) (k : State → HSess → State) (h0 : ∀ u y, (k u y).cxl.up = u.cxl.up) :
    (inSession s p f k).cxl.up = s.cxl.up := by
  unfold inSession
  dsimp only
  cases liveSess s { port := p, sess := fld f 4 4 } with
  | none => simp
  | some y => cases p <;> dsimp only <;> (repeat' split) <;> simp [h0]

@[simp] theorem inSession_cxl_tsp (s : State) (p : Port) (f : Bytes) (k : State → HSess → State) (h0 : ∀ u y, (k u y).cxl.tsp = u.cxl.tsp) :
    (inSession s p f k).cxl.tsp = s.cxl.tsp := by
  unfold inSession
  dsimp only
  cases liveSess s { port := p, sess := fld f 4 4 } with
  | none => simp
  | some y => cases p <;> dsimp only <;> (repeat' split) <;> simp [h0]

@[simp] theorem inSession_cxl_rings (s : State) (p : Port) (f : Bytes) (k : State → HSess → State) (h0 : ∀ u y, (k u y).cxl.rings = u.cxl.rings) :
    (inSession s p f k).cxl.rings = s.cxl.rings := by
  unfold inSession
  dsimp only
  cases liveSess s { port := p, sess := fld f 4 4 } with
  | none => simp
  | some y => cases p <;> dsimp only <;> (repeat' split) <;> simp [h0]

@[simp] theorem inSession_lamp (s : State) (p : Port) (f : Bytes) (k : State → HSess → State) (h0 : ∀ u y, (k u y).lamp = u.lamp) :
    (inSession s p f k).lamp = s.lamp := by
  unfold inSession
  dsimp only
  cases liveSess s { port := p, sess := fld f 4 4 } with
  | none => simp
  | some y => cases p <;> dsimp only <;> (repeat' split) <;> simp [h0]

@[simp] theorem inSession_power (s : State) (p : Port) (f : Bytes) (k : State → HSess → State) (h0 : ∀ u y, (k u y).power = u.power) :
    (inSession s p f k).power = s.power := by
  unfold inSession
  dsimp only
  cases liveSess s { port := p, sess := fld f 4 4 } with
  | none => simp
  | some y => cases p <;> dsimp only <;> (repeat' split) <;> simp [h0]

@[simp] theorem inSession_fault (s : State) (p : Port) (f : Bytes) (k : State → HSess → State) (h0 : ∀ u y, (k u y).fault = u.fault) :
    (inSession s p f k).fault = s.fault := by
  unfold inSession
  dsimp only
  cases liveSess s { port := p, sess := fld f 4 4 } with
  | none => simp
  | some y => cases p <;> dsimp only <;> (repeat' split) <;> simp [h0]

@[simp] theorem inSession_boot_stage (s : State) (p : Port) (f : Bytes) (k : State → HSess → State) (h0 : ∀ u y, (k u y).boot.stage = u.boot.stage) :
    (inSession s p f k).boot.stage = s.boot.stage := by
  unfold inSession
  dsimp only
  cases liveSess s { port := p, sess := fld f 4 4 } with
  | none => simp
  | some y => cases p <;> dsimp only <;> (repeat' split) <;> simp [h0]

@[simp] theorem inSession_clock_now (s : State) (p : Port) (f : Bytes) (k : State → HSess → State) (h0 : ∀ u y, (k u y).clock.now = u.clock.now) :
    (inSession s p f k).clock.now = s.clock.now := by
  unfold inSession
  dsimp only
  cases liveSess s { port := p, sess := fld f 4 4 } with
  | none => simp
  | some y => cases p <;> dsimp only <;> (repeat' split) <;> simp [h0]

@[simp] theorem inSession_dram_mem (s : State) (p : Port) (f : Bytes) (k : State → HSess → State) (h0 : ∀ u y, (k u y).dram.mem = u.dram.mem) :
    (inSession s p f k).dram.mem = s.dram.mem := by
  unfold inSession
  dsimp only
  cases liveSess s { port := p, sess := fld f 4 4 } with
  | none => simp
  | some y => cases p <;> dsimp only <;> (repeat' split) <;> simp [h0]

@[simp] theorem inSession_hal_dict (s : State) (p : Port) (f : Bytes) (k : State → HSess → State) (h0 : ∀ u y, (k u y).hal.dict = u.hal.dict) :
    (inSession s p f k).hal.dict = s.hal.dict := by
  unfold inSession
  dsimp only
  cases liveSess s { port := p, sess := fld f 4 4 } with
  | none => simp
  | some y => cases p <;> dsimp only <;> (repeat' split) <;> simp [h0]

@[simp] theorem inSession_hal_serving (s : State) (p : Port) (f : Bytes) (k : State → HSess → State) (h0 : ∀ u y, (k u y).hal.serving = u.hal.serving) :
    (inSession s p f k).hal.serving = s.hal.serving := by
  unfold inSession
  dsimp only
  cases liveSess s { port := p, sess := fld f 4 4 } with
  | none => simp
  | some y => cases p <;> dsimp only <;> (repeat' split) <;> simp [h0]

@[simp] theorem inSession_lamp_fuses (s : State) (p : Port) (f : Bytes) (k : State → HSess → State) (h0 : ∀ u y, (k u y).lamp.fuses = u.lamp.fuses) :
    (inSession s p f k).lamp.fuses = s.lamp.fuses := by
  unfold inSession
  dsimp only
  cases liveSess s { port := p, sess := fld f 4 4 } with
  | none => simp
  | some y => cases p <;> dsimp only <;> (repeat' split) <;> simp [h0]

@[simp] theorem discoverReply_keeps (s : State) :
    (discoverReply s).pending = s.pending ∧ (discoverReply s).free = s.free ∧ (discoverReply s).pins = s.pins ∧ (discoverReply s).boot = s.boot ∧ (discoverReply s).clock = s.clock ∧ (discoverReply s).plan = s.plan ∧ (discoverReply s).roll = s.roll ∧ (discoverReply s).changes = s.changes ∧ (discoverReply s).hall = s.hall ∧ (discoverReply s).gal = s.gal ∧ (discoverReply s).galx = s.galx ∧ (discoverReply s).dram = s.dram ∧ (discoverReply s).net = s.net ∧ (discoverReply s).cxl = s.cxl ∧ (discoverReply s).hal.dict = s.hal.dict ∧ (discoverReply s).hal.serving = s.hal.serving ∧ (discoverReply s).hal.sess = s.hal.sess ∧ (discoverReply s).lamp = s.lamp ∧ (discoverReply s).power = s.power ∧ (discoverReply s).fault = s.fault := by unfold discoverReply; (repeat' split) <;> simp

@[simp] theorem icmp_keeps (s : State) (m : Icmp) :
    (icmp s m).pending = s.pending ∧ (icmp s m).free = s.free ∧ (icmp s m).pins = s.pins ∧ (icmp s m).boot = s.boot ∧ (icmp s m).clock = s.clock ∧ (icmp s m).plan = s.plan ∧ (icmp s m).roll = s.roll ∧ (icmp s m).changes = s.changes ∧ (icmp s m).hall = s.hall ∧ (icmp s m).gal = s.gal ∧ (icmp s m).galx = s.galx ∧ (icmp s m).dram = s.dram ∧ (icmp s m).net = s.net ∧ (icmp s m).cxl = s.cxl ∧ (icmp s m).hal.dict = s.hal.dict ∧ (icmp s m).hal.serving = s.hal.serving ∧ (icmp s m).hal.sess = s.hal.sess ∧ (icmp s m).lamp = s.lamp ∧ (icmp s m).power = s.power ∧ (icmp s m).fault = s.fault := by unfold icmp; (repeat' split) <;> simp

@[simp] theorem openOne_keeps (s : State) (p : Port) (f : Bytes) :
    (openOne s p f).pending = s.pending ∧ (openOne s p f).pins = s.pins ∧ (openOne s p f).boot = s.boot ∧ (openOne s p f).clock = s.clock ∧ (openOne s p f).plan = s.plan ∧ (openOne s p f).roll = s.roll ∧ (openOne s p f).changes = s.changes ∧ (openOne s p f).hall = s.hall ∧ (openOne s p f).gal = s.gal ∧ (openOne s p f).galx = s.galx ∧ (openOne s p f).dram = s.dram ∧ (openOne s p f).net = s.net ∧ (openOne s p f).cxl = s.cxl ∧ (openOne s p f).hal.dict = s.hal.dict ∧ (openOne s p f).hal.serving = s.hal.serving ∧ (openOne s p f).hal.sess = s.hal.sess ∧ (openOne s p f).lamp = s.lamp ∧ (openOne s p f).power = s.power ∧ (openOne s p f).fault = s.fault := by simp only [openOne]; (repeat' split) <;> simp

@[simp] theorem openThree_keeps (s : State) (p : Port) (f : Bytes) :
    (openThree s p f).pending = s.pending ∧ (openThree s p f).free = s.free ∧ (openThree s p f).pins = s.pins ∧ (openThree s p f).boot = s.boot ∧ (openThree s p f).clock = s.clock ∧ (openThree s p f).plan = s.plan ∧ (openThree s p f).roll = s.roll ∧ (openThree s p f).changes = s.changes ∧ (openThree s p f).hall = s.hall ∧ (openThree s p f).gal = s.gal ∧ (openThree s p f).galx = s.galx ∧ (openThree s p f).dram = s.dram ∧ (openThree s p f).net = s.net ∧ (openThree s p f).cxl = s.cxl ∧ (openThree s p f).hal.dict = s.hal.dict ∧ (openThree s p f).hal.serving = s.hal.serving ∧ (openThree s p f).lamp = s.lamp ∧ (openThree s p f).power = s.power ∧ (openThree s p f).fault = s.fault := by unfold openThree; (repeat' split) <;> simp

@[simp] theorem closeFrame_keeps (s : State) (p : Port) (f : Bytes) :
    (closeFrame s p f).pending = s.pending ∧ (closeFrame s p f).free = s.free ∧ (closeFrame s p f).pins = s.pins ∧ (closeFrame s p f).boot = s.boot ∧ (closeFrame s p f).clock = s.clock ∧ (closeFrame s p f).plan = s.plan ∧ (closeFrame s p f).roll = s.roll ∧ (closeFrame s p f).changes = s.changes ∧ (closeFrame s p f).hall = s.hall ∧ (closeFrame s p f).gal = s.gal ∧ (closeFrame s p f).galx = s.galx ∧ (closeFrame s p f).dram = s.dram ∧ (closeFrame s p f).net = s.net ∧ (closeFrame s p f).cxl = s.cxl ∧ (closeFrame s p f).hal.dict = s.hal.dict ∧ (closeFrame s p f).hal.serving = s.hal.serving ∧ (closeFrame s p f).lamp = s.lamp ∧ (closeFrame s p f).power = s.power ∧ (closeFrame s p f).fault = s.fault := by simp [closeFrame]

@[simp] theorem idleTimeout_keeps (s : State) (sid : Nat) :
    (idleTimeout s sid).pending = s.pending ∧ (idleTimeout s sid).free = s.free ∧ (idleTimeout s sid).out = s.out ∧ (idleTimeout s sid).pins = s.pins ∧ (idleTimeout s sid).boot = s.boot ∧ (idleTimeout s sid).clock = s.clock ∧ (idleTimeout s sid).plan = s.plan ∧ (idleTimeout s sid).roll = s.roll ∧ (idleTimeout s sid).changes = s.changes ∧ (idleTimeout s sid).hall = s.hall ∧ (idleTimeout s sid).gal = s.gal ∧ (idleTimeout s sid).galx = s.galx ∧ (idleTimeout s sid).dram = s.dram ∧ (idleTimeout s sid).net = s.net ∧ (idleTimeout s sid).cxl = s.cxl ∧ (idleTimeout s sid).hal.dict = s.hal.dict ∧ (idleTimeout s sid).hal.serving = s.hal.serving ∧ (idleTimeout s sid).lamp = s.lamp ∧ (idleTimeout s sid).power = s.power ∧ (idleTimeout s sid).fault = s.fault := by unfold idleTimeout; (repeat' split) <;> simp

@[simp] theorem sendServed_keeps (s : State) (q : Req) (key f : Bytes) (r : Served) :
    (sendServed s q key f r).pending = s.pending ∧ (sendServed s q key f r).free = s.free ∧ (sendServed s q key f r).pins = s.pins ∧ (sendServed s q key f r).boot = s.boot ∧ (sendServed s q key f r).clock = s.clock ∧ (sendServed s q key f r).plan = s.plan ∧ (sendServed s q key f r).roll = s.roll ∧ (sendServed s q key f r).changes = s.changes ∧ (sendServed s q key f r).hall = s.hall ∧ (sendServed s q key f r).gal = s.gal ∧ (sendServed s q key f r).galx = s.galx ∧ (sendServed s q key f r).dram = s.dram ∧ (sendServed s q key f r).net = s.net ∧ (sendServed s q key f r).cxl = s.cxl ∧ (sendServed s q key f r).hal.dict = s.hal.dict ∧ (sendServed s q key f r).hal.serving = s.hal.serving ∧ (sendServed s q key f r).lamp = s.lamp ∧ (sendServed s q key f r).power = s.power ∧ (sendServed s q key f r).fault = s.fault := by simp [sendServed]

@[simp] theorem setAnonSnap_keeps (s : State) (p : Port) (x : Option (Nat × Bytes)) :
    (setAnonSnap s p x).pending = s.pending ∧ (setAnonSnap s p x).free = s.free ∧ (setAnonSnap s p x).out = s.out ∧ (setAnonSnap s p x).pins = s.pins ∧ (setAnonSnap s p x).boot = s.boot ∧ (setAnonSnap s p x).clock = s.clock ∧ (setAnonSnap s p x).plan = s.plan ∧ (setAnonSnap s p x).roll = s.roll ∧ (setAnonSnap s p x).changes = s.changes ∧ (setAnonSnap s p x).hall = s.hall ∧ (setAnonSnap s p x).gal = s.gal ∧ (setAnonSnap s p x).galx = s.galx ∧ (setAnonSnap s p x).dram = s.dram ∧ (setAnonSnap s p x).net = s.net ∧ (setAnonSnap s p x).cxl = s.cxl ∧ (setAnonSnap s p x).hal.dict = s.hal.dict ∧ (setAnonSnap s p x).hal.serving = s.hal.serving ∧ (setAnonSnap s p x).hal.sess = s.hal.sess ∧ (setAnonSnap s p x).lamp = s.lamp ∧ (setAnonSnap s p x).power = s.power ∧ (setAnonSnap s p x).fault = s.fault := by simp [setAnonSnap]

@[simp] theorem admitItem_keeps (s : State) (h r n : Nat) (b : Bytes) (e : SessEntry) :
    (admitItem s h r n b e).pending = s.pending ∧ (admitItem s h r n b e).free = s.free ∧ (admitItem s h r n b e).pins = s.pins ∧ (admitItem s h r n b e).clock = s.clock ∧ (admitItem s h r n b e).plan = s.plan ∧ (admitItem s h r n b e).roll = s.roll ∧ (admitItem s h r n b e).changes = s.changes ∧ (admitItem s h r n b e).gal = s.gal ∧ (admitItem s h r n b e).galx = s.galx ∧ (admitItem s h r n b e).dram = s.dram ∧ (admitItem s h r n b e).net = s.net ∧ (admitItem s h r n b e).hal = s.hal ∧ (admitItem s h r n b e).lamp.fuses = s.lamp.fuses ∧ (admitItem s h r n b e).power = s.power := by unfold admitItem; (repeat' split) <;> simp

@[simp] theorem judge_keeps (s : State) (h r n : Nat) (b : Bytes) (e : SessEntry) :
    (judge s h r n b e).pending = s.pending ∧ (judge s h r n b e).free = s.free ∧ (judge s h r n b e).pins = s.pins ∧ (judge s h r n b e).clock = s.clock ∧ (judge s h r n b e).plan = s.plan ∧ (judge s h r n b e).roll = s.roll ∧ (judge s h r n b e).changes = s.changes ∧ (judge s h r n b e).gal = s.gal ∧ (judge s h r n b e).galx = s.galx ∧ (judge s h r n b e).dram = s.dram ∧ (judge s h r n b e).net = s.net ∧ (judge s h r n b e).hal = s.hal ∧ (judge s h r n b e).lamp.fuses = s.lamp.fuses ∧ (judge s h r n b e).power = s.power := by simp [judge]

@[simp] theorem cacheUse_keeps (s : State) (h sid : Nat) (e : SessEntry) :
    (cacheUse s h sid e).pending = s.pending ∧ (cacheUse s h sid e).free = s.free ∧ (cacheUse s h sid e).out = s.out ∧ (cacheUse s h sid e).pins = s.pins ∧ (cacheUse s h sid e).boot = s.boot ∧ (cacheUse s h sid e).clock = s.clock ∧ (cacheUse s h sid e).plan = s.plan ∧ (cacheUse s h sid e).roll = s.roll ∧ (cacheUse s h sid e).changes = s.changes ∧ (cacheUse s h sid e).gal = s.gal ∧ (cacheUse s h sid e).galx = s.galx ∧ (cacheUse s h sid e).dram = s.dram ∧ (cacheUse s h sid e).net = s.net ∧ (cacheUse s h sid e).cxl = s.cxl ∧ (cacheUse s h sid e).hal = s.hal ∧ (cacheUse s h sid e).lamp = s.lamp ∧ (cacheUse s h sid e).power = s.power ∧ (cacheUse s h sid e).fault = s.fault := by simp [cacheUse]

@[simp] theorem itemAdmit_keeps (s : State) (r : Nat) :
    (itemAdmit s r).pending = s.pending ∧ (itemAdmit s r).free = s.free ∧ (itemAdmit s r).pins = s.pins ∧ (itemAdmit s r).clock = s.clock ∧ (itemAdmit s r).plan = s.plan ∧ (itemAdmit s r).roll = s.roll ∧ (itemAdmit s r).changes = s.changes ∧ (itemAdmit s r).gal = s.gal ∧ (itemAdmit s r).galx = s.galx ∧ (itemAdmit s r).dram = s.dram ∧ (itemAdmit s r).net = s.net ∧ (itemAdmit s r).hal = s.hal ∧ (itemAdmit s r).lamp.fuses = s.lamp.fuses ∧ (itemAdmit s r).power = s.power := by simp only [itemAdmit]; (repeat' split) <;> simp

@[simp] theorem cacheFill_keeps (s : State) (h sid : Nat) :
    (cacheFill s h sid).pending = s.pending ∧ (cacheFill s h sid).free = s.free ∧ (cacheFill s h sid).pins = s.pins ∧ (cacheFill s h sid).clock = s.clock ∧ (cacheFill s h sid).plan = s.plan ∧ (cacheFill s h sid).roll = s.roll ∧ (cacheFill s h sid).changes = s.changes ∧ (cacheFill s h sid).gal = s.gal ∧ (cacheFill s h sid).galx = s.galx ∧ (cacheFill s h sid).dram = s.dram ∧ (cacheFill s h sid).net = s.net ∧ (cacheFill s h sid).hal = s.hal ∧ (cacheFill s h sid).lamp.fuses = s.lamp.fuses ∧ (cacheFill s h sid).power = s.power := by simp only [cacheFill]; (repeat' split) <;> simp (disch := (first | (intro u a; (repeat' split) <;> simp; done) | (rintro ⟨u, b⟩ a; dsimp only; (repeat' split) <;> simp; done) | (intro u w t o n e; (try dsimp only at e); (repeat' split at e) <;> (cases e; try simp); done) | (intro u a b; (repeat' split) <;> simp; done) | (intro u a b e; (try dsimp only at e); (repeat' split at e) <;> (cases e; try simp); done) | (intro u a e; (try dsimp only at e); (repeat' split at e) <;> (cases e; try simp); done)))

@[simp] theorem noGalleryTimeout_keeps (s : State) (h r idx : Nat) :
    (noGalleryTimeout s h r idx).pending = s.pending ∧ (noGalleryTimeout s h r idx).free = s.free ∧ (noGalleryTimeout s h r idx).pins = s.pins ∧ (noGalleryTimeout s h r idx).clock = s.clock ∧ (noGalleryTimeout s h r idx).plan = s.plan ∧ (noGalleryTimeout s h r idx).changes = s.changes ∧ (noGalleryTimeout s h r idx).gal = s.gal ∧ (noGalleryTimeout s h r idx).galx = s.galx ∧ (noGalleryTimeout s h r idx).dram = s.dram ∧ (noGalleryTimeout s h r idx).net = s.net ∧ (noGalleryTimeout s h r idx).hal = s.hal ∧ (noGalleryTimeout s h r idx).lamp.fuses = s.lamp.fuses ∧ (noGalleryTimeout s h r idx).power = s.power := by unfold noGalleryTimeout; (repeat' split) <;> simp

@[simp] theorem changePartition_keeps (s : State) (g part : Nat) :
    (changePartition s g part).pending = s.pending ∧ (changePartition s g part).free = s.free ∧ (changePartition s g part).out = s.out ∧ (changePartition s g part).pins = s.pins ∧ (changePartition s g part).boot = s.boot ∧ (changePartition s g part).clock = s.clock ∧ (changePartition s g part).plan = s.plan ∧ (changePartition s g part).roll = s.roll ∧ (changePartition s g part).changes = s.changes ∧ (changePartition s g part).hall = s.hall ∧ (changePartition s g part).galx = s.galx ∧ (changePartition s g part).dram = s.dram ∧ (changePartition s g part).net = s.net ∧ (changePartition s g part).cxl = s.cxl ∧ (changePartition s g part).hal = s.hal ∧ (changePartition s g part).lamp = s.lamp ∧ (changePartition s g part).power = s.power ∧ (changePartition s g part).fault = s.fault := by unfold changePartition; (repeat' split) <;> simp

@[simp] theorem startTask_keeps (s : State) (g : Nat) (it : Item) :
    (startTask s g it).pending = s.pending ∧ (startTask s g it).pins = s.pins ∧ (startTask s g it).clock = s.clock ∧ (startTask s g it).plan = s.plan ∧ (startTask s g it).changes = s.changes ∧ (startTask s g it).net = s.net ∧ (startTask s g it).power = s.power ∧ (startTask s g it).hal.dict = s.hal.dict ∧ (startTask s g it).hal.serving = s.hal.serving ∧ (startTask s g it).hal.sess = s.hal.sess ∧ (startTask s g it).lamp.fuses = s.lamp.fuses := by unfold startTask; simp only []; (repeat' split) <;> simp

@[simp] theorem takeItem_keeps (s : State) (g : Nat) :
    (takeItem s g).pending = s.pending ∧ (takeItem s g).pins = s.pins ∧ (takeItem s g).clock = s.clock ∧ (takeItem s g).plan = s.plan ∧ (takeItem s g).changes = s.changes ∧ (takeItem s g).net = s.net ∧ (takeItem s g).power = s.power ∧ (takeItem s g).hal.dict = s.hal.dict ∧ (takeItem s g).hal.serving = s.hal.serving ∧ (takeItem s g).hal.sess = s.hal.sess ∧ (takeItem s g).lamp.fuses = s.lamp.fuses := by unfold takeItem; (repeat' split) <;> simp

@[simp] theorem batchExpiry_keeps (s : State) (h p fp : Nat) :
    (batchExpiry s h p fp).pending = s.pending ∧ (batchExpiry s h p fp).pins = s.pins ∧ (batchExpiry s h p fp).clock = s.clock ∧ (batchExpiry s h p fp).plan = s.plan ∧ (batchExpiry s h p fp).changes = s.changes ∧ (batchExpiry s h p fp).net = s.net ∧ (batchExpiry s h p fp).power = s.power ∧ (batchExpiry s h p fp).hal.dict = s.hal.dict ∧ (batchExpiry s h p fp).hal.serving = s.hal.serving ∧ (batchExpiry s h p fp).hal.sess = s.hal.sess ∧ (batchExpiry s h p fp).lamp.fuses = s.lamp.fuses := by simp [batchExpiry]

@[simp] theorem sendItem_keeps (s : State) (h r idx kind : Nat) :
    (sendItem s h r idx kind).pending = s.pending ∧ (sendItem s h r idx kind).pins = s.pins ∧ (sendItem s h r idx kind).clock = s.clock ∧ (sendItem s h r idx kind).plan = s.plan ∧ (sendItem s h r idx kind).changes = s.changes ∧ (sendItem s h r idx kind).gal = s.gal ∧ (sendItem s h r idx kind).galx = s.galx ∧ (sendItem s h r idx kind).dram = s.dram ∧ (sendItem s h r idx kind).hal = s.hal ∧ (sendItem s h r idx kind).lamp.fuses = s.lamp.fuses ∧ (sendItem s h r idx kind).power = s.power := by unfold sendItem; (repeat' split) <;> simp

@[simp] theorem moduleReply_keeps (s : State) (sid seq : Nat) (st handle : Nat) (hash : Bytes) :
    (moduleReply s sid seq st handle hash).pending = s.pending ∧ (moduleReply s sid seq st handle hash).free = s.free ∧ (moduleReply s sid seq st handle hash).pins = s.pins ∧ (moduleReply s sid seq st handle hash).boot = s.boot ∧ (moduleReply s sid seq st handle hash).clock = s.clock ∧ (moduleReply s sid seq st handle hash).plan = s.plan ∧ (moduleReply s sid seq st handle hash).roll = s.roll ∧ (moduleReply s sid seq st handle hash).changes = s.changes ∧ (moduleReply s sid seq st handle hash).hall = s.hall ∧ (moduleReply s sid seq st handle hash).gal = s.gal ∧ (moduleReply s sid seq st handle hash).galx = s.galx ∧ (moduleReply s sid seq st handle hash).dram = s.dram ∧ (moduleReply s sid seq st handle hash).net = s.net ∧ (moduleReply s sid seq st handle hash).cxl = s.cxl ∧ (moduleReply s sid seq st handle hash).hal.dict = s.hal.dict ∧ (moduleReply s sid seq st handle hash).hal.serving = s.hal.serving ∧ (moduleReply s sid seq st handle hash).lamp = s.lamp ∧ (moduleReply s sid seq st handle hash).power = s.power ∧ (moduleReply s sid seq st handle hash).fault = s.fault := by simp [moduleReply]

@[simp] theorem countBusy_keeps (s : State) (st : Nat) :
    (countBusy s st).pending = s.pending ∧ (countBusy s st).free = s.free ∧ (countBusy s st).out = s.out ∧ (countBusy s st).pins = s.pins ∧ (countBusy s st).boot = s.boot ∧ (countBusy s st).clock = s.clock ∧ (countBusy s st).plan = s.plan ∧ (countBusy s st).roll = s.roll ∧ (countBusy s st).changes = s.changes ∧ (countBusy s st).hall = s.hall ∧ (countBusy s st).gal = s.gal ∧ (countBusy s st).galx = s.galx ∧ (countBusy s st).dram = s.dram ∧ (countBusy s st).net = s.net ∧ (countBusy s st).cxl = s.cxl ∧ (countBusy s st).hal.dict = s.hal.dict ∧ (countBusy s st).hal.serving = s.hal.serving ∧ (countBusy s st).hal.sess = s.hal.sess ∧ (countBusy s st).lamp = s.lamp ∧ (countBusy s st).power = s.power ∧ (countBusy s st).fault = s.fault := by simp [countBusy]

@[simp] theorem dropPartCode_keeps (s : State) (part : Nat) :
    (dropPartCode s part).pending = s.pending ∧ (dropPartCode s part).free = s.free ∧ (dropPartCode s part).out = s.out ∧ (dropPartCode s part).pins = s.pins ∧ (dropPartCode s part).boot = s.boot ∧ (dropPartCode s part).clock = s.clock ∧ (dropPartCode s part).plan = s.plan ∧ (dropPartCode s part).roll = s.roll ∧ (dropPartCode s part).changes = s.changes ∧ (dropPartCode s part).hall = s.hall ∧ (dropPartCode s part).galx = s.galx ∧ (dropPartCode s part).dram = s.dram ∧ (dropPartCode s part).net = s.net ∧ (dropPartCode s part).cxl = s.cxl ∧ (dropPartCode s part).hal = s.hal ∧ (dropPartCode s part).lamp = s.lamp ∧ (dropPartCode s part).power = s.power ∧ (dropPartCode s part).fault = s.fault := by simp [dropPartCode]

@[simp] theorem translationDone_keeps (s : State) :
    (translationDone s).pending = s.pending ∧ (translationDone s).free = s.free ∧ (translationDone s).pins = s.pins ∧ (translationDone s).boot = s.boot ∧ (translationDone s).clock = s.clock ∧ (translationDone s).plan = s.plan ∧ (translationDone s).roll = s.roll ∧ (translationDone s).changes = s.changes ∧ (translationDone s).hall = s.hall ∧ (translationDone s).galx = s.galx ∧ (translationDone s).dram.mem = s.dram.mem ∧ (translationDone s).net = s.net ∧ (translationDone s).cxl = s.cxl ∧ (translationDone s).hal.dict = s.hal.dict ∧ (translationDone s).hal.serving = s.hal.serving ∧ (translationDone s).lamp = s.lamp ∧ (translationDone s).power = s.power ∧ (translationDone s).fault = s.fault := by unfold translationDone; (repeat' split) <;> simp

@[simp] theorem msixWrite_keeps (s : State) (k : Nat) (v : W32) :
    (msixWrite s k v).pending = s.pending ∧ (msixWrite s k v).free = s.free ∧ (msixWrite s k v).pins = s.pins ∧ (msixWrite s k v).boot = s.boot ∧ (msixWrite s k v).clock = s.clock ∧ (msixWrite s k v).plan = s.plan ∧ (msixWrite s k v).roll = s.roll ∧ (msixWrite s k v).changes = s.changes ∧ (msixWrite s k v).hall = s.hall ∧ (msixWrite s k v).gal = s.gal ∧ (msixWrite s k v).galx = s.galx ∧ (msixWrite s k v).dram = s.dram ∧ (msixWrite s k v).net = s.net ∧ (msixWrite s k v).hal = s.hal ∧ (msixWrite s k v).lamp = s.lamp ∧ (msixWrite s k v).power = s.power ∧ (msixWrite s k v).fault = s.fault ∧ (msixWrite s k v).cxl.up = s.cxl.up ∧ (msixWrite s k v).cxl.tsp = s.cxl.tsp ∧ (msixWrite s k v).cxl.rings = s.cxl.rings := by unfold msixWrite; simp only []; (repeat' split) <;> simp

@[simp] theorem countFec_keeps (s : State) (f corrected bad : Nat) :
    (countFec s f corrected bad).pending = s.pending ∧ (countFec s f corrected bad).free = s.free ∧ (countFec s f corrected bad).out = s.out ∧ (countFec s f corrected bad).pins = s.pins ∧ (countFec s f corrected bad).boot = s.boot ∧ (countFec s f corrected bad).clock = s.clock ∧ (countFec s f corrected bad).plan = s.plan ∧ (countFec s f corrected bad).roll = s.roll ∧ (countFec s f corrected bad).changes = s.changes ∧ (countFec s f corrected bad).hall = s.hall ∧ (countFec s f corrected bad).gal = s.gal ∧ (countFec s f corrected bad).galx = s.galx ∧ (countFec s f corrected bad).dram = s.dram ∧ (countFec s f corrected bad).cxl = s.cxl ∧ (countFec s f corrected bad).hal = s.hal ∧ (countFec s f corrected bad).lamp = s.lamp ∧ (countFec s f corrected bad).power = s.power ∧ (countFec s f corrected bad).fault = s.fault := by simp [countFec]

@[simp] theorem sBump_keeps (g l : Nat) (s : State) :
    (sBump g l s).pending = s.pending ∧ (sBump g l s).free = s.free ∧ (sBump g l s).out = s.out ∧ (sBump g l s).pins = s.pins ∧ (sBump g l s).boot = s.boot ∧ (sBump g l s).clock = s.clock ∧ (sBump g l s).plan = s.plan ∧ (sBump g l s).roll = s.roll ∧ (sBump g l s).changes = s.changes ∧ (sBump g l s).hall = s.hall ∧ (sBump g l s).galx = s.galx ∧ (sBump g l s).dram = s.dram ∧ (sBump g l s).net = s.net ∧ (sBump g l s).cxl = s.cxl ∧ (sBump g l s).hal = s.hal ∧ (sBump g l s).lamp = s.lamp ∧ (sBump g l s).power = s.power ∧ (sBump g l s).fault = s.fault := by simp [sBump]

@[simp] theorem sRecord_keeps (s : State) (g l st cls d0 d1 : Nat) :
    (sRecord s g l st cls d0 d1).pending = s.pending ∧ (sRecord s g l st cls d0 d1).free = s.free ∧ (sRecord s g l st cls d0 d1).pins = s.pins ∧ (sRecord s g l st cls d0 d1).clock = s.clock ∧ (sRecord s g l st cls d0 d1).plan = s.plan ∧ (sRecord s g l st cls d0 d1).roll = s.roll ∧ (sRecord s g l st cls d0 d1).changes = s.changes ∧ (sRecord s g l st cls d0 d1).galx = s.galx ∧ (sRecord s g l st cls d0 d1).dram = s.dram ∧ (sRecord s g l st cls d0 d1).net = s.net ∧ (sRecord s g l st cls d0 d1).hal = s.hal ∧ (sRecord s g l st cls d0 d1).lamp.fuses = s.lamp.fuses ∧ (sRecord s g l st cls d0 d1).power = s.power ∧ (sRecord s g l st cls d0 d1).cxl.up = s.cxl.up ∧ (sRecord s g l st cls d0 d1).cxl.tsp = s.cxl.tsp ∧ (sRecord s g l st cls d0 d1).cxl.rings = s.cxl.rings := by simp [sRecord]

@[simp] theorem sSkip_keeps (s : State) (g l : Nat) (d : Bytes) (e : Nat × Nat × Nat) :
    (sSkip s g l d e).pending = s.pending ∧ (sSkip s g l d e).free = s.free ∧ (sSkip s g l d e).pins = s.pins ∧ (sSkip s g l d e).clock = s.clock ∧ (sSkip s g l d e).plan = s.plan ∧ (sSkip s g l d e).roll = s.roll ∧ (sSkip s g l d e).changes = s.changes ∧ (sSkip s g l d e).galx = s.galx ∧ (sSkip s g l d e).dram = s.dram ∧ (sSkip s g l d e).net = s.net ∧ (sSkip s g l d e).hal = s.hal ∧ (sSkip s g l d e).lamp.fuses = s.lamp.fuses ∧ (sSkip s g l d e).power = s.power ∧ (sSkip s g l d e).cxl.up = s.cxl.up ∧ (sSkip s g l d e).cxl.tsp = s.cxl.tsp ∧ (sSkip s g l d e).cxl.rings = s.cxl.rings := by simp [sSkip]

@[simp] theorem barRelease_keeps (s : State) (g : Nat) (ps : List (Nat × Nat)) :
    (barRelease s g ps).pending = s.pending ∧ (barRelease s g ps).free = s.free ∧ (barRelease s g ps).out = s.out ∧ (barRelease s g ps).pins = s.pins ∧ (barRelease s g ps).boot = s.boot ∧ (barRelease s g ps).clock = s.clock ∧ (barRelease s g ps).plan = s.plan ∧ (barRelease s g ps).roll = s.roll ∧ (barRelease s g ps).changes = s.changes ∧ (barRelease s g ps).hall = s.hall ∧ (barRelease s g ps).galx = s.galx ∧ (barRelease s g ps).dram = s.dram ∧ (barRelease s g ps).net = s.net ∧ (barRelease s g ps).cxl = s.cxl ∧ (barRelease s g ps).hal = s.hal ∧ (barRelease s g ps).lamp = s.lamp ∧ (barRelease s g ps).power = s.power ∧ (barRelease s g ps).fault = s.fault := by simp [barRelease]

@[simp] theorem threadResume_keeps (s : State) (g l t : Nat) :
    (threadResume s g l t).pending = s.pending ∧ (threadResume s g l t).free = s.free ∧ (threadResume s g l t).out = s.out ∧ (threadResume s g l t).pins = s.pins ∧ (threadResume s g l t).boot = s.boot ∧ (threadResume s g l t).clock = s.clock ∧ (threadResume s g l t).plan = s.plan ∧ (threadResume s g l t).roll = s.roll ∧ (threadResume s g l t).changes = s.changes ∧ (threadResume s g l t).hall = s.hall ∧ (threadResume s g l t).galx = s.galx ∧ (threadResume s g l t).dram = s.dram ∧ (threadResume s g l t).net = s.net ∧ (threadResume s g l t).cxl = s.cxl ∧ (threadResume s g l t).hal = s.hal ∧ (threadResume s g l t).lamp = s.lamp ∧ (threadResume s g l t).power = s.power ∧ (threadResume s g l t).fault = s.fault := by unfold threadResume; (repeat' split) <;> simp

@[simp] theorem taskComplete_keeps (s : State) (g : Nat) :
    (taskComplete s g).pending = s.pending ∧ (taskComplete s g).pins = s.pins ∧ (taskComplete s g).clock = s.clock ∧ (taskComplete s g).plan = s.plan ∧ (taskComplete s g).changes = s.changes ∧ (taskComplete s g).net = s.net ∧ (taskComplete s g).hal.dict = s.hal.dict ∧ (taskComplete s g).hal.serving = s.hal.serving ∧ (taskComplete s g).hal.sess = s.hal.sess ∧ (taskComplete s g).lamp.fuses = s.lamp.fuses ∧ (taskComplete s g).power = s.power := by unfold taskComplete; (repeat' split) <;> simp

@[simp] theorem reportTaskFree_keeps (s : State) (p : Rep) :
    (reportTaskFree s p).pending = s.pending ∧ (reportTaskFree s p).pins = s.pins ∧ (reportTaskFree s p).clock = s.clock ∧ (reportTaskFree s p).plan = s.plan ∧ (reportTaskFree s p).roll = s.roll ∧ (reportTaskFree s p).changes = s.changes ∧ (reportTaskFree s p).galx = s.galx ∧ (reportTaskFree s p).dram = s.dram ∧ (reportTaskFree s p).net = s.net ∧ (reportTaskFree s p).hal = s.hal ∧ (reportTaskFree s p).lamp.fuses = s.lamp.fuses ∧ (reportTaskFree s p).power = s.power ∧ (reportTaskFree s p).cxl.up = s.cxl.up ∧ (reportTaskFree s p).cxl.tsp = s.cxl.tsp ∧ (reportTaskFree s p).cxl.rings = s.cxl.rings := by simp [reportTaskFree]

@[simp] theorem icacheFill_keeps (s : State) (g line : Nat) (poisoned : Bool) :
    (icacheFill s g line poisoned).pending = s.pending ∧ (icacheFill s g line poisoned).pins = s.pins ∧ (icacheFill s g line poisoned).clock = s.clock ∧ (icacheFill s g line poisoned).plan = s.plan ∧ (icacheFill s g line poisoned).changes = s.changes ∧ (icacheFill s g line poisoned).net = s.net ∧ (icacheFill s g line poisoned).hal.serving = s.hal.serving ∧ (icacheFill s g line poisoned).hal.sess = s.hal.sess ∧ (icacheFill s g line poisoned).lamp.fuses = s.lamp.fuses ∧ (icacheFill s g line poisoned).power = s.power := by unfold icacheFill; (repeat' split) <;> simp

@[simp] theorem icacheParity_keeps (s : State) (g l line : Nat) :
    (icacheParity s g l line).pending = s.pending ∧ (icacheParity s g l line).pins = s.pins ∧ (icacheParity s g l line).clock = s.clock ∧ (icacheParity s g l line).plan = s.plan ∧ (icacheParity s g l line).roll = s.roll ∧ (icacheParity s g l line).changes = s.changes ∧ (icacheParity s g l line).galx = s.galx ∧ (icacheParity s g l line).dram = s.dram ∧ (icacheParity s g l line).net = s.net ∧ (icacheParity s g l line).hal = s.hal ∧ (icacheParity s g l line).lamp.fuses = s.lamp.fuses ∧ (icacheParity s g l line).power = s.power ∧ (icacheParity s g l line).cxl.up = s.cxl.up ∧ (icacheParity s g l line).cxl.tsp = s.cxl.tsp ∧ (icacheParity s g l line).cxl.rings = s.cxl.rings := by unfold icacheParity; (repeat' split) <;> simp

@[simp] theorem censusAbort_keeps (s : State) (g : Nat) (ws : List Waiter) :
    (censusAbort s g ws).pending = s.pending ∧ (censusAbort s g ws).pins = s.pins ∧ (censusAbort s g ws).clock = s.clock ∧ (censusAbort s g ws).plan = s.plan ∧ (censusAbort s g ws).changes = s.changes ∧ (censusAbort s g ws).net = s.net ∧ (censusAbort s g ws).hal.dict = s.hal.dict ∧ (censusAbort s g ws).hal.serving = s.hal.serving ∧ (censusAbort s g ws).hal.sess = s.hal.sess ∧ (censusAbort s g ws).lamp.fuses = s.lamp.fuses ∧ (censusAbort s g ws).power = s.power := by simp [censusAbort]

@[simp] theorem census_keeps (s : State) (g : Nat) :
    (census s g).pending = s.pending ∧ (census s g).pins = s.pins ∧ (census s g).clock = s.clock ∧ (census s g).plan = s.plan ∧ (census s g).changes = s.changes ∧ (census s g).net = s.net ∧ (census s g).hal.dict = s.hal.dict ∧ (census s g).hal.serving = s.hal.serving ∧ (census s g).hal.sess = s.hal.sess ∧ (census s g).lamp.fuses = s.lamp.fuses ∧ (census s g).power = s.power := by simp [census]

@[simp] theorem intOp_keeps (op : Nat) (h : W64 → W64 → W64) (w : Site) (f : Fields) (s : State) :
    (intOp op h w f s).pending = s.pending ∧ (intOp op h w f s).pins = s.pins ∧ (intOp op h w f s).clock = s.clock ∧ (intOp op h w f s).plan = s.plan ∧ (intOp op h w f s).changes = s.changes ∧ (intOp op h w f s).net = s.net ∧ (intOp op h w f s).hal.serving = s.hal.serving ∧ (intOp op h w f s).hal.sess = s.hal.sess ∧ (intOp op h w f s).lamp.fuses = s.lamp.fuses ∧ (intOp op h w f s).power = s.power := by simp [intOp]

@[simp] theorem immOp_keeps (op : Nat) (h : W64 → W64 → W64) (w : Site) (f : Fields) (s : State) :
    (immOp op h w f s).pending = s.pending ∧ (immOp op h w f s).pins = s.pins ∧ (immOp op h w f s).clock = s.clock ∧ (immOp op h w f s).plan = s.plan ∧ (immOp op h w f s).changes = s.changes ∧ (immOp op h w f s).net = s.net ∧ (immOp op h w f s).hal.serving = s.hal.serving ∧ (immOp op h w f s).hal.sess = s.hal.sess ∧ (immOp op h w f s).lamp.fuses = s.lamp.fuses ∧ (immOp op h w f s).power = s.power := by simp [immOp]

@[simp] theorem fpOp_keeps (op : Nat) (h : W32 → W32 → W32) (w : Site) (f : Fields) (s : State) :
    (fpOp op h w f s).pending = s.pending ∧ (fpOp op h w f s).pins = s.pins ∧ (fpOp op h w f s).clock = s.clock ∧ (fpOp op h w f s).plan = s.plan ∧ (fpOp op h w f s).changes = s.changes ∧ (fpOp op h w f s).net = s.net ∧ (fpOp op h w f s).hal.serving = s.hal.serving ∧ (fpOp op h w f s).hal.sess = s.hal.sess ∧ (fpOp op h w f s).lamp.fuses = s.lamp.fuses ∧ (fpOp op h w f s).power = s.power := by simp [fpOp]

@[simp] theorem fpOp1_keeps (op : Nat) (h : W32 → W32) (w : Site) (f : Fields) (s : State) :
    (fpOp1 op h w f s).pending = s.pending ∧ (fpOp1 op h w f s).pins = s.pins ∧ (fpOp1 op h w f s).clock = s.clock ∧ (fpOp1 op h w f s).plan = s.plan ∧ (fpOp1 op h w f s).changes = s.changes ∧ (fpOp1 op h w f s).net = s.net ∧ (fpOp1 op h w f s).hal.serving = s.hal.serving ∧ (fpOp1 op h w f s).hal.sess = s.hal.sess ∧ (fpOp1 op h w f s).lamp.fuses = s.lamp.fuses ∧ (fpOp1 op h w f s).power = s.power := by simp [fpOp1]

@[simp] theorem fpCmp_keeps (op : Nat) (h : W32 → W32 → Bool) (w : Site) (f : Fields) (s : State) :
    (fpCmp op h w f s).pending = s.pending ∧ (fpCmp op h w f s).pins = s.pins ∧ (fpCmp op h w f s).clock = s.clock ∧ (fpCmp op h w f s).plan = s.plan ∧ (fpCmp op h w f s).changes = s.changes ∧ (fpCmp op h w f s).net = s.net ∧ (fpCmp op h w f s).hal.serving = s.hal.serving ∧ (fpCmp op h w f s).hal.sess = s.hal.sess ∧ (fpCmp op h w f s).lamp.fuses = s.lamp.fuses ∧ (fpCmp op h w f s).power = s.power := by simp [fpCmp]

@[simp] theorem sysOp_keeps (op : Nat) (h : State → W64) (w : Site) (f : Fields) (s : State) :
    (sysOp op h w f s).pending = s.pending ∧ (sysOp op h w f s).pins = s.pins ∧ (sysOp op h w f s).clock = s.clock ∧ (sysOp op h w f s).plan = s.plan ∧ (sysOp op h w f s).changes = s.changes ∧ (sysOp op h w f s).net = s.net ∧ (sysOp op h w f s).hal.serving = s.hal.serving ∧ (sysOp op h w f s).hal.sess = s.hal.sess ∧ (sysOp op h w f s).lamp.fuses = s.lamp.fuses ∧ (sysOp op h w f s).power = s.power := by simp [sysOp]

@[simp] theorem tagAfter_keeps (s : State) (m : Space1) (off : Nat) (u : TagUse) :
    (tagAfter s m off u).pending = s.pending ∧ (tagAfter s m off u).free = s.free ∧ (tagAfter s m off u).out = s.out ∧ (tagAfter s m off u).pins = s.pins ∧ (tagAfter s m off u).boot = s.boot ∧ (tagAfter s m off u).clock = s.clock ∧ (tagAfter s m off u).plan = s.plan ∧ (tagAfter s m off u).roll = s.roll ∧ (tagAfter s m off u).changes = s.changes ∧ (tagAfter s m off u).hall = s.hall ∧ (tagAfter s m off u).galx = s.galx ∧ (tagAfter s m off u).dram = s.dram ∧ (tagAfter s m off u).net = s.net ∧ (tagAfter s m off u).cxl = s.cxl ∧ (tagAfter s m off u).hal = s.hal ∧ (tagAfter s m off u).lamp = s.lamp ∧ (tagAfter s m off u).power = s.power ∧ (tagAfter s m off u).fault = s.fault := by unfold tagAfter; (repeat' split) <;> simp

@[simp] theorem windowStore_keeps (s : State) (w : Site) (a : Nat) (vals : List W32) :
    (windowStore s w a vals).pending = s.pending ∧ (windowStore s w a vals).free = s.free ∧ (windowStore s w a vals).out = s.out ∧ (windowStore s w a vals).pins = s.pins ∧ (windowStore s w a vals).boot = s.boot ∧ (windowStore s w a vals).clock = s.clock ∧ (windowStore s w a vals).plan = s.plan ∧ (windowStore s w a vals).roll = s.roll ∧ (windowStore s w a vals).changes = s.changes ∧ (windowStore s w a vals).hall = s.hall ∧ (windowStore s w a vals).galx = s.galx ∧ (windowStore s w a vals).dram = s.dram ∧ (windowStore s w a vals).net = s.net ∧ (windowStore s w a vals).cxl = s.cxl ∧ (windowStore s w a vals).hal = s.hal ∧ (windowStore s w a vals).lamp = s.lamp ∧ (windowStore s w a vals).power = s.power ∧ (windowStore s w a vals).fault = s.fault := by simp [windowStore]

@[simp] theorem vecOp_keeps (op : Nat) (h : W32 → W32 → W32) (w : Site) (f : Fields) (s : State) :
    (vecOp op h w f s).pending = s.pending ∧ (vecOp op h w f s).pins = s.pins ∧ (vecOp op h w f s).clock = s.clock ∧ (vecOp op h w f s).plan = s.plan ∧ (vecOp op h w f s).changes = s.changes ∧ (vecOp op h w f s).net = s.net ∧ (vecOp op h w f s).hal.serving = s.hal.serving ∧ (vecOp op h w f s).hal.sess = s.hal.sess ∧ (vecOp op h w f s).lamp.fuses = s.lamp.fuses ∧ (vecOp op h w f s).power = s.power := by simp [vecOp]

@[simp] theorem vecShift_keeps (op : Nat) (h : W32 → Nat → W32) (w : Site) (f : Fields) (s : State) :
    (vecShift op h w f s).pending = s.pending ∧ (vecShift op h w f s).pins = s.pins ∧ (vecShift op h w f s).clock = s.clock ∧ (vecShift op h w f s).plan = s.plan ∧ (vecShift op h w f s).changes = s.changes ∧ (vecShift op h w f s).net = s.net ∧ (vecShift op h w f s).hal.serving = s.hal.serving ∧ (vecShift op h w f s).hal.sess = s.hal.sess ∧ (vecShift op h w f s).lamp.fuses = s.lamp.fuses ∧ (vecShift op h w f s).power = s.power := by simp [vecShift]

@[simp] theorem after_pending (s : State) (r : Result) (h0 : ∀ t, r = .next t → t.pending = s.pending) :
    (after s r).pending = s.pending := by unfold after; split <;> simp [h0]

@[simp] theorem after_free (s : State) (r : Result) (h0 : ∀ t, r = .next t → t.free = s.free) :
    (after s r).free = s.free := by unfold after; split <;> simp [h0]

@[simp] theorem after_out (s : State) (r : Result) (h0 : ∀ t, r = .next t → t.out = s.out) :
    (after s r).out = s.out := by unfold after; split <;> simp [h0]

@[simp] theorem after_pins (s : State) (r : Result) (h0 : ∀ t, r = .next t → t.pins = s.pins) :
    (after s r).pins = s.pins := by unfold after; split <;> simp [h0]

@[simp] theorem after_boot (s : State) (r : Result) (h0 : ∀ t, r = .next t → t.boot = s.boot) :
    (after s r).boot = s.boot := by unfold after; split <;> simp [h0]

@[simp] theorem after_clock (s : State) (r : Result) (h0 : ∀ t, r = .next t → t.clock = s.clock) :
    (after s r).clock = s.clock := by unfold after; split <;> simp [h0]

@[simp] theorem after_plan (s : State) (r : Result) (h0 : ∀ t, r = .next t → t.plan = s.plan) :
    (after s r).plan = s.plan := by unfold after; split <;> simp [h0]

@[simp] theorem after_roll (s : State) (r : Result) (h0 : ∀ t, r = .next t → t.roll = s.roll) :
    (after s r).roll = s.roll := by unfold after; split <;> simp [h0]

@[simp] theorem after_changes (s : State) (r : Result) (h0 : ∀ t, r = .next t → t.changes = s.changes) :
    (after s r).changes = s.changes := by unfold after; split <;> simp [h0]

@[simp] theorem after_hall (s : State) (r : Result) (h0 : ∀ t, r = .next t → t.hall = s.hall) :
    (after s r).hall = s.hall := by unfold after; split <;> simp [h0]

@[simp] theorem after_gal (s : State) (r : Result) (h0 : ∀ t, r = .next t → t.gal = s.gal) :
    (after s r).gal = s.gal := by unfold after; split <;> simp [h0]

@[simp] theorem after_galx (s : State) (r : Result) (h0 : ∀ t, r = .next t → t.galx = s.galx) :
    (after s r).galx = s.galx := by unfold after; split <;> simp [h0]

@[simp] theorem after_dram (s : State) (r : Result) (h0 : ∀ t, r = .next t → t.dram = s.dram) :
    (after s r).dram = s.dram := by unfold after; split <;> simp [h0]

@[simp] theorem after_dram_spaces (s : State) (r : Result) (h0 : ∀ t, r = .next t → t.dram.spaces = s.dram.spaces) :
    (after s r).dram.spaces = s.dram.spaces := by unfold after; split <;> simp [h0]

@[simp] theorem after_dram_psets (s : State) (r : Result) (h0 : ∀ t, r = .next t → t.dram.psets = s.dram.psets) :
    (after s r).dram.psets = s.dram.psets := by unfold after; split <;> simp [h0]

@[simp] theorem after_dram_ksets (s : State) (r : Result) (h0 : ∀ t, r = .next t → t.dram.ksets = s.dram.ksets) :
    (after s r).dram.ksets = s.dram.ksets := by unfold after; split <;> simp [h0]

@[simp] theorem after_net (s : State) (r : Result) (h0 : ∀ t, r = .next t → t.net = s.net) :
    (after s r).net = s.net := by unfold after; split <;> simp [h0]

@[simp] theorem after_cxl (s : State) (r : Result) (h0 : ∀ t, r = .next t → t.cxl = s.cxl) :
    (after s r).cxl = s.cxl := by unfold after; split <;> simp [h0]

@[simp] theorem after_cxl_up (s : State) (r : Result) (h0 : ∀ t, r = .next t → t.cxl.up = s.cxl.up) :
    (after s r).cxl.up = s.cxl.up := by unfold after; split <;> simp [h0]

@[simp] theorem after_cxl_tsp (s : State) (r : Result) (h0 : ∀ t, r = .next t → t.cxl.tsp = s.cxl.tsp) :
    (after s r).cxl.tsp = s.cxl.tsp := by unfold after; split <;> simp [h0]

@[simp] theorem after_cxl_rings (s : State) (r : Result) (h0 : ∀ t, r = .next t → t.cxl.rings = s.cxl.rings) :
    (after s r).cxl.rings = s.cxl.rings := by unfold after; split <;> simp [h0]

@[simp] theorem after_hal (s : State) (r : Result) (h0 : ∀ t, r = .next t → t.hal = s.hal) :
    (after s r).hal = s.hal := by unfold after; split <;> simp [h0]

@[simp] theorem after_lamp (s : State) (r : Result) (h0 : ∀ t, r = .next t → t.lamp = s.lamp) :
    (after s r).lamp = s.lamp := by unfold after; split <;> simp [h0]

@[simp] theorem after_power (s : State) (r : Result) (h0 : ∀ t, r = .next t → t.power = s.power) :
    (after s r).power = s.power := by unfold after; split <;> simp [h0]

@[simp] theorem after_fault (s : State) (r : Result) (h0 : ∀ t, r = .next t → t.fault = s.fault) :
    (after s r).fault = s.fault := by unfold after; split <;> simp [h0]

@[simp] theorem after_boot_stage (s : State) (r : Result) (h0 : ∀ t, r = .next t → t.boot.stage = s.boot.stage) :
    (after s r).boot.stage = s.boot.stage := by unfold after; split <;> simp [h0]

@[simp] theorem after_clock_now (s : State) (r : Result) (h0 : ∀ t, r = .next t → t.clock.now = s.clock.now) :
    (after s r).clock.now = s.clock.now := by unfold after; split <;> simp [h0]

@[simp] theorem after_dram_mem (s : State) (r : Result) (h0 : ∀ t, r = .next t → t.dram.mem = s.dram.mem) :
    (after s r).dram.mem = s.dram.mem := by unfold after; split <;> simp [h0]

@[simp] theorem after_hal_dict (s : State) (r : Result) (h0 : ∀ t, r = .next t → t.hal.dict = s.hal.dict) :
    (after s r).hal.dict = s.hal.dict := by unfold after; split <;> simp [h0]

@[simp] theorem after_hal_serving (s : State) (r : Result) (h0 : ∀ t, r = .next t → t.hal.serving = s.hal.serving) :
    (after s r).hal.serving = s.hal.serving := by unfold after; split <;> simp [h0]

@[simp] theorem after_hal_sess (s : State) (r : Result) (h0 : ∀ t, r = .next t → t.hal.sess = s.hal.sess) :
    (after s r).hal.sess = s.hal.sess := by unfold after; split <;> simp [h0]

@[simp] theorem after_lamp_fuses (s : State) (r : Result) (h0 : ∀ t, r = .next t → t.lamp.fuses = s.lamp.fuses) :
    (after s r).lamp.fuses = s.lamp.fuses := by unfold after; split <;> simp [h0]

@[simp] theorem atFin_pending {n : Nat} (k : Nat) (s : State) (f : Fin n → State) (h0 : ∀ i, (f i).pending = s.pending) :
    (atFin n k s f).pending = s.pending := by unfold atFin; split <;> simp [h0]

@[simp] theorem atFin_free {n : Nat} (k : Nat) (s : State) (f : Fin n → State) (h0 : ∀ i, (f i).free = s.free) :
    (atFin n k s f).free = s.free := by unfold atFin; split <;> simp [h0]

@[simp] theorem atFin_out {n : Nat} (k : Nat) (s : State) (f : Fin n → State) (h0 : ∀ i, (f i).out = s.out) :
    (atFin n k s f).out = s.out := by unfold atFin; split <;> simp [h0]

@[simp] theorem atFin_pins {n : Nat} (k : Nat) (s : State) (f : Fin n → State) (h0 : ∀ i, (f i).pins = s.pins) :
    (atFin n k s f).pins = s.pins := by unfold atFin; split <;> simp [h0]

@[simp] theorem atFin_boot {n : Nat} (k : Nat) (s : State) (f : Fin n → State) (h0 : ∀ i, (f i).boot = s.boot) :
    (atFin n k s f).boot = s.boot := by unfold atFin; split <;> simp [h0]

@[simp] theorem atFin_clock {n : Nat} (k : Nat) (s : State) (f : Fin n → State) (h0 : ∀ i, (f i).clock = s.clock) :
    (atFin n k s f).clock = s.clock := by unfold atFin; split <;> simp [h0]

@[simp] theorem atFin_plan {n : Nat} (k : Nat) (s : State) (f : Fin n → State) (h0 : ∀ i, (f i).plan = s.plan) :
    (atFin n k s f).plan = s.plan := by unfold atFin; split <;> simp [h0]

@[simp] theorem atFin_roll {n : Nat} (k : Nat) (s : State) (f : Fin n → State) (h0 : ∀ i, (f i).roll = s.roll) :
    (atFin n k s f).roll = s.roll := by unfold atFin; split <;> simp [h0]

@[simp] theorem atFin_changes {n : Nat} (k : Nat) (s : State) (f : Fin n → State) (h0 : ∀ i, (f i).changes = s.changes) :
    (atFin n k s f).changes = s.changes := by unfold atFin; split <;> simp [h0]

@[simp] theorem atFin_hall {n : Nat} (k : Nat) (s : State) (f : Fin n → State) (h0 : ∀ i, (f i).hall = s.hall) :
    (atFin n k s f).hall = s.hall := by unfold atFin; split <;> simp [h0]

@[simp] theorem atFin_gal {n : Nat} (k : Nat) (s : State) (f : Fin n → State) (h0 : ∀ i, (f i).gal = s.gal) :
    (atFin n k s f).gal = s.gal := by unfold atFin; split <;> simp [h0]

@[simp] theorem atFin_galx {n : Nat} (k : Nat) (s : State) (f : Fin n → State) (h0 : ∀ i, (f i).galx = s.galx) :
    (atFin n k s f).galx = s.galx := by unfold atFin; split <;> simp [h0]

@[simp] theorem atFin_dram {n : Nat} (k : Nat) (s : State) (f : Fin n → State) (h0 : ∀ i, (f i).dram = s.dram) :
    (atFin n k s f).dram = s.dram := by unfold atFin; split <;> simp [h0]

@[simp] theorem atFin_dram_spaces {n : Nat} (k : Nat) (s : State) (f : Fin n → State) (h0 : ∀ i, (f i).dram.spaces = s.dram.spaces) :
    (atFin n k s f).dram.spaces = s.dram.spaces := by unfold atFin; split <;> simp [h0]

@[simp] theorem atFin_dram_psets {n : Nat} (k : Nat) (s : State) (f : Fin n → State) (h0 : ∀ i, (f i).dram.psets = s.dram.psets) :
    (atFin n k s f).dram.psets = s.dram.psets := by unfold atFin; split <;> simp [h0]

@[simp] theorem atFin_dram_ksets {n : Nat} (k : Nat) (s : State) (f : Fin n → State) (h0 : ∀ i, (f i).dram.ksets = s.dram.ksets) :
    (atFin n k s f).dram.ksets = s.dram.ksets := by unfold atFin; split <;> simp [h0]

@[simp] theorem atFin_net {n : Nat} (k : Nat) (s : State) (f : Fin n → State) (h0 : ∀ i, (f i).net = s.net) :
    (atFin n k s f).net = s.net := by unfold atFin; split <;> simp [h0]

@[simp] theorem atFin_cxl {n : Nat} (k : Nat) (s : State) (f : Fin n → State) (h0 : ∀ i, (f i).cxl = s.cxl) :
    (atFin n k s f).cxl = s.cxl := by unfold atFin; split <;> simp [h0]

@[simp] theorem atFin_cxl_up {n : Nat} (k : Nat) (s : State) (f : Fin n → State) (h0 : ∀ i, (f i).cxl.up = s.cxl.up) :
    (atFin n k s f).cxl.up = s.cxl.up := by unfold atFin; split <;> simp [h0]

@[simp] theorem atFin_cxl_tsp {n : Nat} (k : Nat) (s : State) (f : Fin n → State) (h0 : ∀ i, (f i).cxl.tsp = s.cxl.tsp) :
    (atFin n k s f).cxl.tsp = s.cxl.tsp := by unfold atFin; split <;> simp [h0]

@[simp] theorem atFin_cxl_rings {n : Nat} (k : Nat) (s : State) (f : Fin n → State) (h0 : ∀ i, (f i).cxl.rings = s.cxl.rings) :
    (atFin n k s f).cxl.rings = s.cxl.rings := by unfold atFin; split <;> simp [h0]

@[simp] theorem atFin_hal {n : Nat} (k : Nat) (s : State) (f : Fin n → State) (h0 : ∀ i, (f i).hal = s.hal) :
    (atFin n k s f).hal = s.hal := by unfold atFin; split <;> simp [h0]

@[simp] theorem atFin_lamp {n : Nat} (k : Nat) (s : State) (f : Fin n → State) (h0 : ∀ i, (f i).lamp = s.lamp) :
    (atFin n k s f).lamp = s.lamp := by unfold atFin; split <;> simp [h0]

@[simp] theorem atFin_power {n : Nat} (k : Nat) (s : State) (f : Fin n → State) (h0 : ∀ i, (f i).power = s.power) :
    (atFin n k s f).power = s.power := by unfold atFin; split <;> simp [h0]

@[simp] theorem atFin_fault {n : Nat} (k : Nat) (s : State) (f : Fin n → State) (h0 : ∀ i, (f i).fault = s.fault) :
    (atFin n k s f).fault = s.fault := by unfold atFin; split <;> simp [h0]

@[simp] theorem atFin_boot_stage {n : Nat} (k : Nat) (s : State) (f : Fin n → State) (h0 : ∀ i, (f i).boot.stage = s.boot.stage) :
    (atFin n k s f).boot.stage = s.boot.stage := by unfold atFin; split <;> simp [h0]

@[simp] theorem atFin_clock_now {n : Nat} (k : Nat) (s : State) (f : Fin n → State) (h0 : ∀ i, (f i).clock.now = s.clock.now) :
    (atFin n k s f).clock.now = s.clock.now := by unfold atFin; split <;> simp [h0]

@[simp] theorem atFin_dram_mem {n : Nat} (k : Nat) (s : State) (f : Fin n → State) (h0 : ∀ i, (f i).dram.mem = s.dram.mem) :
    (atFin n k s f).dram.mem = s.dram.mem := by unfold atFin; split <;> simp [h0]

@[simp] theorem atFin_hal_dict {n : Nat} (k : Nat) (s : State) (f : Fin n → State) (h0 : ∀ i, (f i).hal.dict = s.hal.dict) :
    (atFin n k s f).hal.dict = s.hal.dict := by unfold atFin; split <;> simp [h0]

@[simp] theorem atFin_hal_serving {n : Nat} (k : Nat) (s : State) (f : Fin n → State) (h0 : ∀ i, (f i).hal.serving = s.hal.serving) :
    (atFin n k s f).hal.serving = s.hal.serving := by unfold atFin; split <;> simp [h0]

@[simp] theorem atFin_hal_sess {n : Nat} (k : Nat) (s : State) (f : Fin n → State) (h0 : ∀ i, (f i).hal.sess = s.hal.sess) :
    (atFin n k s f).hal.sess = s.hal.sess := by unfold atFin; split <;> simp [h0]

@[simp] theorem atFin_lamp_fuses {n : Nat} (k : Nat) (s : State) (f : Fin n → State) (h0 : ∀ i, (f i).lamp.fuses = s.lamp.fuses) :
    (atFin n k s f).lamp.fuses = s.lamp.fuses := by unfold atFin; split <;> simp [h0]

@[simp] theorem setStage_keeps (s : State) (q : Req) (x : Option (Nat × Nat × Bytes)) :
    (setStage s q x).pending = s.pending ∧ (setStage s q x).free = s.free ∧ (setStage s q x).out = s.out ∧ (setStage s q x).pins = s.pins ∧ (setStage s q x).boot = s.boot ∧ (setStage s q x).clock = s.clock ∧ (setStage s q x).plan = s.plan ∧ (setStage s q x).roll = s.roll ∧ (setStage s q x).changes = s.changes ∧ (setStage s q x).hall = s.hall ∧ (setStage s q x).gal = s.gal ∧ (setStage s q x).galx = s.galx ∧ (setStage s q x).dram = s.dram ∧ (setStage s q x).net = s.net ∧ (setStage s q x).cxl = s.cxl ∧ (setStage s q x).hal.dict = s.hal.dict ∧ (setStage s q x).hal.serving = s.hal.serving ∧ (setStage s q x).lamp = s.lamp ∧ (setStage s q x).power = s.power ∧ (setStage s q x).fault = s.fault := by simp [setStage]

@[simp] theorem State.tick_keeps (s : State) :
    (State.tick s).pending = s.pending ∧ (State.tick s).free = s.free ∧ (State.tick s).out = s.out ∧ (State.tick s).pins = s.pins ∧ (State.tick s).boot = s.boot ∧ (State.tick s).plan = s.plan ∧ (State.tick s).roll = s.roll ∧ (State.tick s).changes = s.changes ∧ (State.tick s).hall = s.hall ∧ (State.tick s).gal = s.gal ∧ (State.tick s).galx = s.galx ∧ (State.tick s).dram = s.dram ∧ (State.tick s).net = s.net ∧ (State.tick s).cxl = s.cxl ∧ (State.tick s).hal = s.hal ∧ (State.tick s).lamp = s.lamp ∧ (State.tick s).power = s.power ∧ (State.tick s).fault = s.fault := by simp [State.tick]

@[simp] theorem State.withFetchWord_keeps (s : State) (nbits w : Nat) :
    (State.withFetchWord s nbits w).free = s.free ∧ (State.withFetchWord s nbits w).out = s.out ∧ (State.withFetchWord s nbits w).pins = s.pins ∧ (State.withFetchWord s nbits w).boot = s.boot ∧ (State.withFetchWord s nbits w).clock = s.clock ∧ (State.withFetchWord s nbits w).plan = s.plan ∧ (State.withFetchWord s nbits w).roll = s.roll ∧ (State.withFetchWord s nbits w).changes = s.changes ∧ (State.withFetchWord s nbits w).hall = s.hall ∧ (State.withFetchWord s nbits w).gal = s.gal ∧ (State.withFetchWord s nbits w).galx = s.galx ∧ (State.withFetchWord s nbits w).dram = s.dram ∧ (State.withFetchWord s nbits w).net = s.net ∧ (State.withFetchWord s nbits w).cxl = s.cxl ∧ (State.withFetchWord s nbits w).hal = s.hal ∧ (State.withFetchWord s nbits w).lamp = s.lamp ∧ (State.withFetchWord s nbits w).power = s.power ∧ (State.withFetchWord s nbits w).fault = s.fault := by unfold State.withFetchWord; (repeat' split) <;> simp

end Sys2Proof.Machine
end

