-- ==== Sys2Proof/Laws/Request.lean ====
section
/-! SUPPORT. What a write request does once it may be made: one lemma for each way its object answers. -/

namespace Sys2Proof.Machine
open Sys2Proof Sys2Proof.Safety

/-- A write that may be made is carried out on the state whose session it has touched: accepted, it is journalled, else its status stands. -/
theorem writeObj_of_mayWrite {s : State} {q : Req} {i sub : Nat} {v : Bytes} {part : Option Nat} {w : Who} (h : MayWrite s q i sub v part w)
    (apply : State → Who → Applied) :
    writeObj s q i sub v part apply = (match apply (touchSess s q) w with
      | .error st => (touchSess s q, st)
      | .ok (u, old, new) => (journal (keepAsked i sub v u) (writeEntry w i sub part old new), St.ok)) := by
  obtain ⟨_, _, _, hw, hb⟩ := h
  have hb' : writeBad (touchSess s q) w i sub v part = none := hb
  unfold writeObj writeWith
  rw [hw]
  simp only [hb', id]
  all_goals (cases apply (touchSess s q) w <;> rfl)

/-- A request that is not in the way of a translation reaches the lamplighter of a ready device. -/
theorem request_of_mayWrite {s : State} {q : Req} {i sub : Nat} {v : Bytes} {part : Option Nat} {w : Who} (h : MayWrite s q i sub v part w) (f : State → State) :
    request s q f = f s := by
  obtain ⟨hr, hb, _⟩ := h
  simp [request, hr, hb]

/-- A write that may be made is refused by its object's own rule with its status, and nothing changes but the session's time. -/
theorem reqWrite_refused {s : State} {q : Req} {i sub : Nat} {v : Bytes} {part : Option Nat} {w : Who} (h : MayWrite s q i sub v part w)
    {apply : State → Who → Applied} {st : Nat} (ha : apply (touchSess s q) w = .error st) : reqWrite s q i sub v part apply = refusal s q st := by
  have hs : (touchSess s q).hal.serving = none := h.2.2.1
  unfold reqWrite
  rw [request_of_mayWrite h, writeObj_of_mayWrite h, ha]
  simp only [answer, hs, refusal]

/-- A write that may be made and that its object takes is journalled and answered OK. -/
theorem reqWrite_accepted {s : State} {q : Req} {i sub : Nat} {v : Bytes} {part : Option Nat} {w : Who} (h : MayWrite s q i sub v part w)
    {apply : State → Who → Applied} {u : State} {old new : Bytes} (ha : apply (touchSess s q) w = .ok (u, old, new)) :
    reqWrite s q i sub v part apply = answer (journal (keepAsked i sub v u) (writeEntry w i sub part old new)) q St.ok := by
  unfold reqWrite
  rw [request_of_mayWrite h, writeObj_of_mayWrite h, ha]

end Sys2Proof.Machine
end

