-- ==== Sys2Proof/Laws/Utier.lean ====
section
/-! SUPPORT. What the issue of a Utier instruction does: the gallery's mark of progress, and the outcomes of an instruction that issues. -/

namespace Sys2Proof.Machine
open Sys2Proof Sys2Proof.Safety

theorem task_of_galRuns {s : State} {g : Nat} (h : galRuns s g = true) : (s.galAt g).task.isSome = true := by
  unfold galRuns at h
  cases ht : (s.galAt g).task with
  | none => simp [ht] at h
  | some t => rfl

/-- A running gallery's mark of progress changes nothing else of it. -/
theorem galAt_touch (s : State) (g : Nat) (h : (s.galAt g).task.isSome = true) : (touch s g).galAt g = { s.galAt g with progress := s.clock.now } := by
  unfold touch
  rw [State.galAt_updGal_self]
  intro e
  have ht := congrArg (fun y => y.task.isSome) e
  simp [h, Gallery.zero] at ht

theorem galAt_touch_other (s : State) (g j : Nat) (h : j ≠ g) : (touch s g).galAt j = s.galAt j := State.galAt_updGal_other s g j _ h

theorem lanAt_touch (s : State) (g l : Nat) (h : (s.galAt g).task.isSome = true) : (touch s g).lanAt g l = s.lanAt g l := by
  simp [State.lanAt, galAt_touch s g h]

theorem thOf_touch (s : State) (w : Site) (h : (s.galAt w.g.val).task.isSome = true) : thOf (touch s w.g.val) w = thOf s w := by
  simp [thOf, State.thAt, lanAt_touch s _ _ h]

theorem xr_touch (s : State) (w : Site) (r) (h : (s.galAt w.g.val).task.isSome = true) : xr (touch s w.g.val) w r = xr s w r := by
  simp [xr, thOf_touch s w h]

theorem fr_touch (s : State) (w : Site) (r) (h : (s.galAt w.g.val).task.isSome = true) : fr (touch s w.g.val) w r = fr s w r := by
  simp [fr, thOf_touch s w h]

theorem vr_touch (s : State) (w : Site) (r) (h : (s.galAt w.g.val).task.isSome = true) : vr (touch s w.g.val) w r = vr s w r := by
  simp [vr, thOf_touch s w h]

/-- What an instruction that issues, with no stray field, does: what its body says, on the state that its gallery's progress marks. -/
theorem issue_of_issues {s : State} {w : Site} {f : Fields} (hi : Issues s w f) (cls op : Nat) {st : Option Nat} (hs : st = none) (k : State → State)
    (body : State → Act) :
    issue s w cls op f st k body = (match body (touch s w.g.val) with
      | .skip r => updThread (k (noteSkip (touch s w.g.val) w cls op (thOf s w).pc r)) w (fun t => { t with pc := t.pc + f.len })
      | .block v => blockedAt (touch s w.g.val) w v
      | .poison word => killNow (reportTask s (Rep.ofLan St.loadPoison 1 false 1 w.g.val w.l.val word (w.t.val + 256 * (thOf s w).pc))) w.g.val St.loadPoison
      | .ok u => retired u w f
      | .jump u pc => jumped u w pc
      | .hold u v => updThread u w (fun t => { t with pc := t.pc + f.len, st := .blocked v, since := u.clock.now })
      | .ends u => updThread u w (fun t => { t with st := .ended })) := by
  obtain ⟨a, b, c, d, e⟩ := hi
  subst hs
  have c' : ¬ codeSize s w.g.val ≤ (thOf s w).pc := by omega
  unfold issue
  simp only [a, b, c', d, e, Bool.not_true, Bool.false_eq_true, if_false, bne_self_eq_false, Bool.or_self]
  cases body (touch s w.g.val) <;> simp [retired, jumped, blockedAt]

end Sys2Proof.Machine
end

