-- ==== Sys2Proof/WellFormed.lean ====
section
/-! DEFINITION. Well-formed commands: operands whose length or range the interface that carries them fixes. -/

namespace Sys2Proof

/-- A short form has no second word (R107). -/
def Fields.wf (f : Fields) : Bool := f.long || f.imm == 0

/-- A message's payload is as long as its length field says, 4,096 bytes at most (R473). -/
def Msg.wf (m : Msg) : Bool := m.data.length ≤ 4096

/-- Readings name the four halls and the 64 galleries (R572). -/
def Readings.wf (r : Readings) : Bool :=
  r.draw.length == 4 && r.demand.length == 4 && r.current.length == 4 && r.galDraw.length == 64

/-- A job descriptor of 64 bytes (R555). -/
def Dma.wfDesc (x : Dma) : Bool :=
  match x with
  | .bytes v => v.length == 64
  | .failed => true

/-- A start's findings name places that exist. -/
def BootReport.wf (b : BootReport) : Bool :=
  b.lostChannels.all (fun c => decide (c.1 < 16 ∧ c.2 < 32)) && b.spareLines.all (fun c => decide (c.1 < 64)) &&
    b.badGalleries.all (fun g => decide (g < 64)) && b.deadLanterns.all (fun c => decide (c.1 < 64 ∧ c.2 < 68)) &&
    b.badWicks.all (fun c => decide (c.1 < 64 ∧ c.2 < 68)) && b.badHalls.all (fun c => decide (c.1 < 4 ∧ c.2 < 8)) &&
    b.trng.map (·.1) == [0, 1, 2, 3] && b.trng.all (fun c => c.2.length == 4096) && b.process.length == 4

/-- Is the command well-formed? -/
def Instr.wf : Instr → Bool
  | .itemAdmit _ => true
  | .sessionCacheFill _ _ => true
  | .galleryTakeItem _ => true
  | .batchWindowExpiry _ _ _ => true
  | .noGalleryTimeout _ _ _ => true
  | .sessionEntryWrite _ _ => true
  | .sessionChangeAck _ => true
  | .itemLimitWrite _ _ _ => true
  | .dispatchParamWrite _ _ _ => true
  | .modePlanWrite _ _ => true
  | .galleryModeChange _ => true
  | .galleryPowerGrant _ => true
  | .modeDeadlineExpiry => true
  | .galleryReleaseTest _ _ => true
  | .brownoutDetect _ => true
  | .brownoutRecover _ => true
  | .brownoutTimeout _ => true
  | .reftimeBroadcast => true
  | .reftimeLoRead => true
  | .paceMonitorSample _ counts => counts.length == 64
  | .taskComplete _ => true
  | .threadResume _ => true
  | .icacheMissFill _ _ _ => true
  | .icacheParityError _ _ _ => true
  | .stallCensusAbort _ => true
  | .moduleLoad _ => true
  | .moduleTranslationDone => true
  | .moduleUnload _ => true
  | .add _ f => f.wf
  | .sub _ f => f.wf
  | .and _ f => f.wf
  | .or _ f => f.wf
  | .xor _ f => f.wf
  | .shl _ f => f.wf
  | .shr _ f => f.wf
  | .sar _ f => f.wf
  | .mul _ f => f.wf
  | .mulh _ f => f.wf
  | .mulhu _ f => f.wf
  | .div _ f => f.wf
  | .divu _ f => f.wf
  | .rem _ f => f.wf
  | .remu _ f => f.wf
  | .min _ f => f.wf
  | .max _ f => f.wf
  | .minu _ f => f.wf
  | .maxu _ f => f.wf
  | .slt _ f => f.wf
  | .sltu _ f => f.wf
  | .seq _ f => f.wf
  | .addi _ f => f.wf
  | .andi _ f => f.wf
  | .ori _ f => f.wf
  | .xori _ f => f.wf
  | .shli _ f => f.wf
  | .shri _ f => f.wf
  | .sari _ f => f.wf
  | .slti _ f => f.wf
  | .sltiu _ f => f.wf
  | .li _ f => f.wf
  | .lui _ f => f.wf
  | .fadd _ f => f.wf
  | .fsub _ f => f.wf
  | .fmul _ f => f.wf
  | .fma _ f => f.wf
  | .fmin _ f => f.wf
  | .fmax _ f => f.wf
  | .fneg _ f => f.wf
  | .fabs _ f => f.wf
  | .flt _ f => f.wf
  | .fle _ f => f.wf
  | .feq _ f => f.wf
  | .fcvtI _ f => f.wf
  | .fcvtF _ f => f.wf
  | .fmvX _ f => f.wf
  | .fmvF _ f => f.wf
  | .ldW _ f => f.wf
  | .ldD _ f => f.wf
  | .ldF _ f => f.wf
  | .ldTakeW _ f => f.wf
  | .ldTakeD _ f => f.wf
  | .stW _ f => f.wf
  | .stD _ f => f.wf
  | .stF _ f => f.wf
  | .stFillW _ f => f.wf
  | .stFillD _ f => f.wf
  | .ldRawW _ f => f.wf
  | .ldRawD _ f => f.wf
  | .stRawW _ f => f.wf
  | .stRawD _ f => f.wf
  | .amoAdd _ f => f.wf
  | .amoSwap _ f => f.wf
  | .beq _ f => f.wf
  | .bne _ f => f.wf
  | .blt _ f => f.wf
  | .bge _ f => f.wf
  | .bltu _ f => f.wf
  | .bgeu _ f => f.wf
  | .jal _ f => f.wf
  | .jr _ f => f.wf
  | .vadd _ f => f.wf
  | .vsub _ f => f.wf
  | .vmul _ f => f.wf
  | .vand _ f => f.wf
  | .vor _ f => f.wf
  | .vxor _ f => f.wf
  | .vshl _ f => f.wf
  | .vshr _ f => f.wf
  | .vfadd _ f => f.wf
  | .vfmul _ f => f.wf
  | .vfma _ f => f.wf
  | .vins _ f => f.wf
  | .vext _ f => f.wf
  | .vsplat _ f => f.wf
  | .vinsd _ f => f.wf
  | .vld _ f => f.wf
  | .vst _ f => f.wf
  | .vldRaw _ f => f.wf
  | .vstRaw _ f => f.wf
  | .vstFill _ f => f.wf
  | .mxLdw _ f => f.wf
  | .mxRun _ f => f.wf
  | .mxDrain _ f => f.wf
  | .qpush _ _ f => f.wf
  | .qpushFromScratchpad _ _ f => f.wf
  | .flagSet _ f => f.wf
  | .flagSeti _ f => f.wf
  | .flagAdd _ f => f.wf
  | .flagAddi _ f => f.wf
  | .flagWait _ f => f.wf
  | .flagWaiti _ f => f.wf
  | .flagRead _ f => f.wf
  | .barArrive _ f => f.wf
  | .fence _ f => f.wf
  | .mcall _ f => f.wf
  | .nop _ _ => true
  | .endThread _ f => f.wf
  | .rdtime _ f => f.wf
  | .rdctx _ f => f.wf
  | .rdskip _ f => f.wf
  | .loadWeights _ _ _ => true
  | .arrayRun _ _ _ => true
  | .arrayDrain _ _ _ => true
  | .modularLoad _ _ _ => true
  | .modularRun _ _ _ => true
  | .arrayResidueMismatch _ _ => true
  | .paramSetRegister _ _ => true
  | .paramSetUnregister _ _ => true
  | .marginWrite _ _ => true
  | .securityOverrideWrite _ _ _ => true
  | .keysetRegister _ _ => true
  | .keysetUnregister _ _ => true
  | .blockHeaderRead _ _ => true
  | .taperPayloadLand _ _ => true
  | .keyStreamTimeout _ _ => true
  | .macroAdd _ => true
  | .macroSub _ => true
  | .macroAddp _ => true
  | .macroMulp _ => true
  | .macroMul _ => true
  | .macroRelin _ => true
  | .macroMulr _ => true
  | .macroRescale _ => true
  | .macroRescale2 _ => true
  | .macroModsw _ => true
  | .macroKswitch _ => true
  | .macroRotate _ => true
  | .macroHrotate _ => true
  | .macroConj _ => true
  | .macroBootstrap _ => true
  | .macroRelease _ => true
  | .macroTocoeff _ => true
  | .macroEnd _ => true
  | .trngHealthFail _ _ => true
  | .trngRetry _ samples => samples.length == 4096
  | .floodingSigmaWrite _ _ _ => true
  | .veFadd _ _ => true
  | .veFsub _ _ => true
  | .veFmul _ _ => true
  | .veFma _ _ => true
  | .fms _ _ => true
  | .fsm _ _ => true
  | .veFmin _ _ => true
  | .veFmax _ _ => true
  | .veFabs _ _ => true
  | .veFneg _ _ => true
  | .fadds _ _ => true
  | .fmuls _ _ => true
  | .iadd _ _ => true
  | .isub _ _ => true
  | .imul _ _ => true
  | .veAnd _ _ => true
  | .veOr _ _ => true
  | .veXor _ _ => true
  | .veShl _ _ => true
  | .veShr _ _ => true
  | .veSar _ _ => true
  | .imin _ _ => true
  | .imax _ _ => true
  | .cvt _ _ => true
  | .quantise _ _ => true
  | .dequantise _ _ => true
  | .veCopy _ _ => true
  | .rsum _ _ => true
  | .rmax _ _ => true
  | .rmin _ _ => true
  | .rabsmax _ _ => true
  | .rstat _ _ => true
  | .mred _ _ => true
  | .madd _ _ => true
  | .msub _ _ => true
  | .mneg _ _ => true
  | .mmul _ _ => true
  | .mmac _ _ => true
  | .mmulp _ _ => true
  | .sAdd _ _ => true
  | .sSub _ _ => true
  | .sAddc _ _ => true
  | .sMulc _ _ => true
  | .sOpen _ _ => true
  | .sBeaver _ _ => true
  | .sSample _ _ => true
  | .smpU32 _ _ => true
  | .smpModq _ _ => true
  | .smpTern _ _ => true
  | .smpCbd _ _ => true
  | .smpGauss _ _ => true
  | .ringReadStart _ _ _ => true
  | .exp _ _ => true
  | .log _ _ => true
  | .recip _ _ => true
  | .rsqrt _ _ => true
  | .sigmoid _ _ => true
  | .tanh _ _ => true
  | .softplus _ _ => true
  | .sqrt _ _ => true
  | .sfuDiv _ _ => true
  | .silu _ _ => true
  | .geluT _ _ => true
  | .smBlock _ _ => true
  | .smFinal _ _ => true
  | .rope _ _ => true
  | .lmCopy _ _ => true
  | .fill _ _ => true
  | .gather _ _ => true
  | .scatter _ _ => true
  | .scatterAdd _ _ => true
  | .galoisEval _ _ => true
  | .galoisCoef _ _ => true
  | .translationWalk _ _ _ => true
  | .mapRequest _ _ => true
  | .mapAck => true
  | .fetch _ _ => true
  | .store _ _ => true
  | .burstLand _ _ _ => true
  | .burstWriteAck _ _ _ => true
  | .burstRelease _ _ _ => true
  | .storeEccError _ _ _ => true
  | .storeCorrectedError _ _ _ _ => true
  | .bankRetentionEntry _ => true
  | .bankWake _ => true
  | .deepRetentionError _ _ _ => true
  | .normPassDone _ => true
  | .dramSensorRead _ rs => rs.length == 12
  | .dramUncorrectable _ => true
  | .bondCrcFail _ => true
  | .dramScrub _ _ => true
  | .regulatorWrite _ _ _ _ => true
  | .dramWipeDone => true
  | .hdmWindowWrite _ _ _ => true
  | .hostWindowWrite off v _ => v.bytes.length == 64 && off % 64 == 0
  | .hostWindowRead off _ => off % 64 == 0
  | .flightTrainingDone _ _ _ => true
  | .treadReceive _ v => v.bytes.length == 256
  | .nackReceive _ _ => true
  | .retryTimeout _ => true
  | .idleTreadDue _ => true
  | .retrainDone _ _ => true
  | .creditStall _ _ => true
  | .deviceIdWrite _ _ => true
  | .routeTableWrite _ _ => true
  | .admissionWrite _ _ _ => true
  | .flightEnableWrite _ _ _ => true
  | .put m => m.wf
  | .putAck m => m.wf
  | .get m => m.wf
  | .getResponse m => m.wf
  | .keyRequest m => m.wf
  | .keyHeader m => m.wf
  | .keyPayload m => m.wf
  | .keyRefusal m => m.wf
  | .signal m => m.wf
  | .barrierArrive m => m.wf
  | .barrierRelease m => m.wf
  | .messageTimeout _ _ => true
  | .doorbellWrite _ _ => true
  | .ringItemRead _ v _ => v.length == 64
  | .ringConfigWrite _ _ _ => true
  | .completionSlotAllot _ _ _ => true
  | .signalItem _ _ _ => true
  | .barrierArriveItem _ _ _ => true
  | .decoderCommit _ _ _ => true
  | .biSnoopResponse _ => true
  | .biTimeout _ => true
  | .statusWindowRead _ _ => true
  | .linkDown => true
  | .hotReset => true
  | .ideFailure => true
  | .cxlReset => true
  | .tspBind _ _ => true
  | .getEventRecords _ => true
  | .clearEventRecords _ _ => true
  | .getSupportedLogs => true
  | .getLog => true
  | .identifyMemoryDevice => true
  | .doeDiscovery => true
  | .cdatTableAccess => true
  | .spdmRequest _ => true
  | .ideKm _ _ => true
  | .discover _ => true
  | .discoverReply => true
  | .open1 _ _ => true
  | .open3 _ _ => true
  | .read _ _ => true
  | .write _ _ => true
  | .close _ _ => true
  | .sessionIdleTimeout _ => true
  | .icmpv6Request _ => true
  | .faultRecordRead _ => true
  | .journalRead _ => true
  | .timeSet _ _ => true
  | .timeCorrection _ _ => true
  | .journalProgram => true
  | .calibrationWrite _ _ _ => true
  | .calibrationCommit _ _ => true
  | .calibrationCommitDone _ => true
  | .allotmentWrite _ _ _ => true
  | .packageBudgetWrite _ _ => true
  | .credentialBurn _ _ _ => true
  | .anchorRevoke _ _ => true
  | .credentialWrite _ _ _ => true
  | .fwKeyRevoke _ _ => true
  | .pkeSubmit _ => true
  | .verify desc _ => desc.wfDesc
  | .sign desc _ => desc.wfDesc
  | .ecdh desc _ => desc.wfDesc
  | .scalarMultiply desc _ => desc.wfDesc
  | .pointCheck desc _ => desc.wfDesc
  | .loadCurve desc _ => desc.wfDesc
  | .pkeJobComplete => true
  | .pkeDoneRead => true
  | .firmwareImageWrite _ _ => true
  | .firmwareProgramDone _ => true
  | .securityVersionAdvance _ _ => true
  | .lifeCycleTransition _ _ => true
  | .lampSramError _ => true
  | .watchdogExpiry => true
  | .arbiterCycle rd => rd.wf
  | .gatingLiftStep _ => true
  | .thermalCycle _ js ds => js.length == 64 && ds.length == 48
  | .thermtrip _ => true
  | .sensorSelfCheck _ _ _ => true
  | .avsTimeout _ => true
  | .railOvervoltage _ => true
  | .faultRecordHandle => true
  | .faultRecordCopy => true
  | .faultAck _ _ => true
  | .heartbeatMiss _ _ => true
  | .staleLanternRequest _ _ _ => true
  | .deadLanternRehold _ _ => true
  | .lanternReadmit _ _ => true
  | .readmitTestDone _ _ _ => true
  | .galleryResetWrite _ _ => true
  | .pwrgoodRise _ boot => boot.wf
  | .hallStartupTimeout _ => true
  | .startupReady boot => boot.wf
  | .pwrgoodFall => true
  | .perstAssert => true
  | .perstRelease boot => boot.wf
  | .registerWrite _ _ => true
  | .engineDescriptorEnd _ _ _ => true
  | .paramSetRegistrationDone _ => true
  | .cxlLinkUp _ => true
  | .timeSourceLockChange _ _ => true
  | .fieldPortLinkChange _ => true
  | .faultSeqLoRead => true
  | .faultHandlingTimeout => true

end Sys2Proof
end

