-- ==== Sys2Proof/Tests/Slice0.lean ====
section
/-! SUPPORT. Tests: ill-formed commands, and for the statements small states and operands that meet their hypotheses. -/

set_option Elab.async false

namespace Sys2Proof.Tests
open Sys2Proof Sys2Proof.Machine Sys2Proof.Safety

/-! ## Ill-formed commands are refused -/

def sh (d a b : Nat) : Fields := { long := false, d := BitVec.ofNat 5 d, a := BitVec.ofNat 5 a, b := BitVec.ofNat 5 b, e := 0, imm := 0 }
def lo (d a n : Nat) : Fields := { long := true, d := BitVec.ofNat 5 d, a := BitVec.ofNat 5 a, b := 0, e := 0, imm := BitVec.ofNat 32 n }
def at0 : Site := { g := 0, l := 0, t := 0 }

theorem test_wf_short_form_has_no_second_word : Instr.wf (.add at0 { sh 1 2 3 with imm := 1 }) = false := by decide

theorem test_wf_long_form_may_hold_any_word : Instr.wf (.li at0 (lo 1 0 0xFFFFFFFF)) = true := by decide
theorem test_wf_message_of_at_most_4096_bytes :
    let m : Msg := { mtype := 1, hops := 0, dstDev := 9, srcDev := 8, srcGal := 0, mflags := 0, tag := 4, status := 0, srcPart := 2, dstPart := 3, length := 32, addr := 0, arg := 0,
                     pmap := 0, data := List.replicate 4097 0 }
    Instr.wf (.put m) = false ∧ Instr.wf (.put { m with data := List.replicate 4096 0 }) = true := by decide +kernel
theorem test_wf_pace_sample_of_64_words : Instr.wf (.paceMonitorSample 0 (List.replicate 63 0)) = false := by decide
theorem test_wf_readings_of_every_hall_and_gallery :
    Instr.wf (.arbiterCycle { nonHall := 0, draw := [0, 0, 0], demand := [0, 0, 0, 0], current := [0, 0, 0, 0], galDraw := List.replicate 64 0 }) = false := by decide
/-- Samples of the start-up test of each hall: of the halls listed an alternating source, which passes, of the others one that is stuck. -/
def trngOf (good : List Nat) : List (Nat × List Bool) :=
  (List.range 4).map (fun h => (h, (List.range 4096).map (fun i => good.contains h && i % 2 == 0)))
def boot0 (lost : List (Nat × Nat)) (good : List Nat) : BootReport :=
  { lostChannels := lost, spareLines := [], badGalleries := [], deadLanterns := [], badWicks := [], badHalls := [], trng := trngOf good, process := [0, 0, 0, 0], fatal := false }

theorem test_wf_start_finds_places_that_exist :
    Instr.wf (.pwrgoodRise 0 (boot0 [(16, 0)] [])) = false ∧ Instr.wf (.pwrgoodRise 0 (boot0 [(15, 31)] [])) = true ∧
      Instr.wf (.pwrgoodRise 0 { boot0 [] [] with trng := [] }) = false := by decide +kernel
theorem test_table_gives_no_bits : decodeTableWord 8 0 = none := by decide

/-! ## States -/

/-- The device once it is ready, its links up. -/
def rdy : State :=
  { State.reset with
    boot := { State.reset.boot with stage := .ready, cold := false, done := true, wiping := false },
    cxl := { Cxl.zero with up := true }, hal := { Haldub.zero with fieldUp := true } }

def entry0 : SessEntry :=
  { part := 3, modeCode := 1, flags := 1, fp := 0, paramSet := 0, asid := 1, keyHome := 0, maxOut := 0, maxGal := 0, priority := 0, keyPeer := 0xFFFF,
    itemsDone := 0, beatsUsed := 0 }

def item0 : Item := { ring := 2, idx := 0, bytes := List.replicate 64 0, sid := 5, sess := entry0, at_ := 0 }

def task0 : Task :=
  { item := item0, epoch := 0, update := false, codeSize := 4096, codeBase := 0, named := [(0, 0)], counts := [2, 0, 0, 0, 0, 0, 0, 0], first := none, abort := none,
    recs := 0, at_ := 0 }

/-- A thread of lantern 0 at offset 8 with a few registers. -/
def thread0 : Thread :=
  { Thread.zero with st := .ready, pc := 8, x := [(1, 0x8000000000000000), (2, 0xFFFFFFFFFFFFFFFF), (3, 0x100), (4, 64), (5, 0x80000010), (6, 0x803C0002), (7, 0x803E0002)],
                     f := [(1, 0x7FC00001), (2, 0x3F800000)], v := [(1, 0x100000002)] }

def lan0 : Lantern := { Lantern.zero with th := [(0, thread0)], icache := [0], sp := [(1024, 7)] }

/-- Gallery 0 runs a task in a mode. -/
def run (m : Mode) : State := { rdy with gal := [(0, { Gallery.zero with mode := m, task := some task0, lan := [(0, lan0)] })] }

/-! ## Hypotheses that are met -/

/-- Statements about every step: a state in canonical form whose step answers a next state. -/
theorem witness_steps :
    Tidy { rdy with pending := [.hotReset, .linkDown] } = true ∧ (∃ t, step { rdy with pending := [.hotReset, .linkDown] } = .next t) ∧
      ∃ t, step { rdy with pending := [.pwrgoodFall] } = .next t := ⟨by decide +kernel, ⟨_, rfl⟩, ⟨_, rfl⟩⟩

theorem witness_StepTakesTheFront : Tidy rdy = true ∧ rdy.pending = [] ∧ rdy.boot.stage ≠ .off ∧ (powerless rdy).boot.stage = .off ∧ (powerless rdy).pending = [] := by decide +kernel

def ex : State := run .clear
/-- Immediate form: offset `n` in the fields `b` and `e`. -/
def im (d a n : Nat) : Fields := { sh d a n with e := BitVec.ofNat 6 (n / 32) }

theorem witness_IntegerInstructions :
    (Issues ex at0 (sh 3 1 2) ∧ (sh 3 1 2).long = false ∧ (sh 3 1 2).e = 0 ∧ (xr ex at0 1).toInt = -2 ^ 63 ∧ (xr ex at0 2).toInt = -1) ∧
    (Issues ex at0 (im 3 1 70) ∧ (im 3 1 70).long = false) ∧ (Issues ex at0 (lo 3 1 70) ∧ (lo 3 1 70).b = 0 ∧ (lo 3 1 70).e = 0) ∧
    (Issues ex at0 (lo 3 0 0xFFFFFFFF) ∧ (lo 3 0 0xFFFFFFFF).long = true) := by unfold Issues; decide +kernel

theorem witness_ImmForm : ImmForm (im 3 1 70) ∧ ImmForm (lo 3 1 70) := by unfold ImmForm; decide +kernel

theorem witness_RegisterInstructionFrame :
    (∀ f ∈ [sh 3 1 2, sh 0 1 2, sh 3 1 0, sh 15 15 15, im 3 1 70, lo 3 1 70, lo 3 0 70, sh 3 0 0, { sh 15 15 0 with e := 6 }, { sh 15 1 0 with e := 7 },
      { sh 3 15 0 with e := 7 }], Issues ex at0 f) ∧
    (∃ t, exec (.add at0 (sh 0 1 2)) ex = .next t) := ⟨by unfold Issues; decide +kernel, _, rfl⟩

theorem witness_FloatInstructions :
    (Issues ex at0 (sh 3 1 2) ∧ Issues ex at0 (sh 3 1 0)) ∧ F32.isNan (fr ex at0 1) = true ∧ F32.isNan (fr ex at0 2) = false := by
  unfold Issues; decide +kernel

/-- Finite operands at the edges, ordered; the sum of the largest with itself is past the last that is rounded to a finite number. -/
theorem fpUnits_edges : fpUnits 0x80000000 = 0 ∧ fpUnits 0x00000001 = 1 ∧ fpUnits 0x7F7FFFFF = (2 ^ 24 - 1) * 2 ^ 253 ∧ fpUnits 0xFF7FFFFF = -((2 ^ 24 - 1) * 2 ^ 253) := by
  unfold fpUnits; simp

theorem witness_FloatInstructions_finite :
    (∀ a ∈ ([0x00000000, 0x80000000, 0x00000001, 0x7F7FFFFF, 0xFF7FFFFF] : List W32), fpFinite a) ∧ ¬ fpFinite 0x7F800000 ∧ ¬ fpFinite 0x7FC00000 := by unfold fpFinite; simp

theorem witness_FloatInstructions_ordered :
    fpUnits 0xFF7FFFFF < fpUnits 0x80000000 ∧ fpUnits 0x80000000 = 0 ∧ fpUnits 0x00000001 ≠ 0 ∧ (2 ^ 25 - 1) * 2 ^ 252 ≤ (fpUnits 0x7F7FFFFF + fpUnits 0x7F7FFFFF).natAbs ∧
      (fpUnits 0x7F7FFFFF).natAbs < (2 ^ 25 - 1) * 2 ^ 252 := by
  obtain ⟨h0, h1, h2, h3⟩ := fpUnits_edges
  rw [h0, h1, h2, h3]
  norm_num

theorem witness_ShortVectorInstructions :
    ∀ f ∈ [sh 15 15 15, { sh 15 1 0 with e := 31 }, { sh 15 1 0 with e := 7 }, sh 15 1 0, { sh 15 1 0 with e := 6 }, { sh 3 15 0 with e := 7 }],
      Issues ex at0 f ∧ f.long = false ∧ f.a.toNat < 16 := by unfold Issues; decide +kernel

theorem witness_BranchAndSystemInstructions :
    (∀ f ∈ [im 2 2 2046, im 2 1 4], Issues ex at0 f ∧ 0 ≤ (8 : Int) + 4 * f.immV.toInt ∧ (8 : Int) + 4 * f.immV.toInt < codeSize ex 0) ∧
    (Issues ex at0 (lo 3 0 1021) ∧ (8 : Int) + 4 * (lo 3 0 1021).imm.toInt < codeSize ex 0) ∧
    (Issues ex at0 (sh 3 4 0) ∧ (xr ex at0 4).toNat % 4 = 0 ∧ (xr ex at0 4).toNat < codeSize ex 0) ∧
    (Issues ex at0 (sh 3 0 0) ∧ taskOf ex 0 = some task0) := by unfold Issues; decide +kernel

/-- Words of a thread's code: `nop`; class 12, class 15; operation 22 of class 0; all with no other field. -/
def word (cls op : Nat) : W64 := BitVec.ofNat 64 (2 * cls + 32 * op)
theorem witness_words :
    (Issues ex at0 (sh 0 0 0) ∧ Fields.ofWord (word 11 0) = sh 0 0 0 ∧ wordClass (word 11 0) = 11 ∧ wordOp (word 11 0) = 0) ∧
    (∀ c ∈ [(12, 0), (15, 63)], Issues ex at0 (Fields.ofWord (word c.1 c.2)) ∧ wordClass (word c.1 c.2) = c.1) ∧
    (Issues ex at0 (Fields.ofWord (word 0 22)) ∧ wordClass (word 0 22) < 12 ∧ decodeUtier at0 (word 0 22) = none) := by unfold Issues; decide +kernel
/-- `ex` with a change of lantern 0, or of gallery 0. -/
def exL (m : Mode) (f : Lantern → Lantern) : State := (run m).updLan 0 0 f
def exG (m : Mode) (f : Gallery → Gallery) : State := (run m).updGal 0 f
/-- Registers `x8` to `x15` at the edges of the word addresses. -/
def edge (m : Mode) : State :=
  (run m).updTh 0 0 0 (fun t => { t with x := [(8, 0x5FFF), (9, 0x5FF8), (10, 0x80000000), (11, 0x803BFFF8), (12, 0x801FFFF8), (13, 0x6000), (14, 0x803C0001), (15, 0x803FFFFF), (16, 0x803DFFFE)] })

theorem witness_FlagAndBarrierInstructions :
    (Issues ex at0 { sh 0 3 0 with e := 63 } ∧ (xr ex at0 0).toNat < 64 ∧ 1 ≤ (xr ex at0 3).toNat ∧ (xr ex at0 3).toNat ≤ 65535) ∧
    (Issues ex at0 { lo 0 0 65535 with e := 63 } ∧ (lo 0 0 65535).imm.toNat ≤ 65535) ∧
    (let s := exL .clear (fun y => { y with flags := [(1, 0xFFFFFFFF)] })
     Issues s at0 { lo 0 0 1 with e := 1 } ∧ 2 ^ 32 ≤ (flagOf s 0 0 1).toNat + 1) ∧
    (Tidy ex = true ∧ Issues ex at0 (sh 0 0 0) ∧ (arrivalsOf ex 0 0).length + 1 < barrierCount ex 0 0) ∧
    (let s := exG .clear (fun y => { y with arrivals := [(0, [(0, 1)])] })
     Tidy s = true ∧ Issues s at0 (sh 0 0 0) ∧ barrierCount s 0 0 = (arrivalsOf s 0 0).length + 1) := by
  repeat' apply And.intro
  all_goals (try unfold Issues); decide +kernel

theorem witness_LoadInstructions :
    (∀ f ∈ [sh 1 3 0, sh 1 8 0, sh 1 10 0], Issues (edge .clear) at0 f ∧ PlainWords (edge .clear) 0 (xr (edge .clear) at0 f.a).toNat 1 ∧
      (edge .clear).poisoned1 (memOf at0 (xr (edge .clear) at0 f.a).toNat) (offOf (xr (edge .clear) at0 f.a).toNat) = false) ∧
    (∀ f ∈ [sh 15 9 0, sh 15 11 0], Issues (edge .clear) at0 f ∧ PlainWords (edge .clear) 0 (xr (edge .clear) at0 f.a).toNat 8) ∧
    PlainWords (edge .share) 0 (xr (edge .share) at0 12).toNat 8 ∧ PlainWords (edge .clear) 0 (xr (edge .clear) at0 12).toNat 2 ∧
    (edge .clear).full1 (memOf at0 0x5FFF) (offOf 0x5FFF) = false ∧
    (exL .clear (fun y => { y with spTag := [(0x5FF, true)] })).full1 (memOf at0 0x5FFF) (offOf 0x5FFF) = true := by
  repeat' apply And.intro
  all_goals (try unfold Issues); (try unfold PlainWords); decide +kernel

theorem witness_StoreInstructions :
    (∀ f ∈ [sh 1 8 0, sh 1 10 0], Issues (edge .clear) at0 f ∧ PlainWords (edge .clear) 0 (xr (edge .clear) at0 f.a).toNat 1) ∧
    (∀ f ∈ [sh 1 9 0, sh 1 11 0], Issues (edge .clear) at0 f ∧ PlainWords (edge .clear) 0 (xr (edge .clear) at0 f.a).toNat 2 ∧
      PlainWords (edge .clear) 0 (xr (edge .clear) at0 f.a).toNat 8) := by
  repeat' apply And.intro
  all_goals (try unfold Issues); (try unfold PlainWords); decide +kernel

theorem witness_StoreFrame :
    Tidy (edge .clear) = true ∧ Issues (edge .clear) at0 (sh 1 9 0) ∧ PlainWords (edge .clear) 0 0x5FF8 8 ∧
    (edge .clear).full1 (memOf at0 0x5FF8) (offOf 0x5FF8) = false ∧ ∃ t, exec (.vst at0 (sh 1 9 0)) (edge .clear) = .next t := by
  refine ⟨?_, ?_, ?_, ?_, _, rfl⟩ <;> (try unfold Issues) <;> (try unfold PlainWords) <;> decide +kernel

theorem witness_AtomicsAndAliasWindow :
    (Issues ex at0 (sh 3 3 4) ∧ PlainWords ex 0 (xr ex at0 3).toNat 1 ∧ ex.poisoned1 (memOf at0 (xr ex at0 3).toNat) (offOf (xr ex at0 3).toNat) = false) ∧
    (∀ f ∈ [sh 1 6 0, sh 1 7 0], Issues ex at0 f ∧ (xr ex at0 f.a).toNat % 2 = 0 ∧ 0x803C0000 ≤ (xr ex at0 f.a).toNat) ∧
    (Issues (edge .cipher) at0 (sh 1 16 0) ∧ (xr (edge .cipher) at0 16).toNat < 0x803E0000 ∧ (xr (edge .cipher) at0 16).toNat % 2 = 0) ∧
    (Issues (edge .cipher) at0 (sh 1 15 0) ∧ (xr (edge .cipher) at0 15).toNat < 0x80400000) := by
  repeat' apply And.intro
  all_goals (try unfold Issues); (try unfold PlainWords); decide +kernel

theorem witness_SkipsAndCodeFetch :
    (Issues ex at0 (lo 3 1 2) ∧ Issues ex at0 { sh 3 1 2 with e := 1 } ∧ Issues ex at0 (sh 16 1 2)) ∧
    (Issues (edge .clear) at0 (sh 1 13 0) ∧ 0x6000 ≤ (xr (edge .clear) at0 13).toNat) ∧
    (Issues (edge .clear) at0 (sh 1 8 0) ∧ (xr (edge .clear) at0 8).toNat % 2 = 1) ∧
    (Issues (edge .share) at0 (sh 1 12 8) ∧ (xr (edge .share) at0 12 + 8).toNat = 0x80200000 ∧ ((edge .share).galAt 0).mode = .share) ∧
    (Issues (edge .clear) at0 (sh 1 14 0) ∧ 0x803C0000 ≤ (xr (edge .clear) at0 14).toNat) ∧
    (Issues ex at0 (sh 0 0 4) ∧ 63 < (xr ex at0 4).toNat ∧ Issues ex at0 (sh 0 0 0) ∧ xr ex at0 0 = 0 ∧ Issues ex at0 (sh 0 1 0) ∧
      65535 < (xr ex at0 1).toNat) ∧
    (Issues ex at0 (im 1 1 2045) ∧ (8 : Int) + 4 * (im 1 1 2045).immV.toInt < 0 ∧ Issues ex at0 (lo 1 1 1022) ∧
      (codeSize ex 0 : Int) ≤ 8 + 4 * (lo 1 1 1022).immV.toInt) ∧
    (Issues ex at0 { sh 0 0 0 with e := 7 } ∧ barrierCount ex 0 7 = 0) ∧
    (let s := ex.updTh 0 0 0 (fun t => { t with pc := 4096 }); galRuns s 0 = true ∧ (thOf s at0).st = .ready ∧ codeSize s 0 ≤ (thOf s at0).pc) ∧
    (let s := ex.updTh 0 0 0 (fun t => { t with pc := 256 }); (thOf s at0).pc < codeSize s 0 ∧ (s.lanAt 0 0).icache.contains (lineOf s 0 256) = false) ∧
    (let s := (exL .clear (fun y => { y with icache := [15] })).updTh 0 0 0 (fun t => { t with pc := 4092 })
     galRuns s 0 = true ∧ (s.lanAt 0 0).icache.contains (lineOf s 0 4092) = true ∧ codeSize s 0 < 4092 + 8) := by
  repeat' apply And.intro
  all_goals (try unfold Issues); decide +kernel

theorem witness_MatrixInstructions :
    (∀ f ∈ [lo 0 1 0xFF7F, lo 0 1 0x1FF7F, lo 3 0 0x0100, lo 3 0 0x0180], Tidy ex = true ∧ Issues ex at0 f) ∧
    (let s (n k : Nat) : State := (exL .clear (fun y => { y with qa := List.replicate n (.desc [] 0 false) })).updLan 0 63 (fun y => { y with qa := List.replicate k (.desc [] 0 false) })
     (∀ n ∈ [15, 16], ∀ k ∈ [15, 16], Tidy (s n k) = true ∧ ∀ f ∈ [lo 0 1 0xFF7F, lo 0 1 0xFFFF], Issues (s n k) at0 f) ∧
       ((∀ k ∈ List.range 64, ((s 15 15).lanAt 0 k).qa.length < 16) ∧ 16 ≤ ((s 16 15).lanAt 0 0).qa.length ∧ 16 ≤ ((s 15 16).lanAt 0 63).qa.length)) := by
  refine ⟨?_, ?_⟩
  all_goals (try unfold Issues); decide +kernel

def pushState : State :=
  (exL .cipher (fun y => { y with sp := [(1024, 1)], qs := [] })).updTh 0 0 0 (fun t => { t with v := [(0, 4)] })

theorem witness_PushesAndMacroCalls :
    (Issues pushState at0 (sh 0 0 0) ∧ fld (natLe 32 (vr pushState at0 0).toNat ++ natLe 32 (vr pushState at0 1).toNat) 0 1 % 16 = (4 : Fin 5).val) ∧
    (Issues pushState at0 (sh 0 3 0) ∧ fld (pushState.read1 { g := 0, l := 0, store := false } 1024 64) 0 1 % 16 = (1 : Fin 5).val ∧
      pushState.poisoned1 { g := 0, l := 0, store := false } 1056 = false) ∧
    (Issues pushState at0 (lo 0 3 0x11007F) ∧ (pushState.galAt 0).mode = .cipher ∧ ∀ k ∈ List.range 64, (pushState.lanAt 0 k).qa.length < 16) ∧
    (let s (n : Nat) := exL .clear (fun y => { y with qs := List.replicate n [] })
     queueDepth 2 ≤ queueLen ((s 16).lanAt 0 0) 2 ∧ queueLen ((s 15).lanAt 0 0) 2 < queueDepth 2) := by
  repeat' apply And.intro
  all_goals (try unfold Issues); decide +kernel

/-- Lantern 0 gangs an array descriptor, from a register pair and from the scratchpad, while the queue of lantern 63 holds 15 entries, or 16. -/
def gangState (n : Nat) : State :=
  ((exL .cipher (fun y => { y with sp := [(1026, 0x80)] })).updTh 0 0 0 (fun t => { t with v := [(0, 0x800000)] })).updLan 0 63
    (fun y => { y with qa := List.replicate n (.desc [] 0 false) })

theorem witness_PushesAndMacroCalls_ganged :
    (∀ n ∈ [15, 16], Issues (gangState n) at0 (sh 0 0 0) ∧ Issues (gangState n) at0 (sh 0 3 0) ∧ Issues (gangState n) at0 (lo 0 3 0x11007F)) ∧
    (∀ d ∈ [natLe 32 (vr (gangState 15) at0 0).toNat ++ natLe 32 (vr (gangState 15) at0 1).toNat, (gangState 15).read1 { g := 0, l := 0, store := false } 1024 64],
      fld d 0 1 % 16 = 0 ∧ nbit (fld d 3 1) 0 = false ∧ nbit (fld d 2 1) 7 = true) ∧
    (∀ k ∈ List.range 64, ((gangState 15).lanAt 0 k).qa.length < 16) ∧ 16 ≤ ((gangState 16).lanAt 0 63).qa.length := by
  refine ⟨?_, ?_⟩
  all_goals (try unfold Issues); decide +kernel

theorem ok_of {ε α : Type} {x : Except ε α} {p : α → Bool} (h : (match x with | .ok a => p a | .error _ => false) = true) : ∃ a, x = .ok a ∧ p a = true := by
  cases x with
  | error e => exact absurd h (by simp)
  | ok a => exact ⟨a, rfl, h⟩

theorem error_of {ε α : Type} {x : Except ε α} (h : (match x with | .ok _ => false | .error _ => true) = true) : ∃ e, x = .error e := by
  cases x with
  | error e => exact ⟨e, rfl⟩
  | ok a => exact absurd h (by simp)

/-- The listed bytes of a tensor descriptor at byte `w`: dense, one dimension of one element, its type, its first byte `256 * base`. -/
def line (w etype base : Nat) : Tab Byte := [(w + 1, BitVec.ofNat 8 base), (w + 8, BitVec.ofNat 8 etype), (w + 9, 1), (w + 16, 1), (w + 76, 1)]

/-- A scratchpad with tensor descriptors at words 64, 96, 128, of tensors at bytes 4096, 8192, 12288. -/
def pad (ty : Nat) : Tab Byte := line 256 ty 16 ++ line 384 ty 32 ++ line 512 ty 48

/-- Source slots full, the destination's empty. -/
def tags : Tab Bool := [(128, true), (192, true)]

def engine (m : Mode) (ty : Nat) (f : Lantern → Lantern) : State :=
  (run m).updLan 0 0 (fun y => f { y with sp := pad ty, spTag := tags })

/-- `fmul` of two scratchpad lines with a completion flag. -/
def desc (kind op : Byte) (w : List Byte) : Bytes := [kind, op, 0x45] ++ List.replicate 13 0 ++ w ++ List.replicate (48 - w.length) 0
def vdesc (op : Byte) : Bytes := desc 1 op [64, 0, 0, 0, 96, 0, 0, 0, 128]

def vecState : State := engine .clear 1 (fun y => { y with qv := [vdesc 3] })

theorem witness_VectorOperationsStart :
    (Tidy vecState = true ∧ enginesRun vecState 0 = true ∧ (vecState.lanAt 0 0).rv = none ∧ (vecState.lanAt 0 0).qv = [vdesc 3] ∧
      nbit (fld (vdesc 3) 3 1) 0 = false ∧ fld (vdesc 3) 1 1 = 3) ∧
    ∃ c, vCheck vecState 0 0 (vdesc 3) = .ok c ∧ vReady vecState 0 0 c (vdesc 3) = true :=
  ⟨by decide +kernel, ok_of (by decide +kernel)⟩

/-- `log` of a scratchpad line, and `copy` of one. -/
def sdesc (op : Byte) : Bytes := desc 2 op [64, 0, 0, 0, 96]
def ldesc (op : Byte) : Bytes := desc 3 op [64, 0, 0, 0, 96, 0, 0, 0, 0, 0, 0, 0, 0, 0, 0, 0, 0, 0, 0x88, 0x46]
def slState : State := engine .clear 1 (fun y => { y with qs := [sdesc 2], ql := [ldesc 1] })

theorem witness_SpecialAndLayoutOperationsStart :
    (Tidy slState = true ∧ enginesRun slState 0 = true ∧ (slState.lanAt 0 0).rs = none ∧ (slState.lanAt 0 0).rl = none) ∧
      (∃ c, sfuCheck slState 0 0 (sdesc 2) = .ok c ∧
        (slotsFull slState 0 0 (slotsOf 0 0 c.ins) && slotsEmpty slState 0 0 (slotsOf 0 0 c.fresh)) = true) ∧
      (∃ c, lmCheck slState 0 0 (ldesc 1) = .ok c ∧ (slotsFull slState 0 0 ((c.ins (ldesc 1) false).flatMap (Tensor.slots 0 0)) &&
        slotsEmpty slState 0 0 (c.outs.flatMap (Tensor.slots 0 0))) = true) :=
  ⟨by decide +kernel, ok_of (by decide +kernel), ok_of (by decide +kernel)⟩

/-- Partition 3 has a rate, and its bucket in hall 0 is empty. -/
def low (s : State) : State :=
  { s with hal := { s.hal with dict := Tab.put none (Dict.key 0x6180 4) (some [1, 0, 0, 0]) s.hal.dict },
           hall := Tab.upd HallState.zero 0 (fun y => { y with tokens := [(3, some (0, s.clock.now))] }) s.hall }

theorem witness_SpecialAndLayoutOperationsStart_held :
    let s := engine .clear 1 (fun y => { y with ql := [ldesc 1] })
    (Tidy (low s) = true ∧ enginesRun (low s) 0 = true) ∧ (askTokens s 0 (unitLayout 0) 1).2 = true ∧ (askTokens (low s) 0 (unitLayout 0) 1).2 = false ∧
      bucketOk (low s) 0 3 = false := by decide +kernel

/-- Descriptors that name no tensor. -/
def emptyDesc (kind op : Byte) : Bytes := desc kind op []
def refusedState : State := engine .clear 1 (fun y => { y with qv := [emptyDesc 1 3], qs := [emptyDesc 2 2], ql := [emptyDesc 3 2] })

theorem witness_RefusedDescriptorsSkip :
    (Tidy refusedState = true ∧ enginesRun refusedState 0 = true ∧ (flagOf refusedState 0 0 5).toNat < 2 ^ 32 - 1) ∧
      (∃ e, vCheck refusedState 0 0 (emptyDesc 1 3) = .error e) ∧ (∃ e, sfuCheck refusedState 0 0 (emptyDesc 2 2) = .error e) ∧
      (∃ e, lmCheck refusedState 0 0 (emptyDesc 3 2) = .error e) :=
  ⟨by decide +kernel, error_of (by decide +kernel), error_of (by decide +kernel), error_of (by decide +kernel)⟩

theorem witness_VectorAndShareArithmetic_lines :
    (∀ op, op ∈ [0x31, 0x32, 0x33] → ([0x3F800000, 0x7FC00001] : List W32).any F32.isNan = true) ∧ ([0xBF800000] : List W32) ≠ [] ∧ ∀ x ∈ ([0xBF800000, 0] : List W32), fpFinite x := by
  refine ⟨by decide +kernel, by decide, ?_⟩
  unfold fpFinite; simp

theorem witness_VectorAndShareArithmetic : (17 % 2 = 1 ∧ 1 < 17 ∧ 16 < 17) ∧ (6 : W32) = 2 * 3 ∧ (5 : W32) = 7 - 2 ∧ (31 < 32) := by decide

theorem witness_ColumnReduction : 3 % 2 = 1 ∧ 3 < 2 ^ 32 ∧ (3 * 21845 + 1) % 65536 = 0 ∧ 2 < 3 ∧ 2 ^ 64 * 3 - 1 < 2 ^ 64 * 3 := by decide
/-- `fneg` of ring entry 1 into 1,024 words of the scratchpad, whatever their tags. -/
def ringDesc : Bytes := [1, 0x0A, 0x45, 1, 1, 0] ++ List.replicate 10 0 ++ [64] ++ List.replicate 27 0 ++ [8] ++ List.replicate 19 0
def ringState : State :=
  exL .clear (fun y => { y with
    qv := [ringDesc], arr := { Arr.zero with drains := [{ seq := 1, at_ := 100, data := [], poi := [] }] }, drainSeq := 2,
    sp := [(257, 16), (264, 1), (265, 1), (273, 4), (332, 1)] })

theorem witness_RingReads :
    (Tidy ringState = true ∧ enginesRun ringState 0 = true ∧ (ringState.lanAt 0 0).rv = none ∧ (ringState.lanAt 0 0).qv = [ringDesc] ∧
      drainBeat (ringState.lanAt 0 0) 1 = some 100 ∧ (ringState.lanAt 0 0).vecEnd ≤ 100) ∧
    (∃ c, vCheck ringState 0 0 ringDesc = .ok c ∧ vReady ringState 0 0 c ringDesc = true) ∧
    (∀ ch, ch < 32 → ringTag (ringState.lanAt 0 0).arr 1 (ch / 4) (104 + ch) = (true, 1)) ∧
    ringTag (ringState.lanAt 0 0).arr 1 0 100 ≠ (true, 1) :=
  ⟨by decide +kernel, ok_of (by decide +kernel), by decide +kernel, by decide +kernel⟩

/-- Array descriptors of one tensor: a load, a run, a drain. -/
def adesc (op fmt fl : Byte) : Bytes := [0, op, 0x45] ++ List.replicate 13 0 ++ [fmt, fl, 0, 0, 64] ++ List.replicate 43 0
def arrState (m : Mode) (ty : Nat) (d : Bytes) (gang : Bool) (arr : Arr) : State :=
  exL m (fun y => { y with qa := [.desc d 7 gang], sp := line 256 ty 16, arr := arr })
def readySeg (fmt : Nat) : Arr :=
  { Arr.zero with segs := [(0, { Seg.zero with valid := true, fmt := fmt, k := 1 })],
                  latch := [(0, some { fmt := 0x40, mtab := 0, msel := 0, gang := false, moduli := [(3, 21845)] })] }

def loadState := arrState .clear 2 (adesc 1 0x20 0) false Arr.zero
def runState := arrState .clear 2 (adesc 2 0x20 0) false (readySeg 0x20)
def mloadState := arrState .cipher 17 (adesc 1 0x40 0) false Arr.zero
def mrunState := arrState .cipher 17 (adesc 2 0x40 1) false (readySeg 0x40)
def drainState := arrState .clear 2 (adesc 3 1 0) false { Arr.zero with lastStart := 5 }

theorem witness_ArrayOperationsStart :
    ((∀ s ∈ [loadState, runState, mloadState, mrunState], Tidy s = true ∧ enginesRun s 0 = true) ∧
     (Tidy drainState = true ∧ arrHead drainState 0 0 = some (adesc 3 1 0, false) ∧ startBeat drainState 0 0 2 (adesc 3 1 0) false = 5 ∧
       (drainState.galAt 0).mode ≠ .share ∧ Tab.get 0 ((headSeq drainState 0 0).toNat % 4) (drainState.lanAt 0 0).ringUse ≤ 5)) ∧
    (arrHead loadState 0 0 = some (adesc 1 0x20 0, false) ∧ ∃ c, arrCheck (popArray loadState 0 0 false) 0 0 false true (adesc 1 0x20 0) = .ok c ∧
      decide (arrEarliest (loadState.lanAt 0 0).arr (adesc 1 0x20 0) ≤ 0) = true) ∧
    (arrHead mloadState 0 0 = some (adesc 1 0x40 0, false) ∧ ∃ c, arrCheck (popArray mloadState 0 0 false) 0 0 false true (adesc 1 0x40 0) = .ok c ∧
      isModular 0x40 = true) ∧
    (arrHead runState 0 0 = some (adesc 2 0x20 0, false) ∧ ∃ c, arrCheck (popArray runState 0 0 false) 0 0 false false (adesc 2 0x20 0) = .ok c ∧
      decide (arrEarliest (runState.lanAt 0 0).arr (adesc 2 0x20 0) ≤ 0) = true) ∧
    (arrHead mrunState 0 0 = some (adesc 2 0x40 1, false) ∧ ∃ c, arrCheck (popArray mrunState 0 0 false) 0 0 false false (adesc 2 0x40 1) = .ok c ∧
      isModular 0x40 = true) :=
  ⟨by decide +kernel, ⟨by decide +kernel, ok_of (by decide +kernel)⟩, ⟨by decide +kernel, ok_of (by decide +kernel)⟩,
    ⟨by decide +kernel, ok_of (by decide +kernel)⟩, ⟨by decide +kernel, ok_of (by decide +kernel)⟩⟩

def aRun : Run := { Run.of 3 [{ store := false, n := 2 }] [{ store := false, n := 2 }, { store := true, n := 1 }] [{ store := true, n := 3 }] (some 5) with till := 9 }

theorem witness_DescriptorEnd :
    ∀ s ∈ [exL .share (fun y => { y with rv := some aRun, rs := some aRun, rl := some aRun, ra := [{ aRun with till := 10 }, aRun] })],
      Tidy s = true ∧ galRuns s 0 = true ∧ (flagOf s 0 0 5).toNat < 2 ^ 32 - 1 ∧ (s.lanAt 0 0).rv = some aRun ∧ (s.lanAt 0 0).rs = some aRun ∧
        (s.lanAt 0 0).rl = some aRun ∧ firstRun (s.lanAt 0 0).ra = some aRun := by decide +kernel

/-! Streams: one element of 32 bits between the scratchpad and virtual address 0. -/

def burst0 (st : BurstState) : Burst := { va := 0, len := 256, els := [{ near := some 32768, far := 0, w := 32, v := 0, n := 0 }], slots := [64], st := st }
def strRun0 (write : Bool) (st : BurstState) : StrRun :=
  { write := write, store := false, peer := 0xFFFF, asid := 1, bursts := [burst0 st], maxOut := 384, overwrite := true, seen := [64], take := false, once := [],
    flag := some 5, op := if write then 2 else 1 }
def strState (write : Bool) (st : BurstState) : State := exL .clear (fun y => { y with str := some (strRun0 write st) })
/-- A fetch, or a store, between a scratchpad tensor and one at virtual address 256. -/
def tdesc (op dst src : Byte) : Bytes := [4, op, 0x45] ++ List.replicate 13 0 ++ [dst, 0, 0, 0, src] ++ List.replicate 43 0
def strPad : Tab Byte := line 256 1 16 ++ [(385, 1), (392, 1), (393, 1), (395, 2), (400, 1), (460, 1)]
def strQueue (d : Bytes) : State := exL .clear (fun y => { y with qt := [d], sp := strPad })

/-- The stack of address 0 belongs to hall 0; gallery 16 of hall 1 waits for a burst of it while hall 0 holds, its buffer empty or full. -/
def heldState (n : Nat) : State :=
  { (strState false .issued) with
    gal := [(16, ((strState false .issued).galAt 0))],
    dram := { Dram.zero with spaces := [(1, some { owner := 3, pages := [{ va := 0, pa := 0, size := 0, rd := true, wr := true }] })] },
    hall := [(0, { HallState.zero with heldSince := some 0, land := { HallState.zero.land with dram := [(0, List.replicate n { gal := 17, lan := 0, burst := 0, data := [], bad := 0 })] } })] }

theorem witness_StreamTransfers_held :
    (∀ n ∈ [0, 15, 16], let s := heldState n
      Tidy s = true ∧ galRuns s 16 = true ∧ (s.lanAt 16 0).str = some (strRun0 false .issued) ∧ inLanding s 16 0 0 = false ∧ xlate s 1 0 false = some 0 ∧
        hallHeld s (stackOf 0 / 4) = true ∧ (Tab.get [] (32 * (stackOf 0 % 4) + channelOf 0) (s.hallAt 0).land.dram).length = n) ∧
    (inLanding (strState false .issued) 0 0 0 = false ∧ (∀ h, h < 4 → hallHeld (strState false .issued) h = false) ∧ ((strState true .issued).galxAt 0).upd = none) := by
  decide +kernel

theorem witness_StreamTransfers :
    ((∀ s ∈ [strState false .issued, strState true .issued, strState false .held], Tidy s = true ∧ enginesRun s 0 = true) ∧
     (∀ w : Bool, ((strState w .issued).lanAt 0 0).str = some (strRun0 w .issued) ∧ (strRun0 w .issued).bursts[0]? = some (burst0 .issued)) ∧
     bucketOk (strState false .held) 0 3 = true) ∧
    (Tidy (strQueue (tdesc 1 64 96)) = true ∧ ∃ c,
      strCheck (touch (headNow ((strQueue (tdesc 1 64 96)).updLan 0 0 (fun y => { y with qt := [] })) 0 0 4) 0) 0 0 (tdesc 1 64 96) = .ok c ∧ true = true) ∧
    (Tidy (strQueue (tdesc 2 96 64)) = true ∧ ∃ c,
      strCheck (touch (headNow ((strQueue (tdesc 2 96 64)).updLan 0 0 (fun y => { y with qt := [] })) 0 0 4) 0) 0 0 (tdesc 2 96 64) = .ok c ∧ true = true) :=
  ⟨by decide +kernel, ⟨by decide +kernel, ok_of (by decide +kernel)⟩, ⟨by decide +kernel, ok_of (by decide +kernel)⟩⟩

/-! What waits (R52, R506) and what does not. -/

/-- The host holds the line of byte 0. -/
def hostHolds (s : State) : State := { s with cxl := { s.cxl with filter := [State.dramLine 0] } }

theorem witness_GivesAwaited :
    dramBusy slState slState = false ∧ dramBusy (hostHolds slState) ((hostHolds slState).snoopLines 0 256) = true ∧
      toSnoop (hostHolds slState) ((hostHolds slState).snoopLines 0 256) = [State.dramLine 0] ∧ dramBusy (hostHolds slState) ((hostHolds slState).snoopLines 256 256) = false ∧
      dramBusy (heldState 0) ((heldState 0).snoopRange 0 256) = true := by decide +kernel

/-! Flights -/

def msg0 (ty : Byte) : Msg :=
  { mtype := ty, hops := 0, dstDev := 9, srcDev := 8, srcGal := 0, mflags := 0, tag := 4, status := 0, srcPart := 2, dstPart := 3, length := 32, addr := 0, arg := 0x100000005,
    pmap := 0, data := List.replicate 32 7 }
/-- Device 9; partition 3 admits everything of partition 2 of device 8, addresses in space 1, whose page 0 lies at 0. -/
def netState : State :=
  { (strState false .issued) with
    hal := { Haldub.zero with dict := [(Dict.key 0xA000 1, some [9, 0]), (Dict.key 0xA200 4, some [1, 0, 1, 0, 8, 0x20, 0x3C, 0])] },
    dram := { Dram.zero with spaces := [(1, some { owner := 3, pages := [{ va := 0, pa := 0, size := 0, rd := true, wr := true }] })] },
    galx := [(0, { GalleryX.zero with txs := [{ tag := 4, lan := 0, burst := 0, write := false, since := 0, dev := 8 }, { tag := 4, lan := 0, burst := 0, write := true, since := 0, dev := 8 }] })],
    clock := { State.reset.clock with now := 1000000000 } }

theorem witness_FlightResponsesAndSignals :
    (Tidy netState = true ∧ mine netState (msg0 4) = true) ∧
    (findTx netState 4 false 8).isSome = true ∧ (findTx netState 4 true 8).isSome = true ∧ findTx netState 4 true 7 = none ∧
    1000 * netState.obj 0xA020 1 ≤ netState.clock.now ∧
    admitted netState (msg0 9) rightSignal = true ∧ (msg0 9).status = 0 := by decide +kernel

/-- A put to hall 0: none that waits, one that waits; hall 0 holds, the buffer of its landing as given. -/
def landState (io : List (Option Nat × Msg)) (stuck : List StuckMsg) (held : Bool) (parked : List StuckMsg) : State :=
  { netState with net := { Net.zero with parked := parked },
                  hall := if held then [(0, { HallState.zero with heldSince := some 0, land := { Landing.zero with io := io, stuck := stuck } })] else [] }

theorem witness_Lands :
    let x : StuckMsg := { flight := 36, credits := [], msg := msg0 1 }
    let big (n : Nat) : Msg := { msg0 1 with data := List.replicate n 0 }
    let full (n : Nat) : List (Option Nat × Msg) := [(none, big 32672), (none, big n)]
    (heldOnWay (landState [] [] false []) none (msg0 1) = none ∧ behind (landState [] [] false []) x = false ∧ dramBusy (landState [] [] false []) (landState [] [] false []) = false ∧
      dramBusy (hostHolds (landState [] [] false [])) ((hostHolds (landState [] [] false [])).snoopLines 0 32) = true ∧ behind (landState [] [] false [x]) x = true) ∧
    (∀ n ∈ [32688, 32689], heldOnWay (landState (full n) [] true []) none (msg0 1) = some 0) ∧ heldOnWay (landState [] [x] true []) none (msg0 1) = some 0 ∧
      ((landState (full 32688) [] true []).hallAt 0).land.ioBytes + 48 + (msg0 1).data.length = 65536 ∧
      ((landState (full 32689) [] true []).hallAt 0).land.ioBytes + 48 + (msg0 1).data.length = 65537 := by decide +kernel

/-- The barrier that `msg0 10` arrives at waits for `32 - c` more arrivals. -/
def barState (c : Nat) : State := { netState with net := { Net.zero with bar := [(53, { gen := 1, len := 32, count := c, devs := [] })] } }

theorem witness_FlightResponsesAndSignals_barrier :
    ∀ c ∈ [30, 31], Tidy (barState c) = true ∧ mine (barState c) (msg0 10) = true ∧ admitted (barState c) (msg0 10) rightSignal = true ∧ (msg0 10).length.toNat = 32 ∧
      16 * (msg0 10).dstPart.toNat + (msg0 10).arg.toNat % 16 = 53 ∧
      Tab.get Barrier.zero 53 (barState c).net.bar = { gen := ((msg0 10).arg >>> 32).setWidth 32, len := 32, count := c, devs := [] } := by decide +kernel

theorem witness_FlightAgentAccesses :
    (mine netState (msg0 1) = true ∧ (msg0 1).length = 32 ∧ (msg0 1).data.length = 32) ∧
    admitted netState (msg0 1) rightWrite = true ∧ admitted netState (msg0 3) rightRead = true ∧ msgRangeOk (msg0 1) = true ∧
    msgPas netState (msg0 1) true = some [0] ∧ msgPas netState (msg0 3) false = some [0] ∧ netState.lostAt 0 = false ∧
    admitted netState { msg0 1 with dstPart := 4 } rightWrite = false ∧ admitted netState { msg0 3 with dstPart := 64 } rightRead = false := by decide +kernel
/-- Whether a write passes every check before its object's own. -/
def mayB (s : State) (q : Req) (i sub : Nat) (v : Bytes) (part : Option Nat) : Bool :=
  decide (s.boot.stage = .ready) && !mailboxBusy s q && s.hal.serving.isNone &&
    (match whoOf s q with
     | .ok w => (writeBad s w i sub v part).isNone
     | .error _ => false)

theorem may {s : State} {q : Req} {i sub : Nat} {v : Bytes} {part : Option Nat} (h : mayB s q i sub v part = true) :
    ∃ w, MayWrite s q i sub v part w := by
  unfold mayB at h
  cases hw : whoOf s q with
  | error e => rw [hw] at h; simp at h
  | ok w => rw [hw] at h; simp at h; exact ⟨w, h.1.1.1, h.1.1.2, h.1.2, hw, h.2⟩

/-! Requests: an Operator, the Owner of partition 3 and a Host driver hold sessions 1, 2 and 3 of the field port. -/

def hsess (role : Nat) (mask : W64) : HSess :=
  { port := .field, cred := role, role := role, mask := mask, c2d := [1], d2c := [2], seq := 6, kept := [], stage := none, snap := none, last := 0 }
def desk : State :=
  { rdy with hal := { Haldub.zero with fieldUp := true, sess := [(1, some (hsess 1 0)), (2, some (hsess 2 8)), (3, some (hsess 3 0xFFFFFFFFFFFFFFFF)),
                        (4, some { hsess 1 0 with port := .mailbox })] },
             galx := [(5, { GalleryX.zero with phys := [(7, { Phys.zero with dead := true })] })], gal := [(5, { Gallery.zero with mode := .clear })] }
def opr : Req := { port := .field, sess := 1 }
def own : Req := { port := .field, sess := 2 }
def drv : Req := { port := .field, sess := 3 }
def gone : Req := { port := .field, sess := 9 }
def anon : Req := { port := .mailbox, sess := 0 }

theorem witness_StoredObjectWrites :
    (∃ w, MayWrite desk own 0x6190 4 [0, 0, 1, 0] (some 3) w) ∧ (∃ w, MayWrite desk own 0x6120 4 [1] (some 3) w) ∧
    (∃ w, MayWrite desk own 0x6180 4 [0, 0x80, 1, 0] (some 3) w) ∧ (∃ w, MayWrite desk own 0x6181 4 [4, 0, 0, 0] (some 3) w) ∧
    ((∃ w, MayWrite desk own 0xB120 4 [0, 0, 0, 0x0C] (some 3) w) ∧ ∀ j, j < 64 → (slotAllot desk j).2 = 0) ∧
    ((∃ w, MayWrite desk own 0x6161 4 [0, 0, 0x80, 0x57] (some 3) w) ∧ F32.lt (w32 0x57800000) 0x404CCCCD = false) ∧
    (∃ w, MayWrite desk opr 0x6001 4 (1 :: List.replicate 159 0) (some 3) w) ∧
    (∃ w, MayWrite desk own 0xA200 4 [0xFF, 0xF, 0, 0] (some 3) w) ∧ (∃ w, MayWrite desk drv 0xA000 1 [0xFF, 0xF] none w) ∧
    (∃ w, MayWrite desk drv 0xA001 36 [0] none w) ∧ (∃ w, MayWrite desk drv 0xA001 1 [1] none w) ∧
    (∃ w, MayWrite desk opr 0x4000 1 [0xD0, 7, 0, 0] none w) ∧ (∃ w, MayWrite desk drv 0xC100 1 [0, 0, 0, 0x40, 0, 0, 0, 0] none w) ∧
    ((∃ w, MayWrite desk drv 0xC100 2 [79, 0, 0, 0] none w) ∧ windowOk (desk.obj 0xC100 1) 79 = true) ∧
    (∃ w, MayWrite desk drv 0x2110 2 [64, 0, 0, 0] none w) ∧ ((∃ w, MayWrite desk drv 0x8010 4 [0, 0, 0, 0, 0, 0, 0, 0x80] none w) ∧ desk.timeSource = 0) := by
  repeat' apply And.intro
  all_goals first | (apply may; decide +kernel) | decide +kernel

theorem witness_RouteTable : (∃ w, MayWrite desk drv 0xA010 0 (List.replicate 16384 0) none w) ∧ routeEntryOk 0 = true ∧ routeEntryOk 0x048E38E3 = true :=
  ⟨may (by decide +kernel), by decide +kernel, by decide +kernel⟩

theorem witness_WriteRights :
    (desk.boot.stage = .ready ∧ mailboxBusy desk own = false ∧ desk.hal.serving = none) ∧ whoOf desk gone = .error St.sessionGone ∧
    (∃ w, whoOf desk own = .ok w ∧ (w.role == 2 && !w.mask.getLsbD 4) = true) ∧ (∃ w, whoOf desk opr = .ok w ∧ (w.role == 1) = true) ∧
    (∃ w, whoOf desk drv = .ok w ∧ (w.role == 3) = true) ∧ ∃ w, whoOf desk anon = .ok w ∧ (w.role == 0) = true :=
  ⟨by decide +kernel, rfl, ok_of (by decide +kernel), ok_of (by decide +kernel), ok_of (by decide +kernel), ok_of (by decide +kernel)⟩

theorem witness_PackageBudgetRange :
    leNat [0xD1, 7, 0, 0] = 2001 ∧ desk.lamp.fuses.hx = true ∧ (∃ w, MayWrite desk opr 0x4000 1 [0xD1, 7, 0, 0] none w) ∧ leNat [0x83, 3, 0, 0] = 899 ∧
      ∃ w, MayWrite desk opr 0x4000 1 [0x83, 3, 0, 0] none w :=
  ⟨by decide, rfl, may (by decide +kernel), by decide, may (by decide +kernel)⟩
/-! Parameter and key sets: N = 4096, one prime of Q and one of P. -/

def enc0 : Bytes :=
  [0x4C, 0x50, 0x53, 0x31, 12, 1, 1, 1, 1] ++ List.replicate 7 0 ++ [1, 96, 0, 16, 127, 173, 59, 9, 1] ++ List.replicate 7 0 ++
    [1, 64, 2, 16, 138, 198, 20, 14, 1] ++ List.replicate 7 0
def record0 : Bytes := [7, 0, 3, 0, 0xFF, 0xFF, 48, 0] ++ List.replicate 8 0 ++ enc0
def pset0 : Machine.PSet := { part := 3, margin := 3072, enc := enc0, below := false, ready := true, at_ := 0, req := opr }

/-- The record passes every check, once its tables fit the parameter region, whose use of it the model leaves open (log 21). -/
theorem witness_record (h : paramKiB desk + (PSet.ofRecord record0 false desk.clock.now own).kib ≤ 8388608) : ∃ p, recordCheck desk own record0 = .ok p := by
  unfold recordCheck
  rw [if_neg (by decide +kernel)]
  dsimp only
  split
  · rename_i i hx; exfalso; have h2 := congrArg Option.isNone hx; simp only [Option.isNone_some] at h2; clear hx; revert h2; decide +kernel
  · rw [if_neg (by decide +kernel), if_neg (by decide +kernel)]
    split
    · rename_i i hx; exfalso; have h2 := congrArg Option.isNone hx; simp only [Option.isNone_some] at h2; clear hx; revert h2; decide +kernel
    · split
      · rename_i i hx; exfalso; have h2 := congrArg Option.isNone hx; simp only [Option.isNone_some] at h2; clear hx; revert h2; decide +kernel
      · rw [if_neg (by decide +kernel), if_neg (by omega)]; exact ⟨_, rfl⟩

def kset0 : KSet := { fp := 1, ps := 7, part := 3, seeded := false, dirCount := 1, seed := [], dirAddr := 256, opened := 0, stopped := 0 }
/-- `desk` with set 7 registered and selected; `on`: a key set names it. -/
def keyDesk (on : Bool) : State :=
  { desk with dram := { Dram.zero with psets := [(7, some pset0)], ksets := if on then [kset0] else [] },
              hal := { desk.hal with dict := [(Dict.key 0x6102 0, some [7, 0])] } }
def ksetValue : Bytes := [1, 0, 0, 0, 0, 0, 0, 0, 7, 0, 3, 0, 1, 0, 0, 0] ++ List.replicate 33 0 ++ [1] ++ List.replicate 14 0
def ksetName : Bytes := [1, 0, 0, 0, 0, 0, 0, 0, 3]

theorem witness_ParameterAndKeySets :
    (∀ b : Bool, Tidy (keyDesk b) = true) ∧ Tidy desk = true ∧ (∃ w, MayWrite desk own 0x6100 1 record0 (bytePart record0 2) w) ∧
    ((∃ w, MayWrite desk own 0x6100 1 [0, 0, 3] (bytePart [0, 0, 3] 2) w) ∧ ∃ e, recordCheck desk own [0, 0, 3] = .error e) ∧
    (let s := { desk with dram := { Dram.zero with psets := [(7, some { pset0 with ready := false })] } }
     Tab.get none 7 s.dram.psets = some { pset0 with ready := false } ∧ hwGone s 2 7 (1024 * pset0.kib) = false ∧ s.hal.waitFrames = []) ∧
    ((∃ w, MayWrite (keyDesk false) own 0x6101 0 [8, 0] (some (psetPart (keyDesk false) 8)) w) ∧ psetOf (keyDesk false) 8 = none ∧ psetOf desk (desk.obj 0x6102 0) = none ∧
      ∃ w, MayWrite desk own 0x6103 4 [0, 0x40] (some (psetPart desk (desk.obj 0x6102 0))) w) ∧
    (∃ w, MayWrite (keyDesk false) own 0x6101 0 [7, 0] (some (psetPart (keyDesk false) 7)) w) ∧ psetOf (keyDesk false) 7 = some pset0 ∧
    psetBusy (keyDesk false) 7 = false ∧ psetBusy (keyDesk true) 7 = true ∧
    ((keyDesk false).obj 0x6102 0 = 7 ∧ ∃ w, MayWrite (keyDesk false) own 0x6103 4 [0, 0x40] (some (psetPart (keyDesk false) 7)) w) ∧
    ((∃ w, MayWrite (keyDesk false) own 0x6140 1 ksetValue (bytePart ksetValue 0x0A) w) ∧ ksetBad ksetValue = false ∧ fld ksetValue 8 2 = 7 ∧
      ksetOf (keyDesk false) 3 1 = none) ∧
    ((∃ w, MayWrite (keyDesk true) own 0x6141 0 ksetName (bytePart ksetName 8) w) ∧ (ksetOf (keyDesk true) 3 1).isSome = true ∧ ksetBusy (keyDesk true) 3 1 = false ∧
      ksetBusy { keyDesk true with roll := [(0, some { entry0 with fp := 1 })] } 3 1 = true) := by
  repeat' apply And.intro
  all_goals first | (apply may; decide +kernel) | (apply error_of; decide +kernel) | decide +kernel

/-! Maps -/

/-- A request that maps the page at 2 GiB of space 1; partition 3 holds unit 2. -/
def mapValue : Bytes := [1, 0, 1, 0, 0, 0, 0, 0] ++ [0, 0, 0, 0x80, 0, 0, 0, 0] ++ [0x0E, 0, 0, 0x80, 0, 0, 0, 0]
def page0 : Page := { va := 0x80000000, pa := 0x80000000, size := 2, rd := true, wr := true }
def mapDesk (ps : List Page) : State :=
  { desk with hal := { desk.hal with dict := [(Dict.key 0x6001 4, some (4 :: List.replicate 159 0))] },
              dram := { Dram.zero with spaces := [(1, some { owner := 3, pages := ps })], mapWait := [(own, [(1, 0, 65536)])] },
              galx := [(0, { GalleryX.zero with tlb := [{ asid := 1, va := 0, pa := 0, size := 0, rights := 3 }, { asid := 1, va := 65536, pa := 0, size := 0, rights := 3 }] })] }

theorem witness_VirtualMemoryMap :
    (∀ ps ∈ [[], [page0]], (∃ w, MayWrite (mapDesk ps) own 0x6170 1 mapValue (mapPart (mapDesk ps) own mapValue) w)) ∧
    mapPart (mapDesk []) own mapValue = some 3 ∧ readMaps mapValue = some [.map page0] ∧ pagesAllotted (mapDesk []) 3 [.map page0] = true ∧
    applyMaps [.map page0] [] = some [page0] ∧ allTables (Tab.put none 1 (some { owner := 3, pages := [page0] }) (mapDesk []).dram.spaces) ≤ 2 ^ 30 ∧
    applyMaps [.map page0] [page0] = none ∧ ((mapDesk []).dram.mapWait = [(own, [(1, 0, 65536)])] ∧ (mapDesk []).hal.waitFrames = []) ∧
    (∀ x ∈ pagesOf (mapDesk [page0]) 1, x.holds 0x7FFFFFFF = false) ∧ (pagesOf (mapDesk [page0]) 1).find? (fun x => x.holds 0xBFFFFFFF) = some page0 := by
  refine ⟨fun ps h => ?_, ?_⟩
  · simp only [List.mem_cons, List.not_mem_nil, or_false] at h
    rcases h with rfl | rfl <;> exact may (by decide +kernel)
  · decide +kernel

/-! Rings, the roll, plans -/

/-- Ring 2 of partition 3, its state, head and tail; ring 3 in DRAM with an item at byte 0x80000000. -/
def ringOf (st : Nat) (loc : Nat) : Ring :=
  { Ring.zero with base := 0x80000000, logLen := 6, loc := loc, part := some 3, head := 0xFFFFFFFF, tail := 0, st := st, enable := st != 0 }
def ringDesk (st : Nat) : State :=
  { desk with
    hal := { desk.hal with dict := [(Dict.key 0x6001 4, some (4 :: List.replicate 159 0))] },
    cxl := { desk.cxl with rings := [(2, ringOf st 0), (3, ringOf st 1)] },
    roll := [(5, some entry0)], changes := [{ sid := 5, entry := none, req := own }, { sid := 6, entry := some entry0, req := own }] }
def ringValue (en : Byte) : Bytes := [0, 0, 0, 0x80, 0, 0, 0, 0, 16, 1, 3, en, 0xFF, 7] ++ List.replicate 18 0
def sessValue (sid fl : Byte) : Bytes := [sid, 0, 0, 0, 3, 1, fl] ++ List.replicate 57 0

theorem witness_RingsAndSessionRoll :
    (∀ n ∈ [0, 1, 2], Tidy (ringDesk n) = true) ∧
    (∀ b : Bool, ∃ w, MayWrite (ringDesk 0) own 0xB100 3 (ringValue (if b then 1 else 0)) (ringPart (ringDesk 0) own ((ringDesk 0).ringAt 2)) w) ∧
    (ringPart (ringDesk 0) own ((ringDesk 0).ringAt 2) = some 3 ∧ ringBad (ringDesk 0) ((ringDesk 0).ringAt 2) (some 3) (ringValue 1) = false ∧
      ringBad (ringDesk 0) ((ringDesk 0).ringAt 2) (some 3) (ringValue 0) = false ∧ (ringDesk 0).cxl.cxl = true ∧
      ringBad (ringDesk 1) ((ringDesk 1).ringAt 2) (some 3) (ringValue 1) = true ∧ (ringPart (ringDesk 1) own ((ringDesk 1).ringAt 2)) = some 3 ∧
      ((ringDesk 1).ringAt 2).enable = true ∧ ringBad (ringDesk 1) ((ringDesk 1).ringAt 2) (some 3) (slice ((ringDesk 1).ringAt 2).bytes 0 11 ++ List.replicate 21 0) = false) ∧
    (barReads (ringDesk 1) = true ∧ ((63 : W32) - ((ringDesk 1).ringAt 2).head).toNat = 2 ^ 6 ∧ ((64 : W32) - ((ringDesk 1).ringAt 2).head).toNat = 65 ∧
      ((ringDesk 1).ringAt 2).st = 1 ∧ ((ringDesk 2).ringAt 2).st = 2) ∧
    (mayRead (ringDesk 1) ((ringDesk 1).ringAt 2) = true ∧ ((ringDesk 1).ringAt 2).loc = 0 ∧ mayRead (ringDesk 1) ((ringDesk 1).ringAt 3) = true ∧
      ((ringDesk 1).ringAt 3).loc = 1 ∧ ((ringDesk 1).dget (itemAddr ((ringDesk 1).ringAt 3)) 64).2 = false ∧ (ringDesk 1).boot.stage ≠ .held) ∧
    (∀ b : Bool, (∃ w, MayWrite (ringDesk 0) own 0x6010 0 (sessValue 9 (if b then 1 else 0)) (bytePart (sessValue 9 0) 4) w)) ∧
    (sessBad (ringDesk 0) (sessValue 9 1) = none ∧ sessNow (ringDesk 0) 9 = none ∧ sessNow (ringDesk 0) 6 = some entry0) ∧
    (ringDesk 0).changes.find? (fun c => c.sid == 6) = some { sid := 6, entry := some entry0, req := own } ∧ (ringDesk 0).hal.waitFrames = [] := by
  repeat' apply And.intro
  all_goals first | (intro b; cases b <;> (apply may; decide +kernel)) | decide +kernel

/-- A plan of epoch `e` that makes gallery 1 Clear for partition 3. -/
def planHead (e : Byte) : Bytes := [e] ++ List.replicate 31 0 ++ [1, 0, 0, 0, 0, 0, 0, 0, 8] ++ List.replicate 7 0
def planValue (e : Byte) : Bytes := planHead e ++ List.replicate 992 0

theorem planValue_far (e : Byte) (n k : Nat) (h : 48 ≤ n) : fld (planValue e) n k = 0 := by
  have hz : ∀ (l : Bytes), (∀ x ∈ l, x = 0) → leNat l = 0 := fun l => by
    induction l with
    | nil => intro _; rfl
    | cons x r ih => intro h; simp [leNat, h x (by simp), ih (fun y hy => h y (by simp [hy]))]
  have hl : (planHead e).length = 48 := rfl
  refine hz _ (fun x hx => ?_)
  unfold slice planValue at hx
  simp only [List.mem_map] at hx
  obtain ⟨i, -, rfl⟩ := hx
  rw [List.getD_eq_getElem?_getD, List.getElem?_append_right (by omega), List.getElem?_replicate]
  split <;> rfl

theorem planValue_ok (s : State) (hs : s.plan.epoch = 0) : planBad s (planValue 1) = false ∧ planBad s (planValue 0) = true := by
  have far (g : Nat) (h : 2 ≤ g) : planEntryOk (planValue 1) g = true := by
    unfold planEntryOk planEntry
    rw [planValue_far _ _ _ (by omega), planValue_far _ _ _ (by omega), planValue_far _ _ _ (by omega)]
    decide
  have near (g : Nat) (h : g < 2) : planEntryOk (planValue 1) g = true := by
    have h2 : ∀ g, g < 2 → planEntryOk (planValue 1) g = true := by decide +kernel
    exact h2 g h
  have all : (List.range 64).all (planEntryOk (planValue 1)) = true := by
    rw [List.all_eq_true]
    intro g _
    exact if h : g < 2 then near g h else far g (by omega)
  unfold planBad
  rw [hs, all]
  decide +kernel

theorem witness_ModePlans :
    let s : State := { desk with gal := [(2, { Gallery.zero with qFault := true, mode := .quarantined })] }
    (Tidy s = true ∧ (s.galAt 2).qFault = true ∧ (s.galAt 1).qFault = false ∧ (s.galAt 1).entry ≠ planEntry (planValue 1) 1 ∧ (s.galAt 0).entry = planEntry (planValue 1) 0 ∧
      (s.galAt 0).changing = false) ∧ (planBad s (planValue 1) = false ∧ planBad s (planValue 0) = true) ∧ ∀ e ∈ [0, 1], ∃ w, MayWrite s drv 0x2100 1 (planValue e) none w := by
  refine ⟨by decide +kernel, planValue_ok _ rfl, fun e h => may ?_⟩
  revert e; decide +kernel
/-- Partition 63 is locked for session 8: a plan that gives it a gallery is refused another session, and was not before. -/
theorem witness_ModePlans_locked :
    let s : State := { desk with cxl := { desk.cxl with tsp := [(63, some 8)] } }
    let v (m : Byte) : Bytes := [1] ++ List.replicate 31 0 ++ [1, 0, 0, 0, 0, 0, 0, 0, 0, 0, 0, 0, 0, 0, 0, m] ++ List.replicate 992 0
    (∃ w, MayWrite s drv 0x2100 1 (v 0x80) none w) ∧ (∃ w, whoOf s drv = .ok w ∧ (tspLocked s w (some 63) && planLocked s w (v 0x80) && !planLocked desk w (v 0x80)) = true) ∧
      (∃ x, (63, x) ∈ s.cxl.tsp) ∧ (planEntry (v 0x80) 1).mask.getLsbD 63 = true := by
  refine ⟨may (by decide +kernel), ok_of (by decide +kernel), ⟨some 8, by decide +kernel⟩, by decide +kernel⟩

theorem witness_ModePlans_length :
    ∃ w, whoOf desk drv = .ok w ∧ (desk.boot.stage = .ready && !mailboxBusy desk drv && desk.hal.serving.isNone && writeBad desk w 0x2100 1 [1] none == some St.objLength) = true :=
  ok_of (by decide +kernel)

/-! Time, calibration, the journal -/

def jentry (n : Nat) : JEntry :=
  { jseq := n, time := 0, tsrc := 0, origin := 4, kind := 7, vflags := 0, index := 0, sub := 0, part := 0xFF, cred := 0xFFFF, sess := 0, aux := 0, old := [], new := [], chain := [] }

/-- `desk` with two waiting entries and a commit in progress. -/
def timeDesk (committing : Bool) : State :=
  { desk with hal := { desk.hal with jram := [jentry 8, jentry 9], jlast := some (jentry 9), jflash := [jentry 7],
                                     cal := { desk.hal.cal with committing := if committing then some (opr, []) else none } } }

theorem witness_TimeJournalCalibration :
    ((timeDesk true).boot.stage = .ready ∧ (timeDesk true).timeSource = 0 ∧
      ∀ src : TimeSource, ({ timeDesk true with hal := { (timeDesk true).hal with dict := [(Dict.key 0x8010 3, some [3])], ptp := src == .ptp, ptm := true } } : State).timeSource =
        TimeSource.code src) ∧
    (1000000 < (((2 ^ 64 - 1 : Nat) : Int)) - (timeDesk true).clock.now - (timeDesk true).offsetAt (timeDesk true).clock.now) ∧
    (∀ k : Fin 5, ∃ w, MayWrite desk opr (0x3100 + k.val) 1 (List.replicate (calBytes k.val) 7) none w) ∧
    ((∃ w, MayWrite (timeDesk false) opr 0x3000 1 [1] none w) ∧ (timeDesk false).hal.cal.committing = none) ∧
    (timeDesk true).hal.cal.committing = some (opr, []) ∧ (timeDesk true).hal.waitFrames = [] := by
  repeat' apply And.intro
  all_goals first | (intro src; cases src <;> decide +kernel) | (intro k; apply may; revert k; decide +kernel) | (apply may; decide +kernel) | decide +kernel

/-! Frames -/

def frame (ty : Nat) (sess seq i sub fl off st total : Nat) (d key : Bytes) : Bytes :=
  let b := frameBytes ty sess seq i sub fl off st total d
  if key = [] then b else b ++ tag16 key b

/-- The generator of P-256, as a key. -/
def genKey : Bytes := natBe 32 Crypto.p256.gx ++ natBe 32 Crypto.p256.gy
def ownerCred : Bytes := genKey ++ [2, 0, 0, 0, 0, 0, 0, 0, 8, 0, 0, 0, 0, 0, 0, 0]
def open1 (cred : Nat) : Bytes := frame 3 0 1 0 0 1 0 0 82 (natLe 2 cred ++ genKey ++ List.replicate 16 9) []
def opening (p : Port) : Opening := { port := p, sid := 7, cred := 4, open1 := [1], open2 := [2], c2d := [1], d2c := [2] }
def open3 (good : Bool) : Bytes := let b := frameBytes 5 7 2 0 0 1 0 0 0 []; b ++ tag16 [1] ((if good then [1, 2] else [3]) ++ b)
def linkDesk (p : Port) : State :=
  { desk with hal := { desk.hal with sess := [(2, some { hsess 2 8 with port := p })], openings := [opening p], discover := [1] },
              lamp := { desk.lamp with creds := [(4, ownerCred)] } }
def closing : Bytes := frame 9 2 7 0 0 1 0 0 0 [] [1]

theorem witness_HaldubSessions :
    let p : Port := .field
    (Tidy (linkDesk p) = true ∧ Arrives (linkDesk p) p 3 (open1 4) ∧ openBad (linkDesk p) p (open1 4) = none ∧ openBad (linkDesk p) p (open1 5) = some St.sessionAuth) ∧
    (Arrives (linkDesk p) p 3 (open1 5) ∧ ∀ b : Bool, Arrives (linkDesk p) p 5 (open3 b)) ∧
    ((linkDesk p).hal.openings.find? (fun o => o.port == p && o.sid == 7) = some (opening p) ∧ fld (open3 true) 4 4 = 7 ∧
      tagOf (open3 true) = tag16 [1] ([1, 2] ++ untagged (open3 true)) ∧ tagOf (open3 false) ≠ tag16 [1] ([1, 2] ++ untagged (open3 false)) ∧
      credUsable (linkDesk p) 4 = true ∧ sessCount (linkDesk p) p < 8) ∧
    (Arrives (linkDesk p) p 9 closing ∧ NewRequest (linkDesk p) p closing { hsess 2 8 with port := p }) ∧
    ((hsess 2 8).last + 60000000000 ≤ ({ desk.clock with now := 60000000000 } : Clock).now ∧ desk.clock.now < (hsess 2 8).last + 60000000000) ∧
    (fieldOn (linkDesk p) = true ∧ frameOk .field (frame 1 0 1 0 0 1 0 0 0 [] []) = true ∧ frameOk .field [] = false ∧ (linkDesk p).hal.discover = [1]) := by
  unfold Arrives NewRequest
  dsimp only
  decide +kernel
/-- An address under check: a time within the second, and the last. -/
theorem witness_HaldubSessions_check :
    let s : State := { linkDesk .field with hal := { (linkDesk .field).hal with dad := .checking 0 }, clock := { desk.clock with now := 999999999 } }
    Tidy s = true ∧ s.hal.dad = .checking 0 ∧ s.clock.now < 0 + 1000000000 ∧ fieldOn s = false ∧ fieldOn { s with clock := { s.clock with now := 1000000000 } } = true := by decide +kernel

/-! Frames of the dictionary -/

def readF (sub : Nat) : Bytes := frame 6 2 7 0x6190 sub 1 0 0 0 [] [1]
def writeF (sub fl total : Nat) (d : Bytes) : Bytes := frame 7 2 7 0x6190 sub fl 0 0 total d [1]
def served : HSess := hsess 2 8
/-- An error record: its number, class, unit, gallery, status and mark of escalation. -/
def frec (n cls unit gal st : Nat) : FRec :=
  { seq := n, reftime := 0, time := 0, status := st, cls := cls, unit := unit, hall := 0, gallery := gal, index := 0, part := 0xFF, sess := none, ring := 0xFFFF, item := 0,
    detail0 := 0, detail1 := 0, cause := 0, tag := 0 }

theorem witness_DictionaryFrames_read :
    Arrives desk .field 6 (readF 4) ∧ NewRequest desk .field (readF 4) served ∧ fld (readF 4) 0x14 4 = 0 ∧
      (∃ c, readObj (taken desk .field (readF 4) served) 0x6190 4 = .ok c ∧ true = true) ∧ fld (readF 4) 0x10 2 = 0x6190 ∧ fld (readF 4) 0x12 1 = 4 := by
  unfold Arrives NewRequest; dsimp only
  exact ⟨by decide +kernel, by decide +kernel, by decide +kernel, ok_of (by decide +kernel), by decide +kernel⟩

theorem witness_DictionaryFrames_unread :
    Arrives desk .field 6 (readF 200) ∧ NewRequest desk .field (readF 200) served ∧ ∃ e, readObj (taken desk .field (readF 200) served) 0x6190 200 = .error e := by
  unfold Arrives NewRequest; dsimp only
  exact ⟨by decide +kernel, by decide +kernel, error_of (by decide +kernel)⟩

theorem witness_DictionaryFrames_write :
    let f := writeF 4 1 4 [0, 0, 1, 0]
    Arrives desk .field 7 f ∧ NewRequest desk .field f served ∧ fld f 0x14 4 = 0 ∧ fld f 0x13 1 = 1 ∧ fld f 0x1C 4 = fld f 0x18 2 ∧ fld f 0x10 2 = 0x6190 ∧
      fld f 0x12 1 = 3 + 1 ∧ ∃ w, MayWrite (taken desk .field f served) { port := .field, sess := fld f 4 4 } 0x6190 4 (slice f 32 (fld f 0x18 2)) (some 3) w := by
  unfold Arrives NewRequest; dsimp only
  exact ⟨by decide +kernel, by decide +kernel, by decide +kernel, by decide +kernel, by decide +kernel, by decide +kernel, by decide +kernel, may (by decide +kernel)⟩

theorem witness_DictionaryFrames_stage :
    let f := writeF 4 0 4 [0, 0, 1]
    Arrives desk .field 7 f ∧ NewRequest desk .field f served ∧ fld f 0x14 4 = 0 ∧ fld f 0x13 1 = 0 ∧ totalOk 0x6190 4 (fld f 0x1C 4) = true ∧ fld f 0x18 2 < fld f 0x1C 4 := by
  unfold Arrives NewRequest; dsimp only; decide +kernel

/-- `desk` with records 3 and 4 and entries 7, 8, 9; the journal's cursor at `c`. -/
def logDesk (c : Byte) : State :=
  { timeDesk false with fault := { Faults.zero with mem := [frec 3 0 1 0xFF 0, frec 4 0 1 0xFF 0], next := 5 },
                        hal := { (timeDesk false).hal with dict := [(Dict.key 0x8002 0, some [c, 0, 0, 0, 0, 0, 0, 0])] } }

theorem witness_DictionaryFrames_logs :
    (Tidy (logDesk 7) = true ∧ mailboxBusy (logDesk 7) drv = false ∧ ∃ w, whoOf (logDesk 7) drv = .ok w ∧ true = true) ∧
    ((logDesk 7).fault.mem.filter (fun r => decide ((logDesk 7).obj 0x7000 4 ≤ r.seq))).take 16 = [frec 3 0 1 0xFF 0] ++ [frec 4 0 1 0xFF 0] ∧
    (logDesk 7).hal.jflash ++ (logDesk 7).hal.jram = [jentry 7, jentry 8, jentry 9] ∧ (jentry 7).jseq ≤ (logDesk 7).obj 0x8002 0 ∧
    ([jentry 7, jentry 8, jentry 9].filter (fun e => decide ((logDesk 7).obj 0x8002 0 ≤ e.jseq))).take 8 = [jentry 7, jentry 8] ++ [jentry 9] ∧
    (logDesk 6).obj 0x8002 0 < (jentry 7).jseq :=
  ⟨⟨by decide +kernel, by decide +kernel, ok_of (by decide +kernel)⟩, by decide +kernel⟩
/-! Flights -/

def wtread : WTread := { vc := 2, src := 0, pool := false, som := true, eom := true, abort := false, data := [1], note := none, cross := 0 }
def up : FlightState :=
  { FlightState.zero with st := 2, retry := [{ seq := 5, t := wtread, at_ := 0 }, { seq := 6, t := wtread, at_ := 0 }], ackDue := true, stall := [(2, some 0)], rxSeq := 0xFFF }
/-- Flight 0 trains, 1 and 2 are up, 1 having resent six times and 2 seven, 3 retrains, 4 has nacked. -/
def linkState : State :=
  { rdy with hal := { Haldub.zero with dict := [(Dict.key 0xA000 1, some [9, 0])] }, clock := { rdy.clock with now := 1000000 },
             net := { Net.zero with fl := [(0, { FlightState.zero with st := 1 }), (1, { up with resent := 6, resentOf := 6 }), (2, { up with resent := 7, resentOf := 6 }),
                                           (3, { FlightState.zero with st := 1, training := true }), (4, { up with nacked := true })] } }
/-- 252 bytes and their check sequence. -/
def closed (b : Bytes) : Bytes := b ++ natLe 4 (crc32 b).toNat

theorem closed_checked (b : Bytes) (hl : b.length = 252) : fld (closed b) 252 4 = (crc32 ((closed b).take 252)).toNat := by
  unfold closed
  rw [List.take_left' hl]
  have h := (crc32 b).isLt
  generalize (crc32 b).toNat = x at h
  have hg (i : Nat) (c : Bytes) : (b ++ c).getD (252 + i) 0 = c.getD i 0 := by
    simp [List.getD_eq_getElem?_getD, List.getElem?_append_right, hl]
  unfold fld slice
  rw [show List.range 4 = [0, 1, 2, 3] from rfl]
  simp only [List.map_cons, List.map_nil, hg, natLe, leNat]
  simp
  omega

def wholeHead (hops : Byte) : Bytes :=
  natLe 8 (1 + 16 * 3 + 64 + 128 + 2 ^ 8 * 0xFFF + 2 ^ 48 * 48) ++ fitBytes 244 (msgBytes { msg0 9 with length := 0, data := [], hops := hops })

theorem wholeTread_read (hops : Byte) (h : hops ∈ [14, 15]) :
    ∃ x, readTread (closed (wholeHead hops)) = some x ∧ x.ty = 1 ∧ x.seq = 0xFFF ∧ x.som = true ∧ x.eom = true ∧ x.abort = false ∧
      (parseMsg x.data).dstDev.toNat = 9 ∧ (parseMsg x.data).hops.toNat = hops.toNat := by
  have hl : (wholeHead hops).length = 252 := by revert hops; decide +kernel
  unfold readTread
  rw [if_neg]
  · refine ⟨_, rfl, ?_⟩
    revert hops; decide +kernel
  · rintro (h' | h' | h')
    · revert h'; revert hops; decide +kernel
    · exact h' (closed_checked (wholeHead hops) hl)
    · revert h'; revert hops; decide +kernel

theorem witness_FlightLinks :
    Tidy linkState = true ∧ linkState.devId = some 9 ∧ ((linkState.flightAt 0).st = 1 ∧ (linkState.flightAt 0).training = false) ∧ lanesTrain 0xFF = true ∧
    lanesTrain 0x0F = true ∧ lanesTrain 0xF1 = true ∧ lanesTrain 0x7E = false ∧
    (∀ f ∈ [1, 2], (linkState.flightAt f).st = 2 ∧ (linkState.flightAt f).retry.any (fun r => r.seq == 6) = true ∧
      (linkState.flightAt f).retry.head? = some { seq := 5, t := wtread, at_ := 0 } ∧ (linkState.flightAt f).ackDue = true ∧
      Tab.get none 2 (linkState.flightAt f).stall = some 0 ∧ Tab.get false 2 (linkState.flightAt f).stalled = false ∧ (linkState.flightAt f).nacked = false) ∧
    ((linkState.flightAt 1).resent + 1 < 8 ∧ (linkState.flightAt 1).resentOf = 6 ∧ (linkState.flightAt 2).resent = 7 ∧ (linkState.flightAt 2).resentOf = 6 ∧
      rdy.devId = none ∧ linkState.boot.stage ≠ .off ∧ (linkState.flightAt 3).training = true ∧ (linkState.flightAt 4).nacked = true) ∧
    (readTread [] = none ∧ (linkState.flightAt 1).rxSeq = 0xFFF) ∧ ({ linkState with boot := { linkState.boot with stage := .held } } : State).boot.stage = .held := by decide +kernel

/-! The P-256 engine -/

def pdesc (op slot dl n : Byte) : Bytes := [op, slot, dl] ++ List.replicate 13 0 ++ [n] ++ List.replicate 47 0
def pjob : PkeJob := { seq := 3, addr := 64, done := none, curve := none }
/-- The host's window is committed; one job waits. -/
def pkeState (done : Option (Nat × Bytes × Nat)) : State :=
  { rdy with cxl := { rdy.cxl with dec1 := { base := 0, size := 4096, committed := true } },
             lamp := { rdy.lamp with jobs := [{ pjob with done := done, curve := some (1, blockCurve []) }], done := [(0, 2)] } }

theorem witness_KeyEngine :
    let s := pkeState none
    Tidy s = true ∧ s.cxl.up = true ∧ pkeHeld s < 16 ∧ 16 ≤ pkeHeld { s with lamp := { s.lamp with done := List.replicate 15 (0, 0) } } ∧
    ([(1, 20, 148), (2, 66, 98), (3, 0, 96), (4, 0, 96), (5, 0, 64)].all (fun x =>
      (descCurve s (pdesc x.1 0 x.2.1 x.2.2)).isSome && fld (pdesc x.1 0 x.2.1 x.2.2) 0x10 4 == x.2.2.toNat)) = true ∧
    descCurve s (pdesc 1 0 19 147) = none ∧ descShape (pdesc 8 7 0 48) = true ∧ (curveBad (List.replicate 48 0) 48).isSome = true ∧
    (pkeState (some (St.ok, [1], 64))).lamp.jobs = [{ pjob with done := some (St.ok, [1], 64), curve := some (1, blockCurve []) }] ∧
    (pkeState (some (St.ok, [1], 64))).lostAt 64 = false := by
  decide +kernel

/-- Operands on both sides of what a key, a scalar and a point may be. -/
theorem witness_KeyEngine_operands :
    let c := Crypto.p256
    c.on c.gx c.gy = true ∧ c.on 1 1 = false ∧ beAt (List.replicate 32 0 ++ [1]) 1 32 = 1 ∧ c.n ≤ beAt (List.replicate 32 0xFF) 0 32 ∧ 1 < c.n - 1 := by decide +kernel
/-- The operand block of secp128r1. -/
def curve128 : Bytes :=
  [128, 0, 128, 0, 0, 0, 0, 0] ++ [0xFFFFFFFDFFFFFFFFFFFFFFFFFFFFFFFF, 0xFFFFFFFDFFFFFFFFFFFFFFFFFFFFFFFC, 0xE87579C11079F43DD824993C2CEE5ED3,
    0x161FF7528B899B2D0C28607CA52C5B86, 0xCF5AC8395BAFEB13C02DA292DDED7A83, 0xFFFFFFFE0000000075A30D1B9038A115].flatMap (natBe 16)

/-- The block passes, once its prime and order pass the bases, which the model leaves open (log 117). -/
theorem witness_KeyEngine_curve
    (h : ∀ n ∈ [(blockCurve curve128).p, (blockCurve curve128).n],
      (List.range 64).all (fun i => Crypto.mrBase n (2 + Config.curveBase (Crypto.sha256 curve128) i % (n - 3))) = true) :
    curveBad curve128 104 = none := by
  have hp (n : Nat) (hn : n ∈ [(blockCurve curve128).p, (blockCurve curve128).n]) (ho : (n % 2 == 1 && decide (3 < n)) = true) :
      probablePrime curve128 n = true := by
    unfold probablePrime; rw [ho, h n hn]; simp
  unfold curveBad
  dsimp only
  rw [hp _ (by simp) (by decide +kernel), hp _ (by simp) (by decide +kernel)]
  rw [if_neg (by decide +kernel), if_neg (by decide +kernel), if_neg (by decide +kernel), if_neg (by decide +kernel), if_neg (by decide +kernel),
    if_neg (by decide +kernel), if_neg (by decide +kernel)]
theorem witness_KeyEngine_reads :
    (pkeState none).lamp.jobs = [{ pjob with curve := some (1, blockCurve []) }] ∧ windowSize (pkeState none) ≠ 0 ∧ windowSize rdy = 0 ∧ descCurve rdy (pdesc 1 0 20 148) = none ∧
      descShape (pdesc 8 7 0 48) = true ∧ descShape (pdesc 8 0 0 48) = false ∧ dramBusy (pkeState none) (pkeState none) = false := by decide +kernel

theorem mayAs {s : State} {q : Req} {i sub : Nat} {v : Bytes} {part : Option Nat} (r : Nat)
    (h : mayB s q i sub v part && (match whoOf s q with
      | .ok w => w.role == r
      | .error _ => false) = true) : ∃ w, MayWrite s q i sub v part w ∧ w.role = r := by
  rw [Bool.and_eq_true] at h
  obtain ⟨w, hw⟩ := may h.1
  refine ⟨w, hw, ?_⟩
  have h2 := h.2
  rw [hw.2.2.2.1] at h2
  exact of_decide_eq_true (by simpa using h2)

/-! The lamplighter's objects -/

/-- An image of slot 1 and security version 2. -/
def image : Bytes := [0, 0, 0, 0, 0, 0, 1, 0, 2]
def lampDesk : State :=
  { desk with lamp := { desk.lamp with fuses := { desk.lamp.fuses with anchors := [[], ownerCred] }, fw := { desk.lamp.fw with running := some image } },
              cxl := { desk.cxl with spdmOk := true, spdmSess := [(4, true)] }, pins := { desk.pins with perst := true } }
def part0 : Bytes := [0, 0, 0, 0, 0, 0, 0, 2] ++ List.replicate 8 0 ++ [1, 2, 3]

theorem witness_LamplighterObjects :
    (Tidy lampDesk = true ∧ lampDesk.lamp.fuses.life = 1 ∧ lampDesk.lamp.fuses.burned 0 = false ∧ lampDesk.lamp.fuses.burned 1 = true ∧
      ∀ k, k < 4 → nbit lampDesk.lamp.fuses.anchorRevoked k = false) ∧
    (∀ k ∈ [0, 3], ∃ w, MayWrite lampDesk opr 0x9011 0 (k :: ownerCred) none w ∧ w.role = 1) ∧
    (credOk ownerCred = true ∧ fld (slice (0 :: ownerCred) 1 80) 0x40 1 ≠ 0 ∧ slice (0 :: ownerCred) 1 80 = ownerCred) ∧
    (∀ k ∈ [0, 1, 3], ∃ w, MayWrite lampDesk opr 0x9012 0 [k] none w) ∧ (∀ k, k < 4 → k ≠ 1 → lampDesk.lamp.fuses.burned k = false) ∧
    (mailboxBusy lampDesk opr = false ∧ lampDesk.hal.serving = none ∧ 3 < leNat [4]) ∧
    (∀ e ∈ [4, 63], ∀ v ∈ [ownerCred, List.replicate 80 1], ∃ w, MayWrite lampDesk opr 0x9020 (e + 1) v none w) ∧ credOk (List.replicate 80 1) = false ∧
    (∀ k ∈ [0, 1], ∃ w, MayWrite lampDesk opr 0x9041 0 [k] none w) ∧ imgSlot lampDesk.lamp.fw.running = 1 ∧
    (∃ w, MayWrite lampDesk opr 0x9110 0 part0 none w ∧ w.role = 1) ∧ (fwBusy lampDesk opr = false ∧ fld part0 0 4 = 0 ∧ fld part0 4 4 = 33554432 ∧ part0.length = 19 ∧
      lampDesk.lamp.fw.st ≠ 1) ∧
    (∀ n ∈ [0, 1, 2, 3], ∃ w, MayWrite lampDesk opr 0x9050 2 [n] none w) ∧ (lampDesk.lamp.fuses.secVer = 0 ∧ imgSecVer lampDesk.lamp.fw.running = 2) ∧
    (∀ n ∈ [1, 2, 3], ∃ w, MayWrite lampDesk opr 0x9001 0 [n] none w) ∧ (lampDesk.pins.thermtrip = false ∧ lampDesk.pins.perst = true) ∧
    (mbxReady lampDesk = true ∧ lampDesk.cxl.spdmOk = true ∧ (4, true) ∈ lampDesk.cxl.spdmSess ∧ desk.cxl.spdmOk = false) := by
  repeat' apply And.intro
  all_goals first
    | (intro k h; apply mayAs; revert k h; decide +kernel)
    | (intro k h; apply may; revert k h; decide +kernel)
    | (intro e he v hv; apply may; revert e v; decide +kernel)
    | (apply mayAs; decide +kernel)
    | decide +kernel

/-- A deployed device with a staged image and two anchors. -/
def lampDesk2 : State :=
  { lampDesk with lamp := { lampDesk.lamp with fuses := { lampDesk.lamp.fuses with life := 2, anchors := [ownerCred, ownerCred] },
                                               fw := { lampDesk.lamp.fw with st := 3, stage := [1] } } }

theorem witness_LamplighterObjects_staged :
    Tidy lampDesk2 = true ∧ lampDesk2.lamp.fw.st = 3 ∧ lampDesk2.boot.stage = .ready ∧ lampDesk2.lamp.fuses.life = 2 ∧
      (lampDesk2.lamp.fuses.burned 0 = true ∧ nbit lampDesk2.lamp.fuses.anchorRevoked 0 = false) ∧
      (∃ w, MayWrite lampDesk2 opr 0x9012 0 [1] none w) ∧ (∃ w, MayWrite lampDesk2 opr 0x9001 0 [3] none w) := by
  refine ⟨by decide +kernel, by decide +kernel, by decide +kernel, by decide +kernel, by decide +kernel, ?_, ?_⟩ <;> (apply may; decide +kernel)

/-! Repair and randomness -/

theorem witness_RepairAndRandomness :
    let s : State :=
      { run .share with
        hall := [(0, { HallState.zero with railOn := true, rng := 1, rngFails := [5, 4], deepRet := [(1, true)] })], clock := { desk.clock with now := 1000005 },
        galx := [(0, { GalleryX.zero with lmap := [(0, { phys := 0, valid := true, inc := 0 })], rep := { Repair.zero with banks := [.store 0 3], lines := [(65536, 1)] } })] }
    Tidy s = true ∧ isStoreWord 0x80000000 = true ∧ isStoreWord 0x803FFFFF = true ∧ isPadWord 0x5FFF = true ∧ (∀ c ∈ (s.galxAt 0).rep.lines, 65536 ≤ c.1 → c.2 < threshold s) ∧
    (∀ b ∈ [.scratchpad 0 0 63, .store 0 59, .handoff 0 3, .deep 0 7], mayRetain s b = true ∧ retained s b = false) ∧
    (∀ b ∈ [.store 0 3, .deep 0 1], retained s b = true) ∧ rising 0 (s.hallAt 0).deepRet = true ∧ (s.hallAt 0).halted = none ∧ s.fault.open_ = [] ∧ s.boot.stage = .ready ∧
    ((Trng.zero.samples (List.replicate 81 true)).2 = some 1 ∧ (Trng.zero.samples (List.replicate 80 true)).2 = none ∧ ((s.hallAt 1).trng.samples (List.replicate 81 true)).2 = some 1 ∧
      startTest (List.replicate 4096 true) = false) ∧
    s.boot.stage ≠ .off ∧ trngOn s 0 = true ∧ (s.hallAt 0).rng = 1 ∧ (s.hallAt 1).rng = 0 ∧ trngOn s 1 = true ∧ ((s.hallAt 0).rngFails.head?).getD 0 + 1000000 ≤ s.clock.now := by decide +kernel

/-- A source that alternates passes the start-up test; one that gives 840 equal samples of 1,024, never 81 in a row, fails the proportion test (R285). -/
theorem test_trng_cutoffs :
    startTest ((List.range 4096).map (fun i => i % 2 == 0)) = true ∧ (Trng.zero.samples ((List.range 1024).map (fun i => decide (i % 6 ≠ 5)))).2 = some 2 := by decide +kernel

/-- The example of FIPS 197, appendix C.3. -/
theorem test_aes_256 :
    Crypto.aesBlock (Crypto.aesKeys ((List.range 32).map (fun i => BitVec.ofNat 8 i))) ((List.range 16).map (fun i => BitVec.ofNat 8 (17 * i))) =
      [0x8E, 0xA2, 0xB7, 0xCA, 0x51, 0x67, 0x45, 0xBF, 0xEA, 0xFC, 0x49, 0x90, 0x4B, 0x49, 0x60, 0x89] := by decide +kernel

/-! Utier modules -/

/-- A container of four bytes of code and one entry point. -/
def container : Bytes :=
  [0x55, 0x54, 0x49, 0x52, 1, 0, 0, 0, 64, 0, 0, 0, 4, 0, 0, 0, 72, 0, 0, 0, 1] ++ List.replicate 43 0 ++ List.replicate 16 0
def modReq (load : Bool) : Bytes :=
  let b : Bytes := [2, 0, 0, 0, 3, 0] ++ (if load then [1, 0] else [0, 0]) ++ [7, 0, 0, 0, 0, 0, 0, 0] ++ (if load then List.replicate 8 0 ++ [80, 0, 0, 0] else 9 :: List.replicate 11 0) ++
    List.replicate 4 0
  b ++ tag16 [1] b
def aModule : Module := { handle := 9, part := 3, container := container, base := 0 }
def modDesk : State :=
  { desk with hal := { desk.hal with sess := [(2, some { hsess 2 8 with port := .mailbox })] },
              dram := { Dram.zero with spaces := [(1, some { owner := 3, pages := [{ va := 0, pa := 0, size := 0, rd := true, wr := true }] })], modules := [aModule],
                                       translating := none } }
def modSess : HSess := { hsess 2 8 with port := .mailbox }

theorem witness_UtierModules (b : Bool) :
    let v := modReq b
    mailboxOn modDesk = true ∧ modDesk.dram.translating = none ∧ v.length = 48 ∧ liveSess modDesk { port := .mailbox, sess := fld v 0 4 } = some modSess ∧
      slice v 0x20 16 = tag16 modSess.c2d (v.take 0x20) ∧ modSess.seq < fld v 8 8 := by
  cases b <;> decide +kernel

/-- `modDesk` with the container at virtual address 0. -/
def loadDesk : State :=
  vsnoop { modDesk with hal := { modDesk.hal with sess := [(2, some { modSess with seq := 7 })] },
                        dram := { modDesk.dram with modules := [], mem := ((List.range 80).zip container).filter (fun c => c.2 != 0) } } 1 0 80 false

/-- The container is translated, once its native code fits the region, whose size the model leaves open (log 117). -/
theorem witness_UtierModules_load (h : Config.nativeSize container ≤ 67108864) : loadCheck loadDesk (modSess.who 2) (modReq true) = .ok container := by
  have hv : vread loadDesk (fld (modReq true) 6 2) (fld (modReq true) 0x10 8) (fld (modReq true) 0x18 4) = some (container, false) := by decide +kernel
  have hr : hasRoom loadDesk (fld (modReq true) 4 1) container = true := by
    have hm : loadDesk.dram.modules = [] := by decide +kernel
    simp [hasRoom, hm, h]
  unfold loadCheck
  dsimp only
  rw [if_neg (by decide +kernel), show moduleRole loadDesk (modSess.who 2) (fld (modReq true) 4 1) = none by decide +kernel]
  dsimp only
  rw [if_neg (by decide +kernel), hv]
  dsimp only
  rw [if_neg (by decide +kernel), show containerBad container = none by decide +kernel]
  dsimp only
  rw [show loadDesk.dram.modules.find? (fun m => m.part == fld (modReq true) 4 1 && m.container == container) = none by decide +kernel]
  dsimp only
  rw [if_neg (by rw [hr]; decide), if_neg (by decide +kernel)]

theorem witness_UtierModules_unload :
    unloadCheck { modDesk with hal := { modDesk.hal with sess := [(2, some { modSess with seq := 7 })] } } (modSess.who 2) (modReq false) = .ok aModule := by rfl
/-! Faults -/

def rep0 (unit : Nat) : Rep := Rep.ofGal St.rowRemapped 1 true unit 5 0 0

theorem witness_ErrorRecordForm :
    let s : State := { desk with fault := { Faults.zero with open_ := [{ frec 0 2 7 5 0 with hall := hallOf 5, index := 0xFF }], next := 1 } }
    (outOfService s (rep0 7) = false ∧ (rep0 7).cls ≤ 3 ∧ (escalator s (rep0 7)).isSome = true ∧ escalator s (rep0 8) = none ∧ outOfService s (rep0 8) = false) ∧
    (outOfService s (Rep.dev 0 3 true 19 0 0) = false ∧ (Rep.dev 0 3 true 19 0 0).cls = 3) := by decide +kernel

/-- One error record waits to be handled. -/
def faultState (r : FRec) : State := { desk with fault := { Faults.zero with todo := [r], next := 3, ack := 1, die := [(2, some { r := frec 2 0 0 0xFF 0, copied := false })] } }

theorem witness_FaultHandling :
    (∀ c ∈ [(0, 7, 5), (1, 7, 5), (5, 0, 63), (2, 7, 5), (2, 9, 63), (2, 11, 0), (2, 12, 64), (2, 18, 64), (2, 21, 64), (2, 15, 64), (3, 7, 5)],
      let s := faultState (frec 2 c.1 c.2.1 c.2.2 0)
      Tidy s = true ∧ s.fault.todo = [frec 2 c.1 c.2.1 c.2.2 0] ∧ s.boot.stage = .ready ∧ (s.galxAt c.2.2).rep.dying = [] ∧
        (frec 2 c.1 c.2.1 c.2.2 0).status ∉ [St.lanternSpared, St.dispatchLost, St.dramChannelLost, St.fltDown]) ∧
    ((frec 2 5 0 63 0).sev = 1 ∧ nbit (frec 2 5 0 63 0).cls 2 = true ∧ galUnit 0 = true ∧ (frec 2 1 7 5 0).sev = 1 ∧ nbit (frec 2 1 7 5 0).cls 2 = false) ∧
    (∀ st ∈ [St.lanternSpared, St.fltDown], (frec 2 1 7 5 st).moot (faultState (frec 2 1 7 5 st)) = true) ∧
    (∀ c ∈ [(5, 0, 63), (2, 7, 5), (2, 12, 64), (2, 15, 64)], (frec 2 c.1 c.2.1 c.2.2 0).moot (faultState (frec 2 c.1 c.2.1 c.2.2 0)) = false) ∧
    (let s := faultState (frec 2 0 7 5 0)
     ((frec 2 0 7 5 0).reftime + 1000000 < { s.clock with now := 1000001 }.now ∧ s.clock.now ≤ (frec 2 0 7 5 0).reftime + 1000000) ∧
     (s.msixMasked 0 = true ∧ ({ s with cxl := { s.cxl with msixTab := [(3, some 0)] } } : State).msixMasked 0 = false ∧ nextCopy s.fault = some (2, frec 2 0 0 0xFF 0)) ∧ s.fault.ack ≤ 2 ∧ s.fault.mem.length < 4096 ∧ barReads s = true ∧
     ∀ n ∈ [0, 1, 3, 4], ∃ w, MayWrite s drv 0x7000 2 [n, 0, 0, 0, 0, 0, 0, 0] none w) := by
  refine ⟨by decide +kernel, by decide +kernel, by decide +kernel, by decide +kernel, ?_⟩
  dsimp only
  refine ⟨by decide +kernel, by decide +kernel, by decide +kernel, by decide +kernel, by decide +kernel, fun n h => may ?_⟩
  revert n; decide +kernel

/-- Gallery 5: lantern 0 at spoke 67, dead lantern 7 held by a spoke, lantern 8 under test. -/
def lanternState : State :=
  { desk with galx := [(5, { GalleryX.zero with lmap := [(0, { phys := 67, valid := true, inc := 3 })],
                                                phys := [(7, { Phys.zero with dead := true, spoke := some 0 }), (8, { Phys.zero with dead := true, testing := some opr })] })] }

theorem witness_LanternsAndGalleryReset :
    let s := lanternState
    (Tidy s = true ∧ hallRuns s (hallOf 5) = true ∧ (s.galAt 5).mode ≠ .dark ∧ (s.galxAt 5).rep.dying = [] ∧ s.hal.waitFrames = []) ∧
    (∀ p ∈ [1, 67], isMapped s 5 p = true ∧ ∀ l, l < 64 → (lmapOf s 5 l).valid = true → (lmapOf s 5 l).phys = p → logicalOf s 5 p = some l) ∧
    (gateAccepts s 5 67 3 = true ∧ gateAccepts s 5 67 2 = false) ∧
    ((physOf s 5 7).dead = true ∧ (physOf s 5 7).spoke.isSome = true ∧ (physOf s 5 7).reheld = false ∧ (physOf s 5 8).testing = some opr ∧ (physOf s 5 7).testing = none) ∧
    (∃ w, MayWrite s opr 0x7123 0 [5, 7] none w) ∧
    (∀ g ∈ [5, 63], (∃ w, MayWrite s opr 0x2104 0 [g] none w ∧ w.role = 1) ∧ (s.galxAt g.toNat).rep.dying = []) ∧ (∃ w, MayWrite s opr 0x2104 0 [64] none w) ∧
    (let y : PlanEntry := { PlanEntry.zero with mask := 1 }
     let s : State := { desk with gal := [(5, { Gallery.zero with entry := y })], hal := { desk.hal with sess := [(3, some (hsess 3 8))] } }
     (∃ w, MayWrite s drv 0x2104 0 [5] none w ∧ w.role = 3) ∧ (s.galAt 5).entry.mask &&& ~~~(8 : W64) ≠ 0) := by
  repeat' apply And.intro
  all_goals first | (intro g h; refine ⟨mayAs 1 ?_, ?_⟩ <;> (revert g h; decide +kernel)) | (apply mayAs; decide +kernel) | (apply may; decide +kernel) | decide +kernel

/-! Start, resets, registers -/

theorem witness_StartAndReset :
    (let s := State.reset
     Tidy s = true ∧ s.pins.pwrgood = true ∧ s.pins.perst = false ∧ s.boot.stage ≠ .off ∧ s.pins.thermtrip = false ∧ s.boot.stage = .boot ∧ s.boot.wiping = true) ∧
    (let s : State := { State.reset with pins := { pwrgood := false, perst := true, thermtrip := false, straps := 0 }, boot := { State.reset.boot with stage := .off } }
     Tidy s = true ∧ s.pins.pwrgood = false ∧ s.pins.perst = true) ∧
    (let s : State := { State.reset with pins := { State.reset.pins with perst := true, straps := 63 }, cxl := { Cxl.zero with up := true } }
     Tidy s = true ∧ s.boot.stage ≠ .off ∧ s.cxl.up = true ∧ s.pins.thermtrip = false ∧ s.pins.perst = true ∧ s.boot.stage = .boot ∧ s.boot.done = false ∧
       imgBad s.lamp.fuses s.lamp.fw.flash = none ∧ imgBad s.lamp.fuses (some []) = some St.fwFormat ∧ s.pins.straps.toNat < 64) ∧
    (let s : State := { State.reset with boot := { State.reset.boot with wiping := false, done := true }, clock := { State.reset.clock with now := 700000000 } }
     Tidy s = true ∧ s.boot.stage = .boot ∧ s.boot.wiping = false ∧ s.pins.perst = false ∧ s.boot.done = true ∧ s.boot.causeAt + 700000000 ≤ s.clock.now ∧
       (s.hallAt 0).halted = none ∧ s.fault.open_ = []) := by decide +kernel

/-- A start of a warm reset whose entry is due, its image good or not; what the tests of hall 0 find: a source that passes, one that fails. -/
def startState (img : Option Bytes) : State :=
  { State.reset with pins := { State.reset.pins with perst := true },
                     boot := { State.reset.boot with cold := false, logged := false }, lamp := { State.reset.lamp with fw := { State.reset.lamp.fw with flash := img } } }

theorem witness_StartAndReset_steps :
    (∀ o ∈ [none, some []], Tidy (startState o) = true ∧ (startState o).pins.perst = true ∧ (startState o).boot.stage = .boot ∧ (startState o).boot.done = false ∧
      (startState o).boot.cold = false ∧ (startState o).boot.logged = false ∧ (startState o).hal.cal.flashOk = true ∧ ((startState o).hallAt 0).rng = 0 ∧
      ((startState o).hallAt 0).halted = none) ∧
    (imgBad (startState none).lamp.fuses (startState none).lamp.fw.flash = none ∧ imgBad (startState (some [])).lamp.fuses (startState (some [])).lamp.fw.flash = some St.fwFormat) ∧
    State.reset.boot.cold = true ∧ State.reset.boot.logged = false ∧ rdy.boot.cold = false := by decide +kernel

theorem witness_StartAndReset_samples :
    ([0, 3].all (fun h => startTest ((((boot0 [] [3]).trng.find? (fun c => c.1 == h)).map (·.2)).getD []) == decide (h = 3))) = true := by decide +kernel

/-- Records to acknowledge; vector 2047 is pending and masked. -/
def barState0 : State := { rdy with fault := { Faults.zero with ack := 1, next := 3 }, cxl := { rdy.cxl with msixPend := [(2047, true)] } }

theorem witness_RegisterWrites :
    let s := barState0
    Tidy s = true ∧ barReads s = true ∧ barReads State.reset = false ∧ s.fault.newest = 2 ∧ s.fault.ack ≤ (1 : W32).toNat ∧ (3 : W32).toNat ≤ s.fault.next ∧
      (0 : W32).toNat < s.fault.ack ∧ s.fault.next < (4 : W32).toNat ∧ Tab.get false (8191 / 4) s.cxl.msixPend = true ∧ Tab.get false 0 s.cxl.msixPend = false ∧
      ({ s with cxl := { s.cxl with msixTab := Tab.put none 8191 (some 0) s.cxl.msixTab } } : State).msixMasked 2047 = false ∧ s.msixMasked 2047 = true := by decide +kernel

/-- Unmasking a pending vector sends it; a write-only register reads 0, a read-write one its value (R10). -/
theorem test_msix_unmask_and_reads :
    (registerWrite barState0 0x37FFC 0).out = [.msix 2047] ∧ barValue barState0 0x380FC = 0x80000000 ∧ barValue (registerWrite barState0 0x40210 69) 0x40210 = 5 ∧
      barValue (registerWrite barState0 0x40100 7) 0x40100 = 0 ∧ barValue (registerWrite barState0 0x40208 2) 0x40208 = 2 := by decide +kernel
theorem witness_CxlPort :
    let s : State :=
      { desk with
        cxl := { desk.cxl with dec0 := { base := 0, size := 0x10000000, committed := true }, snoops := [(64, 0, false)], ideIo := true, ideMem := some .skid, spdmSess := [(7, true)],
                               tsp := [(1, some 8)], failLog := [[1], [2]] }
        clock := { desk.clock with now := 1000000 } }
    (Tidy s = true ∧ cxlUp s = true ∧ s.cxl.dec0.committed = true ∧ 64 * 1023 < s.cxl.dec0.size ∧ (64, 0, false) ∈ s.cxl.snoops ∧ 0 + 1000000 ≤ s.clock.now) ∧
    (s.boot.stage ≠ .off ∧ s.cxl.up = true ∧ ideOn s = true ∧ ideOn desk = false ∧ desk.boot.stage ≠ .off ∧ desk.cxl.up = true ∧ State.reset.boot.stage ≠ .off ∧ State.reset.cxl.up = false ∧
      s.boot.stage = .ready) ∧
    (mbxReady s = true ∧ secured s = true ∧ (∀ p, p < 64 → (0x8000000000000001 : W64).getLsbD p = true → boundElsewhere s 7 p = false) ∧ boundElsewhere s 7 1 = true) ∧
    (s.dram.translating = none ∧ 2 ≤ (eventRecs s .failure).length ∧ (7, true) ∈ s.cxl.spdmSess) := by decide +kernel

theorem witness_CxlPort_waits :
    (desk.net.parked = [] ∧ desk.net.loop = [] ∧ waitsSnoop desk = [] ∧ ∀ g, g < 64 → ∀ l r, (desk.lanAt g l).str = some r → ∀ b ∈ r.bursts, b.st ≠ .waits) ∧
    (let s : State := { desk with cxl := { desk.cxl with winOld := [(3, some (List.replicate 64 7))] } }
     Tab.get none 3 s.cxl.winOld = some (List.replicate 64 7) ∧ Tab.get none 4 s.cxl.winOld = none) := by
  refine ⟨⟨rfl, rfl, by decide +kernel, fun g hg l r h => ?_⟩, by decide +kernel⟩
  have hn : ∀ g, g < 64 → (desk.galAt g).lan = [] := by decide +kernel
  unfold State.lanAt at h
  rw [hn g hg] at h
  cases h

theorem witness_StacksAndHostWindow :
    let s : State :=
      { desk with cxl := { desk.cxl with dec1 := { base := 0, size := 4096, committed := true } }, boot := { desk.boot with wiping := true } }
    (Tidy s = true ∧ dramAlive s 0 = true ∧ dramAlive s 64 = true ∧ Tab.get (0, 0) (channelOf 64) (s.stackAt (stackOf 64)).retries = (0, 0) ∧ s.boot.wiping = true) ∧
    (cxlUp s = true ∧ s.boot.stage = .ready ∧ s.cxl.dec1.committed = true ∧ 4032 + 64 ≤ s.cxl.dec1.size ∧ s.cxl.dec1.size < 4033 + 64 ∧ s.lostAt (s.cxl.hdmBase + 4032) = false ∧
      desk.cxl.dec1.committed = false ∧ s.cxl.ideHeld = [] ∧ ¬ (s.cxl.ideMem = some IdeMode.containment ∧ (⟨[], false⟩ : HostLine).checked = false)) ∧
    (let s : State := { desk with cxl := { desk.cxl with ideMem := some .containment } }
     s.cxl.ideMem = some IdeMode.containment ∧ (⟨List.replicate 64 1, false⟩ : HostLine).checked = false ∧ (List.replicate 64 (1 : Byte)).length = 64) ∧
    (let s : State := { State.reset with cxl := { Cxl.zero with up := true } }
     cxlUp s = true ∧ s.boot.stage = .boot ∧ cxlUp State.reset = false) ∧
    (let s : State := { desk with dram := { desk.dram with stk := [(0, { (desk.stackAt 0) with lost := 1 })] } }
     s.lostAt 0 = true ∧ s.lostAt 2048 = false) := by decide +kernel

/-- Hall 3 holds: a line of its first stack is kept by its landing, at the way's second hall; a line of hall 0 is not; with hall 2 held it is kept there. -/
theorem witness_StacksAndHostWindow_held :
    let s (h : Nat) : State := { desk with hall := [(h, { HallState.zero with heldSince := some 0 })] }
    (wayIn 0 (stackOf (12 * stackBytes) / 4)).find? (hallHeld (s 3)) = some 3 ∧ (wayIn 0 (stackOf (12 * stackBytes) / 4)).find? (hallHeld (s 2)) = some 2 ∧
      (wayIn 0 (stackOf 0 / 4)).find? (hallHeld (s 3)) = none ∧ (∀ h, h < 4 → hallHeld desk h = false) ∧ (s 3).boot.stage = .ready := by decide +kernel

/-- Gallery 0's first junction sensor excluded, all of stack 0's; readings at and around the rows. -/
def hotDesk : State := { desk with power := { desk.power with excluded := .junction 0 0 :: (List.finRange 12).map (.dram 0) } }

theorem witness_PowerAndHeat_readings :
    (∀ i, Sensor.dram 0 i ∈ hotDesk.power.excluded) ∧ heat (stackHeat hotDesk 0 []) = 64 * 100 ∧ (Sensor.dram 1 0 ∉ hotDesk.power.excluded) ∧
    (∀ r ∈ [73, 75, 83, 85, 92, 105, 106], heat (stackHeat hotDesk 1 (List.replicate 12 (16 * r))) = 64 * r) ∧
    (sensed hotDesk (.junction 0 0) (16 * 120) = none ∧ sensed hotDesk (.junction 0 1) (16 * 105) = some (64 * 105) ∧ sensed hotDesk (.iod 0) (16 * 115) = some (64 * 115) ∧
      sensed hotDesk (.iod 0) (16 * 114) = some (64 * 114)) := by decide +kernel

theorem witness_PowerAndHeat :
    let s : State :=
      { desk with hall := [(0, { HallState.zero with railOn := true }), (1, { HallState.zero with railOn := true, halted := some 1 }), (2, HallState.zero)] }
    Tidy s = true ∧ s.boot.stage = .ready ∧ stackBlind s 0 = false ∧ (∀ k, k < 16 → galleryBlind s (16 * 0 + k) = false) ∧ s.lamp.calDefault = false ∧
    s.pins.thermtrip = false ∧ [1, 0, 0, 0].sum ≠ 0 ∧ 600 ≤ (s.hallAt 0).setPoint ∧ (s.hallAt 1).halted.isSome = true ∧
    (s.hallAt 2).railOn = false ∧ (s.galAt 0).overShare = false ∧ (s.hallAt 0).railOn = true ∧
    ([(0, 1000), (1, 100000), (8, 1000), (32, 100000), (128, 1000000)] : List (Nat × Nat)).all (fun c => s.due c.1 c.2 &&
      ({ s with power := { s.power with ran := [(c.1, some (s.clock.now - c.2))] }, clock := { s.clock with now := s.clock.now + c.2 } } : State).due c.1 c.2 &&
      !({ s with power := { s.power with ran := [(c.1, some (s.clock.now + 1))] }, clock := { s.clock with now := s.clock.now + c.2 } } : State).due c.1 c.2) = true := by
  decide +kernel

/-- Plan 1 stands: gallery 0 may change, 1 awaits a grant, 2 is drained at the deadline, 3 has its release test. -/
def planState : State :=
  { desk with plan := { epoch := 1, deadline := 5000, at_ := 0, entries := [(0, { PlanEntry.zero with mode := .clear }), (1, { PlanEntry.zero with mode := .cipher }), (3, { PlanEntry.zero with mode := .share })] },
              clock := { desk.clock with now := 5000000 },
              gal := [(0, { Gallery.zero with changing := true }), (1, { Gallery.zero with changing := true, powerWait := true }),
                      (2, { Gallery.zero with changing := true, task := some task0 }), (3, { Gallery.zero with qFault := true, mode := .quarantined })],
              hall := [(0, { HallState.zero with railOn := true }), (3, { HallState.zero with heldSince := some 4990000 })],
              power := { desk.power with allowance := 10 ^ 9 } }

theorem witness_GalleryModesAndTimer :
    let s := planState
    Tidy s = true ∧ mayEnter s 0 = true ∧ grantable s 1 = true ∧ grantable s 0 = false ∧ s.plan.at_ + 1000 * s.plan.deadline ≤ s.clock.now ∧
    (∀ k, k < 64 → (s.galxAt k).rep.dying = []) ∧
    ((s.galAt 2).changing = true ∧ (s.galAt 2).task.isSome = true ∧ (PlanEntry.at_ s.plan 2).gflags.getLsbD 0 = false ∧ hallRuns s (hallOf 2) = true ∧ (s.galAt 2).qFault = false) ∧
    awaitsRelease s 3 = true ∧ ((s.hallAt 0).railOn = true ∧ (s.hallAt 0).halted = none ∧ (s.hallAt 0).heldSince = none) ∧
    ((s.hallAt 0).paceAt = none ∧ ({ HallState.zero with paceAt := some 4999001 }).paceAt = some 4999001 ∧ s.clock.now < 4999001 + 1000 ∧ 4999000 + 1000 ≤ s.clock.now) ∧ ((s.hallAt 3).heldSince = some 4990000 ∧ s.clock.now ≤ 4990000 + 10000 ∧ 4989999 + 10000 < s.clock.now) ∧
    s.boot.stage ≠ .off ∧ s.boot.stage = .ready ∧ barReads s = true := by decide +kernel

/-! Tasks -/

/-- Gallery 0 runs `task0`; the thread of lantern 0 as given, those of the others ended. -/
def taskState (t : Thread) : State :=
  { rdy with
    gal := [(0, { Gallery.zero with mode := .clear, task := some task0, lan := (List.range 64).map (fun l =>
      (l, { Lantern.zero with th := [(0, if l = 0 then t else { Thread.zero with st := .ended })] })) })],
    clock := { rdy.clock with now := 100000000 } }

theorem witness_TasksEnd :
    (∀ v ∈ [.flag 3 0, .barrier 2, .slotFull 0x10000000, .slotEmpty 0x100, .queue 2, .fence],
      let s := taskState { thread0 with st := .blocked v }
      Tidy s = true ∧ galRuns s 0 = true ∧ (s.thAt 0 0 0).st = .blocked v ∧ waitOver s 0 0 0 v = true) ∧
    (let s := taskState { Thread.zero with st := .ended }
     Tidy s = true ∧ hallRuns s (hallOf 0) = true ∧ (s.galAt 0).task = some task0 ∧ taskDone s 0 task0 = true) ∧
    (let s := (run .clear).updLan 0 0 (fun y => { y with icache := [3], fetching := [4] })
     Tidy s = true ∧ hallRuns s (hallOf 0) = true ∧ askers s 0 4 ≠ [] ∧ 3 ∈ (s.lanAt 0 0).icache ∧ galRuns s 0 = true ∧ (askTokens s 0 unitCache 1).2 = true ∧
       Tidy (low s) = true ∧ askers (low s) 0 4 ≠ [] ∧ (askTokens (low s) 0 unitCache 1).2 = false) ∧
    (let s := taskState { thread0 with st := .blocked (.flag 3 5) }
     stalled s 0 (allUnits s 0) = true ∧ (s.galAt 0).progress + 1000 * s.obj 0x2120 1 ≤ s.clock.now) := by decide +kernel

/-! Items -/

/-- A task item for module 9's entry 0 on thread 0, an update, a signal or a barrier item; `x`: bits of its flags byte. -/
def itemB (kind x dev : Byte) : Bytes :=
  [kind, x, 0, 0, 5, 0, 0, 0] ++ List.replicate 16 0 ++
    (match kind.toNat with
     | 1 => [9, 0, 0, 0, 0, 0xFF, 0xFF, 0xFF, 0xFF, 0xFF, 0xFF, 0xFF] ++ List.replicate 28 0
     | 4 => [dev, 0, 15, 0, 0, 0, 0, 0, 2] ++ List.replicate 31 0
     | _ => [dev, 0, 63, 15] ++ List.replicate 36 0)
def itemOf (b : Bytes) (at_ : Nat) : Item := { ring := 0, idx := 7, bytes := b, sid := 5, sess := entry0, at_ := at_ }
/-- Ring 0 of hall 0 has read an item of partition 3, which has slots 0 to 15; the hall holds the session's entry if `known`. -/
def itemState (b : Bytes) (known : Bool) : State :=
  { modDesk with
    cxl := { modDesk.cxl with rings := [(0, { ringOf 1 0 with read := [{ hall := 0, idx := 7, bytes := b }], items := [7], tail := 8 })] },
    hal := { modDesk.hal with dict := [(Dict.key 0xB120 4, some [0, 0, 16, 0])] },
    roll := [(5, some entry0)], hall := [(0, { HallState.zero with roll := if known then [(5, entry0)] else [], miss := [(0, 5)], pend := [itemOf (itemB 1 0 0) 0] })],
    clock := { modDesk.clock with now := 10000000 } }

theorem witness_ItemAdmission :
    (∀ b ∈ [itemB 1 4 0, itemB 5 0 0], Tidy (itemState b true) = true ∧ ((itemState b true).ringAt 0).read = [{ hall := 0, idx := 7, bytes := b }] ∧ hallRuns (itemState b true) 0 = true ∧
      itemBad b = true) ∧
    (∀ b ∈ [itemB 1 0 0, itemB 3 0 0, itemB 4 0 0], let s := itemState b true
      itemBad b = false ∧ (s.hallAt 0).roll.find? (fun c => c.1 == itemSid b) = some (itemSid b, entry0) ∧ (s.ringAt 0).part = some entry0.part ∧ mustWait s 0 b entry0 = false ∧
        refusedItem s b entry0 = none ∧ ((itemState b false).hallAt 0).roll.find? (fun c => c.1 == itemSid b) = none) ∧
    (let s := itemState [] false
     (0, 5) ∈ (s.hallAt 0).miss ∧ sessionOf s 5 = some entry0 ∧
       (s.hallAt 0).pend.find? (fun it => it.ring == 0 && it.idx == 7) = some (itemOf (itemB 1 0 0) 0) ∧ 0 + 1000 * s.obj 0x2110 4 ≤ s.clock.now) ∧
    (slotAllot (itemState [] true) 3 = (0, 16)) := by decide +kernel

/-- Device 9; flight 1 is up and leads to device 8; a signal or barrier item to a device heads its ring. -/
def ctlState (b : Bytes) : State :=
  { itemState [] true with
    hal := { modDesk.hal with dict := [(Dict.key 0xA000 1, some [9, 0]), (Dict.key 0xA010 0, some (List.replicate 32 0 ++ [1, 0, 0, 1] ++ List.replicate 16348 0))] },
    net := { Net.zero with fl := [(1, { FlightState.zero with st := 2, pool := 1 })] },
    hall := [(0, { HallState.zero with ctl := [itemOf b 0] })] }

theorem witness_ItemsAreTaken :
    (let s : State := { itemState [] true with gal := [(0, { Gallery.zero with mode := .clear, entry := { PlanEntry.zero with mode := .clear, mask := 8 } })] }
     Tidy s = true ∧ galFree s 0 = true ∧ nextItem s 0 = some (itemOf (itemB 1 0 0) 0) ∧ itemKind (itemB 1 0 0) = 1 ∧ moduleOf s 3 (itemB 1 0 0) = some aModule ∧
       namedThreads (itemB 1 0 0) = [(0, 0)] ∧ aModule.entries = 1) ∧
    (let it : Item := { itemOf (itemB 1 0 0) 0 with sess := { entry0 with modeCode := 2 } }
     let s : State := { itemState [] true with hall := [(0, { HallState.zero with pend := [it] })] }
     it ∈ (s.hallAt 0).pend ∧ it.at_ + 1000 * s.obj 0x2110 1 ≤ s.clock.now) ∧
    (∀ k ∈ [3, 4], ∀ d ∈ [8, 9], let s := ctlState (itemB k 0 d)
      Tidy s = true ∧ hallRuns s 0 = true ∧ (s.hallAt 0).ctl.find? (fun it => it.ring == 0 && it.idx == 7) = some (itemOf (itemB k 0 d) 0) ∧ (s.ringAt 0).items.head? = some 7 ∧
        leaving s (0, 0, 7) = false ∧ itemKind (itemB k 0 d) = k.toNat ∧
        (if d = 9 then s.devId = some (itemMsg s (itemOf (itemB k 0 d) 0)).dstDev.toNat ∧ ∀ f ∈ s.net.fl, f.2.waiting = []
         else s.devId ≠ some (itemMsg s (itemOf (itemB k 0 d) 0)).dstDev.toNat ∧ (sendMsg s (itemMsg s (itemOf (itemB k 0 d) 0)) (some (0, 0, 7))).2 = true)) := by decide +kernel
/-! Arithmetic -/

/-- N = 2, over the primes of `enc0`. -/
def tiny : Machine.PSet := { pset0 with enc := enc0.set 4 1, margin := 0 }
def mem0 : Member := { idx := 0, dst := [], dstHdr := [], srcHdr := [], poison := false, level := 0, scale := 0, form := 1, ncomp := 2 }

theorem witness_CipherArithmetic :
    let a : List Poly := [[[1, 2]], [[3, 4]]]
    a.length = 2 ∧ (∀ x ∈ a ++ a, x.length = mem0.level + 1 ∧ ∀ y ∈ x, y.length = tiny.n) ∧ 0 < tiny.prime 0 ∧ 0 ≤ mem0.level ∧ 1 < tiny.n ∧ 1 < 2 := by decide +kernel

theorem witness_TransformRoundTrip : (∀ d, d ∣ 17 → d = 1 ∨ d = 17) ∧ 2 ^ 2 ^ 2 % 17 = 16 ∧ [1, 0, 3, 16].length = 2 ^ 2 ∧ ∀ x ∈ [1, 0, 3, 16], x < 17 := by
  refine ⟨fun d h => ?_, by decide⟩
  have hd : d < 18 := Nat.lt_succ_of_le (Nat.le_of_dvd (by decide) h)
  have h2 : ∀ d, d < 18 → d ∣ 17 → d = 1 ∨ d = 17 := by decide
  exact h2 d hd h

/-! Key streams -/

def hdrBytes : Bytes := [0x4B, 0x42, 0x48, 0x31] ++ List.replicate 16 0 ++ [12, 1] ++ List.replicate 10 0
def stream0 (peer hdr pay chunk : Nat) : Stream :=
  { galois := 0, level := 0, fp := 0, part := 3, asid := 1, image := 0, seeded := false, pos := [(0, 0, 0, 0), (0, 1, 0, 0)], blocks := 1, hdr := hdr, pay := pay, chunk := chunk, peer := peer,
    asked := 1, tag := 4, via := 1, since := 0 }
def mac0 : MacroRun :=
  { num := 1, addr := 0, flag := some 5, members := [], gals := [], keys := [], keyPoison := false, wanted := [], ring := [0], failed := none, sigma := 0, work := (0, 0) }
/-- Gallery 0 runs a call with a stream from DRAM and one from device 8. -/
def streamState (hdr pay chunk : Nat) (good : Bool) : State :=
  { run .cipher with
    hal := netState.hal, clock := netState.clock, net := { Net.zero with fl := [(1, { FlightState.zero with st := 2 })] },
    dram := { netState.dram with psets := [(0, some pset0)], mem := if good then ((List.range 32).zip hdrBytes).filter (fun c => c.2 != 0) else [] },
    galx := [(0, { GalleryX.zero with mac := some mac0, streams := [stream0 0xFFFF hdr pay chunk, stream0 8 hdr pay chunk] })] }

theorem witness_KeyStreams (b : Bool) :
    let s := streamState 0 0 0 b
    Tidy s = true ∧ galRuns s 0 = true ∧ (s.galxAt 0).streams[0]? = some (stream0 0xFFFF 0 0 0) ∧ (s.galxAt 0).streams[1]? = some (stream0 8 0 0 0) ∧
      (s.galxAt 0).mac = some mac0 ∧ taskPset s 0 = some pset0 := by
  cases b <;> decide +kernel

theorem witness_KeyStreams_header :
    (vread (streamState 0 0 0 true) 1 0 32 = some (hdrBytes, false) ∧ headerMismatch hdrBytes pset0 (stream0 0xFFFF 0 0 0) (0, 0, 0, 0) = none) ∧
    (vread (streamState 0 0 0 false) 1 0 32 = some (List.replicate 32 0, false) ∧
      (headerMismatch (List.replicate 32 0) pset0 (stream0 0xFFFF 0 0 0) (0, 0, 0, 0)).isSome = true) ∧
    headerMismatch (fitBytes 32 { msg0 6 with data := hdrBytes }.data) pset0 (stream0 8 0 0 0) (0, 0, 0, 0) = none := by decide +kernel

/-- No directory search of gallery 0 is held back; the calls' commands find what they find. -/
theorem witness_KeyStreams_open (b : Bool) :
    let v := openHeld (streamState 0 0 0 b) 0
    taperRuns v 0 = true ∧ (v.galxAt 0).streams[0]? = some (stream0 0xFFFF 0 0 0) ∧ (v.galxAt 0).mac = some mac0 ∧ taskPset v 0 = some pset0 ∧
      (stream0 0xFFFF 0 0 0).pos[(stream0 0xFFFF 0 0 0).hdr]? = some (0, 0, 0, 0) := by
  cases b <;> decide +kernel

theorem witness_KeyStreams_payload :
    (streamTurn (streamState 1 0 0 false) 0 0 = true ∧ streamAsks (streamState 1 0 0 false) 0 0 (stream0 0xFFFF 1 0 0) = true) ∧
    (4096 * (0 + 1) < pset0.payload ∧ pset0.payload ≤ 4096 * (3 + 1)) ∧
    (∀ n ∈ [1, 64], (askTokens (streamState 0 0 0 true) 0 (unitTaper 0) n).2 = true ∧ (askTokens (low (streamState 0 0 0 true)) 0 (unitTaper 0) n).2 = false) :=
  ⟨⟨by decide +kernel, by decide +kernel⟩, by decide +kernel⟩

theorem witness_KeyStreams_stops :
    let s := streamState 0 0 0 false
    (streamWaits s 0 0 (stream0 0xFFFF 0 0 0) = true ∧ streamWaits s 0 1 (stream0 8 0 0 0) = true) ∧ flightUp s 1 = true ∧ 0 + 1000 * s.obj 0x2130 1 ≤ s.clock.now ∧ mine s (msg0 7) = true ∧
      findStream s (msg0 7) = some (0, 1, stream0 8 0 0 0) ∧ (msg0 7).mflags.getLsbD 0 = false := by decide +kernel

def keyState : State := { streamState 0 0 0 false with dram := { (streamState 0 0 0 false).dram with ksets := [{ kset0 with ps := 0 }] } }
/-- A key request to a partition for `n` positions. -/
def keyReq (part : Byte) (n : W16) : Msg := { msg0 5 with dstPart := part, addr := 1, arg := 0, length := n }

theorem witness_KeyStreams_requests :
    mine keyState (keyReq 3 0) = true ∧ admitted keyState (keyReq 3 0) rightKey = true ∧ admitted keyState (keyReq 4 1) rightKey = false ∧
      ksetOf keyState 3 1 = some { kset0 with ps := 0 } ∧ ksetOf keyState 3 2 = none ∧ psetOf keyState 0 = some pset0 ∧ (keyReq 3 0).length = 0 ∧ 8 < (keyReq 3 9).length.toNat := by
  decide +kernel
/-! Macro calls and update jobs -/

/-- A ciphertext header whose two polynomials of one limb lie from `va` on. -/
def ctHead (va : Byte) : Bytes :=
  [0x43, 0x54, 0x48, 0x31] ++ List.replicate 10 0 ++ [2, 1] ++ List.replicate 8 0 ++ [5, 0, 0, 0, 0, 0, 2, 0] ++ [0, va, 0, 0, 0, 0, 0, 0] ++ [0, 1, 0, 0, 0, 0, 0, 0] ++
    [0, 1, 0, 0, 0, 0, 0, 0] ++ List.replicate 72 0
/-- The call's block: destination at 0x1000, sources at 0x2000 and, of an addition, 0x3000. -/
def callBlock (two : Bool) : Bytes :=
  List.replicate 8 0 ++ [0, 0x10, 0, 0, 0, 0, 0, 0] ++ List.replicate 8 0 ++ [0, 0x20, 0, 0, 0, 0, 0, 0] ++ [0, if two then 0x30 else 0, 0, 0, 0, 0, 0, 0] ++ List.replicate 24 0
def bytesAt (a : Nat) (b : Bytes) : List (Nat × Byte) := ((List.range b.length).zip b).filterMap (fun c => if c.2 = 0 then none else some (a + c.1, c.2))
/-- A call heads all 64 array queues. -/
def callState (num : Nat) : State :=
  { run .cipher with
    gal := [(0, { Gallery.zero with mode := .cipher, task := some task0, lan := (List.range 64).map (fun l =>
      (l, { Lantern.zero with qa := [.call num (callBlock (macTwo num)) 256 (some 5) []] })) })],
    hal := { Haldub.zero with dict := [(Dict.key 0x6150 4, some [0, 0, 0, 0, 0, 0, 0, 0, 0, 0, 0, 1, 0, 0, 0, 0])] },
    dram := { netState.dram with psets := [(0, some tiny)], mem := bytesAt 0x1000 (ctHead 0x11) ++ bytesAt 0x2000 (ctHead 0x21) ++ bytesAt 0x3000 (ctHead 0x31) } }

theorem witness_CallsAndUpdateJobs (num : Nat) (h : num ∈ [1, 6, 0x10]) :
    let s := callState num
    let block := callBlock (macTwo num)
    let u := touch (popCall s 0) 0
    Tidy s = true ∧ enginesRun s 0 = true ∧ taskOf s 0 = some task0 ∧ (s.lanAt 0 0).qa.head? = some (.call num block 256 (some 5) []) ∧
      callReady s 0 (.call num block 256 (some 5) []) [] = true ∧ taskPset u 0 = some tiny ∧
      (∃ a, macArgs u 0 num block (some tiny) = .ok a ∧
        (!(checkMembers ((a.dst ++ a.src0 ++ a.src1).foldl (fun u (va : Nat) => vsnoop u (asidOf u 0) (va : Int) 128 false) u) 0 num task0.item tiny a block).2.1.isEmpty) = true) := by
  dsimp only
  refine ⟨?_, ?_, ?_, ?_, ?_, ?_, ok_of ?_⟩ <;> (revert num; decide +kernel)

theorem witness_CallsAndUpdateJobs_ends :
    (let s : State := { streamState 0 0 0 false with galx := [(0, { GalleryX.zero with mac := some mac0 })] }
     Tidy s = true ∧ galRuns s 0 = true ∧ (s.galxAt 0).mac = some mac0 ∧ taskSess s 0 = some entry0 ∧ taskPset s 0 = some pset0 ∧ (s.galxAt 0).streams = [] ∧
       (flagOf s 0 0 5).toNat < 2 ^ 32 - 1 ∧ s.net.loop = [] ∧
       ∀ n ∈ [1, 1000], (askTokens s 0 unitMacro n).2 = true ∧ (askTokens (low s) 0 unitMacro n).2 = false) ∧
    (∀ k ∈ [0, 1, 2], let s : State := { run .clear with galx := [(0, { GalleryX.zero with upd := some { block := [0, k] ++ List.replicate 254 0, addr := 0, pass := none, faulted := false } })] }
      Tidy s = true ∧ (s.galxAt 0).upd = some { block := [0, k] ++ List.replicate 254 0, addr := 0, pass := none, faulted := false } ∧ jPhase ([0, k] ++ List.replicate 254 0) = k.toNat ∧
        jTouched ([0, k] ++ List.replicate 254 0) = false ∧
        (askTokens s 0 unitUpdate (normBursts ([0, k] ++ List.replicate 254 0))).2 = true ∧ (askTokens (low s) 0 unitUpdate 1).2 = false ∧ (s.hallAt (hallOf 0)).halted = none ∧ (s.hallAt (hallOf 0)).heldSince = none) := by decide +kernel

/-- A job of 32 FP32 elements whose gradient lies at virtual address 0, of this phase. -/
def job0 (phase : Byte) : Bytes := [0, phase] ++ List.replicate 14 0 ++ [32] ++ List.replicate 135 0 ++ [1] ++ List.replicate 103 0

/-- A gradient of zeros, one with an infinity, one whose first granule is poisoned: S is finite, not finite, and made of a poisoned operand. -/
theorem witness_CallsAndUpdateJobs_norms :
    let s (mem : Tab Byte) (poi : Tab Bool) : State := { netState with dram := { netState.dram with mem := mem, poi := poi } }
    let good (p : FVal × Bool × Option Nat) : Bool := !p.1.isNan && !p.1.isInf
    (jPhase (job0 0) ≠ 1 ∧ jPhase (job0 1) = 1 ∧ jTouched (job0 0) = false ∧ jobBlocks (job0 0) = 1 ∧ jobBlocks (job0 0) ≤ passUnits (job0 0) 0) ∧
    (good (jobNorm (s [] []) 1 (job0 0)) = true ∧ (jobNorm (s [] []) 1 (job0 0)).2.1 = false) ∧
    ((jobNorm (s [(6, 0x80), (7, 0x7F)] []) 1 (job0 0)).1.isInf = true ∧ (jobNorm (s [(6, 0x80), (7, 0x7F)] []) 1 (job0 0)).2.1 = false) ∧
    (jobNorm (s [] [(0, true)]) 1 (job0 0)).2.1 = true := by decide +kernel

end Sys2Proof.Tests
end

namespace Sys2Proof.Machine
open Sys2Proof Sys2Proof.Safety

/-! ## Refused writes leave the stored objects as they are (R525) -/

/-- A request whose service stores nothing stores nothing where it is not served either: in the held state (R601) and at a busy mailbox (R509). -/
theorem request_dict_of_served {s : State} {q : Req} {f : State → State} (hf : (f s).hal.dict = s.hal.dict) :
    (request s q f).hal.dict = s.hal.dict := by
  unfold request
  split
  · rfl
  · split
    · simp only [State.emit_hal]
    · exact hf

/-- A write stores nothing where the asker is unknown, where an earlier check fails, and where its object's own rule refuses whoever asks. -/
theorem writeObj_dict_of_refused {s : State} {q : Req} {apply : State → Who → Applied} {st : Nat} (ha : ∀ w, apply (touchSess s q) w = .error st)
    (i sub : Nat) (v : Bytes) (part : Option Nat) : (writeObj s q i sub v part apply).1.hal.dict = s.hal.dict := by
  unfold writeObj writeWith
  cases whoOf s q with
  | error e => rfl
  | ok w =>
    dsimp only
    cases writeBad (touchSess s q) w i sub v part with
    | none => simp only [ha, touchSess_keeps]
    | some e => dsimp only; split <;> simp only [journalRefused_keeps, touchSess_keeps]

/-- A write request that its object's own rule refuses, whoever asks, stores nothing, whether or not an earlier check refuses it first. -/
theorem reqWrite_dict_of_refused {s : State} {q : Req} {apply : State → Who → Applied} {st : Nat} (ha : ∀ w, apply (touchSess s q) w = .error st)
    (i sub : Nat) (v : Bytes) (part : Option Nat) : (reqWrite s q i sub v part apply).hal.dict = s.hal.dict := by
  unfold reqWrite
  refine request_dict_of_served ?_
  simp only [answer_keeps]
  exact writeObj_dict_of_refused ha i sub v part

@[simp] theorem refusal_out (s : State) (q : Req) (st : Nat) : (refusal s q st).out = s.out ++ [.status q st] := by
  simp only [refusal, State.emit_out, touchSess_keeps]

/-- A refusal changes no object's value: neither a stored one nor a default, which follows the fuses and the straps (R527). -/
@[simp] theorem refusal_objBytes (s : State) (q : Req) (st i sub : Nat) : (refusal s q st).objBytes i sub = s.objBytes i sub := by
  simp only [refusal, State.objBytes, State.objDefault, State.emit_hal, State.emit_lamp, State.emit_pins, touchSess_keeps]

/-! ## The package budget (R2) -/

/-- The budget object refuses a value outside the range of the part's ordering code, in every state of that part and whoever asks. -/
theorem budgetApply_out_of_range {s : State} {v : Bytes} (h : leNat v < 900 ∨ (if s.lamp.fuses.hx then 2000 else 1400) < leNat v) (w : Who) :
    budgetApply v s w = .error St.budgetRange := by
  unfold budgetApply
  exact if_neg (by omega)

/-- Settles O35: the object's own rule refuses the value whoever asks, so no path of the write request stores it. -/
theorem packageBudgetRange : Obligations.PackageBudgetRange := by
  unfold Obligations.PackageBudgetRange
  intro s q v hout
  have hrefuses : ∀ w, budgetApply v (touchSess s q) w = .error St.budgetRange :=
    budgetApply_out_of_range (by simpa only [touchSess_keeps] using hout)
  refine ⟨⟨_, rfl, reqWrite_dict_of_refused hrefuses 0x4000 1 v none⟩, fun w hmay => ?_⟩
  have hgives : Gives (.packageBudgetWrite q v) s (refusal s q St.budgetRange) :=
    congrArg Host.Outcome.next (reqWrite_refused hmay (hrefuses w))
  exact ⟨_, hgives, refusal_out s q St.budgetRange, refusal_objBytes s q St.budgetRange 0x4000 1⟩

end Sys2Proof.Machine

namespace Sys2Proof.Machine
open Sys2Proof Sys2Proof.Safety

/-! ## The model's word operations by value (R110) -/

theorem sub_eq_ofInt (a b : W64) : a - b = BitVec.ofInt 64 (a.toInt - b.toInt) :=
  BitVec.eq_of_toInt_eq (by rw [BitVec.toInt_sub, BitVec.toInt_ofInt])

theorem mul_eq_ofNat (a b : W64) : a * b = BitVec.ofNat 64 (a.toNat * b.toNat) :=
  BitVec.eq_of_toNat_eq (by rw [BitVec.toNat_mul, BitVec.toNat_ofNat])

theorem shiftLeft_eq_ofNat (a : W64) (n : Nat) : a <<< n = BitVec.ofNat 64 (a.toNat * 2 ^ n) :=
  BitVec.eq_of_toNat_eq (by rw [BitVec.toNat_shiftLeft, BitVec.toNat_ofNat, Nat.shiftLeft_eq])

theorem ushiftRight_eq_ofNat (a : W64) (n : Nat) : a >>> n = BitVec.ofNat 64 (a.toNat / 2 ^ n) := by
  have hlt : a.toNat / 2 ^ n < 2 ^ 64 := (Nat.div_le_self _ _).trans_lt a.isLt
  apply BitVec.eq_of_toNat_eq
  rw [BitVec.toNat_ushiftRight, BitVec.toNat_ofNat, Nat.mod_eq_of_lt hlt, Nat.shiftRight_eq_div_pow]

theorem sshiftRight_eq_ofInt (a : W64) (n : Nat) : a.sshiftRight n = BitVec.ofInt 64 (a.toInt / 2 ^ n) := by
  rw [BitVec.sshiftRight_eq, Int.shiftRight_eq_div_pow, Nat.cast_pow, Nat.cast_ofNat]

theorem append_setWidth_eq_ofNat (i : W32) (x : W64) : i ++ x.setWidth 32 = BitVec.ofNat 64 (i.toNat * 2 ^ 32 + x.toNat % 2 ^ 32) := by
  have hlow : x.toNat % 2 ^ 32 < 2 ^ 32 := Nat.mod_lt _ (by decide)
  have hlt : i.toNat * 2 ^ 32 + x.toNat % 2 ^ 32 < 2 ^ 64 := by have := i.isLt; omega
  apply BitVec.eq_of_toNat_eq
  rw [BitVec.toNat_append, BitVec.toNat_setWidth, ← Nat.shiftLeft_add_eq_or_of_lt hlow, Nat.shiftLeft_eq, BitVec.toNat_ofNat, Nat.mod_eq_of_lt hlt]

theorem divS_eq_sdiv (a b : W64) : divS a b = if b = 0 then BitVec.allOnes 64 else a.sdiv b := by
  have h : BitVec.ofInt 64 (a.toInt.tdiv b.toInt) = a.sdiv b :=
    BitVec.eq_of_toInt_eq (by rw [BitVec.toInt_ofInt, BitVec.toInt_sdiv])
  rw [divS, h]

theorem remS_eq_srem (a b : W64) : remS a b = if b = 0 then a else a.srem b := by
  rw [remS, ← BitVec.toInt_srem, BitVec.ofInt_toInt]

theorem divU_eq_udiv (a b : W64) : divU a b = if b = 0 then BitVec.allOnes 64 else a.udiv b := by
  rw [divU, ← BitVec.udiv_def, BitVec.udiv_eq]

theorem remU_eq_umod (a b : W64) : remU a b = if b = 0 then a else a.umod b := by
  rw [remU, ← BitVec.umod_def, BitVec.umod_eq]

/-- The one quotient out of range: -2^63 by -1 wraps to -2^63 with remainder 0. -/
theorem divS_remS_min_negOne {a b : W64} (ha : a.toInt = -2 ^ 63) (hb : b.toInt = -1) : divS a b = a ∧ remS a b = 0 := by
  obtain rfl : a = BitVec.intMin 64 := BitVec.eq_of_toInt_eq ha
  obtain rfl : b = -1 := BitVec.eq_of_toInt_eq hb
  decide

/-- Words that compare equal are one word, so it does not matter which of them a minimum takes. -/
theorem ite_lt_eq_ite_le {α : Type} [LinearOrder α] {value : W64 → α} (hinj : Function.Injective value) (a b : W64) :
    (if value a < value b then a else b) = if value a ≤ value b then a else b := by
  rcases lt_trichotomy (value a) (value b) with hlt | heq | hgt
  · rw [if_pos hlt, if_pos hlt.le]
  · rw [hinj heq, ite_self, ite_self]
  · rw [if_neg hgt.not_gt, if_neg hgt.not_ge]

theorem min_signed (a b : W64) : (if a.slt b then a else b) = if a.toInt ≤ b.toInt then a else b := by
  simp only [BitVec.slt_eq_decide, decide_eq_true_eq, ite_lt_eq_ite_le (value := BitVec.toInt) (fun _ _ => BitVec.eq_of_toInt_eq)]

theorem min_unsigned (a b : W64) : (if a.ult b then a else b) = if a.toNat ≤ b.toNat then a else b := by
  simp only [BitVec.ult_eq_decide, decide_eq_true_eq, ite_lt_eq_ite_le (value := BitVec.toNat) (fun _ _ => BitVec.eq_of_toNat_eq)]

theorem max_signed (a b : W64) : (if a.slt b then b else a) = if b.toInt ≤ a.toInt then a else b := by
  simp only [BitVec.slt_eq_decide, decide_eq_true_eq, ← not_le, ite_not]

theorem max_unsigned (a b : W64) : (if a.ult b then b else a) = if b.toNat ≤ a.toNat then a else b := by
  simp only [BitVec.ult_eq_decide, decide_eq_true_eq, ← not_le, ite_not]

theorem bit64_slt (a b : W64) : bit64 (a.slt b) = if a.toInt < b.toInt then 1 else 0 := by
  simp only [bit64, BitVec.slt_eq_decide, decide_eq_true_eq]

theorem bit64_ult (a b : W64) : bit64 (a.ult b) = if a.toNat < b.toNat then 1 else 0 := by
  simp only [bit64, BitVec.ult_eq_decide, decide_eq_true_eq]

theorem bit64_beq (a b : W64) : bit64 (a == b) = if a = b then 1 else 0 := by
  simp only [bit64, beq_iff_eq]

/-! ## The issue of an integer instruction -/

/-- An instruction of an allowed form that names no missing register and no unused field has no reason to skip (R132). -/
theorem static_none {m : Form} {f : Fields} {badReg unused : Bool} (hm : m.ok f.long = true) (hr : badReg = false) (hu : unused = false) :
    static m f badReg unused = none := by
  simp [static, hm, hr, hu]

/-- The I form has no unused field, the L form leaves `b` and `e` 0 (R107). -/
theorem immTail_of_immForm {f : Fields} (h : ImmForm f) : f.immTail = false := by
  unfold Fields.immTail
  cases hl : f.long with
  | false => rfl
  | true => obtain ⟨hb, he⟩ := h hl; simp [hb, he]

/-- `li` and `lui` have the L form only and use none of `a`, `b` and `e`. -/
theorem static_long {f : Fields} (hl : f.long = true) (ha : f.a = 0) (hb : f.b = 0) (he : f.e = 0) : static .long f false (f.a != 0 || f.b != 0 || f.e != 0) = none :=
  static_none (by simp [Form.ok, hl]) rfl (by simp [ha, hb, he])

theorem task_of_issues {s : State} {w : Site} {f : Fields} (hi : Issues s w f) : (s.galAt w.g.val).task.isSome = true := task_of_galRuns hi.1

/-- An instruction that issues and whose effect is done goes on with the next one. -/
theorem issue1_ok {s : State} {w : Site} {f : Fields} (hi : Issues s w f) (cls op : Nat) {st : Option Nat} (hs : st = none) (effect : State → State) :
    issue1 s w cls op f st (fun u => .ok (effect u)) = retired (effect (touch s w.g.val)) w f :=
  issue_of_issues hi cls op hs id _

/-- The state after a register instruction: its destination register holds `v`. -/
def wrote (s : State) (w : Site) (f : Fields) (v : W64) : State := retired (setX (touch s w.g.val) w f.d v) w f

@[simp] theorem wrote_fault (s : State) (w : Site) (f : Fields) (v : W64) : (wrote s w f v).fault = s.fault := by
  simp only [wrote, retired, updThread_keeps, setX_keeps, touch_keeps]

section
variable {s : State} {w : Site} {f : Fields} (hi : Issues s w f)
include hi

/-- A command of class 0x0 in the A form writes its function of the two registers. -/
theorem gives_intOp (hl : f.long = false) (he : f.e = 0) {c : Instr} {op : Nat} {h : W64 → W64 → W64} {v : W64} (hc : exec c s = .next (intOp op h w f s))
    (hv : h (xr s w f.a) (xr s w f.b) = v) : Gives c s (wrote s w f v) := by
  have hst : static .short f false (f.e != 0) = none := static_none (by simp [Form.ok, hl]) rfl (by simp [he])
  rw [Gives, hc, intOp, issue1_ok hi 0 op hst, xr_touch s w f.a (task_of_issues hi), xr_touch s w f.b (task_of_issues hi), hv, wrote]

/-- A command of class 0x1 in the I or L form writes its function of the register and the immediate. -/
theorem gives_immOp (hf : ImmForm f) {c : Instr} {op : Nat} {h : W64 → W64 → W64} {v : W64} (hc : exec c s = .next (immOp op h w f s))
    (hv : h (xr s w f.a) f.immV = v) : Gives c s (wrote s w f v) := by
  have hst : static .both f false f.immTail = none := static_none rfl rfl (immTail_of_immForm hf)
  rw [Gives, hc, immOp, issue1_ok hi 1 op hst, xr_touch s w f.a (task_of_issues hi), hv, wrote]

theorem gives_li (hst : static .long f false (f.a != 0 || f.b != 0 || f.e != 0) = none) : Gives (.li w f) s (wrote s w f (f.imm.signExtend 64)) :=
  congrArg Host.Outcome.next (issue1_ok hi 1 32 hst _)

theorem gives_lui (hst : static .long f false (f.a != 0 || f.b != 0 || f.e != 0) = none) :
    Gives (.lui w f) s (wrote s w f (BitVec.ofNat 64 (f.imm.toNat * 2 ^ 32 + (xr s w f.d).toNat % 2 ^ 32))) := by
  rw [← append_setWidth_eq_ofNat, ← xr_touch s w f.d (task_of_issues hi)]
  exact congrArg Host.Outcome.next (issue1_ok hi 1 33 hst _)

end

/-- Settles O2: each instruction issues as its class does (`gives_intOp`, `gives_immOp`, `gives_li`, `gives_lui`), and its word operation has the stated value. -/
theorem integerInstructions : Obligations.IntegerInstructions := by
  unfold Obligations.IntegerInstructions
  intro s w f hi a b n k r
  refine ⟨wrote_fault s w f, fun hl he => ?_, fun hf => ?_, fun hl ha hb he => ?_⟩
  · have corner (ha : a.toInt = -2 ^ 63) (hb : b.toInt = -1) : Gives (.div w f) s (r a) ∧ Gives (.rem w f) s (r 0) :=
      have hv := divS_remS_min_negOne ha hb
      ⟨gives_intOp hi hl he rfl hv.1, gives_intOp hi hl he rfl hv.2⟩
    exact ⟨gives_intOp hi hl he rfl (BitVec.add_def a b), gives_intOp hi hl he rfl (sub_eq_ofInt a b),
      gives_intOp hi hl he rfl rfl, gives_intOp hi hl he rfl rfl, gives_intOp hi hl he rfl rfl,
      gives_intOp hi hl he rfl (shiftLeft_eq_ofNat a n), gives_intOp hi hl he rfl (ushiftRight_eq_ofNat a n),
      gives_intOp hi hl he rfl (sshiftRight_eq_ofInt a n),
      gives_intOp hi hl he rfl (mul_eq_ofNat a b),
      gives_intOp hi hl he rfl rfl,
      gives_intOp hi hl he rfl rfl,
      gives_intOp hi hl he rfl (divS_eq_sdiv a b),
      gives_intOp hi hl he rfl (divU_eq_udiv a b),
      gives_intOp hi hl he rfl (remS_eq_srem a b), gives_intOp hi hl he rfl (remU_eq_umod a b),
      gives_intOp hi hl he rfl (min_signed a b), gives_intOp hi hl he rfl (max_signed a b),
      gives_intOp hi hl he rfl (min_unsigned a b), gives_intOp hi hl he rfl (max_unsigned a b),
      gives_intOp hi hl he rfl (bit64_slt a b), gives_intOp hi hl he rfl (bit64_ult a b),
      gives_intOp hi hl he rfl (bit64_beq a b), corner⟩
  · intro i
    exact ⟨gives_immOp hi hf rfl (BitVec.add_def a i), gives_immOp hi hf rfl rfl,
      gives_immOp hi hf rfl rfl, gives_immOp hi hf rfl rfl,
      gives_immOp hi hf rfl (shiftLeft_eq_ofNat a k), gives_immOp hi hf rfl (ushiftRight_eq_ofNat a k),
      gives_immOp hi hf rfl (sshiftRight_eq_ofInt a k),
      gives_immOp hi hf rfl (bit64_slt a i), gives_immOp hi hf rfl (bit64_ult a i)⟩
  · have hst := static_long hl ha hb he
    exact ⟨gives_li hi hst, gives_lui hi hst⟩

end Sys2Proof.Machine
